-- ==== Sys2Proof/Word.lean ====
section
/-! DEFINITION. The word types of the coordination engine (spec 00 R3: every multi-byte quantity is
little-endian) and the sparse tables in which its RAMs are held. -/

namespace Sys2Proof

/-- One byte. -/
abbrev Byte := BitVec 8
/-- A 32-bit register word (R452). -/
abbrev Word32 := BitVec 32
/-- A 64-bit value (value RAM, R36; operands, R69). -/
abbrev Word64 := BitVec 64
/-- A global object address: PKG, DIE, STN, PON (R26). -/
abbrev GAddr := BitVec 25
/-- A 64-byte line or frame, byte k at bits 8k+7 to 8k (R432, R437, R439). -/
abbrev Line := BitVec 512

/-- A RAM or table of rows held sparsely: keys strictly rising, and no entry equal to the value an
unlisted key reads as (the row's value at reset). -/
abbrev Tbl (α : Type) := List (Nat × α)

end Sys2Proof
end

