-- ==== Sys2Proof/Syntax.lean ====
section
/-! DEFINITION. The commands of the block: one constructor per row of spec/opcode_table.json, in the
table's order, with the row's operands. -/

namespace Sys2Proof

/-- A part of the block: a halt, a station or the junction (01 R9, R14). -/
inductive Part where
  | halt (h : BitVec 4)
  | stn (s : BitVec 2)
  | jct
  deriving DecidableEq, Repr

/-- A lever thread: thread t of a station's box or of the junction's box (08 R221), or the one script
thread of a halt (08 R246). -/
inductive ThreadId where
  | stn (s : BitVec 2) (t : BitVec 4)
  | jct (t : BitVec 4)
  | script (h : BitVec 4)
  deriving DecidableEq, Repr

/-- What a core presents on its halt wires (16 R427, 03 R69): the fields the core fills, and the port
(`core`) and channel (`q`) it presents them on. -/
structure CoreReq where
  core : BitVec 8
  q : BitVec 5
  pav : BitVec 6
  gen : BitVec 8
  handle : BitVec 20
  follows : Bool
  ret : Bool
  operand : Word64
  deriving DecidableEq, Repr

/-- An inbound access of signal space (03 R94, 16 R432): the halt it is delivered to, its issuer
(`ORIG`), return endpoint, transaction identifier, offset in the window, size in bytes and, of a store,
its data. -/
structure SsAccess where
  halt : BitVec 4
  isCore : Bool
  core : BitVec 8
  rtn : BitVec 16
  txid : BitVec 12
  addr : BitVec 30
  size : BitVec 7
  data : Word64
  deriving DecidableEq, Repr

/-- An inbound write to the fold-intake window (06 R169, 16 R432): the station port it comes in on, its
issuer, return endpoint, transaction identifier, offset in the window, issuer's pavilion generation
(`TAG`), byte enables and data; and whether the port is port B. -/
structure BeatWrite where
  stn : BitVec 2
  isCore : Bool
  core : BitVec 8
  rtn : BitVec 16
  txid : BitVec 12
  addr : BitVec 34
  tag : BitVec 8
  be : BitVec 64
  data : Line
  portB : Bool
  deriving DecidableEq, Repr

/-- The commands of the block, one constructor per row of spec/opcode_table.json. -/
inductive Instr where
  -- reset and start-up (01, 04, 10, 14)
  | resetAssert
  | resetGlitch
  | resetRelease (pos : BitVec 2)
  | ramFillDone
  | rollFrame (err : Word32)
  | rollFrameReturn (err : Word32)
  | rollCallTimeout
  | identFrame (err : Word32)
  | identFrameReturn (err : Word32)
  | pkgValid (w : Word32)
  | gangCalPing (h : BitVec 4)
  | gangCalEcho (h : BitVec 4) (rtt : BitVec 5)
  | gangCalEchoMissing (h : BitVec 4)
  | swapLinePing (s : BitVec 2)
  | swapLineEcho (s : BitVec 2) (rtt : BitVec 5)
  | swapLineEchoMissing (s : BitVec 2)
  | startGo (w : Word32)
  | reload
  | linkUp
  | linkDup
  -- boundary events (16)
  | linkReset (die : BitVec 9)
  | linkNoRoute (die : BitVec 9)
  | linkCommitConfirm (vc : BitVec 2) (pos : BitVec 16)
  | linkCommitFail (vc : BitVec 2) (pos : BitVec 16)
  | parkRequest
  | holdupWord (w : BitVec 16)
  | meshCredit (port : BitVec 5) (mask : BitVec 3)
  | memoryCompletion (port : BitVec 3) (tag : BitVec 7) (err : Bool) (data : Line)
  | meshTransferDiscard (port : BitVec 5) (kind : BitVec 3)
  -- sync operations (03 to 07)
  | nop (r : CoreReq)
  | fence (r : CoreReq)
  | syncReservedOp (op : BitVec 6) (r : CoreReq)
  | sig (r : CoreReq)
  | waitGe (r : CoreReq)
  | read (r : CoreReq)
  | semPost (r : CoreReq)
  | semTake (r : CoreReq)
  | semDec (r : CoreReq)
  | lockAcq (r : CoreReq)
  | lockRel (r : CoreReq)
  | lockTry (r : CoreReq)
  | lockForce (r : CoreReq)
  | turnArrive (r : CoreReq)
  | turnArriveNw (r : CoreReq)
  | ticket (r : CoreReq)
  | ticketBatch (src dst : Part)
  | batchLaunch (h : BitVec 4) (rec : BitVec 2)
  | fold (r : CoreReq)
  | foldBeat (b : BeatWrite)
  | ringReserve (r : CoreReq)
  | ringCommit (r : CoreReq)
  | ringRelease (r : CoreReq)
  | move (r : CoreReq)
  | moveDestinationAck (src dst : Part)
  -- signal space, context bases, gang wires (03, 16, 04)
  | signalSpaceLoad (a : SsAccess)
  | signalSpaceStore (a : SsAccess)
  | signalSpaceKind (src dst : Part)
  | contextBaseLoad (core : BitVec 8) (q : BitVec 5) (base : Word32)
  | contextBaseRead (core : BitVec 8) (q : BitVec 5)
  | contextBaseAnswer (core : BitVec 8) (q : BitVec 5) (base : Word32)
  | slip (core : BitVec 8) (n : BitVec 4)
  | gangFire (gang : BitVec 5)
  -- messages between parts (03, 13)
  | watchRegistration (src dst : Part)
  | watchCancel (src dst : Part)
  | notification (src dst : Part)
  | registrationRefusal (src dst : Part)
  | watchRegistrationRetry (h : BitVec 4) (addr : GAddr)
  | postedAck (src dst : Part)
  | completion (src dst : Part)
  | moveNotice (src dst : Part)
  | waitSiding (h : BitVec 4) (reg : BitVec 9)
  | haltAgeTick (h : BitVec 4)
  | waitTimeout (h : BitVec 4) (reg : BitVec 9)
  | stationAgeTick (s : BitVec 2)
  | waiterTimeout (s : BitVec 2) (row : BitVec 13)
  | haltStaleExpiry (h : BitVec 4) (reg : BitVec 9)
  | junctionStaleExpiry (core : BitVec 8) (q : BitVec 5)
  | durabilityReport (src dst : Part)
  | originRelease (src dst : Part)
  | reloaded (src dst : Part)
  | replayDone (src dst : Part)
  | haltPurge (src dst : Part)
  -- frames and records of other dies (09)
  | reqRecord (f : Line) (pos : BitVec 16)
  | cplRecord (f : Line)
  | regRecord (f : Line)
  | canRecord (f : Line)
  | ntfRecord (f : Line)
  | durRecord (f : Line)
  | noteRecord (f : Line)
  | rfsRecord (f : Line)
  | proxyRegRetry (addr : GAddr)
  | rlsRecord (f : Line) (pos : BitVec 16)
  | beatFrame (f : Line)
  | partFrame (f : Line)
  | ctrlFrame (f : Line)
  | resync (f : Line)
  | frameResendTimeout (die : BitVec 9) (vc : BitVec 3)
  | ackIdleTimer (die : BitVec 9)
  | junctionNotification (src dst : Part)
  -- timetable events (10)
  | epochBoundary (src dst : Part)
  | epochLost (src dst : Part)
  | ttHoldExpiry
  -- protection, recovery, ledger, power, pavilion and park events (11 to 14)
  | scrubRead (part : Part) (ram : BitVec 5) (row : BitVec 20) (syn : List (Nat × Byte))
  | scrubLapEnd (part : Part)
  | scrubFloorEngage (part : Part)
  | stationRecoveryPhaseEnd (s : BitVec 2)
  | haltRecoveryPhaseEnd (h : BitVec 4)
  | junctionRecoveryPhaseEnd
  | ledgerWindowClose (part : Part)
  | snapshotStart (part : Part)
  | protectionPassEnd (part : Part)
  | foldBankWakeDone (s : BitVec 2) (bank : BitVec 4)
  | foldBankAutoGate (s : BitVec 2) (bank : BitVec 4)
  | pavDrained (p : BitVec 6)
  | pavDrainSlow (p : BitVec 6)
  | tpWindowExpiry
  | parkDrained
  | parkDrainLimit
  -- lever threads (08)
  | trigger (th : ThreadId)
  | leverCompletion (th : ThreadId)
  | doorbellWriteResponse (th : ThreadId) (err : Bool)
  | spinTrap (th : ThreadId)
  | leverEnd (th : ThreadId)
  | leverStop (th : ThreadId)
  | leverWait (th : ThreadId)
  | leverRead (th : ThreadId)
  | leverSig (th : ThreadId)
  | leverPost (th : ThreadId)
  | leverDec (th : ThreadId)
  | leverArrive (th : ThreadId)
  | leverFold (th : ThreadId)
  | leverTick (th : ThreadId)
  | leverRsv (th : ThreadId)
  | leverCmt (th : ThreadId)
  | leverRel (th : ThreadId)
  | leverKick (th : ThreadId)
  | leverKickw (th : ThreadId)
  | leverBeq (th : ThreadId)
  | leverBne (th : ThreadId)
  | leverBz (th : ThreadId)
  | leverB (th : ThreadId)
  | leverLoop (th : ThreadId)
  | leverSeti (th : ThreadId)
  | leverAddi (th : ThreadId)
  | leverAluAdd (th : ThreadId)
  | leverAluSub (th : ThreadId)
  | leverAluAnd (th : ThreadId)
  | leverAluShl (th : ThreadId)
  | leverAluShr (th : ThreadId)
  | leverTrap (th : ThreadId)
  -- manager commands through the configuration port
  | alloc (s : BitVec 2) (w : Word32)
  | allocAt (s : BitVec 2) (w : Word32)
  | free (s : BitVec 2) (w : Word32)
  | retire (s : BitVec 2) (w : Word32)
  | unretire (s : BitVec 2) (w : Word32)
  | runOpen (w : Word32)
  | runClose (w : Word32)
  | contextSave (w : Word32)
  | contextRestore (w : Word32)
  | contextClose (w : Word32)
  | handleMapWrite (w : Word32)
  | turnstileApply (s : BitVec 2) (w : Word32)
  | driftConfigWrite (s : BitVec 2) (off : BitVec 12) (w : Word32)
  | gangEnable (w : Word32)
  | gangDisable (w : Word32)
  | gangConfigWrite (off : BitVec 12) (w : Word32)
  | semForcedPost (s : BitVec 2) (w : Word32)
  | semFlush (s : BitVec 2) (w : Word32)
  | mlockSet (s : BitVec 2) (w : Word32)
  | orphanCommand (w : Word32)
  | ringBaseSet (s : BitVec 2) (w : Word32)
  | foldApply (s : BitVec 2) (w : Word32)
  | programStoreWrite (box : BitVec 3) (w : Word32)
  | threadArm (box : BitVec 3) (w : Word32)
  | threadStop (box : BitVec 3) (w : Word32)
  | threadClear (box : BitVec 3) (w : Word32)
  | threadRegisterWrite (box : BitVec 3) (hi : Bool) (w : Word32)
  | haltScriptWrite (h : BitVec 4) (off : BitVec 12) (w : Word32)
  | haltScriptArm (h : BitVec 4) (w : Word32)
  | haltScriptStop (h : BitVec 4) (w : Word32)
  | haltScriptClear (h : BitVec 4) (w : Word32)
  | timetableShadowWrite (page : BitVec 7) (off : BitVec 12) (w : Word32)
  | epochBind (w : Word32)
  | ttCommit (w : Word32)
  | ttUncommit (w : Word32)
  | ttArm (w : Word32)
  | ttDisarm (w : Word32)
  | ttCopy (w : Word32)
  | pavFreeze (w : Word32)
  | pavThaw (w : Word32)
  | pavSave (w : Word32)
  | pavRestore (w : Word32)
  | pavReset (w : Word32)
  | pavEvict (w : Word32)
  | rw2StagingWrite (page : BitVec 7) (off : BitVec 12) (w : Word32)
  | tpPropose (w : Word32)
  | tpAbort (w : Word32)
  | tpConfirm (sec : Bool) (w : Word32)
  | mailboxDoorbellWrite (p : BitVec 6) (off : BitVec 12) (w : Word32)
  | eventClear (page : BitVec 7) (w : Word32)
  | eventSet (page : BitVec 7) (w : Word32)
  | pageExpert (page : BitVec 7) (w : Word32)
  | pageLock (page : BitVec 7) (w : Word32)
  | pageNoexp (page : BitVec 7) (w : Word32)
  | pageStatClr (page : BitVec 7) (w : Word32)
  | reservedPageAccess (page : BitVec 7) (wr : Bool)
  | jgCfgerrClr (w : Word32)
  | configWrite (page : BitVec 7) (off : BitVec 12) (w : Word32)
  | haltRejClear (h : BitVec 4) (w : Word32)
  | haltPerrClr (h : BitVec 4) (w : Word32)
  | watchClrHigh (s : BitVec 2) (w : Word32)
  | haltGangClr (h : BitVec 4) (w : Word32)
  | haltTickClr (h : BitVec 4) (w : Word32)
  | sbPwRefClr (box : BitVec 3) (w : Word32)
  | jlProxyClrHigh (w : Word32)
  | jlRetClrHigh (w : Word32)
  | ttDenyClr (w : Word32)
  | lgLagClear (part : Part) (w : Word32)
  | protectionPass (part : Part) (w : Word32)
  | spLogClr (part : Part) (w : Word32)
  | spLogClrAll (part : Part) (w : Word32)
  | rowRetire (part : Part) (w : Word32)
  | rowUnretire (part : Part) (w : Word32)
  | injectionArm (part : Part) (w : Word32)
  | ledgerEnable (w : Word32)
  | ledgerResume (w : Word32)
  | ledgerUnprotect (w : Word32)
  | ledgerSnap (w : Word32)
  | censusAll (w : Word32)
  | debugView (w : Word32)
  | dump (w : Word32)
  | faultLogClear (w : Word32)
  | foldBankGate (w : Word32)
  | foldBankWake (w : Word32)
  | pwFbWqClrHigh (w : Word32)
  | park (w : Word32)
  | perfClearAll (w : Word32)
  | perfClear (n : BitVec 3) (w : Word32)
  | perfCounterRead (n : BitVec 3)
  -- observation and test access (16)
  | observationEnable (w : Word32)
  | traceSelectorCount (sel : BitVec 2)
  | traceWord
  | wrapperReset
  | wsBypass
  | wsExtest
  | wsPreload
  | wsIntest
  | wsClamp
  | wsSafe
  | wsIdcode
  | wsIjtag
  | wpScan
  | wsReservedInstruction (code : BitVec 4)
  | mbistGo (seg : BitVec 5) (ram : BitVec 5) (algo : BitVec 2)
  | mbistDone (seg : BitVec 5) (fail : Bool) (failRow : BitVec 16)
  | boxAgeTick (box : BitVec 3)
  | linkTxReady (vc : BitVec 3)
  | memoryRequestTaken (port : BitVec 3)
  | supplyRemoved
  deriving DecidableEq, Repr

end Sys2Proof
end

