-- ==== Sys2Proof/Decode.lean ====
section
/-! DEFINITION. The command table gives no row bits (spec/opcode_table.json): no word spells a command. -/

namespace Sys2Proof

/-- The command that a word spells by the table's bits: none, since no row of the table has any. -/
def decodeTableWord (_nbits _w : Nat) : Option Instr := none

end Sys2Proof
end

