-- ==== Sys2Proof/Config.lean ====
section
/-! DEFINITION. What an implementation fixes and the values the spec leaves open: opaque constants, so that
no proof can lean on one. -/

namespace Sys2Proof.Config

/-- Free values: what a value the spec leaves undefined holds, applied to the count of free values used
so far (assumption log 6). -/
opaque freeWord : Nat → BitVec 64

/-- The dies to which the link controller has a route (09 R276), by PKG and DIE: the system's, which the spec leaves
to it (assumption log 23). -/
opaque linkRoute : BitVec 9 → Bool

end Sys2Proof.Config
end

