-- ==== Sys2Proof/Machine/State.lean ====
section
/-! DEFINITION. The state of the block as plain data: every part's registers, RAM rows, queues, messages
between parts, port queues, and the queue of waiting commands. -/

namespace Sys2Proof.Machine

/-- Why a step stops with a fault. The spec gives every command of the block an effect, so the model
raises none. -/
inductive Fault where
  deriving DecidableEq, Repr

/-- Why a step is refused. -/
inductive Refusal where
  /-- Raised by the dispatch of a command that has no meaning yet; safe: the run stops there. -/
  | notModelled (mnemonic : String)
  deriving DecidableEq, Repr

/-- What a slot is (02 R37). -/
inductive Kind where
  | free | counter | foldCounter | sem | glock | mlock | turnstile | ticket | ring | ringPart | moved | retired
  deriving DecidableEq, Repr

/-- Completion statuses (03 R77). -/
inductive Status where
  | done | orphan | flushed | timeout | underflow | overflow | denied | fault | derailed | retry | unmapped | frozen
  deriving DecidableEq, Repr

/-- A sync request (03 R69). -/
structure Req where
  op : BitVec 6
  pav : BitVec 6
  gen : BitVec 8
  handle : BitVec 20
  core : BitVec 8
  qtag : BitVec 5
  follows : Bool
  ret : Bool
  ctxl : Bool
  seq : BitVec 8
  operand : Word64
  deriving DecidableEq, Repr

/-- Who issued a request and is answered (03 R75, 08 R220, 09 R257, 10 R297). -/
inductive Orig where
  /-- A queue of a core, or signal space (queue tags 24 and 25), through halt `h`. -/
  | queue (h : BitVec 4) (core : BitVec 8) (q : BitVec 5)
  /-- A lever thread or halt script. -/
  | thread (th : ThreadId)
  /-- The timetable controller's acknowledgement SIG. -/
  | timetable
  /-- An originator on another die, through the junctions: its die (SRC of 09 R255),
  the core and queue tag of its routing tag (09 R258) and, of a signal-space load, its response index. -/
  | die (src : BitVec 9) (core : BitVec 8) (q : BitVec 5) (ridx : BitVec 8)
  /-- A partial or FOLD of this die's junction (09 R270 to R273), of combining entry `e`. -/
  | combine (e : BitVec 6)
  /-- A registration by subscriber n of a watch, sent by address (03 R82, R86). -/
  | sub (n : BitVec 5)
  deriving DecidableEq, Repr

/-- The contributions a partial carries (09 R271): OP, IN_FMT, LANES, N and its lane image. -/
structure Partial where
  op : BitVec 3
  fmt : BitVec 4
  lanes : BitVec 3
  n : BitVec 7
  image : BitVec 1280
  deriving DecidableEq, Repr

/-- A request on its way to its object or held by a station: the request, the object's address, its
originator, whether it is posted (03 R72) and, of a signal-space load, RTN and TXID (16 R436). -/
structure HReq where
  req : Req
  addr : GAddr
  who : Orig
  posted : Bool
  load : Option (BitVec 28)
  /-- The request is a replay of a retained request (13 R369). -/
  replay : Bool
  part : Option Partial
  deriving DecidableEq, Repr

/-- Notices of a halt to a core's scheduler (16 R427, R430). -/
inductive NoteKind where
  | siding | wake | inherit | revert
  deriving DecidableEq, Repr

/-- A message from one part to another (01 R16); each kind is taken by a row of its own. -/
inductive Msg where
  /-- Watch registration of E (03 R82), with the pavilion it counts against (10 R301). -/
  | reg (addr : GAddr) (exp : Word64) (pav : BitVec 6)
  /-- Cancel of a watch (03 R83), or of the waiter record of a request (07 R196, 08 R239). -/
  | cancel (addr : GAddr) (waiter : Option HReq)
  /-- A notification or the ending of a watch (03 R83); `word` is the small-fold result (06 R174). -/
  | notify (addr : GAddr) (val : Word64) (st : Status) (word : Option Word64)
  | refusal (addr : GAddr) (exp : Word64)
  | ack (rq : HReq) (st : Status)
  /-- A completion or grant; `aux` carries a TICKET_BATCH's raw first ticket, and `mods` its MODL and
  SHIFT (07 R201). -/
  | compl (rq : HReq) (st : Status) (val : Word64) (aux : Word64) (mods : BitVec 9)
  | moveNotice (src dst : GAddr)
  /-- The destination station's acknowledgement of a MOVE (02 R64). -/
  | moveAck (src dst : GAddr) (rq : HReq)
  /-- The serving station's answer on a signal-space access (03 R95). -/
  | kind (a : SsAccess) (store : Bool) (st : Status) (addr : GAddr) (kind : Kind)
  /-- A TICKET_BATCH launched by a halt (07 R200). -/
  | batch (rq : HReq)
  /-- Durability report of a stream (13 R363) for home `home` (PKG, DIE, STN). -/
  | dur (stream : BitVec 15) (seq : BitVec 8) (home : BitVec 11)
  /-- Release of an originator-table entry (13 R368). -/
  | release (stream : BitVec 15) (seq p : BitVec 8)
  | reloaded (s : BitVec 2)
  | replayDone (s : BitVec 2)
  | purge (h : BitVec 4)
  | purgeAck (h : BitVec 4)
  /-- A CPL of another die for a queue, signal space or thread of this one (09 R258); `mods` as of `compl`. -/
  | remoteAnswer (core : BitVec 8) (q : BitVec 5) (posted : Bool) (seq : BitVec 8) (st : Status) (val : Word64) (mods : BitVec 9)
  /-- The answer to a beat of another die (09 R274). -/
  | beatAnswer (src : BitVec 9) (ridx : BitVec 8) (st : Status)
  /-- GANG_FIRE to a gang's root (04 R123). -/
  | gangFire (g : BitVec 5)
  deriving DecidableEq, Repr

/-- A message in the mesh. -/
structure InFlight where
  src : Part
  dst : Part
  msg : Msg
  deriving DecidableEq, Repr

/-- Signals driven at the boundary by the last command (16). -/
inductive Out where
  | acc (core : BitVec 8) (q : BitVec 5)
  | release (core : BitVec 8) (q : BitVec 5) (st : Status) (val : Word64)
  | note (kind : NoteKind) (core : BitVec 8) (q : BitVec 5) (data : BitVec 96)
  | cbData (core : BitVec 8) (q : BitVec 5) (base : Word32)
  | cbAsk (core : BitVec 8) (q : BitVec 5)
  | hold (core : BitVec 8) (n : BitVec 4)
  | abort (core : BitVec 8)
  | rdata (src : Part) (rtn : BitVec 16) (txid : BitVec 12) (val : Word64)
  | wrsp (src : Part) (rtn : BitVec 16) (txid : BitVec 12)
  | err (src : Part) (rtn : BitVec 16) (txid : BitVec 12) (st : Status)
  | kick (src : Part) (addr : Word64) (data : Word64)
  | frame (vc : BitVec 3) (f : Line)
  | commitQuery (vc : BitVec 2) (pos : BitVec 16)
  | cfRsp (data : Word32)
  | parkAck
  | parkRefused
  /-- A presented memory-port request that the host takes (16 R437). -/
  | memory (port : BitVec 3) (wr : Bool) (line : BitVec 58) (tag : BitVec 7) (be : BitVec 64) (data : Line)
  | trace (w : Word32)
  /-- Credits returned to the senders of a mesh port, a bit per class (16 R432, R435). -/
  | credits (port : BitVec 5) (mask : BitVec 3)
  deriving DecidableEq, Repr

/-- An object slot: its value RAM entry and its attribute word (02 R37, R39). WATCHED is derived. -/
structure Slot where
  val : Word64
  kind : Kind
  pav : BitVec 6
  ctxl : Bool
  orphan : Bool
  frozen : Bool
  lastSrc : BitVec 16
  link : BitVec 24
  deriving DecidableEq, Repr

/-- A semaphore-file entry or memory-word lock queue (05 R135); HEAD and WAITERS are derived. -/
structure SemEnt where
  count : Word32
  lock : Bool
  held : Bool
  holder : BitVec 24
  hpav : BitVec 6
  hprio : BitVec 2
  boost : BitVec 2
  boosted : Bool
  orphan : Bool
  grants : BitVec 16
  deriving DecidableEq, Repr

/-- A turnstile record (04 R105). `cur` and `nxt` are {RMASK, CMASK} laid out, CMASK lowest. -/
structure TurnRec where
  cmask : BitVec 256
  rmask : BitVec 128
  pkgBase : BitVec 7
  cur : BitVec 384
  nxt : BitVec 384
  gang : BitVec 6
  deriving DecidableEq, Repr

/-- A watch entry (03 R86) and the table row it takes; a chain is the order of the list. -/
structure Watch where
  row : Nat
  pon : Nat
  sub : BitVec 5
  exp : Word64
  pav : BitVec 6
  deriving DecidableEq, Repr

/-- A waiter record (05 R144) and the table row it takes; the queue of an object is the order of the
list. N, ORIG, PRIO, PAV, SS and TXID are those of the request. -/
structure Waiter where
  row : Nat
  pon : Nat
  age : BitVec 22
  rq : HReq
  deriving DecidableEq, Repr

/-- A producer and consumer drift pair (04 R114, R132). -/
structure Drift where
  prod : BitVec 14
  cons : BitVec 14
  mode : BitVec 2
  k : BitVec 16
  ts : BitVec 14
  depth : Word32
  last : BitVec 4
  armed : Bool
  refused : Bool
  events : BitVec 16
  skip : Word64
  bounds : BitVec 16
  deriving DecidableEq, Repr

/-- A fold region's header (06 R176, R192): the applied configuration and the rounds' counts. `r` is the
current round since RUN_OPEN and `fr` the first aborted one (ROUND and FAULT_RND are these modulo 256);
`pend` and `left` are the result word of a release pass under way and its writes not yet acknowledged. -/
structure FoldHdr where
  cfg : BitVec 14
  v : Bool
  lanes : Nat
  target : Word32
  resAddr : Word64
  r : Nat
  second : Bool
  rel : Bool
  flags : BitVec 6
  fr : Nat
  faultN : BitVec 2
  arr : Word32
  arrNx : Word32
  ann : Word32
  annNx : Word32
  beats : Word32
  beatsNx : Word32
  result : Word64
  pend : Word64
  left : Nat
  deriving DecidableEq, Repr

/-- A thread's entry (08 R244). -/
structure Entry where
  pav : BitVec 6
  base : BitVec 12
  len : BitVec 13
  v : Bool
  entry : BitVec 12
  retry : BitVec 12
  retryV : Bool
  obj : BitVec 20
  trigV : Bool
  step : Word32
  deriving DecidableEq, Repr

/-- Thread states (08 R221). -/
inductive ThState where
  | off | armed | running | waiting | held | stopped
  deriving DecidableEq, Repr

/-- A lever or script thread (08 R222, R240). `cmp` is its watched object and threshold (a station box's
comparator, or its registered wait), `wait` its outstanding blocking request. -/
structure Thread where
  regs : Tbl Word64
  pc : BitVec 12
  state : ThState
  status : Status
  cause : BitVec 4
  tcode : BitVec 8
  retries : BitVec 3
  runs : BitVec 16
  pfFirst : Option Status
  pfCount : BitVec 16
  unacked : Nat
  spin : BitVec 17
  cmp : Option (GAddr × Word64)
  wait : Option HReq
  age : BitVec 22
  kickw : Bool
  /-- The entry the current run was started under (R245), when it has since been replaced. -/
  run : Option Entry
  /-- READs cancelled and not yet answered: their completions are discarded (R239). -/
  cancelled : List HReq
  deriving DecidableEq, Repr

/-- A doorbell-table entry (08 R237). -/
structure Doorbell where
  addr : Word64
  pav : BitVec 6
  v : Bool
  deriving DecidableEq, Repr

/-- A retained request (03 R70, 13 R363, R368): its sequence number, whether it travels on a data VC, its
home (PKG, DIE, STN), the request, and of a release the SEQ it names. `stamped` is false of a
signal-space store whose kind is not known yet (03 R96). -/
structure Retained where
  seq : BitVec 8
  f : Bool
  home : BitVec 11
  rq : HReq
  rel : Option (BitVec 8)
  stamped : Bool
  deriving DecidableEq, Repr

/-- An originator: its sequence counter and retention buffer (03 R70, 08 R233, 13 R364). `owed`: per stream and
home station, the newest request covered while later ones were still retained (13 R363, R368). -/
structure Origin where
  seq : BitVec 8
  ret : List Retained
  owed : List ((BitVec 15 × BitVec 11) × BitVec 8)
  deriving DecidableEq, Repr

/-- A signal box: program store, threads, entry banks and doorbells (08 R218, R244). `snap` holds the
registers of each thread as the ledger recorded them at its latest arming or END (R243). -/
structure SBox where
  store : Tbl Word32
  threads : Tbl Thread
  active : Tbl Entry
  shadow : Tbl Entry
  doorbells : Tbl Doorbell
  snap : Tbl (Tbl Word64)
  deriving DecidableEq, Repr

/-- The lane store, by line number; a line whose fresh bit is set is not listed (06 R163). -/
abbrev LaneStore := Tbl (Option Line)

/-- How a beat is answered: at the mesh port of the station it came in on, or to the junction of the die
it was issued on, by its response index (06 R186, 09 R274). -/
inductive BeatSrc where
  | port (stn : BitVec 2) (isCore : Bool) (core : BitVec 8) (rtn : BitVec 16) (txid : BitVec 12) (portB : Bool)
  | die (src : BitVec 9) (ridx : BitVec 8)
  deriving DecidableEq, Repr

/-- A payload beat after translation (06 R169). -/
structure Beat where
  src : BeatSrc
  addr : GAddr
  pav : BitVec 6
  gen : BitVec 8
  rb : BitVec 2
  off : BitVec 16
  be : BitVec 64
  data : Line
  deriving DecidableEq, Repr

/-- A write waiting for the wake of a fold bank (14 R404). -/
inductive WakeEnt where
  | fold (pon : Nat) (rq : HReq)
  | beat (b : Beat)
  deriving DecidableEq, Repr

/-- The RAM rows of a station that its ledger records (13 R360), watch entries apart. -/
structure StnMem where
  slots : Tbl Slot
  sems : Tbl SemEnt
  lockqs : Tbl SemEnt
  turns : Tbl TurnRec
  hmap : Tbl Word32
  watches : List Watch
  waiters : List Waiter
  lanes : LaneStore
  hdrs : Tbl FoldHdr
  /-- The bound table (07 R194): by row, a bounded dispenser's PON and that of the object which bounds it. -/
  bounds : Tbl (Option (Nat × Nat))
  /-- Requests held for frozen slots, oldest first, with the slot (02 R45). -/
  freezeQ : List (Nat × HReq)
  drift : Tbl Drift
  origins : Tbl Nat
  rights : Tbl (BitVec 4)
  /-- First slots of the groups a ring's MOVE has left MOVED: they are freed and retired together (02 R38). -/
  ringMoved : List Nat
  box : SBox
  deriving DecidableEq, Repr

/-- One window of a ledger on its way to memory: its number, the rows it records as the part's image at its
close, the writes of its block not yet acknowledged, and the originator-table entries it records (13 R360 to
R363). The image of the junction's ledger is its box's alone (assumption log 30). -/
structure Window where
  num : Nat
  image : StnMem
  left : Nat
  streams : List (BitVec 15 × BitVec 8)
  /-- The fclk of its close, its bytes, and its header line, until that is written (R361). -/
  closedAt : Nat
  bytes : Nat
  header : Option (BitVec 58 × Line)
  deriving DecidableEq, Repr

/-- A snapshot being written (13 R362): its image, the window open at its start and that window's place in the
ring, the bytes of deltas since, writes not yet acknowledged, its length and CRC, and its descriptor is being
written. -/
structure Snap where
  image : StnMem
  win : Nat
  ringAt : Nat
  bytes : Nat
  left : Nat
  len : Nat
  crc : Nat
  desc : Bool
  deriving DecidableEq, Repr

/-- A ledger (13 R359 to R366). `next` and `pos` are the number and the ring offset of the next window; `clean`
is the image whose rows are not dirty; `durable` what a reload would rebuild; `windows` the windows closed and
not yet durable, oldest first; `bytes` the bytes of deltas since the starting window of the newest complete snapshot, `snap` the snapshot
being written, `snapNo` its number or the next one's; `notes` the RUNOPEN and SWAP records due (KIND, row). -/
structure Ledger where
  next : Nat
  pos : Nat
  clean : StnMem
  durable : StnMem
  windows : List Window
  bytes : Nat
  snap : Option Snap
  snapNo : Nat
  notes : List (Nat × Nat)
  /-- The snapshot that a park writes, as it began (14 R408). -/
  park : Option Snap
  deriving DecidableEq, Repr

/-- An entry of a correction log (12 R350). -/
structure LogRow where
  ram : BitVec 5
  row : BitVec 16
  total : BitVec 16
  wcount : BitVec 3
  wlap : BitVec 16
  persist : Bool
  deriving DecidableEq, Repr

/-- The protection of a part's RAMs (12). `log` the correction log by entry, `recent` its entries, that of the
oldest latest correction first; `bad` the rows whose check bits of byte 0 an injection inverted, with the mask
(R354), and `armed`: SP_INJ.ARMED; `lapAt` the fclk at which the lap began, `pos` the row of each RAM that the scrub reads next
(R344); `due` the parts of which an uncorrectable row was read, whose reset begins in the next fclk, with its detail (R347). -/
structure Prot where
  log : Tbl (Option LogRow)
  recent : List Nat
  bad : List (Nat × Nat × BitVec 5)
  armed : Bool
  lapAt : Nat
  pos : Tbl Nat
  due : List (Part × Nat)
  deriving DecidableEq, Repr

/-- A station (01 R14): its recorded RAMs and what stands outside them. -/
structure Station where
  mem : StnMem
  /-- Requests waiting at withheld credits (02 R45, 13 R372), oldest first, with their slot. -/
  backlog : List (Nat × HReq)
  boxOrig : Origin
  /-- Beats waiting at withheld credits, oldest first (06 R186). -/
  beats : List Beat
  /-- The wake queue (14 R404): the first eight entries, and behind them writes waiting at withheld
  credits (R405). -/
  wakeQ : List WakeEnt
  /-- Retired fold banks (12 R351). -/
  retiredBanks : List Nat
  /-- Originator-table entries changed since the window in progress opened (13 R363, R367). -/
  streams : List (BitVec 15 × BitVec 8)
  /-- Rows taken out of use, by RAM and row (12 R350, R352). -/
  retiredRows : List (Nat × Nat)
  /-- Rings whose pending skip region has its marker write acknowledged (07 R210). -/
  marked : List Nat
  /-- Of a recovery (13 R371): the parts that have not reported, the fclk it began, and phase 5 is done and
  waits for the junction's (R374). -/
  due : List Part
  recAt : Nat
  /-- Staged mask words and PKG_BASE (04 R131). -/
  stage : Tbl Word32
  /-- The thread of its box that the round-robin considers first (08 R223). -/
  rr : BitVec 4
  deriving DecidableEq, Repr

/-- A wait register (03 R87). `addrV`: the address is known; `refused`: its registration is being
retried (R85); `gang`: a gang wait (04 R119); `noTarget`: a TURN_ARRIVE whose T is not yet in EXP (04 R110); `luisk`:
WAIT_CFG.LUISK of its pavilion at acceptance, which alone governs whether it is sided (R90, R93). -/
structure WaitReg where
  exp : Word64
  addr : GAddr
  addrV : Bool
  pav : BitVec 6
  gen : BitVec 8
  op : BitVec 6
  v : Bool
  sided : Bool
  ret : Bool
  age : BitVec 22
  homeQ : BitVec 5
  stale : Bool
  refused : Bool
  gang : Option (BitVec 5)
  noTarget : Bool
  luisk : Bool
  deriving DecidableEq, Repr

/-- A ticket batch record (07 R200): its members' core, queue tag and N, oldest first; `sent` from launch
to reply. -/
structure Batch where
  pav : BitVec 6
  gen : BitVec 8
  handle : BitVec 20
  members : List (BitVec 8 × BitVec 5 × Word32)
  sent : Bool
  deriving DecidableEq, Repr

/-- A halt (01 R14). Queue n of core c is numbered 24 c[3:0] + n (R11). -/
structure Halt where
  waits : Tbl WaitReg
  bases : Tbl Word32
  orig : Origin
  unacked : Tbl Nat
  /-- Posted requests not yet acknowledged, by pavilion (11 R325). -/
  unackedPav : Tbl Nat
  firstFail : Tbl (BitVec 4)
  /-- Queues whose next fence returns FAULT (13 R376). -/
  lostPosted : List Nat
  /-- Queues whose context base has been asked for and not returned (13 R376). -/
  asking : List Nat
  batches : Tbl Batch
  /-- Gang phases the halt keeps (04 R118), by gang. -/
  gangs : Tbl Word64
  /-- Requests held on their wires for a freeze, oldest first (11 R323, 16 R428). -/
  heldQ : List Req
  /-- Signal-space loads waiting for a retention entry (03 R96). -/
  ssHeld : List InFlight
  script : Thread
  scriptStore : Tbl Word32
  /-- Recovery phase (13 R376), 0 none, and the parts whose purge acknowledgement is outstanding. -/
  phase : BitVec 4
  purges : List Part
  /-- Recoveries of the halt (13 R386). -/
  recs : Nat
  /-- The halt-wire port it considers first (03 R99). -/
  port : BitVec 4
  /-- The registration of its script's wait is refused and retried (03 R85). -/
  scriptRefused : Bool
  /-- A request waits on its wires for retention or SEQ room (13 R364, 15 R423). -/
  retHeld : Bool
  deriving DecidableEq, Repr

/-- The wrapper's instruction (16 R447). -/
inductive WInstr where
  | bypass | extest | preload | intest | clamp | safe | idcode | ijtag | scan | reserved
  deriving DecidableEq, Repr

/-- The instructions that take the block out of service: it is under test while one is in force (16 R447). -/
def WInstr.underTest : WInstr → Bool
  | .extest | .intest | .clamp | .safe | .scan => true
  | .bypass | .preload | .idcode | .ijtag | .reserved => false

/-- A station's latched identity (01 R33). -/
structure StnId where
  stn : BitVec 2
  die : BitVec 2
  pkg : BitVec 7
  valid : Bool
  pkgValid : Bool
  /-- EQ_S of its swap-line branch (10 R292, R293). -/
  eq : BitVec 3
  deriving DecidableEq, Repr

/-- A halt's latched identity (01 R34) and gang-branch calibration (04 R121, R134). -/
structure HaltId where
  halt : BitVec 4
  stn : BitVec 2
  valid : Bool
  d : BitVec 3
  eq : BitVec 3
  calOk : Bool
  deriving DecidableEq, Repr

/-- A memory self-test instrument (16 R448). `busy`: its run is under way. -/
structure Mbist where
  ram : BitVec 5
  algo : BitVec 2
  busy : Bool
  done : Bool
  fail : Bool
  row : BitVec 16
  deriving DecidableEq, Repr

/-- Start-up, identity and test access (01, 04 R121, 10 R293, 14 R397, 16 R447). -/
structure StartUp where
  /-- PW_START.STEP, and the GO latched before step 4 (14 R397). -/
  step : BitVec 4
  goLatched : Bool
  /-- PW_START.ERR and CODE (14 R399). -/
  err : Bool
  code : BitVec 4
  /-- The RAM sweep has finished (12 R342). -/
  swept : Bool
  die : BitVec 2
  pkg : BitVec 7
  pkgValid : Bool
  pkgDone : Bool
  pkgRefused : Bool
  dup : Bool
  up : Bool
  /-- BLOCK_READY has risen since reset; BLOCK_READY itself is `ready` (14 R398). -/
  everReady : Bool
  ready : Bool
  /-- RC_STAT (01 R31). -/
  rcState : BitVec 2
  rcAttempts : BitVec 2
  rcMembers : BitVec 5
  rcNoReturn : Bool
  rcBadCheck : Bool
  rcBadCount : Bool
  /-- The frame on the roll-call chain and how many members it has passed (01 R19). -/
  frame : Option Word32
  chainPos : Nat
  identTries : Nat
  stnIds : Tbl StnId
  haltIds : Tbl HaltId
  /-- GANG_CAL (04 R133): state, slot (halt) in calibration, pings sent in the slot, round trips. -/
  calState : BitVec 2
  calHalt : BitVec 4
  calBadRt : Bool
  calDisagree : Bool
  calPings : Nat
  calRts : List Nat
  /-- TT_LINE (10 R293): state, station that failed, d_S by station, station in measurement. -/
  lineState : BitVec 2
  lineStn : BitVec 2
  lineBadRt : Bool
  lineDisagree : Bool
  lineD : Tbl Nat
  linePings : Tbl Nat
  lineRts : Tbl (List Nat)
  /-- Wrapper instruction, and a self-test keeps step 4 (16 R446 to R448). -/
  wInstr : WInstr
  mbistHold : Bool
  /-- Self-test instruments by segment of the roll-call chain (16 R448). -/
  mbist : Tbl Mbist
  deriving DecidableEq, Repr

/-- A memory-port request: read or write, line address, byte enables, data, tag and what it is for
(16 R437). -/
inductive MemTag where
  | mlock (si pon : Nat)
  | skip (si pon : Nat)
  | foldResult (si pon : Nat)
  /-- A census record of a ring (13 R382). -/
  | census (ring : Nat)
  /-- An access of a job (`Job`), by its key, and the line of the job's area. -/
  | job (k line : Nat)
  /-- A block of a ledger's window, and a snapshot of a ledger: the ledger (0 to 3 station, 4 junction). -/
  | window (ring num : Nat)
  | snapshot (ring : Nat)
  | descriptor (ring : Nat)
  /-- The work the request was for has been given up. -/
  | dropped
  deriving DecidableEq, Repr

structure MemReq where
  wr : Bool
  line : BitVec 58
  be : BitVec 64
  data : Line
  tag : BitVec 7
  why : MemTag
  tries : Nat
  deriving DecidableEq, Repr

/-- A memory port (16 R437): requests presented in order, and requests taken and not completed. -/
structure Port where
  queue : List MemReq
  taken : List MemReq
  deriving DecidableEq, Repr

/-- Work of the manager's that ends when its memory accesses have completed, or when a station's recovery has:
`pav` its pavilion; `left` accesses not completed; `lines` what its reads returned; `args` its numbers; `bad` an
access failed. -/
structure Job where
  pav : BitVec 6
  phase : Nat
  left : Nat
  lines : Tbl Line
  args : List Nat
  bad : Bool
  deriving DecidableEq, Repr

/-- A frame on its way to another die (09 R254 to R257). `seq` is given when it is first handed over; `own`
holds the SEQ of each record of the junction's own that a durability report must cover (R277). -/
structure TxFrame where
  peer : BitVec 9
  vc : BitVec 3
  typ : BitVec 4
  recs : List (BitVec 128)
  fol : Bool
  seq : Option (BitVec 16)
  own : List (BitVec 8)
  acked : Bool
  deriving DecidableEq, Repr

/-- A frame held for commit (09 R268): its position on the data VC, source die and records. -/
structure HeldFrame where
  vc : BitVec 2
  pos : BitVec 16
  src : BitVec 9
  recs : List (BitVec 128)
  replay : Bool
  confirmed : Bool
  /-- A write before it failed to commit (09 R269). -/
  failed : Bool
  /-- Credits due when it leaves its hold (09 R278). -/
  credits : Nat
  deriving DecidableEq, Repr

/-- A proxy entry (09 R262) and its row. `peer` is a local subscriber (far role) or a waiting die (home). -/
structure Proxy where
  row : Nat
  addr : GAddr
  /-- Where the object of a home entry now is: a MOVE leaves `addr` (09 R282). -/
  loc : GAddr
  far : Bool
  peer : BitVec 9
  exp : Word64
  pav : BitVec 6
  deriving DecidableEq, Repr

/-- Head of a far chain (09 R262, R263): the `EXP` last sent, and whether its REG is being retried. -/
structure FarHead where
  addr : GAddr
  sent : Word64
  retry : Bool
  deriving DecidableEq, Repr

/-- A combining entry outside its configuration (09 R270 to R273, 11 R324). `members` are the FOLDs in the
image, `outMembers` those of the partials that await their CPL, by the partial's SEQ, `early` the contributions sent
early. -/
structure Comb where
  rnd : BitVec 8
  count : Nat
  early : Nat
  lanes : List Nat
  members : List HReq
  outMembers : List (BitVec 8 × HReq)
  /-- FOLDs carried by each partial not yet covered, by the partial's SEQ (09 R273). -/
  cover : List (BitVec 8 × List (Part × BitVec 8))
  last : BitVec 4
  deriving DecidableEq, Repr

/-- A staged two-party change: page, offset, selector, data (11 R313). -/
structure Staged where
  page : Nat
  off : Nat
  sel : Nat
  data : Word32
  deriving DecidableEq, Repr

/-- What a remote response entry returns to (09 R274). -/
inductive RespFor where
  | load (part : Part) (rtnTx : BitVec 28)
  | beat (b : BeatSrc)
  deriving DecidableEq, Repr

/-- What is parked for a frozen pavilion (11 R323): its source die, a record or (`part`) the records of a partial, and the
local pavilion. -/
structure Parked where
  src : BitVec 9
  recs : List (BitVec 128)
  part : Bool
  replay : Bool
  pav : BitVec 6
  deriving DecidableEq, Repr

/-- Frames of the receive pool some of whose records wait for a station that withholds its credits, or in the park (09
R278, R279): their source and channel, how many frames, the credits due when the last record has been forwarded, and what
waits. -/
structure PoolEnt where
  src : BitVec 9
  vc : BitVec 3
  frames : Nat
  credits : Nat
  reqs : List HReq
  beats : List Beat
  parked : List Parked
  deriving DecidableEq, Repr

/-- A fault-log entry (13 R358, R390): class, part code, number, detail. -/
structure FaultEnt where
  cls : BitVec 4
  part : BitVec 5
  num : BitVec 16
  detail : Word32
  deriving DecidableEq, Repr

/-- The junction's own state outside its registers. -/
structure Jct where
  /-- The fault log, oldest first, and the number of the next fault (13 R358). -/
  faults : List FaultEnt
  faultNo : BitVec 16
  /-- Frames waiting to be handed over, oldest first, and frames retained (09 R277). -/
  txq : List TxFrame
  retained : List TxFrame
  /-- Next SEQ to send and to accept, by die and VC (09 R275). -/
  txSeq : Tbl Nat
  rxSeq : Tbl Nat
  /-- Acknowledgements and credits due to a die: (die, VC), and counts by die and class (09 R275, R278). -/
  acks : List (BitVec 9 × BitVec 3)
  creditsDue : Tbl Nat
  /-- Frames sent and not credited, by die and class. -/
  uncredited : Tbl Nat
  /-- A beat or partial received in part, by die (09 R259): its frame type, then its records. -/
  rxPart : Tbl (List (BitVec 128))
  held : List HeldFrame
  proxies : List Proxy
  farHeads : List FarHead
  combs : Tbl Comb
  resps : Tbl (Option RespFor)
  /-- Accesses waiting for a response entry (09 R274), oldest first. -/
  respWait : List (RespFor × HReq)
  beatWait : List Beat
  parked : List Parked
  /-- Queues with a blocking request outstanding on another die, those marked stale, and the requests
  held behind a mark (13 R378), by CORE × 32 + QTAG. -/
  remoteOut : List Nat
  remoteStale : List (Nat × Nat)
  remoteHeld : List HReq
  box : SBox
  orig : Origin
  /-- Gangs with a hold under way or an abort due: the last cycle covered is not modelled (see log 5). -/
  holds : Tbl Nat
  /-- The fclk of a pavilion's last RESET, plus 1 (11 R321). -/
  lastReset : Tbl Nat
  /-- The staging list, and the fclk of the pending proposal (11 R313, R314). -/
  staged : List Staged
  proposedAt : Nat
  /-- The bound epoch counter, where it now is (10 R289). A boundary held: TT_STAT.HOLDING and, for a
  recovery, `ttRecover` (R303). -/
  ttBound : Option GAddr
  ttRecover : Bool
  /-- That boundary was released with SWAP before the recovery held it (R299). -/
  ttSwap : Bool
  /-- The fclk at which the junction's recovery began (13 R379). -/
  recAt : Nat
  /-- What the gang wires of a gang carry for the slips of the fclk in progress (04 R125, R127): 0 nothing, 1 to 15
  HOLD_N, 16 GANG_ABORT. -/
  wires : Tbl Nat
  /-- A handle-map write that has not reached all four stations: its index and entry (02 R46, R68). -/
  hmWait : Option (Nat × Word32)
  /-- The thread of its box that the round-robin considers first (08 R223). -/
  rr : BitVec 4
  /-- The receive pool's waiting frames (09 R279). -/
  pool : List PoolEnt
  /-- Requests for other dies that wait for a retention entry, oldest first (09 R277). -/
  retWait : List HReq
  /-- Objects whose registration for the junction's own waits was refused and is retried (03 R85). -/
  homeRefused : List GAddr
  /-- The PAV of the bound slot, as BIND recorded it (10 R289). -/
  ttPav : BitVec 6
  /-- The latest fault number of each part, by part code (13 R386). -/
  lastFault : Tbl Nat
  /-- Frames handed over and accepted since the last lclk (15 R423). -/
  txNow : Nat
  rxNow : Nat
  deriving DecidableEq, Repr

/-- What a park left in the ledger's memory (14 R408, R410, R412): the ledger's base, the record of each part,
the rows of the stations and their rows and banks out of use, and of the junction its box, the registers and the
bound epoch counter. -/
structure ParkImage where
  base : Nat
  recs : List (List Byte)
  mems : List StnMem
  outs : List (List (Nat × Nat) × List Nat)
  box : SBox
  regs : Tbl Nat
  bound : Option GAddr
  deriving DecidableEq, Repr

/-- The whole block. -/
structure State where
  pending : List Instr
  out : List Out
  fclk : Nat
  freeCtr : Nat
  su : StartUp
  regs : Tbl Nat
  halts : Tbl Halt
  stns : Tbl Station
  jct : Jct
  net : List InFlight
  ports : Tbl Port
  /-- The ledgers of the stations (0 to 3) and of the junction (4). -/
  ledgers : Tbl Ledger
  /-- Jobs under way, by key: 0 pavilion command, 1 context command, 2 dump, 3 view, 4 run command, 5 park, 6 reload. -/
  jobs : Tbl (Option Job)
  /-- Outbound mesh credits by port and class (16 R435). -/
  crd : Tbl Nat
  /-- Inbound mesh credits by port and class: those of the first grant, and the transfers freed whose credit has not
  gone back (16 R435). -/
  granted : Tbl Nat
  freed : Tbl Nat
  /-- Protection of the stations (0 to 3) and of the junction (4). -/
  prots : Tbl Prot
  /-- The eight event counters (15 R422). -/
  perf : Tbl Nat
  /-- Trace selectors' occurrences, the trace buffer and the tclk count's start (16 R444). -/
  occ : Tbl Nat
  trace : List Word32
  traceAt : Nat
  /-- What host memory holds of a park (it is no state of the block: it outlives reset and supply). -/
  parkImg : Option ParkImage
  deriving DecidableEq, Repr

/-! ### Reset values -/

def Slot.free : Slot := ⟨0, .free, 0, false, false, false, 0, 0⟩
def SemEnt.init : SemEnt := ⟨0, false, false, 0, 0, 0, 0, false, false, 0⟩
def TurnRec.init : TurnRec := ⟨0, 0, 0, 0, 0, 0⟩
def Drift.init : Drift := ⟨0, 0, 0, 0, 0, 0, 0, false, false, 0, 0, 0⟩
def FoldHdr.init : FoldHdr := ⟨0, false, 0, 0, 0, 0, false, false, 0, 0, 0, 0, 0, 0, 0, 0, 0, 0, 0, 0⟩
def Entry.init : Entry := ⟨0, 0, 0, false, 0, 0, false, 0, false, 0⟩
def Thread.init : Thread :=
  ⟨[], 0, .off, .done, 0, 0, 0, 0, none, 0, 0, 0, none, none, 0, false, none, []⟩
def Doorbell.init : Doorbell := ⟨0, 0, false⟩
def Origin.init : Origin := ⟨0, [], []⟩
def SBox.init : SBox := ⟨[], [], [], [], [], []⟩
def StnMem.init : StnMem := ⟨[], [], [], [], [], [], [], [], [], [], [], [], [], [], [], SBox.init⟩
def Station.init : Station := ⟨StnMem.init, [], Origin.init, [], [], [], [], [], [], [], 0, [], 0⟩
def WaitReg.init : WaitReg := ⟨0, 0, false, 0, 0, 0, false, false, false, 0, 0, false, false, none, false, false⟩
def Batch.init : Batch := ⟨0, 0, 0, [], false⟩
def Halt.init : Halt := ⟨[], [], Origin.init, [], [], [], [], [], [], [], [], [], Thread.init, [], 0, [], 0, 0, false, false⟩
def StnId.init : StnId := ⟨0, 0, 0, false, false, 0⟩
def HaltId.init : HaltId := ⟨0, 0, false, 0, 0, false⟩
def Ledger.init : Ledger := ⟨0, 0, StnMem.init, StnMem.init, [], 0, none, 0, [], none⟩
def Prot.init : Prot := ⟨[], [], [], false, 0, [], []⟩
def Mbist.init : Mbist := ⟨0, 0, false, false, false, 0⟩
def Port.init : Port := ⟨[], []⟩
def Comb.init : Comb := ⟨0, 0, 0, [], [], [], [], 0⟩
def Jct.init : Jct :=
  ⟨[], 0, [], [], [], [], [], [], [], [], [], [], [], [], [], [], [], [], [], [], [], SBox.init, Origin.init, [], [], [], 0, none, false, false, 0, [], none, 0, [], [], [], 0, [], 0, 0⟩

def StartUp.reset : StartUp where
  step := 0
  goLatched := false
  err := false
  code := 0
  swept := false
  die := 0
  pkg := 0
  pkgValid := false
  pkgDone := false
  pkgRefused := false
  dup := false
  up := false
  everReady := false
  ready := false
  rcState := 0
  rcAttempts := 0
  rcMembers := 0
  rcNoReturn := false
  rcBadCheck := false
  rcBadCount := false
  frame := none
  chainPos := 0
  identTries := 0
  stnIds := []
  haltIds := []
  calState := 0
  calHalt := 0
  calBadRt := false
  calDisagree := false
  calPings := 0
  calRts := []
  lineState := 0
  lineStn := 0
  lineBadRt := false
  lineDisagree := false
  lineD := []
  linePings := []
  lineRts := []
  wInstr := .bypass
  mbistHold := false
  mbist := []

/-- The block at reset assertion (14 R395): every register at its reset value, every RAM row zero. -/
def State.reset : State where
  pending := []
  out := []
  fclk := 0
  freeCtr := 0
  su := StartUp.reset
  regs := []
  halts := []
  stns := []
  jct := Jct.init
  net := []
  ports := []
  ledgers := []
  jobs := []
  crd := []
  granted := []
  freed := []
  prots := []
  perf := []
  occ := []
  trace := []
  traceAt := 0
  parkImg := none

end Sys2Proof.Machine
end

