-- ==== Sys2Proof/Machine/RegMap.lean ====
section
/-! DEFINITION. The register map: one named field per field of the spec's register tables (17 R454, R466
and the tables of every chapter), with its page, offset, place, access code (R461) and reset value. A
register kept once per station, halt or pavilion is named at its first page; one kept per select value
is named once. -/

namespace Sys2Proof.Machine

/-- Access codes (17 R461). -/
inductive Acc where
  | RW | RO | WO | W1C | W1S | RW2 | WC
  deriving DecidableEq, Repr

/-- A register field: first page, offset, lowest bit, width, access code, reset value. -/
structure Fld where
  page : Nat
  off : Nat
  lo : Nat
  len : Nat
  acc : Acc
  rst : Nat
  deriving DecidableEq, Repr

namespace F

/-- PAGE_CTL.EXPERT, every page (R454). -/
def PAGE_CTL_EXPERT : Fld := ⟨0x00, 0x00C, 0, 1, .RW, 0⟩
/-- PAGE_CTL.KEY, every page (R454). -/
def PAGE_CTL_KEY : Fld := ⟨0x00, 0x00C, 8, 8, .WO, 0⟩
/-- PAGE_STAT.REFUSED, every page (R454). -/
def PAGE_STAT_REFUSED : Fld := ⟨0x00, 0x010, 8, 8, .RO, 0⟩
/-- PAGE_STAT.CLR, every page (R454). -/
def PAGE_STAT_CLR : Fld := ⟨0x00, 0x010, 16, 1, .W1S, 0⟩
/-- EVT_STAT.EVT, every page (R454). -/
def EVT_STAT_EVT : Fld := ⟨0x00, 0x014, 0, 32, .W1C, 0⟩
/-- EVT_EN.EN, every page (R454). -/
def EVT_EN_EN : Fld := ⟨0x00, 0x018, 0, 32, .RW, 0⟩
/-- EVT_SET.SET, every page (R454). -/
def EVT_SET_SET : Fld := ⟨0x00, 0x01C, 0, 32, .W1S, 0⟩
/-- PAGE_LOCK.LOCK, every page (R454). -/
def PAGE_LOCK_LOCK : Fld := ⟨0x00, 0x024, 0, 1, .W1S, 0⟩
/-- PAGE_LOCK.NOEXP, every page (R454). -/
def PAGE_LOCK_NOEXP : Fld := ⟨0x00, 0x024, 1, 1, .W1S, 0⟩

/-- JG_IDENT.DIE (R29). -/
def JG_IDENT_DIE : Fld := ⟨0x00, 0x040, 0, 2, .RO, 0⟩
/-- JG_IDENT.DUP (R29). -/
def JG_IDENT_DUP : Fld := ⟨0x00, 0x040, 2, 1, .RO, 0⟩
/-- JG_PKG.PKG (R30). -/
def JG_PKG_PKG : Fld := ⟨0x00, 0x044, 0, 7, .RW, 0⟩
/-- JG_PKG.VALID (R30). -/
def JG_PKG_VALID : Fld := ⟨0x00, 0x044, 8, 1, .W1S, 0⟩
/-- JG_PKG.DONE (R30). -/
def JG_PKG_DONE : Fld := ⟨0x00, 0x044, 9, 1, .RO, 0⟩
/-- JG_PKG.REFUSED (R30). -/
def JG_PKG_REFUSED : Fld := ⟨0x00, 0x044, 10, 1, .W1C, 0⟩
/-- GANG_SEL.GANG (R133). -/
def GANG_SEL_GANG : Fld := ⟨0x00, 0x100, 0, 5, .RW, 0⟩
/-- GANG_CFG.X0 (R133). -/
def GANG_CFG_X0 : Fld := ⟨0x00, 0x104, 0, 4, .RW, 0⟩
/-- GANG_CFG.Y0 (R133). -/
def GANG_CFG_Y0 : Fld := ⟨0x00, 0x104, 4, 4, .RW, 0⟩
/-- GANG_CFG.WL (R133). -/
def GANG_CFG_WL : Fld := ⟨0x00, 0x104, 8, 3, .RW, 0⟩
/-- GANG_CFG.HL (R133). -/
def GANG_CFG_HL : Fld := ⟨0x00, 0x104, 11, 3, .RW, 0⟩
/-- GANG_CFG.PAV (R133). -/
def GANG_CFG_PAV : Fld := ⟨0x00, 0x104, 14, 6, .RW, 0⟩
/-- GANG_TS.ADDR (R133). -/
def GANG_TS_ADDR : Fld := ⟨0x00, 0x108, 0, 25, .RW, 0⟩
/-- GANG_CMD.ENABLE (R133). -/
def GANG_CMD_ENABLE : Fld := ⟨0x00, 0x10C, 0, 1, .W1S, 0⟩
/-- GANG_CMD.DISABLE (R133). -/
def GANG_CMD_DISABLE : Fld := ⟨0x00, 0x10C, 1, 1, .W1S, 0⟩
/-- GANG_CMD.FORCE (R133). -/
def GANG_CMD_FORCE : Fld := ⟨0x00, 0x10C, 2, 1, .RW, 0⟩
/-- GANG_CMD.BUSY (R133). -/
def GANG_CMD_BUSY : Fld := ⟨0x00, 0x10C, 31, 1, .RO, 0⟩
/-- GANG_STAT.STATE (R133). -/
def GANG_STAT_STATE : Fld := ⟨0x00, 0x110, 0, 2, .RO, 0⟩
/-- GANG_STAT.ERR (R133). -/
def GANG_STAT_ERR : Fld := ⟨0x00, 0x110, 2, 1, .W1C, 0⟩
/-- GANG_STAT.CODE (R133). -/
def GANG_STAT_CODE : Fld := ⟨0x00, 0x110, 3, 4, .RO, 0⟩
/-- GANG_STAT.LAST_N (R133). -/
def GANG_STAT_LAST_N : Fld := ⟨0x00, 0x110, 7, 4, .RO, 0⟩
/-- GANG_STAT.DR_CAUSE (R133). -/
def GANG_STAT_DR_CAUSE : Fld := ⟨0x00, 0x110, 11, 1, .RO, 0⟩
/-- GANG_STAT.DR_FORCED (R133). -/
def GANG_STAT_DR_FORCED : Fld := ⟨0x00, 0x110, 12, 1, .RO, 0⟩
/-- GANG_STAT.DR_CORE (R133). -/
def GANG_STAT_DR_CORE : Fld := ⟨0x00, 0x110, 13, 8, .RO, 0⟩
/-- GANG_HOLDS.COUNT (R133). -/
def GANG_HOLDS_COUNT : Fld := ⟨0x00, 0x114, 0, 32, .RO, 0⟩
/-- GANG_HOLD_CYC.COUNT (R133). -/
def GANG_HOLD_CYC_COUNT : Fld := ⟨0x00, 0x118, 0, 32, .RO, 0⟩
/-- GANG_RELEASES.COUNT (R133). -/
def GANG_RELEASES_COUNT : Fld := ⟨0x00, 0x11C, 0, 32, .RO, 0⟩
/-- GANG_CAL.STATE (R133). -/
def GANG_CAL_STATE : Fld := ⟨0x00, 0x120, 0, 2, .RO, 0⟩
/-- GANG_CAL.HALT (R133). -/
def GANG_CAL_HALT : Fld := ⟨0x00, 0x120, 2, 4, .RO, 0⟩
/-- GANG_CAL.BAD_RT (R133). -/
def GANG_CAL_BAD_RT : Fld := ⟨0x00, 0x120, 6, 1, .RO, 0⟩
/-- GANG_CAL.DISAGREE (R133). -/
def GANG_CAL_DISAGREE : Fld := ⟨0x00, 0x120, 7, 1, .RO, 0⟩
/-- LG_BASE_LO.ADDR (R388). -/
def LG_BASE_LO_ADDR : Fld := ⟨0x00, 0x060, 21, 11, .RW, 0⟩
/-- LG_BASE_HI.ADDR (R388). -/
def LG_BASE_HI_ADDR : Fld := ⟨0x00, 0x064, 0, 32, .RW, 0⟩
/-- LG_CTL.EN (R388). -/
def LG_CTL_EN : Fld := ⟨0x00, 0x068, 0, 1, .RW, 0⟩
/-- LG_CTL.RESUME (R388). -/
def LG_CTL_RESUME : Fld := ⟨0x00, 0x068, 1, 1, .W1S, 0⟩
/-- LG_CTL.UNPROTECT (R388). -/
def LG_CTL_UNPROTECT : Fld := ⟨0x00, 0x068, 2, 1, .W1S, 0⟩
/-- LG_CTL.SNAP (R388). -/
def LG_CTL_SNAP : Fld := ⟨0x00, 0x068, 3, 1, .W1S, 0⟩
/-- LG_SNAP_AT.KIB (R388). -/
def LG_SNAP_AT_KIB : Fld := ⟨0x00, 0x06C, 0, 24, .RW, 4096⟩
/-- LG_SNAP_INT.FCLK (R388). -/
def LG_SNAP_INT_FCLK : Fld := ⟨0x00, 0x070, 0, 32, .RW, 1048576⟩
/-- JG_CFGERR.COUNT (R465). -/
def JG_CFGERR_COUNT : Fld := ⟨0x00, 0x080, 0, 16, .RO, 0⟩
/-- JG_CFGERR.PAGE (R465). -/
def JG_CFGERR_PAGE : Fld := ⟨0x00, 0x080, 16, 7, .RO, 0⟩
/-- JG_CFGERR.WR (R465). -/
def JG_CFGERR_WR : Fld := ⟨0x00, 0x080, 23, 1, .RO, 0⟩
/-- JG_CFGERR.CLR (R465). -/
def JG_CFGERR_CLR : Fld := ⟨0x00, 0x080, 31, 1, .W1S, 0⟩

/-- RC_STAT.STATE (R31). -/
def RC_STAT_STATE : Fld := ⟨0x2B, 0x040, 0, 2, .RO, 0⟩
/-- RC_STAT.ATTEMPTS (R31). -/
def RC_STAT_ATTEMPTS : Fld := ⟨0x2B, 0x040, 2, 2, .RO, 0⟩
/-- RC_STAT.MEMBERS (R31). -/
def RC_STAT_MEMBERS : Fld := ⟨0x2B, 0x040, 4, 5, .RO, 0⟩
/-- RC_STAT.NO_RETURN (R31). -/
def RC_STAT_NO_RETURN : Fld := ⟨0x2B, 0x040, 9, 1, .RO, 0⟩
/-- RC_STAT.BAD_CHECK (R31). -/
def RC_STAT_BAD_CHECK : Fld := ⟨0x2B, 0x040, 10, 1, .RO, 0⟩
/-- RC_STAT.BAD_COUNT (R31). -/
def RC_STAT_BAD_COUNT : Fld := ⟨0x2B, 0x040, 11, 1, .RO, 0⟩
/-- RC_HALT_REFUSED.COUNT (R32). -/
def RC_HALT_REFUSED_COUNT : Fld := ⟨0x2B, 0x044, 0, 16, .RO, 0⟩

/-- STN_ID.STN (R33). -/
def STN_ID_STN : Fld := ⟨0x08, 0x040, 0, 2, .RO, 0⟩
/-- STN_ID.DIE (R33). -/
def STN_ID_DIE : Fld := ⟨0x08, 0x040, 2, 2, .RO, 0⟩
/-- STN_ID.PKG (R33). -/
def STN_ID_PKG : Fld := ⟨0x08, 0x040, 4, 7, .RO, 0⟩
/-- STN_ID.VALID (R33). -/
def STN_ID_VALID : Fld := ⟨0x08, 0x040, 11, 1, .RO, 0⟩
/-- STN_ID.PKG_VALID (R33). -/
def STN_ID_PKG_VALID : Fld := ⟨0x08, 0x040, 12, 1, .RO, 0⟩
/-- OBJ_CMD.CMD (R47). -/
def OBJ_CMD_CMD : Fld := ⟨0x08, 0x050, 0, 4, .RW, 0⟩
/-- OBJ_CMD.KIND (R47). -/
def OBJ_CMD_KIND : Fld := ⟨0x08, 0x050, 4, 4, .RW, 0⟩
/-- OBJ_CMD.PAV (R47). -/
def OBJ_CMD_PAV : Fld := ⟨0x08, 0x050, 8, 6, .RW, 0⟩
/-- OBJ_CMD.CTXL (R47). -/
def OBJ_CMD_CTXL : Fld := ⟨0x08, 0x050, 14, 1, .RW, 0⟩
/-- OBJ_CMD.PON (R47). -/
def OBJ_CMD_PON : Fld := ⟨0x08, 0x050, 16, 14, .RW, 0⟩
/-- OBJ_CMD.GO (R47). -/
def OBJ_CMD_GO : Fld := ⟨0x08, 0x050, 31, 1, .W1S, 0⟩
/-- OBJ_LINK.LINK (R48). -/
def OBJ_LINK_LINK : Fld := ⟨0x08, 0x054, 0, 24, .RW, 0⟩
/-- OBJ_RES.PON (R49). -/
def OBJ_RES_PON : Fld := ⟨0x08, 0x058, 0, 14, .RO, 0⟩
/-- OBJ_RES.DONE (R49). -/
def OBJ_RES_DONE : Fld := ⟨0x08, 0x058, 14, 1, .RO, 0⟩
/-- OBJ_RES.ERR (R49). -/
def OBJ_RES_ERR : Fld := ⟨0x08, 0x058, 15, 1, .RO, 0⟩
/-- OBJ_RES.CODE (R49). -/
def OBJ_RES_CODE : Fld := ⟨0x08, 0x058, 16, 4, .RO, 0⟩
/-- OBJ_COUNT.FREE (R50). -/
def OBJ_COUNT_FREE : Fld := ⟨0x08, 0x05C, 0, 15, .RO, 16384⟩
/-- OBJ_COUNT.RETIRED (R50). -/
def OBJ_COUNT_RETIRED : Fld := ⟨0x08, 0x05C, 16, 15, .RO, 0⟩
/-- WATCH_STAT.IN_USE (R104). -/
def WATCH_STAT_IN_USE : Fld := ⟨0x08, 0x060, 0, 14, .RO, 0⟩
/-- WATCH_STAT.HIGH (R104). -/
def WATCH_STAT_HIGH : Fld := ⟨0x08, 0x060, 14, 14, .RO, 0⟩
/-- WATCH_STAT.CLR_HIGH (R104). -/
def WATCH_STAT_CLR_HIGH : Fld := ⟨0x08, 0x060, 28, 1, .W1S, 0⟩
/-- WATCH_FULL.COUNT (R104). -/
def WATCH_FULL_COUNT : Fld := ⟨0x08, 0x064, 0, 32, .RO, 0⟩
/-- TS_SEL.PON (R131). -/
def TS_SEL_PON : Fld := ⟨0x08, 0x080, 0, 14, .RW, 0⟩
/-- TS_IDX.WORD (R131). -/
def TS_IDX_WORD : Fld := ⟨0x08, 0x084, 0, 4, .RW, 0⟩
/-- TS_DATA.DATA (R131). -/
def TS_DATA_DATA : Fld := ⟨0x08, 0x088, 0, 32, .RW, 0⟩
/-- TS_BASE.PKG_BASE (R131). -/
def TS_BASE_PKG_BASE : Fld := ⟨0x08, 0x08C, 0, 7, .RW, 0⟩
/-- TS_CTL.APPLY (R131). -/
def TS_CTL_APPLY : Fld := ⟨0x08, 0x090, 0, 1, .W1S, 0⟩
/-- TS_CTL.BUSY (R131). -/
def TS_CTL_BUSY : Fld := ⟨0x08, 0x090, 1, 1, .RO, 0⟩
/-- TS_CTL.ERR (R131). -/
def TS_CTL_ERR : Fld := ⟨0x08, 0x090, 2, 1, .RO, 0⟩
/-- TS_CTL.CODE (R131). -/
def TS_CTL_CODE : Fld := ⟨0x08, 0x090, 3, 3, .RO, 0⟩
/-- TS_ARR.CUR (R131). -/
def TS_ARR_CUR : Fld := ⟨0x08, 0x094, 0, 9, .RO, 0⟩
/-- TS_ARR.NXT (R131). -/
def TS_ARR_NXT : Fld := ⟨0x08, 0x094, 9, 9, .RO, 0⟩
/-- DRIFT_SEL.PAIR (R132). -/
def DRIFT_SEL_PAIR : Fld := ⟨0x08, 0x0A0, 0, 6, .RW, 0⟩
/-- DRIFT_PC.PROD (R132). -/
def DRIFT_PC_PROD : Fld := ⟨0x08, 0x0A4, 0, 14, .RW, 0⟩
/-- DRIFT_PC.CONS (R132). -/
def DRIFT_PC_CONS : Fld := ⟨0x08, 0x0A4, 16, 14, .RW, 0⟩
/-- DRIFT_CFG.MODE (R132). -/
def DRIFT_CFG_MODE : Fld := ⟨0x08, 0x0A8, 0, 2, .RW, 0⟩
/-- DRIFT_CFG.K (R132). -/
def DRIFT_CFG_K : Fld := ⟨0x08, 0x0A8, 2, 16, .RW, 0⟩
/-- DRIFT_CFG.TS (R132). -/
def DRIFT_CFG_TS : Fld := ⟨0x08, 0x0A8, 18, 14, .RW, 0⟩
/-- DRIFT_DEPTH.DEPTH (R132). -/
def DRIFT_DEPTH_DEPTH : Fld := ⟨0x08, 0x0AC, 0, 32, .RW, 0⟩
/-- DRIFT_STAT.LAST (R132). -/
def DRIFT_STAT_LAST : Fld := ⟨0x08, 0x0B0, 0, 4, .RO, 0⟩
/-- DRIFT_STAT.ARMED (R132). -/
def DRIFT_STAT_ARMED : Fld := ⟨0x08, 0x0B0, 4, 1, .RO, 0⟩
/-- DRIFT_STAT.REFUSED (R132). -/
def DRIFT_STAT_REFUSED : Fld := ⟨0x08, 0x0B0, 5, 1, .W1C, 0⟩
/-- DRIFT_STAT.EVENTS (R132). -/
def DRIFT_STAT_EVENTS : Fld := ⟨0x08, 0x0B0, 16, 16, .RO, 0⟩
/-- DRIFT_SKIP_LO.SKIP (R132). -/
def DRIFT_SKIP_LO_SKIP : Fld := ⟨0x08, 0x0B4, 0, 32, .RO, 0⟩
/-- DRIFT_SKIP_HI.SKIP (R132). -/
def DRIFT_SKIP_HI_SKIP : Fld := ⟨0x08, 0x0B8, 0, 32, .RO, 0⟩
/-- SEMF_CTL.ENTRY (R143). -/
def SEMF_CTL_ENTRY : Fld := ⟨0x08, 0x0D0, 0, 12, .RW, 0⟩
/-- SEMF_CTL.ACT (R143). -/
def SEMF_CTL_ACT : Fld := ⟨0x08, 0x0D0, 12, 2, .RW, 0⟩
/-- SEMF_CTL.ERR (R143). -/
def SEMF_CTL_ERR : Fld := ⟨0x08, 0x0D0, 28, 1, .RO, 0⟩
/-- SEMF_CTL.DONE (R143). -/
def SEMF_CTL_DONE : Fld := ⟨0x08, 0x0D0, 29, 1, .RO, 0⟩
/-- SEMF_CTL.BUSY (R143). -/
def SEMF_CTL_BUSY : Fld := ⟨0x08, 0x0D0, 30, 1, .RO, 0⟩
/-- SEMF_CTL.GO (R143). -/
def SEMF_CTL_GO : Fld := ⟨0x08, 0x0D0, 31, 1, .W1S, 0⟩
/-- SEMF_N.N (R143). -/
def SEMF_N_N : Fld := ⟨0x08, 0x0D4, 0, 32, .RW, 0⟩
/-- MLOCK_PON.PON (R149). -/
def MLOCK_PON_PON : Fld := ⟨0x08, 0x0C0, 0, 14, .RW, 0⟩
/-- MLOCK_ADDR_LO.ADDR (R149). -/
def MLOCK_ADDR_LO_ADDR : Fld := ⟨0x08, 0x0C4, 3, 29, .RW, 0⟩
/-- MLOCK_ADDR_HI.ADDR (R149). -/
def MLOCK_ADDR_HI_ADDR : Fld := ⟨0x08, 0x0C8, 0, 32, .RW, 0⟩
/-- MLOCK_CTL.SET (R149). -/
def MLOCK_CTL_SET : Fld := ⟨0x08, 0x0CC, 0, 1, .W1S, 0⟩
/-- MLOCK_CTL.BUSY (R149). -/
def MLOCK_CTL_BUSY : Fld := ⟨0x08, 0x0CC, 1, 1, .RO, 0⟩
/-- MLOCK_CTL.ERR (R149). -/
def MLOCK_CTL_ERR : Fld := ⟨0x08, 0x0CC, 2, 1, .RO, 0⟩
/-- MLOCK_CTL.CODE (R149). -/
def MLOCK_CTL_CODE : Fld := ⟨0x08, 0x0CC, 3, 2, .RO, 0⟩
/-- RING_PON.PON (R217). -/
def RING_PON_PON : Fld := ⟨0x08, 0x0E0, 0, 14, .RW, 0⟩
/-- RING_BASE_LO.ADDR (R217). -/
def RING_BASE_LO_ADDR : Fld := ⟨0x08, 0x0E4, 6, 26, .RW, 0⟩
/-- RING_BASE_HI.ADDR (R217). -/
def RING_BASE_HI_ADDR : Fld := ⟨0x08, 0x0E8, 0, 32, .RW, 0⟩
/-- RING_CTL.SET (R217). -/
def RING_CTL_SET : Fld := ⟨0x08, 0x0EC, 0, 1, .W1S, 0⟩
/-- RING_CTL.BUSY (R217). -/
def RING_CTL_BUSY : Fld := ⟨0x08, 0x0EC, 1, 1, .RO, 0⟩
/-- RING_CTL.ERR (R217). -/
def RING_CTL_ERR : Fld := ⟨0x08, 0x0EC, 2, 1, .RO, 0⟩
/-- RING_CTL.CODE (R217). -/
def RING_CTL_CODE : Fld := ⟨0x08, 0x0EC, 3, 2, .RO, 0⟩
/-- RING_SKIPS.COUNT (R217). -/
def RING_SKIPS_COUNT : Fld := ⟨0x08, 0x0F0, 0, 32, .RO, 0⟩
/-- RING_HELD.COUNT (R217). -/
def RING_HELD_COUNT : Fld := ⟨0x08, 0x0F4, 0, 32, .RO, 0⟩
/-- TICK_BOUND.IN_USE (R217). -/
def TICK_BOUND_IN_USE : Fld := ⟨0x08, 0x0F8, 0, 11, .RO, 0⟩
/-- LG_STAT.FAIL (R389). -/
def LG_STAT_FAIL : Fld := ⟨0x08, 0x100, 0, 1, .RO, 0⟩
/-- LG_STAT.UNPROT (R389). -/
def LG_STAT_UNPROT : Fld := ⟨0x08, 0x100, 1, 1, .RO, 0⟩
/-- LG_STAT.SNAP_BUSY (R389). -/
def LG_STAT_SNAP_BUSY : Fld := ⟨0x08, 0x100, 2, 1, .RO, 0⟩
/-- LG_STAT.SNAP_VALID (R389). -/
def LG_STAT_SNAP_VALID : Fld := ⟨0x08, 0x100, 3, 1, .RO, 0⟩
/-- LG_STAT.HELD (R389). -/
def LG_STAT_HELD : Fld := ⟨0x08, 0x100, 4, 1, .RO, 0⟩
/-- LG_STAT.ORIG (R389). -/
def LG_STAT_ORIG : Fld := ⟨0x08, 0x100, 16, 12, .RO, 0⟩
/-- LG_WIN.WIN (R389). -/
def LG_WIN_WIN : Fld := ⟨0x08, 0x104, 0, 32, .RO, 0⟩
/-- LG_SNAPNO.NUM (R389). -/
def LG_SNAPNO_NUM : Fld := ⟨0x08, 0x108, 0, 32, .RO, 0⟩
/-- LG_DELTA.KIB (R389). -/
def LG_DELTA_KIB : Fld := ⟨0x08, 0x10C, 0, 24, .RO, 0⟩
/-- LG_HOLD.COUNT (R389). -/
def LG_HOLD_COUNT : Fld := ⟨0x08, 0x110, 0, 32, .RO, 0⟩
/-- LG_LAG.LAST (R389). -/
def LG_LAG_LAST : Fld := ⟨0x08, 0x114, 0, 16, .RO, 0⟩
/-- LG_LAG.HIGH (R389). -/
def LG_LAG_HIGH : Fld := ⟨0x08, 0x114, 16, 16, .WC, 0⟩
/-- REC_STAT.PHASE (R389). -/
def REC_STAT_PHASE : Fld := ⟨0x08, 0x118, 0, 3, .RO, 0⟩
/-- REC_STAT.FAILED (R389). -/
def REC_STAT_FAILED : Fld := ⟨0x08, 0x118, 3, 1, .RO, 0⟩
/-- REC_STAT.STN_RECS (R389). -/
def REC_STAT_STN_RECS : Fld := ⟨0x08, 0x118, 4, 16, .RO, 0⟩
/-- REC_STAT.HALT_RECS (R389). -/
def REC_STAT_HALT_RECS : Fld := ⟨0x08, 0x118, 20, 12, .RO, 0⟩
/-- REC_TIME.TIME (R389). -/
def REC_TIME_TIME : Fld := ⟨0x08, 0x11C, 0, 32, .RO, 0⟩
/-- REC_REPLAY.APPLIED (R389). -/
def REC_REPLAY_APPLIED : Fld := ⟨0x08, 0x120, 0, 16, .RO, 0⟩
/-- REC_REPLAY.DISCARDED (R389). -/
def REC_REPLAY_DISCARDED : Fld := ⟨0x08, 0x120, 16, 16, .RO, 0⟩
/-- REC_LOST.LOST (R389). -/
def REC_LOST_LOST : Fld := ⟨0x08, 0x124, 0, 16, .RO, 0⟩
/-- REC_LOST.FAULTED (R389). -/
def REC_LOST_FAULTED : Fld := ⟨0x08, 0x124, 16, 16, .RO, 0⟩

/-- HALT_ID.HALT (R34). -/
def HALT_ID_HALT : Fld := ⟨0x18, 0x040, 0, 4, .RO, 0⟩
/-- HALT_ID.STN (R34). -/
def HALT_ID_STN : Fld := ⟨0x18, 0x040, 4, 2, .RO, 0⟩
/-- HALT_ID.VALID (R34). -/
def HALT_ID_VALID : Fld := ⟨0x18, 0x040, 6, 1, .RO, 0⟩
/-- HALT_SUPV_SEL.CORE (R100). -/
def HALT_SUPV_SEL_CORE : Fld := ⟨0x18, 0x048, 0, 4, .RW, 0⟩
/-- HALT_SUPV.MASK (R100). -/
def HALT_SUPV_MASK : Fld := ⟨0x18, 0x04C, 0, 24, .RW, 0⟩
/-- HALT_REJ.RSVD_TAG (R101). -/
def HALT_REJ_RSVD_TAG : Fld := ⟨0x18, 0x050, 0, 8, .WC, 0⟩
/-- HALT_REJ.RSVD_OP (R101). -/
def HALT_REJ_RSVD_OP : Fld := ⟨0x18, 0x050, 8, 8, .WC, 0⟩
/-- HALT_REJ.SUPV (R101). -/
def HALT_REJ_SUPV : Fld := ⟨0x18, 0x050, 16, 8, .WC, 0⟩
/-- HALT_REJ.BATCH (R101). -/
def HALT_REJ_BATCH : Fld := ⟨0x18, 0x050, 24, 8, .WC, 0⟩
/-- HALT_PERR.COUNT (R102). -/
def HALT_PERR_COUNT : Fld := ⟨0x18, 0x054, 0, 16, .RO, 0⟩
/-- HALT_PERR.LAST (R102). -/
def HALT_PERR_LAST : Fld := ⟨0x18, 0x054, 16, 4, .RO, 0⟩
/-- HALT_PERR.QTAG (R102). -/
def HALT_PERR_QTAG : Fld := ⟨0x18, 0x054, 20, 5, .RO, 0⟩
/-- HALT_PERR.CORE (R102). -/
def HALT_PERR_CORE : Fld := ⟨0x18, 0x054, 25, 4, .RO, 0⟩
/-- HALT_PERR.CLR (R102). -/
def HALT_PERR_CLR : Fld := ⟨0x18, 0x054, 29, 1, .W1S, 0⟩
/-- HALT_WAITS.NATIVE (R103). -/
def HALT_WAITS_NATIVE : Fld := ⟨0x18, 0x058, 0, 9, .RO, 0⟩
/-- HALT_WAITS.SIDED (R103). -/
def HALT_WAITS_SIDED : Fld := ⟨0x18, 0x058, 9, 6, .RO, 0⟩
/-- HALT_WAITS.NO_SIDING (R103). -/
def HALT_WAITS_NO_SIDING : Fld := ⟨0x18, 0x058, 15, 16, .RO, 0⟩
/-- HALT_WAITS.WATCH_RETRY (R103). -/
def HALT_WAITS_WATCH_RETRY : Fld := ⟨0x18, 0x058, 31, 1, .RO, 0⟩
/-- HALT_GANG.D (R134). -/
def HALT_GANG_D : Fld := ⟨0x18, 0x060, 0, 3, .RO, 0⟩
/-- HALT_GANG.EQ (R134). -/
def HALT_GANG_EQ : Fld := ⟨0x18, 0x060, 3, 3, .RO, 0⟩
/-- HALT_GANG.CAL_OK (R134). -/
def HALT_GANG_CAL_OK : Fld := ⟨0x18, 0x060, 6, 1, .RO, 0⟩
/-- HALT_GANG.SLIP_IGN (R134). -/
def HALT_GANG_SLIP_IGN : Fld := ⟨0x18, 0x060, 8, 8, .RO, 0⟩
/-- HALT_GANG.SLIP_ZERO (R134). -/
def HALT_GANG_SLIP_ZERO : Fld := ⟨0x18, 0x060, 16, 8, .RO, 0⟩
/-- HALT_GANG.CLR (R134). -/
def HALT_GANG_CLR : Fld := ⟨0x18, 0x060, 31, 1, .W1S, 0⟩
/-- HALT_TICK.WINDOW (R203). -/
def HALT_TICK_WINDOW : Fld := ⟨0x18, 0x068, 0, 4, .RW, 4⟩
/-- HALT_TICK.BATCHES (R203). -/
def HALT_TICK_BATCHES : Fld := ⟨0x18, 0x068, 4, 16, .RO, 0⟩
/-- HALT_TICK.LOST (R203). -/
def HALT_TICK_LOST : Fld := ⟨0x18, 0x068, 20, 8, .RO, 0⟩
/-- HALT_TICK.CLR (R203). -/
def HALT_TICK_CLR : Fld := ⟨0x18, 0x068, 31, 1, .W1S, 0⟩
/-- HALT_TICK_MEMB.MEMBERS (R203). -/
def HALT_TICK_MEMB_MEMBERS : Fld := ⟨0x18, 0x06C, 0, 32, .RO, 0⟩
/-- HS_IDX.IDX (R250). -/
def HS_IDX_IDX : Fld := ⟨0x18, 0x080, 0, 4, .RW, 0⟩
/-- HS_WORD.WORD (R250). -/
def HS_WORD_WORD : Fld := ⟨0x18, 0x084, 0, 32, .RW, 0⟩
/-- HS_ENT.ENTRY (R250). -/
def HS_ENT_ENTRY : Fld := ⟨0x18, 0x088, 0, 4, .RW, 0⟩
/-- HS_ENT.RETRY (R250). -/
def HS_ENT_RETRY : Fld := ⟨0x18, 0x088, 4, 4, .RW, 0⟩
/-- HS_ENT.RETRY_V (R250). -/
def HS_ENT_RETRY_V : Fld := ⟨0x18, 0x088, 8, 1, .RW, 0⟩
/-- HS_ENT.PAV (R250). -/
def HS_ENT_PAV : Fld := ⟨0x18, 0x088, 9, 6, .RW, 0⟩
/-- HS_ENT.TRIG_V (R250). -/
def HS_ENT_TRIG_V : Fld := ⟨0x18, 0x088, 15, 1, .RW, 0⟩
/-- HS_TRIG.HANDLE (R250). -/
def HS_TRIG_HANDLE : Fld := ⟨0x18, 0x08C, 0, 20, .RW, 0⟩
/-- HS_STEP.STEP (R250). -/
def HS_STEP_STEP : Fld := ⟨0x18, 0x090, 0, 32, .RW, 0⟩
/-- HS_CTL.ARM (R250). -/
def HS_CTL_ARM : Fld := ⟨0x18, 0x094, 0, 1, .W1S, 0⟩
/-- HS_CTL.STOP (R250). -/
def HS_CTL_STOP : Fld := ⟨0x18, 0x094, 1, 1, .W1S, 0⟩
/-- HS_CTL.CLEAR (R250). -/
def HS_CTL_CLEAR : Fld := ⟨0x18, 0x094, 2, 1, .W1S, 0⟩
/-- HS_CTL.STATE (R250). -/
def HS_CTL_STATE : Fld := ⟨0x18, 0x094, 3, 3, .RO, 0⟩
/-- HS_CTL.PC (R250). -/
def HS_CTL_PC : Fld := ⟨0x18, 0x094, 6, 4, .RO, 0⟩
/-- HS_CTL.STATUS (R250). -/
def HS_CTL_STATUS : Fld := ⟨0x18, 0x094, 10, 4, .RO, 0⟩
/-- HS_CTL.CAUSE (R250). -/
def HS_CTL_CAUSE : Fld := ⟨0x18, 0x094, 14, 4, .RO, 0⟩
/-- HS_CTL.TCODE (R250). -/
def HS_CTL_TCODE : Fld := ⟨0x18, 0x094, 18, 8, .RO, 0⟩
/-- HS_CTL.REFUSED (R250). -/
def HS_CTL_REFUSED : Fld := ⟨0x18, 0x094, 26, 5, .RO, 0⟩
/-- HS_REG_SEL.REG (R250). -/
def HS_REG_SEL_REG : Fld := ⟨0x18, 0x098, 0, 3, .RW, 0⟩
/-- HS_REG_LO.VAL (R250). -/
def HS_REG_LO_VAL : Fld := ⟨0x18, 0x09C, 0, 32, .RW, 0⟩
/-- HS_REG_HI.VAL (R250). -/
def HS_REG_HI_VAL : Fld := ⟨0x18, 0x0A0, 0, 32, .RW, 0⟩

/-- RUN_CMD.PAV (R53). -/
def RUN_CMD_PAV : Fld := ⟨0x03, 0x0E0, 0, 6, .RW, 0⟩
/-- RUN_CMD.OPEN (R53). -/
def RUN_CMD_OPEN : Fld := ⟨0x03, 0x0E0, 8, 1, .W1S, 0⟩
/-- RUN_CMD.CLOSE (R53). -/
def RUN_CMD_CLOSE : Fld := ⟨0x03, 0x0E0, 9, 1, .W1S, 0⟩
/-- RUN_CMD.FORCE (R53). -/
def RUN_CMD_FORCE : Fld := ⟨0x03, 0x0E0, 10, 1, .RW, 0⟩
/-- RUN_CMD.BUSY (R53). -/
def RUN_CMD_BUSY : Fld := ⟨0x03, 0x0E0, 31, 1, .RO, 0⟩
/-- RUN_STAT.RUN (R54). -/
def RUN_STAT_RUN : Fld := ⟨0x03, 0x0E4, 0, 16, .RO, 0⟩
/-- RUN_STAT.OPEN (R54). -/
def RUN_STAT_OPEN : Fld := ⟨0x03, 0x0E4, 16, 1, .RO, 0⟩
/-- RUN_STAT.ERR (R54). -/
def RUN_STAT_ERR : Fld := ⟨0x03, 0x0E4, 17, 1, .RO, 0⟩
/-- RUN_STAT.CODE (R54). -/
def RUN_STAT_CODE : Fld := ⟨0x03, 0x0E4, 18, 2, .RO, 0⟩
/-- CTX_PAV.PAV (R58). -/
def CTX_PAV_PAV : Fld := ⟨0x03, 0x0EC, 0, 6, .RW, 0⟩
/-- CTX_RANGE.MAP_OFF (R58). -/
def CTX_RANGE_MAP_OFF : Fld := ⟨0x03, 0x0F0, 0, 16, .RW, 0⟩
/-- CTX_RANGE.COUNT (R58). -/
def CTX_RANGE_COUNT : Fld := ⟨0x03, 0x0F0, 16, 13, .RW, 0⟩
/-- CTX_ADDR_LO.ADDR (R58). -/
def CTX_ADDR_LO_ADDR : Fld := ⟨0x03, 0x0F4, 6, 26, .RW, 0⟩
/-- CTX_ADDR_HI.ADDR (R58). -/
def CTX_ADDR_HI_ADDR : Fld := ⟨0x03, 0x0F8, 0, 32, .RW, 0⟩
/-- CTX_GO.SAVE (R58). -/
def CTX_GO_SAVE : Fld := ⟨0x03, 0x0FC, 0, 1, .W1S, 0⟩
/-- CTX_GO.RESTORE (R58). -/
def CTX_GO_RESTORE : Fld := ⟨0x03, 0x0FC, 1, 1, .W1S, 0⟩
/-- CTX_GO.CLOSE (R58). -/
def CTX_GO_CLOSE : Fld := ⟨0x03, 0x0FC, 2, 1, .W1S, 0⟩
/-- CTX_GO.BUSY (R58). -/
def CTX_GO_BUSY : Fld := ⟨0x03, 0x0FC, 8, 1, .RO, 0⟩
/-- CTX_GO.ERR (R58). -/
def CTX_GO_ERR : Fld := ⟨0x03, 0x0FC, 9, 1, .RO, 0⟩
/-- CTX_GO.CODE (R58). -/
def CTX_GO_CODE : Fld := ⟨0x03, 0x0FC, 10, 4, .RO, 0⟩
/-- HM_WIN_SEL.PAV (R68). -/
def HM_WIN_SEL_PAV : Fld := ⟨0x03, 0x0C0, 0, 6, .RW, 0⟩
/-- HM_WIN.BASE_G (R68). -/
def HM_WIN_BASE_G : Fld := ⟨0x03, 0x0C4, 0, 10, .RW2, 0⟩
/-- HM_WIN.SIZE_G (R68). -/
def HM_WIN_SIZE_G : Fld := ⟨0x03, 0x0C4, 10, 11, .RW2, 0⟩
/-- HM_PW.PW (R68). -/
def HM_PW_PW : Fld := ⟨0x03, 0x0C8, 0, 17, .RW2, 0⟩
/-- HM_IDX.IDX (R68). -/
def HM_IDX_IDX : Fld := ⟨0x03, 0x0D0, 0, 16, .RW, 0⟩
/-- HM_IDX.INC (R68). -/
def HM_IDX_INC : Fld := ⟨0x03, 0x0D0, 16, 1, .RW, 0⟩
/-- HM_DATA.ENTRY (R68). -/
def HM_DATA_ENTRY : Fld := ⟨0x03, 0x0D4, 0, 32, .RW, 0⟩
/-- HM_STAT.BUSY (R68). -/
def HM_STAT_BUSY : Fld := ⟨0x03, 0x0D8, 0, 1, .RO, 0⟩
/-- WAIT_SEL.PAV (R93). -/
def WAIT_SEL_PAV : Fld := ⟨0x03, 0x100, 0, 6, .RW, 0⟩
/-- WAIT_CFG.LUISK (R93). -/
def WAIT_CFG_LUISK : Fld := ⟨0x03, 0x104, 0, 1, .RW, 0⟩
/-- WAIT_CFG.LIMIT (R93). -/
def WAIT_CFG_LIMIT : Fld := ⟨0x03, 0x104, 10, 22, .RW, 2097152⟩
/-- SEMR_SEL.STN (R137). -/
def SEMR_SEL_STN : Fld := ⟨0x03, 0x110, 0, 2, .RW, 0⟩
/-- SEMR_SEL.GROUP (R137). -/
def SEMR_SEL_GROUP : Fld := ⟨0x03, 0x110, 2, 6, .RW, 0⟩
/-- SEMR_SEL.PAV (R137). -/
def SEMR_SEL_PAV : Fld := ⟨0x03, 0x110, 8, 6, .RW, 0⟩
/-- SEMR.RIGHTS (R137). -/
def SEMR_RIGHTS : Fld := ⟨0x03, 0x114, 0, 4, .RW2, 0⟩
/-- LOCK_CFG.INH (R146). -/
def LOCK_CFG_INH : Fld := ⟨0x03, 0x108, 0, 1, .RW, 1⟩
/-- LOCK_CFG.LIMIT (R146). -/
def LOCK_CFG_LIMIT : Fld := ⟨0x03, 0x108, 10, 22, .RW, 2048⟩
/-- ORPH_ID.HOLDER (R157). -/
def ORPH_ID_HOLDER : Fld := ⟨0x03, 0x118, 0, 24, .RW, 0⟩
/-- ORPH_ID.PAV (R157). -/
def ORPH_ID_PAV : Fld := ⟨0x03, 0x118, 24, 6, .RW, 0⟩
/-- ORPH_ID.ANY (R157). -/
def ORPH_ID_ANY : Fld := ⟨0x03, 0x118, 30, 1, .RW, 0⟩
/-- ORPH_CTL.GO (R157). -/
def ORPH_CTL_GO : Fld := ⟨0x03, 0x11C, 0, 1, .W1S, 0⟩
/-- ORPH_CTL.BUSY (R157). -/
def ORPH_CTL_BUSY : Fld := ⟨0x03, 0x11C, 1, 1, .RO, 0⟩
/-- ORPH_CTL.COUNT (R157). -/
def ORPH_CTL_COUNT : Fld := ⟨0x03, 0x11C, 16, 15, .RO, 0⟩
/-- PAV_SEL.PAV (R336). -/
def PAV_SEL_PAV : Fld := ⟨0x03, 0x040, 0, 6, .RW, 0⟩
/-- PAV_CMD.FREEZE (R336). -/
def PAV_CMD_FREEZE : Fld := ⟨0x03, 0x044, 0, 1, .W1S, 0⟩
/-- PAV_CMD.THAW (R336). -/
def PAV_CMD_THAW : Fld := ⟨0x03, 0x044, 1, 1, .W1S, 0⟩
/-- PAV_CMD.SAVE (R336). -/
def PAV_CMD_SAVE : Fld := ⟨0x03, 0x044, 2, 1, .W1S, 0⟩
/-- PAV_CMD.RESTORE (R336). -/
def PAV_CMD_RESTORE : Fld := ⟨0x03, 0x044, 3, 1, .W1S, 0⟩
/-- PAV_CMD.RESET (R336). -/
def PAV_CMD_RESET : Fld := ⟨0x03, 0x044, 4, 1, .W1S, 0⟩
/-- PAV_CMD.EVICT (R336). -/
def PAV_CMD_EVICT : Fld := ⟨0x03, 0x044, 5, 1, .W1S, 0⟩
/-- PAV_CMD.KEEP_HOLDERS (R336). -/
def PAV_CMD_KEEP_HOLDERS : Fld := ⟨0x03, 0x044, 6, 1, .RW, 0⟩
/-- PAV_CMD.BUSY (R336). -/
def PAV_CMD_BUSY : Fld := ⟨0x03, 0x044, 31, 1, .RO, 0⟩
/-- PAV_STAT.STATE (R336). -/
def PAV_STAT_STATE : Fld := ⟨0x03, 0x048, 0, 3, .RO, 0⟩
/-- PAV_STAT.GEN (R336). -/
def PAV_STAT_GEN : Fld := ⟨0x03, 0x048, 3, 8, .RO, 0⟩
/-- PAV_STAT.ERR (R336). -/
def PAV_STAT_ERR : Fld := ⟨0x03, 0x048, 11, 1, .RO, 0⟩
/-- PAV_STAT.CODE (R336). -/
def PAV_STAT_CODE : Fld := ⟨0x03, 0x048, 12, 4, .RO, 0⟩
/-- PAV_STAT.SLOW (R336). -/
def PAV_STAT_SLOW : Fld := ⟨0x03, 0x048, 16, 1, .W1C, 0⟩
/-- PAV_STAT.STALE (R336). -/
def PAV_STAT_STALE : Fld := ⟨0x03, 0x048, 17, 1, .RO, 0⟩
/-- PAV_LATE.COUNT (R336). -/
def PAV_LATE_COUNT : Fld := ⟨0x03, 0x04C, 0, 32, .RO, 0⟩
/-- PAV_DRAIN_LIMIT.LIMIT (R336). -/
def PAV_DRAIN_LIMIT_LIMIT : Fld := ⟨0x03, 0x050, 0, 32, .RW, 65536⟩
/-- PAV_HELD.HALTS (R336). -/
def PAV_HELD_HALTS : Fld := ⟨0x03, 0x054, 0, 16, .RO, 0⟩
/-- PAV_HELD.PARKED (R336). -/
def PAV_HELD_PARKED : Fld := ⟨0x03, 0x054, 16, 16, .RO, 0⟩
/-- PAV_IMG_LO.ADDR (R336). -/
def PAV_IMG_LO_ADDR : Fld := ⟨0x03, 0x058, 6, 26, .RW, 0⟩
/-- PAV_IMG_HI.ADDR (R336). -/
def PAV_IMG_HI_ADDR : Fld := ⟨0x03, 0x05C, 0, 32, .RW, 0⟩
/-- PAV_IMG_LEN.LEN (R336). -/
def PAV_IMG_LEN_LEN : Fld := ⟨0x03, 0x060, 0, 32, .RW, 0⟩
/-- PAV_IMG_NEED.LEN (R336). -/
def PAV_IMG_NEED_LEN : Fld := ⟨0x03, 0x064, 0, 32, .RO, 0⟩
/-- PAV_REMAP_LO.ADDR (R336). -/
def PAV_REMAP_LO_ADDR : Fld := ⟨0x03, 0x068, 3, 29, .RW, 0⟩
/-- PAV_REMAP_HI.ADDR (R336). -/
def PAV_REMAP_HI_ADDR : Fld := ⟨0x03, 0x06C, 0, 32, .RW, 0⟩
/-- PAV_REMAP_N.N (R336). -/
def PAV_REMAP_N_N : Fld := ⟨0x03, 0x070, 0, 17, .RO, 0⟩
/-- PAV_CTXL_DELTA.DELTA (R336). -/
def PAV_CTXL_DELTA_DELTA : Fld := ⟨0x03, 0x074, 0, 16, .RO, 0⟩
/-- PQ_OBJ.OBJ (R336). -/
def PQ_OBJ_OBJ : Fld := ⟨0x03, 0x080, 0, 15, .RW2, 16384⟩
/-- PQ_FOLD.LINES (R336). -/
def PQ_FOLD_LINES : Fld := ⟨0x03, 0x084, 0, 16, .RW2, 32768⟩
/-- PQ_RES.TS (R336). -/
def PQ_RES_TS : Fld := ⟨0x03, 0x088, 0, 7, .RW2, 64⟩
/-- PQ_RES.MLQ (R336). -/
def PQ_RES_MLQ : Fld := ⟨0x03, 0x088, 7, 11, .RW2, 1024⟩
/-- PQ_RES.GANG (R336). -/
def PQ_RES_GANG : Fld := ⟨0x03, 0x088, 18, 6, .RW2, 32⟩
/-- PQ_USE_SEL.STN (R336). -/
def PQ_USE_SEL_STN : Fld := ⟨0x03, 0x08C, 0, 2, .RW, 0⟩
/-- PQ_USE.OBJ (R336). -/
def PQ_USE_OBJ : Fld := ⟨0x03, 0x090, 0, 15, .RO, 0⟩
/-- PQ_USE.LINES (R336). -/
def PQ_USE_LINES : Fld := ⟨0x03, 0x090, 15, 16, .RO, 0⟩
/-- PQ_USE2.TS (R336). -/
def PQ_USE2_TS : Fld := ⟨0x03, 0x094, 0, 7, .RO, 0⟩
/-- PQ_USE2.MLQ (R336). -/
def PQ_USE2_MLQ : Fld := ⟨0x03, 0x094, 7, 11, .RO, 0⟩
/-- PQ_USE2.GANG (R336). -/
def PQ_USE2_GANG : Fld := ⟨0x03, 0x094, 18, 6, .RO, 0⟩
/-- MB_SUM_LO.PEND (R336). -/
def MB_SUM_LO_PEND : Fld := ⟨0x03, 0x0A0, 0, 32, .RO, 0⟩
/-- MB_SUM_HI.PEND (R336). -/
def MB_SUM_HI_PEND : Fld := ⟨0x03, 0x0A4, 0, 32, .RO, 0⟩
/-- TP_PROPOSE.SEQ (R337). -/
def TP_PROPOSE_SEQ : Fld := ⟨0x03, 0x120, 0, 16, .RW, 0⟩
/-- TP_PROPOSE.GO (R337). -/
def TP_PROPOSE_GO : Fld := ⟨0x03, 0x120, 16, 1, .W1S, 0⟩
/-- TP_PROPOSE.ABORT (R337). -/
def TP_PROPOSE_ABORT : Fld := ⟨0x03, 0x120, 17, 1, .W1S, 0⟩
/-- TP_CONFIRM.SEQ (R337). -/
def TP_CONFIRM_SEQ : Fld := ⟨0x03, 0x124, 0, 16, .WO, 0⟩
/-- TP_STAT.LAST_SEQ (R337). -/
def TP_STAT_LAST_SEQ : Fld := ⟨0x03, 0x128, 0, 16, .RO, 0⟩
/-- TP_STAT.STATE (R337). -/
def TP_STAT_STATE : Fld := ⟨0x03, 0x128, 16, 2, .RO, 0⟩
/-- TP_STAT.RESULT (R337). -/
def TP_STAT_RESULT : Fld := ⟨0x03, 0x128, 18, 3, .RO, 0⟩
/-- TP_STAT.STAGED (R337). -/
def TP_STAT_STAGED : Fld := ⟨0x03, 0x128, 21, 6, .RO, 0⟩
/-- TP_STAT.FULL (R337). -/
def TP_STAT_FULL : Fld := ⟨0x03, 0x128, 27, 1, .W1C, 0⟩
/-- TP_STAT.FORGED (R337). -/
def TP_STAT_FORGED : Fld := ⟨0x03, 0x128, 28, 1, .W1C, 0⟩
/-- TP_WINDOW.FCLK (R337). -/
def TP_WINDOW_FCLK : Fld := ⟨0x03, 0x12C, 0, 32, .RW2, 16777216⟩
/-- TP_LIST_IDX.IDX (R337). -/
def TP_LIST_IDX_IDX : Fld := ⟨0x03, 0x130, 0, 5, .RW, 0⟩
/-- TP_LIST_ADDR.PAGE (R337). -/
def TP_LIST_ADDR_PAGE : Fld := ⟨0x03, 0x134, 0, 7, .RO, 0⟩
/-- TP_LIST_ADDR.OFFSET (R337). -/
def TP_LIST_ADDR_OFFSET : Fld := ⟨0x03, 0x134, 7, 12, .RO, 0⟩
/-- TP_LIST_ADDR.V (R337). -/
def TP_LIST_ADDR_V : Fld := ⟨0x03, 0x134, 19, 1, .RO, 0⟩
/-- TP_LIST_DATA.DATA (R337). -/
def TP_LIST_DATA_DATA : Fld := ⟨0x03, 0x138, 0, 32, .RO, 0⟩
/-- TP_LEFT.FCLK (R337). -/
def TP_LEFT_FCLK : Fld := ⟨0x03, 0x13C, 0, 32, .RO, 0⟩
/-- TP_LIST_SEL.SEL (R337). -/
def TP_LIST_SEL_SEL : Fld := ⟨0x03, 0x140, 0, 16, .RO, 0⟩

/-- FR_SEL.PON (R191). -/
def FR_SEL_PON : Fld := ⟨0x0C, 0x040, 0, 14, .RW, 0⟩
/-- FR_CFG.OP (R191). -/
def FR_CFG_OP : Fld := ⟨0x0C, 0x044, 0, 3, .RW, 0⟩
/-- FR_CFG.IN_FMT (R191). -/
def FR_CFG_IN_FMT : Fld := ⟨0x0C, 0x044, 3, 4, .RW, 0⟩
/-- FR_CFG.OUT_FMT (R191). -/
def FR_CFG_OUT_FMT : Fld := ⟨0x0C, 0x044, 7, 4, .RW, 0⟩
/-- FR_CFG.WIDE (R191). -/
def FR_CFG_WIDE : Fld := ⟨0x0C, 0x044, 11, 1, .RW, 0⟩
/-- FR_CFG.DOUBLE (R191). -/
def FR_CFG_DOUBLE : Fld := ⟨0x0C, 0x044, 12, 1, .RW, 0⟩
/-- FR_CFG.SAT (R191). -/
def FR_CFG_SAT : Fld := ⟨0x0C, 0x044, 13, 1, .RW, 0⟩
/-- FR_LANES.LANES (R191). -/
def FR_LANES_LANES : Fld := ⟨0x0C, 0x048, 0, 17, .RW, 0⟩
/-- FR_TARGET.TARGET (R191). -/
def FR_TARGET_TARGET : Fld := ⟨0x0C, 0x04C, 0, 32, .RW, 0⟩
/-- FR_RES_LO.ADDR (R191). -/
def FR_RES_LO_ADDR : Fld := ⟨0x0C, 0x050, 3, 29, .RW, 0⟩
/-- FR_RES_HI.ADDR (R191). -/
def FR_RES_HI_ADDR : Fld := ⟨0x0C, 0x054, 0, 32, .RW, 0⟩
/-- FR_CTL.APPLY (R191). -/
def FR_CTL_APPLY : Fld := ⟨0x0C, 0x058, 0, 1, .W1S, 0⟩
/-- FR_CTL.BUSY (R191). -/
def FR_CTL_BUSY : Fld := ⟨0x0C, 0x058, 1, 1, .RO, 0⟩
/-- FR_CTL.ERR (R191). -/
def FR_CTL_ERR : Fld := ⟨0x0C, 0x058, 2, 1, .RO, 0⟩
/-- FR_CTL.CODE (R191). -/
def FR_CTL_CODE : Fld := ⟨0x0C, 0x058, 3, 3, .RO, 0⟩
/-- FR_STAT.ROUND (R191). -/
def FR_STAT_ROUND : Fld := ⟨0x0C, 0x05C, 0, 8, .RO, 0⟩
/-- FR_STAT.V (R191). -/
def FR_STAT_V : Fld := ⟨0x0C, 0x05C, 8, 1, .RO, 0⟩
/-- FR_STAT.REL (R191). -/
def FR_STAT_REL : Fld := ⟨0x0C, 0x05C, 9, 1, .RO, 0⟩
/-- FR_STAT.OVF (R191). -/
def FR_STAT_OVF : Fld := ⟨0x0C, 0x05C, 10, 1, .W1C, 0⟩
/-- FR_STAT.NAN_IN (R191). -/
def FR_STAT_NAN_IN : Fld := ⟨0x0C, 0x05C, 11, 1, .W1C, 0⟩
/-- FR_STAT.INF_CLASH (R191). -/
def FR_STAT_INF_CLASH : Fld := ⟨0x0C, 0x05C, 12, 1, .W1C, 0⟩
/-- FR_STAT.RND_OVF (R191). -/
def FR_STAT_RND_OVF : Fld := ⟨0x0C, 0x05C, 13, 1, .W1C, 0⟩
/-- FR_STAT.SATD (R191). -/
def FR_STAT_SATD : Fld := ⟨0x0C, 0x05C, 14, 1, .W1C, 0⟩
/-- FR_STAT.EMPTY (R191). -/
def FR_STAT_EMPTY : Fld := ⟨0x0C, 0x05C, 15, 1, .W1C, 0⟩
/-- FR_STAT.FAULT_RND (R191). -/
def FR_STAT_FAULT_RND : Fld := ⟨0x0C, 0x05C, 16, 8, .RO, 0⟩
/-- FR_STAT.FAULT_N (R191). -/
def FR_STAT_FAULT_N : Fld := ⟨0x0C, 0x05C, 24, 2, .RO, 0⟩
/-- FR_ARR.ARR (R191). -/
def FR_ARR_ARR : Fld := ⟨0x0C, 0x060, 0, 32, .RO, 0⟩
/-- FR_ANN.ANN (R191). -/
def FR_ANN_ANN : Fld := ⟨0x0C, 0x064, 0, 32, .RO, 0⟩
/-- FR_BEATS.BEATS (R191). -/
def FR_BEATS_BEATS : Fld := ⟨0x0C, 0x068, 0, 32, .RO, 0⟩
/-- FR_RESULT_LO.RESULT (R191). -/
def FR_RESULT_LO_RESULT : Fld := ⟨0x0C, 0x06C, 0, 32, .RO, 0⟩
/-- FR_RESULT_HI.RESULT (R191). -/
def FR_RESULT_HI_RESULT : Fld := ⟨0x0C, 0x070, 0, 32, .RO, 0⟩
/-- FOLD_LINES.FREE (R191). -/
def FOLD_LINES_FREE : Fld := ⟨0x0C, 0x080, 0, 16, .RO, 32768⟩
/-- FOLD_STALL.COUNT (R191). -/
def FOLD_STALL_COUNT : Fld := ⟨0x0C, 0x084, 0, 32, .RO, 0⟩
/-- FOLD_REJ.COUNT (R191). -/
def FOLD_REJ_COUNT : Fld := ⟨0x0C, 0x088, 0, 32, .RO, 0⟩

/-- SB_PW_IDX.IDX (R249). -/
def SB_PW_IDX_IDX : Fld := ⟨0x10, 0x040, 0, 12, .RW, 0⟩
/-- SB_PW_IDX.INC (R249). -/
def SB_PW_IDX_INC : Fld := ⟨0x10, 0x040, 12, 1, .RW, 0⟩
/-- SB_PW_DATA.WORD (R249). -/
def SB_PW_DATA_WORD : Fld := ⟨0x10, 0x044, 0, 32, .RW, 0⟩
/-- SB_PW_REF.COUNT (R249). -/
def SB_PW_REF_COUNT : Fld := ⟨0x10, 0x048, 0, 16, .RO, 0⟩
/-- SB_PW_REF.LAST (R249). -/
def SB_PW_REF_LAST : Fld := ⟨0x10, 0x048, 16, 12, .RO, 0⟩
/-- SB_PW_REF.CLR (R249). -/
def SB_PW_REF_CLR : Fld := ⟨0x10, 0x048, 31, 1, .W1S, 0⟩
/-- SB_DB_SEL.IDX (R249). -/
def SB_DB_SEL_IDX : Fld := ⟨0x10, 0x050, 0, 6, .RW, 0⟩
/-- SB_DB_LO.ADDR (R249). -/
def SB_DB_LO_ADDR : Fld := ⟨0x10, 0x054, 3, 29, .RW, 0⟩
/-- SB_DB_HI.ADDR (R249). -/
def SB_DB_HI_ADDR : Fld := ⟨0x10, 0x058, 0, 32, .RW, 0⟩
/-- SB_DB_CFG.PAV (R249). -/
def SB_DB_CFG_PAV : Fld := ⟨0x10, 0x05C, 0, 6, .RW, 0⟩
/-- SB_DB_CFG.V (R249). -/
def SB_DB_CFG_V : Fld := ⟨0x10, 0x05C, 6, 1, .RW, 0⟩
/-- SB_AT_SEL.IDX (R249). -/
def SB_AT_SEL_IDX : Fld := ⟨0x10, 0x060, 0, 8, .RW, 0⟩
/-- SB_AT.ADDR (R249). -/
def SB_AT_ADDR : Fld := ⟨0x10, 0x064, 0, 25, .RW, 0⟩
/-- SB_AT.PAV (R249). -/
def SB_AT_PAV : Fld := ⟨0x10, 0x064, 25, 6, .RW, 0⟩
/-- SB_AT.V (R249). -/
def SB_AT_V : Fld := ⟨0x10, 0x064, 31, 1, .RW, 0⟩
/-- THR_SEL.THR (R249). -/
def THR_SEL_THR : Fld := ⟨0x10, 0x080, 0, 4, .RW, 0⟩
/-- THR_CTL.ARM (R249). -/
def THR_CTL_ARM : Fld := ⟨0x10, 0x084, 0, 1, .W1S, 0⟩
/-- THR_CTL.STOP (R249). -/
def THR_CTL_STOP : Fld := ⟨0x10, 0x084, 1, 1, .W1S, 0⟩
/-- THR_CTL.CLEAR (R249). -/
def THR_CTL_CLEAR : Fld := ⟨0x10, 0x084, 2, 1, .W1S, 0⟩
/-- THR_CTL.ERR (R249). -/
def THR_CTL_ERR : Fld := ⟨0x10, 0x084, 3, 1, .RO, 0⟩
/-- THR_CTL.CODE (R249). -/
def THR_CTL_CODE : Fld := ⟨0x10, 0x084, 4, 2, .RO, 0⟩
/-- THR_CTL.REFUSED (R249). -/
def THR_CTL_REFUSED : Fld := ⟨0x10, 0x084, 6, 1, .W1C, 0⟩
/-- THR_STAT.STATE (R249). -/
def THR_STAT_STATE : Fld := ⟨0x10, 0x088, 0, 3, .RO, 0⟩
/-- THR_STAT.PC (R249). -/
def THR_STAT_PC : Fld := ⟨0x10, 0x088, 3, 12, .RO, 0⟩
/-- THR_STAT.STATUS (R249). -/
def THR_STAT_STATUS : Fld := ⟨0x10, 0x088, 15, 4, .RO, 0⟩
/-- THR_STAT.CAUSE (R249). -/
def THR_STAT_CAUSE : Fld := ⟨0x10, 0x088, 19, 4, .RO, 0⟩
/-- THR_STAT.TCODE (R249). -/
def THR_STAT_TCODE : Fld := ⟨0x10, 0x088, 23, 8, .RO, 0⟩
/-- THR_CNT.RETRIES (R249). -/
def THR_CNT_RETRIES : Fld := ⟨0x10, 0x08C, 0, 3, .RO, 0⟩
/-- THR_CNT.RUNS (R249). -/
def THR_CNT_RUNS : Fld := ⟨0x10, 0x08C, 16, 16, .RO, 0⟩
/-- THR_REG_SEL.REG (R249). -/
def THR_REG_SEL_REG : Fld := ⟨0x10, 0x090, 0, 3, .RW, 0⟩
/-- THR_REG_LO.VAL (R249). -/
def THR_REG_LO_VAL : Fld := ⟨0x10, 0x094, 0, 32, .RW, 0⟩
/-- THR_REG_HI.VAL (R249). -/
def THR_REG_HI_VAL : Fld := ⟨0x10, 0x098, 0, 32, .RW, 0⟩
/-- THR_PFAIL.FIRST (R249). -/
def THR_PFAIL_FIRST : Fld := ⟨0x10, 0x09C, 0, 4, .RO, 0⟩
/-- THR_PFAIL.COUNT (R249). -/
def THR_PFAIL_COUNT : Fld := ⟨0x10, 0x09C, 4, 16, .RO, 0⟩
/-- ENT_SEL.BANK (R249). -/
def ENT_SEL_BANK : Fld := ⟨0x10, 0x0C0, 8, 1, .RW, 0⟩
/-- ENT_SPAN.BASE (R249). -/
def ENT_SPAN_BASE : Fld := ⟨0x10, 0x0C4, 0, 12, .RW, 0⟩
/-- ENT_SPAN.LEN (R249). -/
def ENT_SPAN_LEN : Fld := ⟨0x10, 0x0C4, 12, 13, .RW, 0⟩
/-- ENT_SPAN.V (R249). -/
def ENT_SPAN_V : Fld := ⟨0x10, 0x0C4, 25, 1, .RW, 0⟩
/-- ENT_SPAN.PAV (R249). -/
def ENT_SPAN_PAV : Fld := ⟨0x10, 0x0C4, 26, 6, .RW, 0⟩
/-- ENT_PC.ENTRY (R249). -/
def ENT_PC_ENTRY : Fld := ⟨0x10, 0x0C8, 0, 12, .RW, 0⟩
/-- ENT_PC.RETRY (R249). -/
def ENT_PC_RETRY : Fld := ⟨0x10, 0x0C8, 12, 12, .RW, 0⟩
/-- ENT_PC.RETRY_V (R249). -/
def ENT_PC_RETRY_V : Fld := ⟨0x10, 0x0C8, 24, 1, .RW, 0⟩
/-- ENT_TRIG.OBJ (R249). -/
def ENT_TRIG_OBJ : Fld := ⟨0x10, 0x0CC, 0, 20, .RW, 0⟩
/-- ENT_TRIG.TRIG_V (R249). -/
def ENT_TRIG_TRIG_V : Fld := ⟨0x10, 0x0CC, 20, 1, .RW, 0⟩
/-- ENT_STEP.STEP (R249). -/
def ENT_STEP_STEP : Fld := ⟨0x10, 0x0D0, 0, 32, .RW, 0⟩

/-- JL_STAT.UP (R285). -/
def JL_STAT_UP : Fld := ⟨0x01, 0x040, 0, 1, .RO, 0⟩
/-- JL_STAT.REPLAY (R285). -/
def JL_STAT_REPLAY : Fld := ⟨0x01, 0x040, 1, 1, .RO, 0⟩
/-- JL_STAT.PKG_WAIT (R285). -/
def JL_STAT_PKG_WAIT : Fld := ⟨0x01, 0x040, 2, 1, .RO, 0⟩
/-- JL_STAT.RESETS (R285). -/
def JL_STAT_RESETS : Fld := ⟨0x01, 0x040, 8, 8, .RO, 0⟩
/-- JL_CFG.JB_VC (R285). -/
def JL_CFG_JB_VC : Fld := ⟨0x01, 0x044, 0, 2, .RW, 0⟩
/-- JL_IMP_SEL.IDX (R285). -/
def JL_IMP_SEL_IDX : Fld := ⟨0x01, 0x048, 0, 8, .RW, 0⟩
/-- JL_IMP.PKG (R285). -/
def JL_IMP_PKG : Fld := ⟨0x01, 0x04C, 0, 7, .RW2, 0⟩
/-- JL_IMP.DIE (R285). -/
def JL_IMP_DIE : Fld := ⟨0x01, 0x04C, 7, 2, .RW2, 0⟩
/-- JL_IMP.SRC_PAV (R285). -/
def JL_IMP_SRC_PAV : Fld := ⟨0x01, 0x04C, 9, 6, .RW2, 0⟩
/-- JL_IMP.PAV (R285). -/
def JL_IMP_PAV : Fld := ⟨0x01, 0x04C, 15, 6, .RW2, 0⟩
/-- JL_IMP.V (R285). -/
def JL_IMP_V : Fld := ⟨0x01, 0x04C, 21, 1, .RW2, 0⟩
/-- JL_PROXY.IN_USE (R285). -/
def JL_PROXY_IN_USE : Fld := ⟨0x01, 0x050, 0, 15, .RO, 0⟩
/-- JL_PROXY.HIGH (R285). -/
def JL_PROXY_HIGH : Fld := ⟨0x01, 0x050, 15, 15, .RO, 0⟩
/-- JL_PROXY.CLR_HIGH (R285). -/
def JL_PROXY_CLR_HIGH : Fld := ⟨0x01, 0x050, 30, 1, .W1S, 0⟩
/-- JL_PROXY_REF.COUNT (R285). -/
def JL_PROXY_REF_COUNT : Fld := ⟨0x01, 0x054, 0, 32, .RO, 0⟩
/-- JL_RET.IN_USE (R285). -/
def JL_RET_IN_USE : Fld := ⟨0x01, 0x058, 0, 11, .RO, 0⟩
/-- JL_RET.HIGH (R285). -/
def JL_RET_HIGH : Fld := ⟨0x01, 0x058, 11, 11, .RO, 0⟩
/-- JL_RET.CLR_HIGH (R285). -/
def JL_RET_CLR_HIGH : Fld := ⟨0x01, 0x058, 22, 1, .W1S, 0⟩
/-- JL_RET_FULL.COUNT (R285). -/
def JL_RET_FULL_COUNT : Fld := ⟨0x01, 0x05C, 0, 32, .RO, 0⟩
/-- JL_CRED_WAIT.COUNT (R285). -/
def JL_CRED_WAIT_COUNT : Fld := ⟨0x01, 0x060, 0, 32, .RO, 0⟩
/-- JL_CRED_HELD.COUNT (R285). -/
def JL_CRED_HELD_COUNT : Fld := ⟨0x01, 0x064, 0, 32, .RO, 0⟩
/-- JL_FOL_HELD.COUNT (R285). -/
def JL_FOL_HELD_COUNT : Fld := ⟨0x01, 0x068, 0, 32, .RO, 0⟩
/-- JL_FOL_ERR.COUNT (R285). -/
def JL_FOL_ERR_COUNT : Fld := ⟨0x01, 0x06C, 0, 32, .RO, 0⟩
/-- JL_IMP_MISS.COUNT (R285). -/
def JL_IMP_MISS_COUNT : Fld := ⟨0x01, 0x070, 0, 32, .RO, 0⟩
/-- JL_RESEND.COUNT (R285). -/
def JL_RESEND_COUNT : Fld := ⟨0x01, 0x074, 0, 32, .RO, 0⟩
/-- JL_BAD.COUNT (R285). -/
def JL_BAD_COUNT : Fld := ⟨0x01, 0x078, 0, 32, .RO, 0⟩
/-- JL_TX.COUNT (R285). -/
def JL_TX_COUNT : Fld := ⟨0x01, 0x07C, 0, 32, .RO, 0⟩
/-- JL_RX.COUNT (R285). -/
def JL_RX_COUNT : Fld := ⟨0x01, 0x080, 0, 32, .RO, 0⟩
/-- JL_RTO.RTO (R285). -/
def JL_RTO_RTO : Fld := ⟨0x01, 0x400, 0, 16, .RW, 4096⟩
/-- JF_SEL.IDX (R286). -/
def JF_SEL_IDX : Fld := ⟨0x01, 0x100, 0, 6, .RW, 0⟩
/-- JF_ADDR.ADDR (R286). -/
def JF_ADDR_ADDR : Fld := ⟨0x01, 0x104, 0, 25, .RW, 0⟩
/-- JF_CFG.OP (R286). -/
def JF_CFG_OP : Fld := ⟨0x01, 0x108, 0, 3, .RW, 0⟩
/-- JF_CFG.IN_FMT (R286). -/
def JF_CFG_IN_FMT : Fld := ⟨0x01, 0x108, 3, 4, .RW, 0⟩
/-- JF_CFG.LANES (R286). -/
def JF_CFG_LANES : Fld := ⟨0x01, 0x108, 7, 3, .RW, 0⟩
/-- JF_CFG.N (R286). -/
def JF_CFG_N : Fld := ⟨0x01, 0x108, 10, 7, .RW, 0⟩
/-- JF_CFG.PAV (R286). -/
def JF_CFG_PAV : Fld := ⟨0x01, 0x108, 17, 6, .RW, 0⟩
/-- JF_CFG.RND (R286). -/
def JF_CFG_RND : Fld := ⟨0x01, 0x108, 23, 8, .RW, 0⟩
/-- JF_CFG.V (R286). -/
def JF_CFG_V : Fld := ⟨0x01, 0x108, 31, 1, .RW, 0⟩
/-- JF_STAT.RND (R286). -/
def JF_STAT_RND : Fld := ⟨0x01, 0x10C, 0, 8, .RO, 0⟩
/-- JF_STAT.COUNT (R286). -/
def JF_STAT_COUNT : Fld := ⟨0x01, 0x10C, 8, 7, .RO, 0⟩
/-- JF_STAT.OUT (R286). -/
def JF_STAT_OUT : Fld := ⟨0x01, 0x10C, 15, 1, .RO, 0⟩
/-- JF_STAT.REFUSED (R286). -/
def JF_STAT_REFUSED : Fld := ⟨0x01, 0x10C, 16, 1, .W1C, 0⟩
/-- JF_STAT.LAST (R286). -/
def JF_STAT_LAST : Fld := ⟨0x01, 0x10C, 17, 4, .RO, 0⟩
/-- JF_PARTS.COUNT (R286). -/
def JF_PARTS_COUNT : Fld := ⟨0x01, 0x110, 0, 32, .RO, 0⟩

/-- TT_EPOCH_OBJ.ADDR (R305). -/
def TT_EPOCH_OBJ_ADDR : Fld := ⟨0x02, 0x040, 0, 25, .RW, 0⟩
/-- TT_EPOCH_LO.VALUE (R305). -/
def TT_EPOCH_LO_VALUE : Fld := ⟨0x02, 0x044, 0, 32, .RO, 0⟩
/-- TT_EPOCH_HI.VALUE (R305). -/
def TT_EPOCH_HI_VALUE : Fld := ⟨0x02, 0x048, 0, 32, .RO, 0⟩
/-- TT_SWAP_AT_LO.AT (R305). -/
def TT_SWAP_AT_LO_AT : Fld := ⟨0x02, 0x04C, 0, 32, .RW, 0⟩
/-- TT_SWAP_AT_HI.AT (R305). -/
def TT_SWAP_AT_HI_AT : Fld := ⟨0x02, 0x050, 0, 32, .RW, 0⟩
/-- TT_POLICY.MISS (R305). -/
def TT_POLICY_MISS : Fld := ⟨0x02, 0x054, 0, 1, .RW, 0⟩
/-- TT_HOLD_LIMIT.LIMIT (R305). -/
def TT_HOLD_LIMIT_LIMIT : Fld := ⟨0x02, 0x058, 0, 32, .RW, 65536⟩
/-- TT_ACK_OBJ.ADDR (R305). -/
def TT_ACK_OBJ_ADDR : Fld := ⟨0x02, 0x05C, 0, 25, .RW, 0⟩
/-- TT_ACK_OBJ.V (R305). -/
def TT_ACK_OBJ_V : Fld := ⟨0x02, 0x05C, 31, 1, .RW, 0⟩
/-- TT_CTL.BIND (R305). -/
def TT_CTL_BIND : Fld := ⟨0x02, 0x060, 0, 1, .W1S, 0⟩
/-- TT_CTL.COMMIT (R305). -/
def TT_CTL_COMMIT : Fld := ⟨0x02, 0x060, 1, 1, .W1S, 0⟩
/-- TT_CTL.UNCOMMIT (R305). -/
def TT_CTL_UNCOMMIT : Fld := ⟨0x02, 0x060, 2, 1, .W1S, 0⟩
/-- TT_CTL.ARM (R305). -/
def TT_CTL_ARM : Fld := ⟨0x02, 0x060, 3, 1, .W1S, 0⟩
/-- TT_CTL.DISARM (R305). -/
def TT_CTL_DISARM : Fld := ⟨0x02, 0x060, 4, 1, .W1S, 0⟩
/-- TT_CTL.COPY (R305). -/
def TT_CTL_COPY : Fld := ⟨0x02, 0x060, 5, 1, .W1S, 0⟩
/-- TT_CTL.BUSY (R305). -/
def TT_CTL_BUSY : Fld := ⟨0x02, 0x060, 31, 1, .RO, 0⟩
/-- TT_STAT.BOUND (R305). -/
def TT_STAT_BOUND : Fld := ⟨0x02, 0x064, 0, 1, .RO, 0⟩
/-- TT_STAT.COMMITTED (R305). -/
def TT_STAT_COMMITTED : Fld := ⟨0x02, 0x064, 1, 1, .RO, 0⟩
/-- TT_STAT.ARMED (R305). -/
def TT_STAT_ARMED : Fld := ⟨0x02, 0x064, 2, 1, .RO, 0⟩
/-- TT_STAT.HOLDING (R305). -/
def TT_STAT_HOLDING : Fld := ⟨0x02, 0x064, 3, 1, .RO, 0⟩
/-- TT_STAT.HOLD_EXPIRED (R305). -/
def TT_STAT_HOLD_EXPIRED : Fld := ⟨0x02, 0x064, 4, 1, .RO, 0⟩
/-- TT_STAT.EPOCH_LOST (R305). -/
def TT_STAT_EPOCH_LOST : Fld := ⟨0x02, 0x064, 5, 1, .W1C, 0⟩
/-- TT_STAT.ERR (R305). -/
def TT_STAT_ERR : Fld := ⟨0x02, 0x064, 6, 1, .RO, 0⟩
/-- TT_STAT.CODE (R305). -/
def TT_STAT_CODE : Fld := ⟨0x02, 0x064, 7, 3, .RO, 0⟩
/-- TT_LINE.STATE (R305). -/
def TT_LINE_STATE : Fld := ⟨0x02, 0x068, 0, 2, .RO, 0⟩
/-- TT_LINE.STN (R305). -/
def TT_LINE_STN : Fld := ⟨0x02, 0x068, 2, 2, .RO, 0⟩
/-- TT_LINE.BAD_RT (R305). -/
def TT_LINE_BAD_RT : Fld := ⟨0x02, 0x068, 4, 1, .RO, 0⟩
/-- TT_LINE.DISAGREE (R305). -/
def TT_LINE_DISAGREE : Fld := ⟨0x02, 0x068, 5, 1, .RO, 0⟩
/-- TT_LINE.D0 (R305). -/
def TT_LINE_D0 : Fld := ⟨0x02, 0x068, 8, 3, .RO, 0⟩
/-- TT_LINE.D1 (R305). -/
def TT_LINE_D1 : Fld := ⟨0x02, 0x068, 11, 3, .RO, 0⟩
/-- TT_LINE.D2 (R305). -/
def TT_LINE_D2 : Fld := ⟨0x02, 0x068, 14, 3, .RO, 0⟩
/-- TT_LINE.D3 (R305). -/
def TT_LINE_D3 : Fld := ⟨0x02, 0x068, 17, 3, .RO, 0⟩
/-- TT_SWAPS.COUNT (R305). -/
def TT_SWAPS_COUNT : Fld := ⟨0x02, 0x06C, 0, 32, .RO, 0⟩
/-- TT_MISSES.COUNT (R305). -/
def TT_MISSES_COUNT : Fld := ⟨0x02, 0x070, 0, 32, .RO, 0⟩
/-- TT_BOUNDS.COUNT (R305). -/
def TT_BOUNDS_COUNT : Fld := ⟨0x02, 0x074, 0, 32, .RO, 0⟩
/-- TT_MERGED.COUNT (R305). -/
def TT_MERGED_COUNT : Fld := ⟨0x02, 0x078, 0, 32, .RO, 0⟩
/-- TT_HOLD_CYC.COUNT (R305). -/
def TT_HOLD_CYC_COUNT : Fld := ⟨0x02, 0x07C, 0, 32, .RO, 0⟩
/-- TT_DENY.COUNT (R305). -/
def TT_DENY_COUNT : Fld := ⟨0x02, 0x080, 0, 16, .RO, 0⟩
/-- TT_DENY.CLR (R305). -/
def TT_DENY_CLR : Fld := ⟨0x02, 0x080, 31, 1, .W1S, 0⟩
/-- TT_DENY_LAST.PAGE (R305). -/
def TT_DENY_LAST_PAGE : Fld := ⟨0x02, 0x084, 0, 7, .RO, 0⟩
/-- TT_DENY_LAST.OFFSET (R305). -/
def TT_DENY_LAST_OFFSET : Fld := ⟨0x02, 0x084, 7, 12, .RO, 0⟩
/-- TT_DENY_LAST.CAUSE (R305). -/
def TT_DENY_LAST_CAUSE : Fld := ⟨0x02, 0x084, 19, 1, .RO, 0⟩
/-- TT_DENY_LAST.STATUS (R305). -/
def TT_DENY_LAST_STATUS : Fld := ⟨0x02, 0x084, 20, 4, .RO, 0⟩
/-- SH_SEL.PAV (R306). -/
def SH_SEL_PAV : Fld := ⟨0x02, 0x0C0, 0, 6, .RW, 0⟩
/-- SH_SEL.BANK (R306). -/
def SH_SEL_BANK : Fld := ⟨0x02, 0x0C0, 6, 1, .RW, 0⟩
/-- SH_WATCH.SHARE (R306). -/
def SH_WATCH_SHARE : Fld := ⟨0x02, 0x0C4, 0, 14, .RW, 8192⟩
/-- SH_PROXY.SHARE (R306). -/
def SH_PROXY_SHARE : Fld := ⟨0x02, 0x0C8, 0, 15, .RW, 16384⟩
/-- SH_USE.WATCH (R306). -/
def SH_USE_WATCH : Fld := ⟨0x02, 0x0CC, 0, 14, .RO, 0⟩
/-- SH_USE.PROXY (R306). -/
def SH_USE_PROXY : Fld := ⟨0x02, 0x0CC, 14, 15, .RO, 0⟩

/-- M2T_DB.WORD (R316). -/
def M2T_DB_WORD : Fld := ⟨0x40, 0x040, 0, 32, .RW, 0⟩
/-- T2M_DB.WORD (R316). -/
def T2M_DB_WORD : Fld := ⟨0x40, 0x080, 0, 32, .RW, 0⟩

/-- SP_SWEEP.DONE (R355). -/
def SP_SWEEP_DONE : Fld := ⟨0x14, 0x040, 0, 1, .RO, 0⟩
/-- SP_SWEEP.RUNNING (R355). -/
def SP_SWEEP_RUNNING : Fld := ⟨0x14, 0x040, 1, 1, .RO, 0⟩
/-- SP_SWEEP.TIME (R355). -/
def SP_SWEEP_TIME : Fld := ⟨0x14, 0x040, 16, 16, .RO, 0⟩
/-- SP_LAP_LIMIT.LIMIT (R355). -/
def SP_LAP_LIMIT_LIMIT : Fld := ⟨0x14, 0x044, 0, 16, .RW, 4096⟩
/-- SP_LAP.LAP_NO (R355). -/
def SP_LAP_LAP_NO : Fld := ⟨0x14, 0x048, 0, 16, .RO, 0⟩
/-- SP_LAP.FLOOR (R355). -/
def SP_LAP_FLOOR : Fld := ⟨0x14, 0x048, 16, 1, .RO, 0⟩
/-- SP_LAP_LAST.TIME (R355). -/
def SP_LAP_LAST_TIME : Fld := ⟨0x14, 0x04C, 0, 32, .RO, 0⟩
/-- SP_STEAL.COUNT (R355). -/
def SP_STEAL_COUNT : Fld := ⟨0x14, 0x050, 0, 32, .RO, 0⟩
/-- SP_CE.COUNT (R355). -/
def SP_CE_COUNT : Fld := ⟨0x14, 0x054, 0, 32, .RO, 0⟩
/-- SP_UE_CNT.RESETS (R355). -/
def SP_UE_CNT_RESETS : Fld := ⟨0x14, 0x058, 0, 16, .RO, 0⟩
/-- SP_UE_CNT.CLEARED (R355). -/
def SP_UE_CNT_CLEARED : Fld := ⟨0x14, 0x058, 16, 16, .RO, 0⟩
/-- SP_UE_LAST.RAM (R355). -/
def SP_UE_LAST_RAM : Fld := ⟨0x14, 0x05C, 0, 5, .RO, 0⟩
/-- SP_UE_LAST.CLASS (R355). -/
def SP_UE_LAST_CLASS : Fld := ⟨0x14, 0x05C, 5, 2, .RO, 0⟩
/-- SP_UE_LAST.SRC (R355). -/
def SP_UE_LAST_SRC : Fld := ⟨0x14, 0x05C, 7, 2, .RO, 0⟩
/-- SP_UE_LAST.V (R355). -/
def SP_UE_LAST_V : Fld := ⟨0x14, 0x05C, 9, 1, .W1C, 0⟩
/-- SP_UE_ROW.ROW (R355). -/
def SP_UE_ROW_ROW : Fld := ⟨0x14, 0x060, 0, 16, .RO, 0⟩
/-- SP_PASS_RAM.RAM (R355). -/
def SP_PASS_RAM_RAM : Fld := ⟨0x14, 0x064, 0, 5, .RW, 0⟩
/-- SP_PASS_FIRST.ROW (R355). -/
def SP_PASS_FIRST_ROW : Fld := ⟨0x14, 0x068, 0, 16, .RW, 0⟩
/-- SP_PASS_N.N (R355). -/
def SP_PASS_N_N : Fld := ⟨0x14, 0x06C, 0, 17, .RW, 0⟩
/-- SP_PASS_CTL.GO (R355). -/
def SP_PASS_CTL_GO : Fld := ⟨0x14, 0x070, 0, 1, .W1S, 0⟩
/-- SP_PASS_CTL.BUSY (R355). -/
def SP_PASS_CTL_BUSY : Fld := ⟨0x14, 0x070, 1, 1, .RO, 0⟩
/-- SP_PASS_CTL.ERR (R355). -/
def SP_PASS_CTL_ERR : Fld := ⟨0x14, 0x070, 2, 1, .RO, 0⟩
/-- SP_PASS_CTL.CODE (R355). -/
def SP_PASS_CTL_CODE : Fld := ⟨0x14, 0x070, 3, 2, .RO, 0⟩
/-- SP_PASS_CTL.ABORTED (R355). -/
def SP_PASS_CTL_ABORTED : Fld := ⟨0x14, 0x070, 5, 1, .RO, 0⟩
/-- SP_PASS_SUM.CORR (R355). -/
def SP_PASS_SUM_CORR : Fld := ⟨0x14, 0x074, 0, 16, .RO, 0⟩
/-- SP_PASS_SUM.UNCORR (R355). -/
def SP_PASS_SUM_UNCORR : Fld := ⟨0x14, 0x074, 16, 16, .RO, 0⟩
/-- SP_PASS_ERR.FIRST (R355). -/
def SP_PASS_ERR_FIRST : Fld := ⟨0x14, 0x078, 0, 16, .RO, 0⟩
/-- SP_PASS_ERR.LAST (R355). -/
def SP_PASS_ERR_LAST : Fld := ⟨0x14, 0x078, 16, 16, .RO, 0⟩
/-- SP_LOG_IDX.IDX (R355). -/
def SP_LOG_IDX_IDX : Fld := ⟨0x14, 0x080, 0, 5, .RW, 0⟩
/-- SP_LOG.RAM (R355). -/
def SP_LOG_RAM : Fld := ⟨0x14, 0x084, 0, 5, .RO, 0⟩
/-- SP_LOG.ROW (R355). -/
def SP_LOG_ROW : Fld := ⟨0x14, 0x084, 5, 16, .RO, 0⟩
/-- SP_LOG.V (R355). -/
def SP_LOG_V : Fld := ⟨0x14, 0x084, 21, 1, .RO, 0⟩
/-- SP_LOG.PERSIST (R355). -/
def SP_LOG_PERSIST : Fld := ⟨0x14, 0x084, 22, 1, .RO, 0⟩
/-- SP_LOG.WCOUNT (R355). -/
def SP_LOG_WCOUNT : Fld := ⟨0x14, 0x084, 23, 3, .RO, 0⟩
/-- SP_LOG_CNT.TOTAL (R355). -/
def SP_LOG_CNT_TOTAL : Fld := ⟨0x14, 0x088, 0, 16, .RO, 0⟩
/-- SP_LOG_CNT.WLAP (R355). -/
def SP_LOG_CNT_WLAP : Fld := ⟨0x14, 0x088, 16, 16, .RO, 0⟩
/-- SP_LOG_CTL.CLR (R355). -/
def SP_LOG_CTL_CLR : Fld := ⟨0x14, 0x08C, 0, 1, .W1S, 0⟩
/-- SP_LOG_CTL.CLR_ALL (R355). -/
def SP_LOG_CTL_CLR_ALL : Fld := ⟨0x14, 0x08C, 1, 1, .W1S, 0⟩
/-- SP_LOG_CTL.IN_USE (R355). -/
def SP_LOG_CTL_IN_USE : Fld := ⟨0x14, 0x08C, 2, 6, .RO, 0⟩
/-- SP_LOG_CTL.PERSIST_N (R355). -/
def SP_LOG_CTL_PERSIST_N : Fld := ⟨0x14, 0x08C, 8, 6, .RO, 0⟩
/-- SP_LOG_CTL.LOST (R355). -/
def SP_LOG_CTL_LOST : Fld := ⟨0x14, 0x08C, 16, 16, .RO, 0⟩
/-- SP_RET_SEL.RAM (R355). -/
def SP_RET_SEL_RAM : Fld := ⟨0x14, 0x090, 0, 5, .RW, 0⟩
/-- SP_RET_SEL.ROW (R355). -/
def SP_RET_SEL_ROW : Fld := ⟨0x14, 0x090, 5, 16, .RW, 0⟩
/-- SP_RET_CTL.RETIRE (R355). -/
def SP_RET_CTL_RETIRE : Fld := ⟨0x14, 0x094, 0, 1, .W1S, 0⟩
/-- SP_RET_CTL.UNRETIRE (R355). -/
def SP_RET_CTL_UNRETIRE : Fld := ⟨0x14, 0x094, 1, 1, .W1S, 0⟩
/-- SP_RET_CTL.BUSY (R355). -/
def SP_RET_CTL_BUSY : Fld := ⟨0x14, 0x094, 2, 1, .RO, 0⟩
/-- SP_RET_CTL.ERR (R355). -/
def SP_RET_CTL_ERR : Fld := ⟨0x14, 0x094, 3, 1, .RO, 0⟩
/-- SP_RET_CTL.CODE (R355). -/
def SP_RET_CTL_CODE : Fld := ⟨0x14, 0x094, 4, 2, .RO, 0⟩
/-- SP_RET_N.ROWS (R355). -/
def SP_RET_N_ROWS : Fld := ⟨0x14, 0x098, 0, 13, .RO, 0⟩
/-- SP_RET_N.BANKS (R355). -/
def SP_RET_N_BANKS : Fld := ⟨0x14, 0x098, 16, 16, .RO, 0⟩
/-- SP_INJ.RAM (R355). -/
def SP_INJ_RAM : Fld := ⟨0x14, 0x400, 0, 5, .RW, 0⟩
/-- SP_INJ.ROW (R355). -/
def SP_INJ_ROW : Fld := ⟨0x14, 0x400, 5, 16, .RW, 0⟩
/-- SP_INJ.MASK (R355). -/
def SP_INJ_MASK : Fld := ⟨0x14, 0x400, 21, 5, .RW, 0⟩
/-- SP_INJ.ARMED (R355). -/
def SP_INJ_ARMED : Fld := ⟨0x14, 0x400, 26, 1, .W1S, 0⟩

/-- FD_LOG_IDX.IDX (R390). -/
def FD_LOG_IDX_IDX : Fld := ⟨0x29, 0x040, 0, 5, .RW, 0⟩
/-- FD_LOG.CLASS (R390). -/
def FD_LOG_CLASS : Fld := ⟨0x29, 0x044, 0, 4, .RO, 0⟩
/-- FD_LOG.PART (R390). -/
def FD_LOG_PART : Fld := ⟨0x29, 0x044, 4, 5, .RO, 0⟩
/-- FD_LOG.NUM (R390). -/
def FD_LOG_NUM : Fld := ⟨0x29, 0x044, 9, 16, .RO, 0⟩
/-- FD_LOG.V (R390). -/
def FD_LOG_V : Fld := ⟨0x29, 0x044, 25, 1, .RO, 0⟩
/-- FD_LOG_DET.DETAIL (R390). -/
def FD_LOG_DET_DETAIL : Fld := ⟨0x29, 0x048, 0, 32, .RO, 0⟩
/-- FD_LOG_CTL.CLR_ALL (R390). -/
def FD_LOG_CTL_CLR_ALL : Fld := ⟨0x29, 0x04C, 0, 1, .W1S, 0⟩
/-- FD_LOG_CTL.IN_USE (R390). -/
def FD_LOG_CTL_IN_USE : Fld := ⟨0x29, 0x04C, 1, 6, .RO, 0⟩
/-- FD_LOG_CTL.LOST (R390). -/
def FD_LOG_CTL_LOST : Fld := ⟨0x29, 0x04C, 16, 16, .RO, 0⟩
/-- FD_JREC.PHASE (R390). -/
def FD_JREC_PHASE : Fld := ⟨0x29, 0x050, 0, 3, .RO, 0⟩
/-- FD_JREC.FAILED (R390). -/
def FD_JREC_FAILED : Fld := ⟨0x29, 0x050, 3, 1, .RO, 0⟩
/-- FD_JREC.COUNT (R390). -/
def FD_JREC_COUNT : Fld := ⟨0x29, 0x050, 4, 16, .RO, 0⟩
/-- FD_JREC_TIME.TIME (R390). -/
def FD_JREC_TIME_TIME : Fld := ⟨0x29, 0x054, 0, 32, .RO, 0⟩
/-- SC_SEL.RING (R390). -/
def SC_SEL_RING : Fld := ⟨0x29, 0x080, 0, 3, .RW, 0⟩
/-- SC_BASE_LO.ADDR (R390). -/
def SC_BASE_LO_ADDR : Fld := ⟨0x29, 0x084, 5, 27, .RW, 0⟩
/-- SC_BASE_HI.ADDR (R390). -/
def SC_BASE_HI_ADDR : Fld := ⟨0x29, 0x088, 0, 32, .RW, 0⟩
/-- SC_SIZE.N (R390). -/
def SC_SIZE_N : Fld := ⟨0x29, 0x08C, 0, 16, .RW, 0⟩
/-- SC_WR.IDX (R390). -/
def SC_WR_IDX : Fld := ⟨0x29, 0x090, 0, 16, .RO, 0⟩
/-- SC_RD.IDX (R390). -/
def SC_RD_IDX : Fld := ⟨0x29, 0x094, 0, 16, .RW, 0⟩
/-- SC_LOST.COUNT (R390). -/
def SC_LOST_COUNT : Fld := ⟨0x29, 0x098, 0, 32, .RO, 0⟩
/-- SC_CTL.ALL (R390). -/
def SC_CTL_ALL : Fld := ⟨0x29, 0x09C, 0, 1, .W1S, 0⟩
/-- SC_CTL.BUSY (R390). -/
def SC_CTL_BUSY : Fld := ⟨0x29, 0x09C, 1, 1, .RO, 0⟩
/-- DV_ADDR.ADDR (R390). -/
def DV_ADDR_ADDR : Fld := ⟨0x29, 0x0C0, 0, 25, .RW, 0⟩
/-- DV_CTL.GO (R390). -/
def DV_CTL_GO : Fld := ⟨0x29, 0x0C4, 0, 1, .W1S, 0⟩
/-- DV_CTL.MEM (R390). -/
def DV_CTL_MEM : Fld := ⟨0x29, 0x0C4, 1, 1, .RW, 0⟩
/-- DV_CTL.BUSY (R390). -/
def DV_CTL_BUSY : Fld := ⟨0x29, 0x0C4, 2, 1, .RO, 0⟩
/-- DV_CTL.ERR (R390). -/
def DV_CTL_ERR : Fld := ⟨0x29, 0x0C4, 3, 1, .RO, 0⟩
/-- DV_CTL.CODE (R390). -/
def DV_CTL_CODE : Fld := ⟨0x29, 0x0C4, 4, 2, .RO, 0⟩
/-- DV_VAL_LO.VAL (R390). -/
def DV_VAL_LO_VAL : Fld := ⟨0x29, 0x0C8, 0, 32, .RO, 0⟩
/-- DV_VAL_HI.VAL (R390). -/
def DV_VAL_HI_VAL : Fld := ⟨0x29, 0x0CC, 0, 32, .RO, 0⟩
/-- DV_ATTR_LO.ATTR (R390). -/
def DV_ATTR_LO_ATTR : Fld := ⟨0x29, 0x0D0, 0, 32, .RO, 0⟩
/-- DV_ATTR_HI.ATTR (R390). -/
def DV_ATTR_HI_ATTR : Fld := ⟨0x29, 0x0D4, 0, 32, .RO, 0⟩
/-- DV_WAIT.WATCH (R390). -/
def DV_WAIT_WATCH : Fld := ⟨0x29, 0x0D8, 0, 14, .RO, 0⟩
/-- DV_WAIT.WAITERS (R390). -/
def DV_WAIT_WAITERS : Fld := ⟨0x29, 0x0D8, 14, 14, .RO, 0⟩
/-- DV_WAIT.HOME (R390). -/
def DV_WAIT_HOME : Fld := ⟨0x29, 0x0D8, 28, 1, .RO, 0⟩
/-- DV_MEM_LO.ADDR (R390). -/
def DV_MEM_LO_ADDR : Fld := ⟨0x29, 0x0DC, 6, 26, .RW, 0⟩
/-- DV_MEM_HI.ADDR (R390). -/
def DV_MEM_HI_ADDR : Fld := ⟨0x29, 0x0E0, 0, 32, .RW, 0⟩
/-- DU_ADDR_LO.ADDR (R390). -/
def DU_ADDR_LO_ADDR : Fld := ⟨0x29, 0x100, 6, 26, .RW, 0⟩
/-- DU_ADDR_HI.ADDR (R390). -/
def DU_ADDR_HI_ADDR : Fld := ⟨0x29, 0x104, 0, 32, .RW, 0⟩
/-- DU_LEN.LEN (R390). -/
def DU_LEN_LEN : Fld := ⟨0x29, 0x108, 0, 32, .RW, 0⟩
/-- DU_NEED.LEN (R390). -/
def DU_NEED_LEN : Fld := ⟨0x29, 0x10C, 0, 32, .RO, 0⟩
/-- DU_CTL.GO (R390). -/
def DU_CTL_GO : Fld := ⟨0x29, 0x110, 0, 1, .W1S, 0⟩
/-- DU_CTL.BUSY (R390). -/
def DU_CTL_BUSY : Fld := ⟨0x29, 0x110, 1, 1, .RO, 0⟩
/-- DU_CTL.ERR (R390). -/
def DU_CTL_ERR : Fld := ⟨0x29, 0x110, 2, 1, .RO, 0⟩
/-- DU_CTL.CODE (R390). -/
def DU_CTL_CODE : Fld := ⟨0x29, 0x110, 3, 2, .RO, 0⟩
/-- DU_NUM.NUM (R390). -/
def DU_NUM_NUM : Fld := ⟨0x29, 0x114, 0, 16, .RO, 0⟩

/-- PW_START.STEP (R415). -/
def PW_START_STEP : Fld := ⟨0x2A, 0x040, 0, 4, .RO, 0⟩
/-- PW_START.GO (R415). -/
def PW_START_GO : Fld := ⟨0x2A, 0x040, 4, 1, .W1S, 0⟩
/-- PW_START.RELOAD (R415). -/
def PW_START_RELOAD : Fld := ⟨0x2A, 0x040, 5, 1, .RW, 0⟩
/-- PW_START.ERR (R415). -/
def PW_START_ERR : Fld := ⟨0x2A, 0x040, 6, 1, .RO, 0⟩
/-- PW_START.CODE (R415). -/
def PW_START_CODE : Fld := ⟨0x2A, 0x040, 7, 4, .RO, 0⟩
/-- PW_START.READY (R415). -/
def PW_START_READY : Fld := ⟨0x2A, 0x040, 11, 1, .RO, 0⟩
/-- PW_GLITCH.COUNT (R415). -/
def PW_GLITCH_COUNT : Fld := ⟨0x2A, 0x044, 0, 16, .RO, 0⟩
/-- PW_FB_SEL.STN (R415). -/
def PW_FB_SEL_STN : Fld := ⟨0x2A, 0x050, 0, 2, .RW, 0⟩
/-- PW_FB_SEL.BANK (R415). -/
def PW_FB_SEL_BANK : Fld := ⟨0x2A, 0x050, 2, 4, .RW, 0⟩
/-- PW_FB_CTL.GATE (R415). -/
def PW_FB_CTL_GATE : Fld := ⟨0x2A, 0x054, 0, 1, .W1S, 0⟩
/-- PW_FB_CTL.WAKE (R415). -/
def PW_FB_CTL_WAKE : Fld := ⟨0x2A, 0x054, 1, 1, .W1S, 0⟩
/-- PW_FB_CTL.AUTO (R415). -/
def PW_FB_CTL_AUTO : Fld := ⟨0x2A, 0x054, 2, 1, .RW, 0⟩
/-- PW_FB_CTL.BUSY (R415). -/
def PW_FB_CTL_BUSY : Fld := ⟨0x2A, 0x054, 3, 1, .RO, 0⟩
/-- PW_FB_CTL.ERR (R415). -/
def PW_FB_CTL_ERR : Fld := ⟨0x2A, 0x054, 4, 1, .RO, 0⟩
/-- PW_FB_CTL.CODE (R415). -/
def PW_FB_CTL_CODE : Fld := ⟨0x2A, 0x054, 5, 3, .RO, 0⟩
/-- PW_FB_STAT.GATED (R415). -/
def PW_FB_STAT_GATED : Fld := ⟨0x2A, 0x058, 0, 16, .RO, 0⟩
/-- PW_FB_STAT.WAKING (R415). -/
def PW_FB_STAT_WAKING : Fld := ⟨0x2A, 0x058, 16, 16, .RO, 0⟩
/-- PW_FB_IDLE.FCLK (R415). -/
def PW_FB_IDLE_FCLK : Fld := ⟨0x2A, 0x05C, 0, 32, .RW, 1048576⟩
/-- PW_FB_WAKES.COUNT (R415). -/
def PW_FB_WAKES_COUNT : Fld := ⟨0x2A, 0x060, 0, 32, .RO, 0⟩
/-- PW_FB_WQ.HIGH (R415). -/
def PW_FB_WQ_HIGH : Fld := ⟨0x2A, 0x064, 0, 4, .RO, 0⟩
/-- PW_FB_WQ.CLR_HIGH (R415). -/
def PW_FB_WQ_CLR_HIGH : Fld := ⟨0x2A, 0x064, 4, 1, .W1S, 0⟩
/-- PW_FB_WQ_STALL.COUNT (R415). -/
def PW_FB_WQ_STALL_COUNT : Fld := ⟨0x2A, 0x068, 0, 32, .RO, 0⟩
/-- PW_PARK_CTL.GO (R415). -/
def PW_PARK_CTL_GO : Fld := ⟨0x2A, 0x080, 0, 1, .W1S, 0⟩
/-- PW_PARK_CTL.FORCE (R415). -/
def PW_PARK_CTL_FORCE : Fld := ⟨0x2A, 0x080, 1, 1, .RW, 0⟩
/-- PW_PARK_CTL.NV (R415). -/
def PW_PARK_CTL_NV : Fld := ⟨0x2A, 0x080, 2, 1, .RW, 0⟩
/-- PW_PARK_CTL.BUSY (R415). -/
def PW_PARK_CTL_BUSY : Fld := ⟨0x2A, 0x080, 3, 1, .RO, 0⟩
/-- PW_PARK_CTL.STATE (R415). -/
def PW_PARK_CTL_STATE : Fld := ⟨0x2A, 0x080, 4, 3, .RO, 0⟩
/-- PW_PARK_CTL.ERR (R415). -/
def PW_PARK_CTL_ERR : Fld := ⟨0x2A, 0x080, 7, 1, .RO, 0⟩
/-- PW_PARK_CTL.CODE (R415). -/
def PW_PARK_CTL_CODE : Fld := ⟨0x2A, 0x080, 8, 4, .RO, 0⟩
/-- PW_PARK_CTL.PC_REQ (R415). -/
def PW_PARK_CTL_PC_REQ : Fld := ⟨0x2A, 0x080, 12, 1, .RO, 0⟩
/-- PW_HOLDUP.ENERGY (R415). -/
def PW_HOLDUP_ENERGY : Fld := ⟨0x2A, 0x084, 0, 16, .RO, 0⟩
/-- PW_HOLDUP.V (R415). -/
def PW_HOLDUP_V : Fld := ⟨0x2A, 0x084, 16, 1, .RO, 0⟩
/-- PW_NV_COST.FIXED (R415). -/
def PW_NV_COST_FIXED : Fld := ⟨0x2A, 0x088, 0, 16, .RW, 0⟩
/-- PW_NV_COST.PER_MIB (R415). -/
def PW_NV_COST_PER_MIB : Fld := ⟨0x2A, 0x088, 16, 16, .RW, 0⟩
/-- PW_PARK_COST.COST (R415). -/
def PW_PARK_COST_COST : Fld := ⟨0x2A, 0x08C, 0, 16, .RO, 0⟩
/-- PW_PARK_COST.KIB (R415). -/
def PW_PARK_COST_KIB : Fld := ⟨0x2A, 0x08C, 16, 16, .RO, 0⟩
/-- PW_PARK_DRAIN.FCLK (R415). -/
def PW_PARK_DRAIN_FCLK : Fld := ⟨0x2A, 0x090, 0, 32, .RW, 1048576⟩
/-- PW_PARK_LOST.COUNT (R415). -/
def PW_PARK_LOST_COUNT : Fld := ⟨0x2A, 0x094, 0, 32, .RO, 0⟩
/-- PW_PARK_NUM.NUM (R415). -/
def PW_PARK_NUM_NUM : Fld := ⟨0x2A, 0x098, 0, 16, .RO, 0⟩

/-- PC_CTL.RUN (R422). -/
def PC_CTL_RUN : Fld := ⟨0x2D, 0x040, 0, 1, .RW, 0⟩
/-- PC_CTL.CLR_ALL (R422). -/
def PC_CTL_CLR_ALL : Fld := ⟨0x2D, 0x040, 1, 1, .W1S, 0⟩
/-- PC_CFG.EVENT (R422). -/
def PC_CFG_EVENT : Fld := ⟨0x2D, 0x080, 0, 8, .RW, 0⟩
/-- PC_CFG.PART (R422). -/
def PC_CFG_PART : Fld := ⟨0x2D, 0x080, 8, 5, .RW, 0⟩
/-- PC_CFG.EN (R422). -/
def PC_CFG_EN : Fld := ⟨0x2D, 0x080, 13, 1, .RW, 0⟩
/-- PC_CFG.OVF (R422). -/
def PC_CFG_OVF : Fld := ⟨0x2D, 0x080, 14, 1, .W1C, 0⟩
/-- PC_CFG.CLR (R422). -/
def PC_CFG_CLR : Fld := ⟨0x2D, 0x080, 15, 1, .W1S, 0⟩
/-- PC_CNT_LO.COUNT (R422). -/
def PC_CNT_LO_COUNT : Fld := ⟨0x2D, 0x084, 0, 32, .RO, 0⟩
/-- PC_CNT_HI.COUNT (R422). -/
def PC_CNT_HI_COUNT : Fld := ⟨0x2D, 0x088, 0, 32, .RO, 0⟩

/-- OB_CTL.EN (R445). -/
def OB_CTL_EN : Fld := ⟨0x2C, 0x040, 0, 1, .RW, 0⟩
/-- OB_CTL.LEVEL (R445). -/
def OB_CTL_LEVEL : Fld := ⟨0x2C, 0x040, 1, 7, .RO, 0⟩
/-- OB_SEL.EVENT (R445). -/
def OB_SEL_EVENT : Fld := ⟨0x2C, 0x080, 0, 8, .RW, 0⟩
/-- OB_SEL.PART (R445). -/
def OB_SEL_PART : Fld := ⟨0x2C, 0x080, 8, 5, .RW, 0⟩
/-- OB_SEL.EN (R445). -/
def OB_SEL_EN : Fld := ⟨0x2C, 0x080, 13, 1, .RW, 0⟩
/-- OB_SEL.DIV (R445). -/
def OB_SEL_DIV : Fld := ⟨0x2C, 0x080, 14, 4, .RW, 0⟩
/-- OB_LOST.COUNT (R445). -/
def OB_LOST_COUNT : Fld := ⟨0x2C, 0x0A0, 0, 32, .RO, 0⟩
/-- OB_BADMESH.COUNT (R445). -/
def OB_BADMESH_COUNT : Fld := ⟨0x2C, 0x0A4, 0, 16, .RO, 0⟩

/-! The fields of each page. -/

def allHeader : List Fld :=
  [PAGE_CTL_EXPERT, PAGE_CTL_KEY, PAGE_STAT_REFUSED, PAGE_STAT_CLR, EVT_STAT_EVT,
   EVT_EN_EN, EVT_SET_SET, PAGE_LOCK_LOCK, PAGE_LOCK_NOEXP]
def allp00_0 : List Fld :=
  [JG_IDENT_DIE, JG_IDENT_DUP, JG_PKG_PKG, JG_PKG_VALID, JG_PKG_DONE,
   JG_PKG_REFUSED, GANG_SEL_GANG, GANG_CFG_X0, GANG_CFG_Y0, GANG_CFG_WL,
   GANG_CFG_HL, GANG_CFG_PAV, GANG_TS_ADDR, GANG_CMD_ENABLE, GANG_CMD_DISABLE,
   GANG_CMD_FORCE, GANG_CMD_BUSY, GANG_STAT_STATE, GANG_STAT_ERR, GANG_STAT_CODE,
   GANG_STAT_LAST_N, GANG_STAT_DR_CAUSE, GANG_STAT_DR_FORCED, GANG_STAT_DR_CORE, GANG_HOLDS_COUNT,
   GANG_HOLD_CYC_COUNT, GANG_RELEASES_COUNT, GANG_CAL_STATE, GANG_CAL_HALT, GANG_CAL_BAD_RT,
   GANG_CAL_DISAGREE, LG_BASE_LO_ADDR, LG_BASE_HI_ADDR, LG_CTL_EN, LG_CTL_RESUME,
   LG_CTL_UNPROTECT, LG_CTL_SNAP, LG_SNAP_AT_KIB, LG_SNAP_INT_FCLK, JG_CFGERR_COUNT]
def allp00_1 : List Fld :=
  [JG_CFGERR_PAGE, JG_CFGERR_WR, JG_CFGERR_CLR]
def allp2B : List Fld :=
  [RC_STAT_STATE, RC_STAT_ATTEMPTS, RC_STAT_MEMBERS, RC_STAT_NO_RETURN, RC_STAT_BAD_CHECK,
   RC_STAT_BAD_COUNT, RC_HALT_REFUSED_COUNT]
def allp08_0 : List Fld :=
  [STN_ID_STN, STN_ID_DIE, STN_ID_PKG, STN_ID_VALID, STN_ID_PKG_VALID,
   OBJ_CMD_CMD, OBJ_CMD_KIND, OBJ_CMD_PAV, OBJ_CMD_CTXL, OBJ_CMD_PON,
   OBJ_CMD_GO, OBJ_LINK_LINK, OBJ_RES_PON, OBJ_RES_DONE, OBJ_RES_ERR,
   OBJ_RES_CODE, OBJ_COUNT_FREE, OBJ_COUNT_RETIRED, WATCH_STAT_IN_USE, WATCH_STAT_HIGH,
   WATCH_STAT_CLR_HIGH, WATCH_FULL_COUNT, TS_SEL_PON, TS_IDX_WORD, TS_DATA_DATA,
   TS_BASE_PKG_BASE, TS_CTL_APPLY, TS_CTL_BUSY, TS_CTL_ERR, TS_CTL_CODE,
   TS_ARR_CUR, TS_ARR_NXT, DRIFT_SEL_PAIR, DRIFT_PC_PROD, DRIFT_PC_CONS,
   DRIFT_CFG_MODE, DRIFT_CFG_K, DRIFT_CFG_TS, DRIFT_DEPTH_DEPTH, DRIFT_STAT_LAST]
def allp08_1 : List Fld :=
  [DRIFT_STAT_ARMED, DRIFT_STAT_REFUSED, DRIFT_STAT_EVENTS, DRIFT_SKIP_LO_SKIP, DRIFT_SKIP_HI_SKIP,
   SEMF_CTL_ENTRY, SEMF_CTL_ACT, SEMF_CTL_ERR, SEMF_CTL_DONE, SEMF_CTL_BUSY,
   SEMF_CTL_GO, SEMF_N_N, MLOCK_PON_PON, MLOCK_ADDR_LO_ADDR, MLOCK_ADDR_HI_ADDR,
   MLOCK_CTL_SET, MLOCK_CTL_BUSY, MLOCK_CTL_ERR, MLOCK_CTL_CODE, RING_PON_PON,
   RING_BASE_LO_ADDR, RING_BASE_HI_ADDR, RING_CTL_SET, RING_CTL_BUSY, RING_CTL_ERR,
   RING_CTL_CODE, RING_SKIPS_COUNT, RING_HELD_COUNT, TICK_BOUND_IN_USE, LG_STAT_FAIL,
   LG_STAT_UNPROT, LG_STAT_SNAP_BUSY, LG_STAT_SNAP_VALID, LG_STAT_HELD, LG_STAT_ORIG,
   LG_WIN_WIN, LG_SNAPNO_NUM, LG_DELTA_KIB, LG_HOLD_COUNT, LG_LAG_LAST]
def allp08_2 : List Fld :=
  [LG_LAG_HIGH, REC_STAT_PHASE, REC_STAT_FAILED, REC_STAT_STN_RECS, REC_STAT_HALT_RECS,
   REC_TIME_TIME, REC_REPLAY_APPLIED, REC_REPLAY_DISCARDED, REC_LOST_LOST, REC_LOST_FAULTED]
def allp18_0 : List Fld :=
  [HALT_ID_HALT, HALT_ID_STN, HALT_ID_VALID, HALT_SUPV_SEL_CORE, HALT_SUPV_MASK,
   HALT_REJ_RSVD_TAG, HALT_REJ_RSVD_OP, HALT_REJ_SUPV, HALT_REJ_BATCH, HALT_PERR_COUNT,
   HALT_PERR_LAST, HALT_PERR_QTAG, HALT_PERR_CORE, HALT_PERR_CLR, HALT_WAITS_NATIVE,
   HALT_WAITS_SIDED, HALT_WAITS_NO_SIDING, HALT_WAITS_WATCH_RETRY, HALT_GANG_D, HALT_GANG_EQ,
   HALT_GANG_CAL_OK, HALT_GANG_SLIP_IGN, HALT_GANG_SLIP_ZERO, HALT_GANG_CLR, HALT_TICK_WINDOW,
   HALT_TICK_BATCHES, HALT_TICK_LOST, HALT_TICK_CLR, HALT_TICK_MEMB_MEMBERS, HS_IDX_IDX,
   HS_WORD_WORD, HS_ENT_ENTRY, HS_ENT_RETRY, HS_ENT_RETRY_V, HS_ENT_PAV,
   HS_ENT_TRIG_V, HS_TRIG_HANDLE, HS_STEP_STEP, HS_CTL_ARM, HS_CTL_STOP]
def allp18_1 : List Fld :=
  [HS_CTL_CLEAR, HS_CTL_STATE, HS_CTL_PC, HS_CTL_STATUS, HS_CTL_CAUSE,
   HS_CTL_TCODE, HS_CTL_REFUSED, HS_REG_SEL_REG, HS_REG_LO_VAL, HS_REG_HI_VAL]
def allp03_0 : List Fld :=
  [RUN_CMD_PAV, RUN_CMD_OPEN, RUN_CMD_CLOSE, RUN_CMD_FORCE, RUN_CMD_BUSY,
   RUN_STAT_RUN, RUN_STAT_OPEN, RUN_STAT_ERR, RUN_STAT_CODE, CTX_PAV_PAV,
   CTX_RANGE_MAP_OFF, CTX_RANGE_COUNT, CTX_ADDR_LO_ADDR, CTX_ADDR_HI_ADDR, CTX_GO_SAVE,
   CTX_GO_RESTORE, CTX_GO_CLOSE, CTX_GO_BUSY, CTX_GO_ERR, CTX_GO_CODE,
   HM_WIN_SEL_PAV, HM_WIN_BASE_G, HM_WIN_SIZE_G, HM_PW_PW, HM_IDX_IDX,
   HM_IDX_INC, HM_DATA_ENTRY, HM_STAT_BUSY, WAIT_SEL_PAV, WAIT_CFG_LUISK,
   WAIT_CFG_LIMIT, SEMR_SEL_STN, SEMR_SEL_GROUP, SEMR_SEL_PAV, SEMR_RIGHTS,
   LOCK_CFG_INH, LOCK_CFG_LIMIT, ORPH_ID_HOLDER, ORPH_ID_PAV, ORPH_ID_ANY]
def allp03_1 : List Fld :=
  [ORPH_CTL_GO, ORPH_CTL_BUSY, ORPH_CTL_COUNT, PAV_SEL_PAV, PAV_CMD_FREEZE,
   PAV_CMD_THAW, PAV_CMD_SAVE, PAV_CMD_RESTORE, PAV_CMD_RESET, PAV_CMD_EVICT,
   PAV_CMD_KEEP_HOLDERS, PAV_CMD_BUSY, PAV_STAT_STATE, PAV_STAT_GEN, PAV_STAT_ERR,
   PAV_STAT_CODE, PAV_STAT_SLOW, PAV_STAT_STALE, PAV_LATE_COUNT, PAV_DRAIN_LIMIT_LIMIT,
   PAV_HELD_HALTS, PAV_HELD_PARKED, PAV_IMG_LO_ADDR, PAV_IMG_HI_ADDR, PAV_IMG_LEN_LEN,
   PAV_IMG_NEED_LEN, PAV_REMAP_LO_ADDR, PAV_REMAP_HI_ADDR, PAV_REMAP_N_N, PAV_CTXL_DELTA_DELTA,
   PQ_OBJ_OBJ, PQ_FOLD_LINES, PQ_RES_TS, PQ_RES_MLQ, PQ_RES_GANG,
   PQ_USE_SEL_STN, PQ_USE_OBJ, PQ_USE_LINES, PQ_USE2_TS, PQ_USE2_MLQ]
def allp03_2 : List Fld :=
  [PQ_USE2_GANG, MB_SUM_LO_PEND, MB_SUM_HI_PEND, TP_PROPOSE_SEQ, TP_PROPOSE_GO,
   TP_PROPOSE_ABORT, TP_CONFIRM_SEQ, TP_STAT_LAST_SEQ, TP_STAT_STATE, TP_STAT_RESULT,
   TP_STAT_STAGED, TP_STAT_FULL, TP_STAT_FORGED, TP_WINDOW_FCLK, TP_LIST_IDX_IDX,
   TP_LIST_ADDR_PAGE, TP_LIST_ADDR_OFFSET, TP_LIST_ADDR_V, TP_LIST_DATA_DATA, TP_LEFT_FCLK,
   TP_LIST_SEL_SEL]
def allp0C : List Fld :=
  [FR_SEL_PON, FR_CFG_OP, FR_CFG_IN_FMT, FR_CFG_OUT_FMT, FR_CFG_WIDE,
   FR_CFG_DOUBLE, FR_CFG_SAT, FR_LANES_LANES, FR_TARGET_TARGET, FR_RES_LO_ADDR,
   FR_RES_HI_ADDR, FR_CTL_APPLY, FR_CTL_BUSY, FR_CTL_ERR, FR_CTL_CODE,
   FR_STAT_ROUND, FR_STAT_V, FR_STAT_REL, FR_STAT_OVF, FR_STAT_NAN_IN,
   FR_STAT_INF_CLASH, FR_STAT_RND_OVF, FR_STAT_SATD, FR_STAT_EMPTY, FR_STAT_FAULT_RND,
   FR_STAT_FAULT_N, FR_ARR_ARR, FR_ANN_ANN, FR_BEATS_BEATS, FR_RESULT_LO_RESULT,
   FR_RESULT_HI_RESULT, FOLD_LINES_FREE, FOLD_STALL_COUNT, FOLD_REJ_COUNT]
def allp10_0 : List Fld :=
  [SB_PW_IDX_IDX, SB_PW_IDX_INC, SB_PW_DATA_WORD, SB_PW_REF_COUNT, SB_PW_REF_LAST,
   SB_PW_REF_CLR, SB_DB_SEL_IDX, SB_DB_LO_ADDR, SB_DB_HI_ADDR, SB_DB_CFG_PAV,
   SB_DB_CFG_V, SB_AT_SEL_IDX, SB_AT_ADDR, SB_AT_PAV, SB_AT_V,
   THR_SEL_THR, THR_CTL_ARM, THR_CTL_STOP, THR_CTL_CLEAR, THR_CTL_ERR,
   THR_CTL_CODE, THR_CTL_REFUSED, THR_STAT_STATE, THR_STAT_PC, THR_STAT_STATUS,
   THR_STAT_CAUSE, THR_STAT_TCODE, THR_CNT_RETRIES, THR_CNT_RUNS, THR_REG_SEL_REG,
   THR_REG_LO_VAL, THR_REG_HI_VAL, THR_PFAIL_FIRST, THR_PFAIL_COUNT, ENT_SEL_BANK,
   ENT_SPAN_BASE, ENT_SPAN_LEN, ENT_SPAN_V, ENT_SPAN_PAV, ENT_PC_ENTRY]
def allp10_1 : List Fld :=
  [ENT_PC_RETRY, ENT_PC_RETRY_V, ENT_TRIG_OBJ, ENT_TRIG_TRIG_V, ENT_STEP_STEP]
def allp01_0 : List Fld :=
  [JL_STAT_UP, JL_STAT_REPLAY, JL_STAT_PKG_WAIT, JL_STAT_RESETS, JL_CFG_JB_VC,
   JL_IMP_SEL_IDX, JL_IMP_PKG, JL_IMP_DIE, JL_IMP_SRC_PAV, JL_IMP_PAV,
   JL_IMP_V, JL_PROXY_IN_USE, JL_PROXY_HIGH, JL_PROXY_CLR_HIGH, JL_PROXY_REF_COUNT,
   JL_RET_IN_USE, JL_RET_HIGH, JL_RET_CLR_HIGH, JL_RET_FULL_COUNT, JL_CRED_WAIT_COUNT,
   JL_CRED_HELD_COUNT, JL_FOL_HELD_COUNT, JL_FOL_ERR_COUNT, JL_IMP_MISS_COUNT, JL_RESEND_COUNT,
   JL_BAD_COUNT, JL_TX_COUNT, JL_RX_COUNT, JL_RTO_RTO, JF_SEL_IDX,
   JF_ADDR_ADDR, JF_CFG_OP, JF_CFG_IN_FMT, JF_CFG_LANES, JF_CFG_N,
   JF_CFG_PAV, JF_CFG_RND, JF_CFG_V, JF_STAT_RND, JF_STAT_COUNT]
def allp01_1 : List Fld :=
  [JF_STAT_OUT, JF_STAT_REFUSED, JF_STAT_LAST, JF_PARTS_COUNT]
def allp02_0 : List Fld :=
  [TT_EPOCH_OBJ_ADDR, TT_EPOCH_LO_VALUE, TT_EPOCH_HI_VALUE, TT_SWAP_AT_LO_AT, TT_SWAP_AT_HI_AT,
   TT_POLICY_MISS, TT_HOLD_LIMIT_LIMIT, TT_ACK_OBJ_ADDR, TT_ACK_OBJ_V, TT_CTL_BIND,
   TT_CTL_COMMIT, TT_CTL_UNCOMMIT, TT_CTL_ARM, TT_CTL_DISARM, TT_CTL_COPY,
   TT_CTL_BUSY, TT_STAT_BOUND, TT_STAT_COMMITTED, TT_STAT_ARMED, TT_STAT_HOLDING,
   TT_STAT_HOLD_EXPIRED, TT_STAT_EPOCH_LOST, TT_STAT_ERR, TT_STAT_CODE, TT_LINE_STATE,
   TT_LINE_STN, TT_LINE_BAD_RT, TT_LINE_DISAGREE, TT_LINE_D0, TT_LINE_D1,
   TT_LINE_D2, TT_LINE_D3, TT_SWAPS_COUNT, TT_MISSES_COUNT, TT_BOUNDS_COUNT,
   TT_MERGED_COUNT, TT_HOLD_CYC_COUNT, TT_DENY_COUNT, TT_DENY_CLR, TT_DENY_LAST_PAGE]
def allp02_1 : List Fld :=
  [TT_DENY_LAST_OFFSET, TT_DENY_LAST_CAUSE, TT_DENY_LAST_STATUS, SH_SEL_PAV, SH_SEL_BANK,
   SH_WATCH_SHARE, SH_PROXY_SHARE, SH_USE_WATCH, SH_USE_PROXY]
def allp40 : List Fld :=
  [M2T_DB_WORD, T2M_DB_WORD]
def allp14_0 : List Fld :=
  [SP_SWEEP_DONE, SP_SWEEP_RUNNING, SP_SWEEP_TIME, SP_LAP_LIMIT_LIMIT, SP_LAP_LAP_NO,
   SP_LAP_FLOOR, SP_LAP_LAST_TIME, SP_STEAL_COUNT, SP_CE_COUNT, SP_UE_CNT_RESETS,
   SP_UE_CNT_CLEARED, SP_UE_LAST_RAM, SP_UE_LAST_CLASS, SP_UE_LAST_SRC, SP_UE_LAST_V,
   SP_UE_ROW_ROW, SP_PASS_RAM_RAM, SP_PASS_FIRST_ROW, SP_PASS_N_N, SP_PASS_CTL_GO,
   SP_PASS_CTL_BUSY, SP_PASS_CTL_ERR, SP_PASS_CTL_CODE, SP_PASS_CTL_ABORTED, SP_PASS_SUM_CORR,
   SP_PASS_SUM_UNCORR, SP_PASS_ERR_FIRST, SP_PASS_ERR_LAST, SP_LOG_IDX_IDX, SP_LOG_RAM,
   SP_LOG_ROW, SP_LOG_V, SP_LOG_PERSIST, SP_LOG_WCOUNT, SP_LOG_CNT_TOTAL,
   SP_LOG_CNT_WLAP, SP_LOG_CTL_CLR, SP_LOG_CTL_CLR_ALL, SP_LOG_CTL_IN_USE, SP_LOG_CTL_PERSIST_N]
def allp14_1 : List Fld :=
  [SP_LOG_CTL_LOST, SP_RET_SEL_RAM, SP_RET_SEL_ROW, SP_RET_CTL_RETIRE, SP_RET_CTL_UNRETIRE,
   SP_RET_CTL_BUSY, SP_RET_CTL_ERR, SP_RET_CTL_CODE, SP_RET_N_ROWS, SP_RET_N_BANKS,
   SP_INJ_RAM, SP_INJ_ROW, SP_INJ_MASK, SP_INJ_ARMED]
def allp29_0 : List Fld :=
  [FD_LOG_IDX_IDX, FD_LOG_CLASS, FD_LOG_PART, FD_LOG_NUM, FD_LOG_V,
   FD_LOG_DET_DETAIL, FD_LOG_CTL_CLR_ALL, FD_LOG_CTL_IN_USE, FD_LOG_CTL_LOST, FD_JREC_PHASE,
   FD_JREC_FAILED, FD_JREC_COUNT, FD_JREC_TIME_TIME, SC_SEL_RING, SC_BASE_LO_ADDR,
   SC_BASE_HI_ADDR, SC_SIZE_N, SC_WR_IDX, SC_RD_IDX, SC_LOST_COUNT,
   SC_CTL_ALL, SC_CTL_BUSY, DV_ADDR_ADDR, DV_CTL_GO, DV_CTL_MEM,
   DV_CTL_BUSY, DV_CTL_ERR, DV_CTL_CODE, DV_VAL_LO_VAL, DV_VAL_HI_VAL,
   DV_ATTR_LO_ATTR, DV_ATTR_HI_ATTR, DV_WAIT_WATCH, DV_WAIT_WAITERS, DV_WAIT_HOME,
   DV_MEM_LO_ADDR, DV_MEM_HI_ADDR, DU_ADDR_LO_ADDR, DU_ADDR_HI_ADDR, DU_LEN_LEN]
def allp29_1 : List Fld :=
  [DU_NEED_LEN, DU_CTL_GO, DU_CTL_BUSY, DU_CTL_ERR, DU_CTL_CODE,
   DU_NUM_NUM]
def allp2A : List Fld :=
  [PW_START_STEP, PW_START_GO, PW_START_RELOAD, PW_START_ERR, PW_START_CODE,
   PW_START_READY, PW_GLITCH_COUNT, PW_FB_SEL_STN, PW_FB_SEL_BANK, PW_FB_CTL_GATE,
   PW_FB_CTL_WAKE, PW_FB_CTL_AUTO, PW_FB_CTL_BUSY, PW_FB_CTL_ERR, PW_FB_CTL_CODE,
   PW_FB_STAT_GATED, PW_FB_STAT_WAKING, PW_FB_IDLE_FCLK, PW_FB_WAKES_COUNT, PW_FB_WQ_HIGH,
   PW_FB_WQ_CLR_HIGH, PW_FB_WQ_STALL_COUNT, PW_PARK_CTL_GO, PW_PARK_CTL_FORCE, PW_PARK_CTL_NV,
   PW_PARK_CTL_BUSY, PW_PARK_CTL_STATE, PW_PARK_CTL_ERR, PW_PARK_CTL_CODE, PW_PARK_CTL_PC_REQ,
   PW_HOLDUP_ENERGY, PW_HOLDUP_V, PW_NV_COST_FIXED, PW_NV_COST_PER_MIB, PW_PARK_COST_COST,
   PW_PARK_COST_KIB, PW_PARK_DRAIN_FCLK, PW_PARK_LOST_COUNT, PW_PARK_NUM_NUM]
def allp2D : List Fld :=
  [PC_CTL_RUN, PC_CTL_CLR_ALL, PC_CFG_EVENT, PC_CFG_PART, PC_CFG_EN,
   PC_CFG_OVF, PC_CFG_CLR, PC_CNT_LO_COUNT, PC_CNT_HI_COUNT]
def allp2C : List Fld :=
  [OB_CTL_EN, OB_CTL_LEVEL, OB_SEL_EVENT, OB_SEL_PART, OB_SEL_EN,
   OB_SEL_DIV, OB_LOST_COUNT, OB_BADMESH_COUNT]
/-- Every field, the header apart. -/
def all : List Fld :=
  allp00_0 ++
  allp00_1 ++
  allp2B ++
  allp08_0 ++
  allp08_1 ++
  allp08_2 ++
  allp18_0 ++
  allp18_1 ++
  allp03_0 ++
  allp03_1 ++
  allp03_2 ++
  allp0C ++
  allp10_0 ++
  allp10_1 ++
  allp01_0 ++
  allp01_1 ++
  allp02_0 ++
  allp02_1 ++
  allp40 ++
  allp14_0 ++
  allp14_1 ++
  allp29_0 ++
  allp29_1 ++
  allp2A ++
  allp2D ++
  allp2C

end F

end Sys2Proof.Machine
end

