-- ==== Sys2Proof/Machine/Ops.lean ====
section
/-! DEFINITION. The named operations over tables, registers, parts and messages: every meaning reads and
writes the state through them. -/

namespace Sys2Proof.Machine

/-! ### Tables -/

/-- The row under key `n`; `d` is what an unlisted key reads as. -/
def tget {α : Type} (d : α) : Tbl α → Nat → α
  | [], _ => d
  | (k, v) :: t, n => if k = n then v else tget d t n

/-- Write row `n`: keys stay rising and a row equal to `d` is not listed. -/
def tset {α : Type} [DecidableEq α] (d : α) (t : Tbl α) (n : Nat) (v : α) : Tbl α :=
  t.filter (fun e => e.1 < n) ++ (if v = d then [] else [(n, v)]) ++ t.filter (fun e => n < e.1)

/-- Change row `n` by `f`. -/
def tmod {α : Type} [DecidableEq α] (d : α) (t : Tbl α) (n : Nat) (f : α → α) : Tbl α :=
  tset d t n (f (tget d t n))

/-- The canonical form of a table: keys strictly rising, no row equal to `d`. -/
def twf {α : Type} [DecidableEq α] (d : α) (t : Tbl α) : Bool :=
  decide (t.Pairwise (fun a b => a.1 < b.1)) && t.all (fun e => decide (e.2 ≠ d))

/-- The lowest number below `n`, counted from `i`, that satisfies `p`. -/
def lowestFrom (p : Nat → Bool) : Nat → Nat → Option Nat
  | _, 0 => none
  | i, n + 1 => if p i then some i else lowestFrom p (i + 1) n

/-! ### Bits -/

/-- Field [lo+len-1:lo] of a word, as a number. -/
def bitsOf (w lo len : Nat) : Nat := (w >>> lo) % 2 ^ len

/-- 1 for true. -/
def bnat (b : Bool) : Nat := if b then 1 else 0

/-! ### Registers -/

/-- The key of field `f` of instance `inst` (station, halt, page) and selection `sel`. -/
def Fld.key (f : Fld) (inst sel : Nat) : Nat :=
  (((f.page + inst) * 4096 + f.off) * 32 + f.lo) * 65536 + sel

/-- A register field's value: its width bounds it. -/
def State.get (s : State) (f : Fld) (inst : Nat := 0) (sel : Nat := 0) : Nat :=
  tget f.rst s.regs (f.key inst sel) % 2 ^ f.len

/-- Write a register field (its width bounds what it holds). -/
def State.put (s : State) (f : Fld) (v : Nat) (inst : Nat := 0) (sel : Nat := 0) : State :=
  { s with regs := tset f.rst s.regs (f.key inst sel) (v % 2 ^ f.len) }

/-- Write a one-bit field. -/
def State.putB (s : State) (f : Fld) (b : Bool) (inst : Nat := 0) (sel : Nat := 0) : State :=
  s.put f (bnat b) inst sel

/-- A one-bit field is set. -/
def State.flag (s : State) (f : Fld) (inst : Nat := 0) (sel : Nat := 0) : Bool :=
  s.get f inst sel == 1

/-- Add `n` to a counter that saturates at the largest value its width holds. -/
def State.bump (s : State) (f : Fld) (inst : Nat := 0) (sel : Nat := 0) (n : Nat := 1) : State :=
  s.put f (min (s.get f inst sel + n) (2 ^ f.len - 1)) inst sel

/-- Set bit `bit` of page `page`'s EVT_STAT (17 R456). -/
def State.evt (s : State) (page bit : Nat) : State :=
  s.put F.EVT_STAT_EVT (s.get F.EVT_STAT_EVT page ||| 2 ^ bit) page

/-- A 64-bit quantity held as a pair of 32-bit halves. -/
def State.get64 (s : State) (lo hi : Fld) (inst : Nat := 0) (sel : Nat := 0) : Nat :=
  s.get hi inst sel * 2 ^ 32 + s.get lo inst sel * 2 ^ lo.lo

/-! ### Parts, messages and outputs -/

def State.stn (s : State) (i : Nat) : Station := tget Station.init s.stns i
def State.modStn (s : State) (i : Nat) (f : Station → Station) : State :=
  { s with stns := tmod Station.init s.stns i f }
def State.mem (s : State) (i : Nat) : StnMem := (s.stn i).mem
def State.modMem (s : State) (i : Nat) (f : StnMem → StnMem) : State :=
  s.modStn i (fun st => { st with mem := f st.mem })
def State.halt (s : State) (i : Nat) : Halt := tget Halt.init s.halts i
def State.modHalt (s : State) (i : Nat) (f : Halt → Halt) : State :=
  { s with halts := tmod Halt.init s.halts i f }

/-- Protection of a part, by instance: stations 0 to 3, the junction 0x80. -/
def State.prot (s : State) (i : Nat) : Prot := tget Prot.init s.prots (min i 4)
def State.modProt (s : State) (i : Nat) (f : Prot → Prot) : State := { s with prots := tmod Prot.init s.prots (min i 4) f }
/-- No row is in error: no read of one finds anything (12 R341). -/
def State.rowsGood (s : State) : Bool := (List.range 5).all (fun i => (s.prot i).bad.isEmpty)
/-- An uncorrectable row of a part was read: its reset begins in the next fclk, and until then it serves nothing (12 R347). -/
def State.resetDue (s : State) (p : Part) : Bool := (List.range 5).any (fun i => (s.prot i).due.any (fun e => e.1 == p))

/-- Send a message to another part; messages between two parts keep their order (01 R16). -/
def State.emit (s : State) (src dst : Part) (m : Msg) : State :=
  { s with net := s.net ++ [⟨src, dst, m⟩] }

/-- The mesh port on which a part sends to another (16 R434): a station's port A to the halts of its region,
its port B otherwise. -/
def sendPort (src dst : Part) : Nat :=
  match src, dst with
  | .halt h, _ => h.toNat
  | .stn x, .halt h => if h.toNat / 4 = x.toNat then 16 + x.toNat else 20 + x.toNat
  | .stn x, _ => 20 + x.toNat
  | .jct, _ => 24

/-- Credit classes of the mesh ports (16 R433): 0 BLK, 1 ACC, 2 WR. -/
def State.credits (s : State) (port cls : Nat) : Nat := tget 0 s.crd (3 * port + cls)
def State.spendCredit (s : State) (port cls : Nat) : State := { s with crd := tmod 0 s.crd (3 * port + cls) (· - 1) }

/-- The mesh port on which a part receives from another (16 R434). -/
def recvPort (src dst : Part) : Nat :=
  match dst, src with
  | .halt h, _ => h.toNat
  | .stn x, .halt h => if h.toNat / 4 = x.toNat then 16 + x.toNat else 20 + x.toNat
  | .stn x, _ => 20 + x.toNat
  | .jct, _ => 24
/-- An inbound transfer has been taken: its credit is to go back (16 R435). -/
def State.free1 (s : State) (port cls : Nat) : State := { s with freed := tmod 0 s.freed (3 * port + cls) (· + 1) }

/-- A part withholds the credits of its mesh ports: a station in phases 1 to 5 of its recovery (13 R371), the
junction in phases 1 to 3 of its own (13 R379), and any part whose reset is due (12 R347). -/
def State.stopped (s : State) (p : Part) : Bool :=
  s.resetDue p || match p with
  | .stn x => decide (1 ≤ s.get F.REC_STAT_PHASE x.toNat) && decide (s.get F.REC_STAT_PHASE x.toNat ≤ 5)
  | .jct => decide (1 ≤ s.get F.FD_JREC_PHASE) && decide (s.get F.FD_JREC_PHASE ≤ 3)
  | .halt _ => false

/-- The block is PARKED and serves nothing (14 R408). -/
def State.parked (s : State) : Bool := s.get F.PW_PARK_CTL_STATE == 4

/-- A part recovers: it raises none of its events (15 R424). -/
def State.inRecovery (s : State) : Part → Bool
  | .stn x => s.get F.REC_STAT_PHASE x.toNat != 0
  | .halt h => (s.halt h.toNat).phase != 0
  | .jct => s.get F.FD_JREC_PHASE != 0

/-- Part codes of the fault log, the performance counters and the trace (13 R390). -/
def partCode : Part → Nat
  | .stn s => s.toNat
  | .halt h => 4 + h.toNat
  | .jct => 20

/-- Counter `n` counts event `code` of a part (15 R422, R423). -/
def State.counting (s : State) (n : Nat) (part : Part) (code : Nat) : Bool :=
  s.flag F.PC_CTL_RUN && s.flag F.PC_CFG_EN 0 n && s.get F.PC_CFG_EVENT 0 n == code &&
    (s.get F.PC_CFG_PART 0 n == partCode part || s.get F.PC_CFG_PART 0 n == 31)
/-- Trace selector `n` counts it (16 R444). -/
def State.tracing (s : State) (n : Nat) (part : Part) (code : Nat) : Bool :=
  s.flag F.OB_CTL_EN && s.flag F.OB_SEL_EN 0 n && s.get F.OB_SEL_EVENT 0 n == code &&
    (s.get F.OB_SEL_PART 0 n == partCode part || s.get F.OB_SEL_PART 0 n == 31)

/-- Event `code` occurs `n` times in a part: counters and trace selectors count it; a counter that reaches its
largest value sets OVF. -/
def State.occur (s : State) (part : Part) (code n : Nat) : State :=
  if n = 0 ∨ s.inRecovery part then s
  else
    let cs := (List.range 8).filter (fun i => s.counting i part code)
    let full := cs.filter (fun i => decide (2 ^ 64 - 1 ≤ tget 0 s.perf i + n))
    { s with
      perf := cs.foldl (fun t i => tmod 0 t i (fun v => min (v + n) (2 ^ 64 - 1))) s.perf
      occ := ((List.range 4).filter (fun i => s.tracing i part code)).foldl (fun t i => tmod 0 t i (· + n)) s.occ
      regs := (full.foldl (fun (s : State) i => (s.putB F.PC_CFG_OVF true 0 i).evt 0x2D i) s).regs }

/-- The oldest message from `src` to `dst`, if it can be delivered: a transfer between two parts takes a BLK
credit of the sender's port (16 R435), and the receiver takes it. -/
def State.head? (s : State) (src dst : Part) : Option Msg :=
  if s.parked ∨ (src ≠ dst ∧ (s.credits (sendPort src dst) 0 = 0 ∨ s.stopped dst)) then none
  else (s.net.find? (fun m => m.src = src ∧ m.dst = dst)).map (·.msg)

/-- Take the oldest message from `src` to `dst` out of the mesh. -/
def State.pop (s : State) (src dst : Part) : State :=
  let t := { s with net := s.net.eraseP (fun m => m.src = src ∧ m.dst = dst) }
  if src = dst then t else (t.spendCredit (sendPort src dst) 0).free1 (recvPort src dst) 0

/-- BLOCK_READY: high from the end of start-up, low under test (14 R398, 16 R447). -/
def State.serving (s : State) : Bool := s.su.ready && !s.su.wInstr.underTest

/-- Drive an output at the boundary; under test the boundary register or the safe values drive it (16 R447). -/
def State.drive (s : State) (o : Out) : State :=
  if s.su.wInstr.underTest then s else { s with out := s.out ++ [o] }

/-- The next free value (assumption log 6). -/
def State.fresh (s : State) : Word64 × State :=
  (Config.freeWord s.freeCtr, { s with freeCtr := s.freeCtr + 1 })

/-! ### Writes of rows whose check bits an injection inverted (12 R354) -/

/-- Two states hold the same in a row of a station's RAM; none where the spec does not say what its rows hold. -/
def stnRowSame (a b : StnMem) (ram row : Nat) : Option Bool :=
  match ram with
  | 0x00 => some (decide ((tget Slot.free a.slots row).val = (tget Slot.free b.slots row).val))
  | 0x01 => some (decide ({ tget Slot.free a.slots row with val := 0 } = { tget Slot.free b.slots row with val := 0 }))
  | 0x02 => some (decide (tget SemEnt.init a.sems row = tget SemEnt.init b.sems row))
  | 0x03 => some (decide (tget SemEnt.init a.lockqs row = tget SemEnt.init b.lockqs row))
  | 0x04 => some (decide (tget TurnRec.init a.turns row = tget TurnRec.init b.turns row))
  | 0x05 => some (decide (tget 0 a.hmap row = tget 0 b.hmap row))
  | 0x06 => some (decide (a.watches.filter (fun w => w.row = row) = b.watches.filter (fun w => w.row = row)) &&
      decide (a.waiters.filter (fun w => w.row = row) = b.waiters.filter (fun w => w.row = row)))
  | 0x07 => some (decide (tget none a.lanes row = tget none b.lanes row) && decide (tget FoldHdr.init a.hdrs row = tget FoldHdr.init b.hdrs row))
  | 0x08 => some (decide (tget 0 a.box.store row = tget 0 b.box.store row))
  | 0x0A => some (decide (tget none a.bounds row = tget none b.bounds row))
  | _ => none

/-- The same of a row of halt `h`, by its row map (12 R338). -/
def haltRowSame (s t : State) (h row : Nat) : Option Bool :=
  let a := s.halt h
  let b := t.halt h
  if row < 0x180 then some (decide (tget WaitReg.init a.waits row = tget WaitReg.init b.waits row))
  else if row = 0x180 then some (decide (a.script.cmp = b.script.cmp))
  else if 0x200 ≤ row ∧ row < 0x380 then some (decide (tget 0 a.bases (row - 0x200) = tget 0 b.bases (row - 0x200)))
  else if 0x400 ≤ row ∧ row < 0x440 then some (decide (a.orig.ret[row - 0x400]? = b.orig.ret[row - 0x400]?))
  else if 0x480 ≤ row ∧ row < 0x484 then some (decide (tget Batch.init a.batches (row - 0x480) = tget Batch.init b.batches (row - 0x480)))
  else if 0x4C0 ≤ row ∧ row < 0x4D0 then some (decide (tget 0 a.scriptStore (row - 0x4C0) = tget 0 b.scriptStore (row - 0x4C0)))
  else some (decide (s.get F.HALT_SUPV_MASK h (row % 16) = t.get F.HALT_SUPV_MASK h (row % 16)))

/-- The same of a row of the RAMs that protection instance `i` covers: station 0 to 3 with its halts, 4 the junction. -/
def rowSame (s t : State) (i ram row : Nat) : Option Bool :=
  if i < 4 then
    if 0x10 ≤ ram ∧ ram ≤ 0x13 then haltRowSame s t (4 * i + (ram - 0x10)) row else stnRowSame (s.mem i) (t.mem i) ram row
  else match ram with
    | 0x18 => some (decide (s.jct.proxies.filter (fun e => e.row = row) = t.jct.proxies.filter (fun e => e.row = row)))
    | 0x1A => some (decide (tget Comb.init s.jct.combs row = tget Comb.init t.jct.combs row))
    | 0x1B => some (decide (tget 0 s.jct.box.store row = tget 0 t.jct.box.store row))
    | _ => none

/-- The instance of the protection registers of `prots` entry `i`. -/
def protInst (i : Nat) : Nat := if i < 4 then i else 0x80

/-- What a command's writes do to the rows of instance `i`: a row written has good check bits again, and an
injection armed for it is made. Of a row whose content the spec does not give, whether it was written is free
(assumption log 34). -/
def State.injectAt (s t : State) (i : Nat) : State :=
  let p := tget Prot.init t.prots i
  let keepBad := p.bad.filter (fun e => rowSame s t i e.1 e.2.1 != some false)
  let t := if keepBad = p.bad then t else { t with prots := tset Prot.init t.prots i { p with bad := keepBad } }
  if !p.armed then t
  else
    let ram := t.get F.SP_INJ_RAM (protInst i)
    let row := t.get F.SP_INJ_ROW (protInst i)
    let mask := BitVec.ofNat 5 (t.get F.SP_INJ_MASK (protInst i))
    let (hit, t) := match rowSame s t i ram row with
      | some b => (!b, t)
      | none =>
        let (v, t) := t.fresh
        (v.getLsbD 0, t)
    if hit then { t with prots := tset Prot.init t.prots i { p with bad := keepBad ++ [(ram, row, mask)], armed := false } } else t

def State.inject (s t : State) : State := (List.range 5).foldl (fun t i => s.injectAt t i) t

/-! ### What a command leaves as it was -/

/-- A station recovers; any part does. -/
def State.recovering (s : State) : Bool := (List.range 4).any (fun i => s.get F.REC_STAT_PHASE i ≠ 0)
def State.anyRecovery (s : State) : Bool :=
  s.recovering || s.get F.FD_JREC_PHASE ≠ 0 || (List.range 16).any (fun h => (s.halt h).phase ≠ 0)

/-- STEP and BLOCK_READY once READY has been reached follow the park's phase (14 R408); after a park that an
uncorrectable row ended, BLOCK_READY rises when the recovery has ended (14 R414). -/
def parkSu (u : StartUp) (t : State) : StartUp :=
  if u.step ∉ ([7, 8, 9] : List (BitVec 4)) then u
  else
    let p := t.get F.PW_PARK_CTL_STATE
    if p = 4 then { u with step := 9, ready := false }
    else if p = 2 ∨ p = 3 ∨ (u.step = 8 ∧ t.anyRecovery) then { u with step := 8, ready := false }
    else { u with step := 7, ready := true }

/-- A command that is none of start-up, of test access or of the trace leaves the queue, the start-up state and the
trace buffer as they were. -/
def State.keep (s t : State) : State := { s.inject t with pending := s.pending, su := s.su, trace := s.trace }

/-- The queue and the trace buffer are as they were: for the commands of start-up and test access. -/
def State.keepQ (s t : State) : State := { s.inject t with pending := s.pending, trace := s.trace }

/-- The queue and the start-up state are as they were: for the commands of the trace. -/
def State.keepOb (s t : State) : State := { s.inject t with pending := s.pending, su := s.su }

/-- For commands that may begin or end a park or a recovery: STEP and BLOCK_READY follow, and a rise of
BLOCK_READY sets its event. -/
def State.keepPark (s t : State) : State :=
  let t := s.inject t
  let u := parkSu s.su t
  let t := if u.ready && !s.su.ready then t.evt 0x2A 1 else t
  { t with pending := s.pending, su := u, trace := s.trace }

/-- Every command begins with no output driven. -/
def State.quiet (s : State) : State := { s with out := [] }

/-! ### Numbers of parts, statuses and kinds -/

/-- Endpoint code of a part on its general mesh port (16 R434): port B of a station. -/
def partEndpoint : Part → Nat
  | .halt h => h.toNat
  | .stn s => 20 + s.toNat
  | .jct => 24

def Status.code : Status → Nat
  | .done => 0 | .orphan => 1 | .flushed => 2 | .timeout => 3 | .underflow => 4 | .overflow => 5
  | .denied => 6 | .fault => 7 | .derailed => 8 | .retry => 9 | .unmapped => 10 | .frozen => 11

/-- The status of a code; the reserved codes 0xC to 0xF never occur (03 R77). -/
def Status.ofCode : Nat → Status
  | 1 => .orphan | 2 => .flushed | 3 => .timeout | 4 => .underflow | 5 => .overflow | 6 => .denied
  | 7 => .fault | 8 => .derailed | 9 => .retry | 10 => .unmapped | 11 => .frozen | _ => .done

def Kind.code : Kind → Nat
  | .free => 0 | .counter => 1 | .foldCounter => 2 | .sem => 3 | .glock => 4 | .mlock => 5
  | .turnstile => 6 | .ticket => 7 | .ring => 8 | .ringPart => 9 | .moved => 14 | .retired => 15

/-- The kind of a code; 0xA to 0xD are reserved (02 R37). -/
def Kind.ofCode : Nat → Option Kind
  | 0 => some .free | 1 => some .counter | 2 => some .foldCounter | 3 => some .sem | 4 => some .glock
  | 5 => some .mlock | 6 => some .turnstile | 7 => some .ticket | 8 => some .ring | 9 => some .ringPart
  | 14 => some .moved | 15 => some .retired | _ => none

/-! ### Global object addresses (01 R26) -/

def aPon (a : GAddr) : Nat := (a.extractLsb' 0 14).toNat
def aStn (a : GAddr) : BitVec 2 := a.extractLsb' 14 2
def aDie (a : GAddr) : BitVec 2 := a.extractLsb' 16 2
def aPkg (a : GAddr) : BitVec 7 := a.extractLsb' 18 7
/-- Die of an address in the SRC form of 09 R255: PKG in [8:2], DIE in [1:0]. -/
def aSrc (a : GAddr) : BitVec 9 := a.extractLsb' 16 9
/-- Home of an address: PKG, DIE and STN. -/
def aHome (a : GAddr) : BitVec 11 := a.extractLsb' 14 11

def mkAddr (pkg : BitVec 7) (die : BitVec 2) (stn : BitVec 2) (pon : Nat) : GAddr :=
  pkg ++ die ++ stn ++ BitVec.ofNat 14 pon

/-- This die, in SRC form, as the junction knows it (01 R29, R30). -/
def State.dieSrc (s : State) : BitVec 9 := s.su.pkg ++ s.su.die

def State.onDie (s : State) (a : GAddr) : Bool := decide (aSrc a = s.dieSrc)

/-- An address of this die. -/
def State.addrOf (s : State) (si pon : Nat) : GAddr :=
  mkAddr s.su.pkg s.su.die (BitVec.ofNat 2 si) pon

/-- A station's latched identity (01 R33). -/
def State.stnId (s : State) (i : Nat) : StnId := tget StnId.init s.su.stnIds i

/-- This die, in SRC form, as a part that routes requests knows it (01 R27): a station by the identity it latched, a
halt's requests by that of its serving station, the junction by its own. -/
def State.srcOf (s : State) : Part → BitVec 9
  | .stn x => (s.stnId x.toNat).pkg ++ (s.stnId x.toNat).die
  | .halt h => (s.stnId (h.toNat / 4)).pkg ++ (s.stnId (h.toNat / 4)).die
  | .jct => s.dieSrc

/-! ### Slots -/

def State.slot (s : State) (si pon : Nat) : Slot := tget Slot.free (s.mem si).slots pon
def State.modSlot (s : State) (si pon : Nat) (f : Slot → Slot) : State :=
  s.modMem si (fun m => { m with slots := tmod Slot.free m.slots pon f })

/-- Write an object's value. -/
def State.setVal (s : State) (si pon : Nat) (v : Word64) : State :=
  s.modSlot si pon (fun sl => { sl with val := v })

/-- Write LAST_SRC (02 R40). -/
def State.setSrc (s : State) (si pon : Nat) (x : BitVec 16) : State :=
  s.modSlot si pon (fun sl => { sl with lastSrc := x })

/-- A slot is watched: a watch entry, or a comparator of the station's box, names it (02 R39, 08 R231). -/
def State.watched (s : State) (si pon : Nat) : Bool :=
  (s.mem si).watches.any (fun w => w.pon = pon) ||
  (s.mem si).box.threads.any (fun e => match e.2.cmp with
    | some (a, _) => decide (aPon a = pon) && (e.2.state != .off && e.2.state != .stopped)
    | none => false)

/-! ### The fault log -/

/-- Number a fault and enter it in the log; a full log loses its oldest entry (13 R358). `part` is a part
code of 13 R390, 21 the link. -/
def State.fault (s : State) (cls part detail : Nat) : State :=
  let s := if s.jct.faults.length < 32 then s else
    let s := s.bump F.FD_LOG_CTL_LOST
    { s with jct := { s.jct with faults := s.jct.faults.tail } }
  let e : FaultEnt := { cls := BitVec.ofNat 4 cls, part := BitVec.ofNat 5 part, num := s.jct.faultNo, detail := BitVec.ofNat 32 detail }
  let s : State := { s with jct := { s.jct with faults := s.jct.faults ++ [e], faultNo := s.jct.faultNo + 1,
                                                   lastFault := tset 0 s.jct.lastFault part s.jct.faultNo.toNat } }
  s.evt 0x29 0

/-! ### Register shorthands -/

/-- The pavilion's wait limit in units of 1,024 fclk, 0 none (03 R93), and lock limit (05 R146). -/
def State.waitLimit (s : State) (p : BitVec 6) : Nat := s.get F.WAIT_CFG_LIMIT 0 p.toNat
def State.lockLimit (s : State) (p : BitVec 6) : Nat := s.get F.LOCK_CFG_LIMIT 0 p.toNat
/-- The pavilion has an open run (02 R54). -/
def State.runOpen (s : State) (p : BitVec 6) : Bool := s.flag F.RUN_STAT_OPEN 0 p.toNat
/-- The pavilion's generation (11 R318). -/
def State.gen (s : State) (p : BitVec 6) : BitVec 8 := BitVec.ofNat 8 (s.get F.PAV_STAT_GEN 0 p.toNat)

/-- Pavilion states (11 R309). -/
def State.pavState (s : State) (p : BitVec 6) : Nat := s.get F.PAV_STAT_STATE 0 p.toNat

end Sys2Proof.Machine
end

