-- ==== Sys2Proof/Machine/FoldArith.lean ====
section
/-! DEFINITION. Fold arithmetic (06 R164 to R184): formats, lanes, accumulation and rounding. Lanes are
numbers of 8 × S bits; flags are a mask in the order of FR_STAT [15:10] (06 R191). -/

namespace Sys2Proof.Machine

/-! ### Formats -/

/-- One input element: a finite value `mag` × 2^-149 with its sign, an infinity or a NaN (06 R177). -/
inductive FTerm where
  | fin (neg : Bool) (mag : Nat)
  | inf (neg : Bool)
  | nan
  deriving DecidableEq, Repr

/-- The exponent and fraction widths of a floating format, whether it has infinities, and the weight of a
subnormal's lowest bit above 2^-149 (00 R7, 06 R177, R180). -/
structure FloatFmt where
  eb : Nat
  fb : Nat
  ieee : Bool
  off : Nat
  deriving DecidableEq, Repr

/-- Codes 0x0 to 0x4 of 06 R165. -/
def floatFmt : Nat → FloatFmt
  | 0 => ⟨8, 23, true, 0⟩
  | 1 => ⟨5, 10, true, 125⟩
  | 2 => ⟨8, 7, true, 16⟩
  | 3 => ⟨4, 3, false, 140⟩
  | _ => ⟨5, 2, true, 133⟩

/-- An element of a floating format: E all ones is an infinity or NaN where the format has infinities;
E4M3 has only the NaN with all ones. -/
def floatTerm (f : FloatFmt) (x : Nat) : FTerm :=
  let e := x / 2 ^ f.fb % 2 ^ f.eb
  let m := x % 2 ^ f.fb
  let neg := decide (x / 2 ^ (f.eb + f.fb) % 2 = 1)
  if e = 2 ^ f.eb - 1 ∧ f.ieee then (if m = 0 then .inf neg else .nan)
  else if e = 2 ^ f.eb - 1 ∧ m = 2 ^ f.fb - 1 then .nan
  else if e = 0 then .fin neg (m * 2 ^ f.off)
  else .fin neg ((2 ^ f.fb + m) * 2 ^ (e + f.off - 1))

/-- A two's-complement integer of `w` bits. -/
def signedOf (w x : Nat) : Int := if 2 ^ (w - 1) ≤ x % 2 ^ w then (x % 2 ^ w : Nat) - (2 ^ w : Nat) else (x % 2 ^ w : Nat)

/-- An element of input format `fmt` with block scale `sc` (06 R177). -/
def termOf (fmt sc x : Nat) : FTerm :=
  if fmt ≤ 4 then floatTerm (floatFmt fmt) x
  else if fmt = 8 then let q := signedOf 32 x; .fin (decide (q < 0)) (q.natAbs * 2 ^ 149)
  else if sc = 0xFF then .nan
  else if fmt = 5 then floatTerm ⟨4, 3, false, sc + 13⟩ x
  else if fmt = 6 then floatTerm ⟨5, 2, true, sc + 6⟩ x
  else let q := signedOf 8 x; .fin (decide (q < 0)) (q.natAbs * 2 ^ (sc + 16))

/-- Element width in bytes (06 R165). -/
def fmtWidth : Nat → Nat
  | 0 | 8 | 0xB => 4
  | 1 | 2 | 0xA => 2
  | 0xC => 8
  | _ => 1

def isMx (fmt : Nat) : Bool := 5 ≤ fmt && fmt ≤ 7

/-! ### Flags -/

def fOVF : Nat := 1
def fNAN : Nat := 2
def fCLASH : Nat := 4
def fRND : Nat := 8
def fSATD : Nat := 16
def fEMPTY : Nat := 32

/-! ### Rounding (06 R180) -/

/-- A non-zero magnitude rounded to nearest even in a floating format: exponent and fraction fields as one
number, subnormals kept. -/
def roundMag (f : FloatFmt) (mag : Nat) : Nat :=
  let p := f.fb + 1
  let lsb := max f.off (Nat.log2 mag + 1 - p)
  let keep := mag >>> lsb
  let half := decide (lsb ≠ 0 ∧ mag >>> (lsb - 1) % 2 = 1)
  let rest := decide (2 ≤ lsb ∧ mag % 2 ^ (lsb - 1) ≠ 0)
  let keep := if half ∧ (rest ∨ keep % 2 = 1) then keep + 1 else keep
  (lsb - f.off) * 2 ^ f.fb + keep

/-- The largest finite encoding of a format. -/
def maxFinite (f : FloatFmt) : Nat := if f.ieee then (2 ^ f.eb - 1) * 2 ^ f.fb - 1 else 2 ^ (f.eb + f.fb) - 2
/-- The canonical quiet NaN (00 R7). -/
def quietNan (f : FloatFmt) : Nat := if f.ieee then (2 ^ f.eb - 1) * 2 ^ f.fb + 2 ^ (f.fb - 1) else 2 ^ (f.eb + f.fb) - 1
def signBit (f : FloatFmt) (neg : Bool) : Nat := if neg then 2 ^ (f.eb + f.fb) else 0
/-- ±∞, or the NaN of a format without infinities. -/
def infinityOf (f : FloatFmt) (neg : Bool) : Nat := if f.ieee then maxFinite f + 1 + signBit f neg else quietNan f

/-- The result of a term and the flags of encoding it. -/
def encodeTerm (fmt : Nat) (sat : Bool) : FTerm → Nat × Nat
  | .nan => (quietNan (floatFmt fmt), 0)
  | .inf neg => (infinityOf (floatFmt fmt) neg, 0)
  | .fin neg mag =>
    let f := floatFmt fmt
    if mag = 0 then (0, 0)
    else
      let b := roundMag f mag
      if b ≤ maxFinite f then (b + signBit f neg, 0)
      else if sat then (maxFinite f + signBit f neg, fRND)
      else (infinityOf f neg, fRND)

/-! ### Lanes -/

/-- Lane size S in bytes (06 R164). -/
def laneSize (op fmt : Nat) : Nat := if op = 1 then 4 else if op = 6 ∨ op = 7 then fmtWidth fmt else 40

/-- An empty lane as stored (06 R164, R184). -/
def emptyLane (op : Nat) : Nat := if op = 1 then 0x80000000 else 0

/-- An exact lane from its ACC and CLS (06 R176); ACC is kept modulo 2^318. -/
def exactLane (acc : Int) (cls : Nat) : Nat := (acc % (2 : Int) ^ 318).toNat + cls * 2 ^ 318
def laneAcc (lane : Nat) : Int := signedOf 318 lane
def laneCls (lane : Nat) : Nat := lane / 2 ^ 318 % 4

def termInt (neg : Bool) (mag : Nat) : Int := if neg then -(mag : Int) else mag

/-- CLS of an infinity (06 R176). -/
def infCls (neg : Bool) : Nat := if neg then 2 else 1

/-- Add an exact integer to a FINITE lane (06 R178). -/
def addExact (lane : Nat) (x : Int) : Nat × Nat :=
  let s := laneAcc lane + x
  if -(2 : Int) ^ 317 ≤ s ∧ s < (2 : Int) ^ 317 then (exactLane s 0, 0)
  else (exactLane s (infCls (decide (s < 0))), fOVF)

/-- Fold a term into an exact lane (06 R178). -/
def foldExact (lane : Nat) (x : FTerm) : Nat × Nat :=
  match laneCls lane, x with
  | 0, .fin neg mag => addExact lane (termInt neg mag)
  | 0, .inf neg => (exactLane (laneAcc lane) (infCls neg), 0)
  | 3, .nan => (lane, fNAN)
  | 3, _ => (lane, 0)
  | _, .nan => (exactLane (laneAcc lane) 3, fNAN)
  | _, .fin _ _ => (lane, 0)
  | c, .inf neg => if c = infCls neg then (lane, 0) else (exactLane (laneAcc lane) 3, fCLASH)

/-- A term in binary32 (06 R181): zeros keep their sign. -/
def toF32 : FTerm → Nat × Nat
  | .fin neg 0 => (signBit (floatFmt 0) neg, 0)
  | x => let r := encodeTerm 0 false x; (r.1, if r.2 = 0 then 0 else fOVF)

/-- Fold a term into a SUM_FAST lane: binary32 addition, round to nearest even (06 R181). -/
def foldFast (lane : Nat) (x : FTerm) : Nat × Nat :=
  match floatTerm (floatFmt 0) (lane % 2 ^ 32), x with
  | _, .nan => (quietNan (floatFmt 0), fNAN)
  | l, x =>
    let (t, fl) := toF32 x
    match l, floatTerm (floatFmt 0) t with
    | .nan, _ => (quietNan (floatFmt 0), fl)
    | .inf a, .inf b => if a = b then (infinityOf (floatFmt 0) a, fl) else (quietNan (floatFmt 0), fl ||| fCLASH)
    | .inf a, _ => (infinityOf (floatFmt 0) a, fl)
    | _, .inf b => (infinityOf (floatFmt 0) b, fl)
    | .fin a m, .fin b n =>
      let s := termInt a m + termInt b n
      if s = 0 then (signBit (floatFmt 0) (a && b && m == 0), fl)
      else
        let r := encodeTerm 0 false (.fin (decide (s < 0)) s.natAbs)
        (r.1, fl ||| (if r.2 = 0 then 0 else fOVF))
    | _, _ => (quietNan (floatFmt 0), fl)

/-- A MIN or MAX lane (06 R182). -/
def mmLane (val : Int) (present : Bool) (cls : Nat) : Nat :=
  (val % (2 : Int) ^ 296).toNat + bnat present * 2 ^ 296 + cls * 2 ^ 318
def mmVal (lane : Nat) : Int := signedOf 296 lane
def mmPresent (lane : Nat) : Bool := decide (lane / 2 ^ 296 % 2 = 1)

/-- Order of values with infinities: −∞, finite, +∞. -/
def valueBelow (ca : Nat) (a : Int) (cb : Nat) (b : Int) : Bool :=
  let rank := fun (c : Nat) => if c = 2 then (0 : Nat) else if c = 1 then 2 else 1
  decide (rank ca < rank cb) || (decide (rank ca = rank cb) && ca == 0 && decide (a < b))

/-- Fold a value of class `c` into a MIN or MAX lane (06 R182). -/
def foldMinMax (isMax : Bool) (lane : Nat) (x : FTerm) : Nat × Nat :=
  let keepOr := fun (c : Nat) (v : Int) =>
    if laneCls lane = 3 then lane
    else if !mmPresent lane then mmLane v true c
    else if (if isMax then valueBelow (laneCls lane) (mmVal lane) c v else valueBelow c v (laneCls lane) (mmVal lane))
      then mmLane v true c
    else lane
  match x with
  | .nan => (mmLane (mmVal lane) (mmPresent lane) 3, fNAN)
  | .inf neg => (keepOr (infCls neg) 0, 0)
  | .fin neg mag => (keepOr 0 (termInt neg mag), 0)

/-- All ones of an element's width. -/
def elemMask (fmt : Nat) : Nat := 2 ^ (8 * fmtWidth fmt) - 1

/-- Fold one element into a lane (06 R178 to R184). -/
def foldElem (op fmt sc lane x : Nat) : Nat × Nat :=
  match op with
  | 1 => foldFast lane (termOf fmt sc x)
  | 2 => foldMinMax false lane (termOf fmt sc x)
  | 3 => foldMinMax true lane (termOf fmt sc x)
  | 6 => (lane ||| (x &&& elemMask fmt), 0)
  | 7 => (lane ||| (elemMask fmt - (x &&& elemMask fmt)), 0)
  | _ => foldExact lane (termOf fmt sc x)

/-- The term a lane's class stands for (06 R176). -/
def clsTerm (cls : Nat) (fin : FTerm) : FTerm :=
  match cls with
  | 1 => .inf false
  | 2 => .inf true
  | 3 => .nan
  | _ => fin

/-- Fold a lane of a partial into a lane (09 R272). -/
def foldImage (op lane img : Nat) : Nat × Nat :=
  match op with
  | 1 => foldFast lane (floatTerm (floatFmt 0) (img % 2 ^ 32))
  | 2 | 3 =>
    let v := mmVal img
    if laneCls img = 3 then foldMinMax (op == 3) lane .nan
    else if mmPresent img then foldMinMax (op == 3) lane (clsTerm (laneCls img) (.fin (decide (v < 0)) v.natAbs))
    else (lane, 0)
  | 6 | 7 => (lane ||| img, 0)
  | _ => let v := laneAcc img; foldExact lane (clsTerm (laneCls img) (.fin (decide (v < 0)) v.natAbs))

/-- The encoded result of a lane at release, and its flags (06 R180 to R184). -/
def releaseLane (op outFmt : Nat) (sat : Bool) (lane : Nat) : Nat × Nat :=
  match op with
  | 0 => let v := laneAcc lane; encodeTerm outFmt sat (clsTerm (laneCls lane) (.fin (decide (v < 0)) v.natAbs))
  | 1 => if outFmt = 0 then (lane % 2 ^ 32, 0) else encodeTerm outFmt sat (floatTerm (floatFmt 0) (lane % 2 ^ 32))
  | 2 | 3 =>
    if laneCls lane = 3 then (quietNan (floatFmt outFmt), 0)
    else if !mmPresent lane then (quietNan (floatFmt outFmt), fEMPTY)
    else let v := mmVal lane; encodeTerm outFmt sat (clsTerm (laneCls lane) (.fin (decide (v < 0)) v.natAbs))
  | 4 => (lane / 2 ^ 149 % 2 ^ 32, 0)
  | 5 =>
    let v := laneAcc lane / (2 : Int) ^ 149
    if v < -(2 : Int) ^ 31 then (0x80000000, fSATD)
    else if (2 : Int) ^ 31 - 1 < v then (0x7FFFFFFF, fSATD)
    else ((v % (2 : Int) ^ 32).toNat, 0)
  | 6 => (lane % 2 ^ (8 * fmtWidth outFmt), 0)
  | _ => (elemMask outFmt - lane % 2 ^ (8 * fmtWidth outFmt), 0)

/-! ### Geometry and configuration -/

/-- Fields of FR_CFG (06 R191). -/
def cfgOp (c : Nat) : Nat := c % 8
def cfgIn (c : Nat) : Nat := c / 8 % 16
def cfgOut (c : Nat) : Nat := c / 128 % 16
def cfgWide (c : Nat) : Bool := c / 2048 % 2 = 1
def cfgDouble (c : Nat) : Bool := c / 4096 % 2 = 1
def cfgSat (c : Nat) : Bool := c / 8192 % 2 = 1

/-- Allowed combinations of operation and formats (06 R164, R165). -/
def comboOk (op i o : Nat) : Bool :=
  if op ≤ 3 then i ≤ 7 && o ≤ 4
  else if op ≤ 5 then i == 8 && o == 8
  else 9 ≤ i && i ≤ 12 && o == i

/-- Payload length of one contribution, and beats per contribution (06 R168). -/
def payloadLen (fmt lanes : Nat) : Nat := if isMx fmt then 64 * (lanes / 32) else (lanes * fmtWidth fmt + 63) / 64 * 64
def beatsPer (fmt lanes : Nat) : Nat := payloadLen fmt lanes / 64

/-- Lines of one half of the lane store (06 R166). -/
def halfLines (op fmt lanes : Nat) : Nat := (lanes * laneSize op fmt + 63) / 64

/-- The refusal code of an apply, 0 none (06 R167, R168, R191): the lowest that applies. `nlg` is the
region's length in groups. -/
def applyCode (isFold busy : Bool) (cfg lanes target resAddr nlg : Nat) : Nat :=
  let op := cfgOp cfg
  let i := cfgIn cfg
  let o := cfgOut cfg
  let wide := cfgWide cfg
  let size := lanes = 0 ∨ 65536 < lanes ∨ target = 0 ∨
    (if wide then 65536 < payloadLen i lanes ∨ (isMx i ∧ lanes % 32 ≠ 0)
     else isMx i ∨ 4 < lanes * fmtWidth i ∨ 8 < lanes * fmtWidth o)
  if !isFold then 1
  else if busy then 2
  else if !comboOk op i o then 3
  else if size then 4
  else if 64 * nlg < 1 + (if cfgDouble cfg then 2 else 1) * halfLines op i lanes then 5
  else if wide ∧ (resAddr = 0 ∨ resAddr % 64 ≠ 0) then 6
  else 0

end Sys2Proof.Machine
end

