-- ==== Sys2Proof/Machine/Watch.lean ====
section
/-! DEFINITION. Answers of a home station, originator tables, and watches (03 R75, R82 to R86; 13 R363,
R367). -/

namespace Sys2Proof.Machine

/-! ### Originators -/

/-- The last-signaller form of an originator (02 R40). -/
def lastSrcOf : Orig → BitVec 16
  | .queue _ core q => BitVec.ofNat 16 (core.toNat * 32 + q.toNat)
  | .thread (.stn s t) => BitVec.ofNat 16 (0x4000 + s.toNat * 16 + t.toNat)
  | .thread (.jct t) => BitVec.ofNat 16 (0x4040 + t.toNat)
  | .thread (.script h) => BitVec.ofNat 16 (0x4050 + h.toNat)
  | .timetable => 0x4060
  | .die src _ _ _ => BitVec.ofNat 16 (0x8000 + src.toNat)
  | .combine _ => 0x4040
  | .sub _ => 0

/-- The station form of LAST_SRC, for changes a station makes on its own (02 R40). -/
def stationSrc (si : Nat) : BitVec 16 := BitVec.ofNat 16 (0x4070 + si)

/-- The 24-bit identity of a holder or waiter (05 R145, 08 R220). -/
def State.identOf (s : State) : Orig → BitVec 24
  | .queue _ core q => BitVec.ofNat 24 (q.toNat + core.toNat * 32 + s.su.pkg.toNat * 2 ^ 13 + s.su.die.toNat * 2 ^ 20)
  | .die src core q _ =>
    BitVec.ofNat 24 ((if q.toNat < 25 then q.toNat + core.toNat * 32 else 25) + (src.toNat / 4) * 2 ^ 13 + (src.toNat % 4) * 2 ^ 20)
  | _ => BitVec.ofNat 24 (25 + s.su.pkg.toNat * 2 ^ 13 + s.su.die.toNat * 2 ^ 20)

/-- The part that holds a thread. -/
def thPart : ThreadId → Part
  | .stn s _ => .stn s
  | .jct _ => .jct
  | .script h => .halt h

/-- The part that an answer to an originator goes to. -/
def Orig.part : Orig → Part
  | .queue h _ _ => .halt h
  | .thread th => thPart th
  | .sub n => if n.toNat < 16 then .halt (BitVec.ofNat 4 n.toNat) else .jct
  | _ => .jct

/-- The stream part of a routing tag (09 R258, 13 R367). -/
def tagPart (core : BitVec 8) (q : BitVec 5) : Nat :=
  if q.toNat = 26 then 16 + core.toNat / 16 % 4
  else if q.toNat = 27 then 20
  else if q.toNat = 28 then core.toNat % 16
  else if q.toNat = 29 then 21
  else core.toNat / 16

/-- The stream an originator's retained requests belong to (13 R367): die, part, F. -/
def State.streamOf (s : State) (rq : HReq) : BitVec 15 :=
  let part : Nat := match rq.who with
    | .queue h _ _ => h.toNat
    | .thread (.stn x _) => 16 + x.toNat
    | .thread (.script h) => h.toNat
    | .die _ core q _ => tagPart core q
    | .combine _ => 21
    | _ => 20
  let src : Nat := match rq.who with
    | .die d _ _ _ => d.toNat
    | _ => s.dieSrc.toNat
  let f : Bool := rq.req.follows && decide (src ≠ (aSrc rq.addr).toNat)
  BitVec.ofNat 15 (src + part * 2 ^ 9 + bnat f * 2 ^ 14)

/-- The Retained column of 03 R72. -/
def opRetained (op : BitVec 6) : Bool :=
  op.toNat ∈ [0x01, 0x08, 0x09, 0x0A, 0x0C, 0x0D, 0x0E, 0x0F, 0x10, 0x11, 0x14, 0x15, 0x18, 0x1C, 0x1D, 0x1E, 0x20]

/-- A ledger is not in use: EN is 0, or UNPROTECT was given (13 R366). `part` is the LG_STAT instance. -/
def lgInst : Part → Nat
  | .stn s => s.toNat
  | _ => 0x80

def State.unprot (s : State) (part : Part) : Bool :=
  !s.flag F.LG_CTL_EN || s.flag F.LG_STAT_UNPROT (lgInst part)

/-- Ledgers by key: stations 0 to 3, the junction 4. -/
def ledgerPart (k : Nat) : Part := if k < 4 then .stn (BitVec.ofNat 2 k) else .jct
def State.ledger (s : State) (k : Nat) : Ledger := tget Ledger.init s.ledgers k
def State.modLedger (s : State) (k : Nat) (f : Ledger → Ledger) : State := { s with ledgers := tmod Ledger.init s.ledgers k f }

/-- A RUNOPEN (2) or SWAP (3) record falls due in the window in progress (13 R361). -/
def State.ledgerNote (s : State) (k kind row : Nat) : State :=
  if s.unprot (ledgerPart k) then s else s.modLedger k (fun l => { l with notes := l.notes ++ [(kind, row)] })

/-- Record the SEQ of a retained request that reaches station `si` (13 R363, R367): the entry is made, or
set to it unless it holds a newer one (assumption log 53); with the ledger unused the request is covered at once. -/
def State.recordSeq (s : State) (si : Nat) (rq : HReq) : State :=
  if !opRetained rq.req.op then s else
    match rq.who with
    | .sub _ => s
    | _ =>
      let str := s.streamOf rq
      let q : BitVec 8 := match tget 0 (s.mem si).origins str.toNat with
        | 0 => rq.req.seq
        | n + 1 => if (n + 256 - rq.req.seq.toNat) % 256 < 128 then BitVec.ofNat 8 n else rq.req.seq
      let s := s.modMem si (fun m => { m with origins := tset 0 m.origins str.toNat (q.toNat + 1) })
      if s.unprot (.stn (BitVec.ofNat 2 si)) then
        s.emit (.stn (BitVec.ofNat 2 si)) rq.who.part (.dur str rq.req.seq (aHome (s.addrOf si 0)))
      else
        s.modStn si (fun st => { st with streams := (st.streams.filter (fun e => e.1 ≠ str)) ++ [(str, q)] })

/-- A request meets an originator-table entry that shows it already applied (13 R369). -/
def State.isReplayDone (s : State) (si : Nat) (rq : HReq) : Bool :=
  let far := match rq.who with | .die .. => true | _ => false
  opRetained rq.req.op && (rq.replay || far) &&
    match tget 0 (s.mem si).origins (s.streamOf rq).toNat with
    | 0 => false
    | n + 1 => decide ((n + 256 - rq.req.seq.toNat) % 256 < 128)

/-! ### Answers -/

/-- A signal-space load ends with its data or with the mesh error response (03 R96, 05 R154). -/
def State.answerLoad (s : State) (src : Part) (rtnTx : BitVec 28) (st : Status) (val : Word64) : State :=
  let rtn := rtnTx.extractLsb' 12 16
  let tx := rtnTx.extractLsb' 0 12
  match st with
  | .done | .orphan => s.drive (.rdata src rtn tx val)
  | _ => s.drive (.err src rtn tx st)

/-- A part's answer to a request: the load response, the acknowledgement of a posted request (03 R75), or
its completion. -/
def State.answerFrom (s : State) (src : Part) (rq : HReq) (st : Status) (val : Word64)
    (aux : Word64 := 0) (mods : BitVec 9 := 0) : State :=
  match rq.load with
  | some l => s.answerLoad src l st val
  | none =>
    match rq.who with
    | .timetable => s
    | .sub _ => s.emit src rq.who.part (.notify rq.addr val st none)
    | _ =>
      if rq.posted then s.emit src rq.who.part (.ack rq st)
      else s.emit src rq.who.part (.compl rq st val aux mods)

/-- The home station `si`'s answer. -/
def State.answer (s : State) (si : Nat) (rq : HReq) (st : Status) (val : Word64) : State :=
  s.answerFrom (.stn (BitVec.ofNat 2 si)) rq st val

/-! ### The watch table -/

/-- Rows of the watch table in use by watch entries and waiter records (05 R144). -/
def StnMem.rowsUsed (m : StnMem) : List Nat := m.watches.map (·.row) ++ m.waiters.map (·.row)

/-- Rows of the watch table taken out of use, or reserved by a refused retirement, under RAM 0x26 (12 R352). -/
def State.rowsRetired (s : State) (si : Nat) : List Nat :=
  ((s.stn si).retiredRows.filter (fun e => e.1 = 6 || e.1 = 0x26)).map (·.2)

/-- The bounded dispensers of a station, each with the object that bounds it. -/
def StnMem.boundList (m : StnMem) : List (Nat × Nat) := m.bounds.filterMap (·.2)

/-- The lowest free row of the bound table (07 R194). -/
def State.freeBound (s : State) (si : Nat) : Option Nat :=
  lowestFrom (fun r => (tget none (s.mem si).bounds r).isNone && !(s.stn si).retiredRows.contains (0x0A, r)) 0 1024

/-- Dispenser `p` is bounded by object `b`, or by none. -/
def State.setBound (s : State) (si p : Nat) (b : Option Nat) : State :=
  let s := s.modMem si (fun m => { m with bounds := m.bounds.filter (fun e => e.2.all (fun x => x.1 ≠ p)) })
  match b, s.freeBound si with
  | some b, some r => s.modMem si (fun m => { m with bounds := tset none m.bounds r (some (p, b)) })
  | _, _ => s

/-- The lowest free row. The spec leaves open which free row is taken (assumption log 12). -/
def State.freeRow (s : State) (si : Nat) : Option Nat :=
  let used := (s.mem si).rowsUsed ++ s.rowsRetired si
  lowestFrom (fun r => !used.contains r) 0 (used.length + 1) >>= fun r => if r < 8192 then some r else none

/-- Rows a pavilion uses, and its share in the active bank (10 R301, R302). -/
def State.rowsOf (s : State) (si : Nat) (p : BitVec 6) : Nat :=
  ((s.mem si).watches.filter (fun w => w.pav = p)).length + ((s.mem si).waiters.filter (fun w => w.rq.req.pav = p)).length
def State.watchShare (s : State) (p : BitVec 6) : Nat := s.get F.SH_WATCH_SHARE 0 (p.toNat + 64)

/-- The row a new watch entry or waiter record of pavilion `p` takes, if it is admitted (10 R302). -/
def State.admitRow (s : State) (si : Nat) (p : BitVec 6) : Option Nat :=
  if s.rowsOf si p < s.watchShare p then s.freeRow si else none

/-- WATCH_STAT.IN_USE, and HIGH kept up with it (03 R104). -/
def State.watchHigh (s : State) (si : Nat) : State :=
  s.put F.WATCH_STAT_HIGH (max (s.get F.WATCH_STAT_HIGH si) (s.mem si).rowsUsed.length) si

/-- Header of the region of a FOLD_COUNTER slot, by its first line (06 R161, R162). -/
def State.hdr (s : State) (si pon : Nat) : FoldHdr :=
  tget FoldHdr.init (s.mem si).hdrs ((s.slot si pon).link.toNat % 2 ^ 15)

/-- The result word that accompanies a small FOLD_COUNTER's notifications (06 R174). -/
def State.foldWord (s : State) (si pon : Nat) : Option Word64 :=
  let h := s.hdr si pon
  if (s.slot si pon).kind = .foldCounter ∧ h.v ∧ !h.cfg.getLsbD 11 then some h.result else none

/-- How a wait for `e` that the value reaches ends: DONE, or FAULT in an aborted round (06 R187). -/
def State.reachedStatus (s : State) (si pon : Nat) (e : Nat) : Status :=
  let h := s.hdr si pon
  if (s.slot si pon).kind = .foldCounter ∧ h.fr * h.target.toNat < e ∧ e ≤ (h.fr + h.faultN.toNat) * h.target.toNat
  then .fault else .done

/-- Notify every watch entry of the object that `p` picks, with the status `st` gives it and value `v`, and
free them (03 R84). -/
def State.notifyIf (s : State) (si pon : Nat) (p : Watch → Bool) (st : Watch → Status) (v : Word64) : State :=
  let hit := (s.mem si).watches.filter (fun w => w.pon = pon && p w)
  let word := s.foldWord si pon
  let s := s.occur (.stn (BitVec.ofNat 2 si)) 0x23 hit.length
  let s := s.modMem si (fun m => { m with watches := m.watches.filter (fun w => !(w.pon = pon && p w)) })
  hit.foldl (fun s w => s.emit (.stn (BitVec.ofNat 2 si)) (Orig.part (.sub w.sub)) (.notify (s.addrOf si pon) v (st w) word)) s

/-- The object's value is compared with its watch entries (03 R84). -/
def State.notifyWatches (s : State) (si pon : Nat) : State :=
  let v := (s.slot si pon).val
  let s := s.occur (.stn (BitVec.ofNat 2 si)) 0x22 ((s.mem si).watches.filter (fun w => w.pon = pon)).length
  s.notifyIf si pon (fun w => decide (w.exp.toNat ≤ v.toNat)) (fun w => s.reachedStatus si pon w.exp.toNat) v

/-- An admission is refused for want of a row, or by share (03 R85, 10 R302). -/
def State.watchFull (s : State) (si : Nat) : State := (s.bump F.WATCH_FULL_COUNT si).occur (.stn (BitVec.ofNat 2 si)) 0x2C 1

/-- A watch registration at its object (03 R84, R85): the value already reached is notified at once and no entry is kept;
otherwise an entry is made or set, or refused for want of a row or for the pavilion's share. -/
def State.register (s : State) (si pon : Nat) (sub : BitVec 5) (exp : Word64) : State :=
  let sl := s.slot si pon
  let me := Part.stn (BitVec.ofNat 2 si)
  let dst := Orig.part (.sub sub)
  if exp.toNat ≤ sl.val.toNat then
    let s := s.modMem si (fun m => { m with watches := m.watches.filter (fun w => !(w.pon = pon && w.sub = sub)) })
    (s.occur me 0x23 1).emit me dst (.notify (s.addrOf si pon) sl.val (s.reachedStatus si pon exp.toNat) (s.foldWord si pon))
  else if (s.mem si).watches.any (fun w => w.pon = pon && w.sub = sub) then
    s.modMem si (fun m => { m with watches := m.watches.map (fun w => if w.pon = pon && w.sub = sub then { w with exp := exp } else w) })
  else
    match s.admitRow si sl.pav with
    | some r => (s.modMem si (fun m => { m with watches := m.watches ++ [⟨r, pon, sub, exp, sl.pav⟩] })).watchHigh si
    | none => (s.watchFull si).emit me dst (.refusal (s.addrOf si pon) exp)

/-- A waiter record for a request (05 R144), or none for want of a row. -/
def State.queueWaiter (s : State) (si pon : Nat) (rq : HReq) (pos : List Waiter → Nat) : Option State :=
  match s.admitRow si rq.req.pav with
  | none => none
  | some r =>
    some ((s.modMem si (fun m =>
      let i := pos m.waiters
      { m with waiters := m.waiters.take i ++ [⟨r, pon, 0, rq⟩] ++ m.waiters.drop i })).watchHigh si)

/-- The waiters of an object, in queue order, and the removal of one by its row. -/
def State.waitersOf (s : State) (si pon : Nat) : List Waiter := (s.mem si).waiters.filter (fun w => w.pon = pon)
def State.dropWaiter (s : State) (si row : Nat) : State :=
  s.modMem si (fun m => { m with waiters := m.waiters.filter (fun w => w.row ≠ row) })

end Sys2Proof.Machine
end

