-- ==== Sys2Proof/Machine/Memory.lean ====
section
/-! DEFINITION. The block's requests of the memory ports (16 R437, R438) and the frames it queues for other
dies (09 R251). -/

namespace Sys2Proof.Machine

def State.port (s : State) (i : Nat) : Port := tget Port.init s.ports i
def State.modPort (s : State) (i : Nat) (f : Port → Port) : State :=
  { s with ports := tmod Port.init s.ports i f }

/-- Port of a part: stations 0 to 3, the junction 4 (16 R425). -/
def portOf : Part → Nat
  | .stn s => s.toNat
  | _ => 4

/-- Present a request behind those already presented; its tag is chosen when it is taken. -/
def State.memReq (s : State) (p : Nat) (wr : Bool) (line : BitVec 58) (be : BitVec 64) (data : Line) (why : MemTag) : State :=
  s.modPort p (fun q => { q with queue := q.queue ++ [⟨wr, line, be, data, 0, why, 0⟩] })

/-- Write an 8-byte aligned word (00 R3). -/
def State.memWrite64 (s : State) (p : Nat) (addr : Word64) (w : Word64) (why : MemTag) : State :=
  let o := addr.toNat % 64
  s.memReq p true (addr.extractLsb' 6 58) (BitVec.ofNat 64 (0xFF * 2 ^ o)) (BitVec.ofNat 512 (w.toNat * 2 ^ (8 * o))) why

/-- Write a whole line. -/
def State.memWriteLine (s : State) (p : Nat) (line : BitVec 58) (d : Line) (why : MemTag) : State :=
  s.memReq p true line (BitVec.allOnes 64) d why

/-- Read a whole line. -/
def State.memRead (s : State) (p : Nat) (line : BitVec 58) (why : MemTag) : State :=
  s.memReq p false line 0 0 why

/-- Bytes of a list, little-endian, as one number: byte k of the list at bits 8k+7 to 8k (00 R3). -/
def bytesNat (l : List Byte) : Nat := l.foldr (fun b n => b.toNat + 256 * n) 0

/-- The low `n` bytes of a number, lowest first. -/
def natBytes : Nat → Nat → List Byte
  | 0, _ => []
  | n + 1, x => BitVec.ofNat 8 x :: natBytes n (x / 256)

/-- Cut a byte string into 64-byte lines, the last filled with zero bytes. -/
def linesOf (l : List Byte) : List Line :=
  (List.range ((l.length + 63) / 64)).map (fun i => BitVec.ofNat 512 (bytesNat ((l.drop (64 * i)).take 64)))

/-- Cut a byte string at byte address `a` into the parts of the lines it touches: line, offset in it, bytes. -/
def pieces : Nat → Nat → List Byte → List (Nat × Nat × List Byte)
  | 0, _, _ => []
  | _, _, [] => []
  | n + 1, a, l => (a / 64, a % 64, l.take (64 - a % 64)) :: pieces n (a + (64 - a % 64)) (l.drop (64 - a % 64))

def linePieces (a : Nat) (l : List Byte) : List (Nat × Nat × List Byte) := pieces (l.length + 1) a l

/-- Write a byte string at a byte address, a line at a time in ascending order. -/
def State.memWriteBytes (s : State) (p a : Nat) (l : List Byte) (why : Nat → MemTag) : State :=
  (linePieces a l).foldl (fun s e =>
    s.memReq p true (BitVec.ofNat 58 e.1) (BitVec.ofNat 64 ((2 ^ e.2.2.length - 1) * 2 ^ e.2.1))
      (BitVec.ofNat 512 (bytesNat e.2.2 * 2 ^ (8 * e.2.1))) (why e.1)) s

/-- Read `n` lines from a 64-byte aligned address. -/
def State.memReadLines (s : State) (p a n : Nat) (why : Nat → MemTag) : State :=
  (List.range n).foldl (fun s i => s.memRead p (BitVec.ofNat 58 (a / 64 + i)) (why i)) s

/-! ### Jobs -/

def State.job (s : State) (k : Nat) : Option Job := tget none s.jobs k
def State.setJob (s : State) (k : Nat) (j : Option Job) : State := { s with jobs := tset none s.jobs k j }

/-- Begin a job that ends at a memory completion or a recovery's end. -/
def State.newJob (s : State) (k : Nat) (pav : BitVec 6) (phase : Nat) (args : List Nat) : State :=
  s.setJob k (some ⟨pav, phase, 0, [], args, false⟩)

/-- Write byte strings, each with its port and byte address, for job `k`. -/
def State.jobWrites (s : State) (k : Nat) (ws : List (Nat × Nat × List Byte)) : State :=
  let s := ws.foldl (fun s w => s.memWriteBytes w.1 w.2.1 w.2.2 (fun l => .job k l)) s
  let n := ws.foldl (fun n w => n + (linePieces w.2.1 w.2.2).length) 0
  s.setJob k ((s.job k).map (fun j => { j with left := j.left + n }))

/-- Read `n` lines from line `first` of an area at byte address `a`, for job `k`. -/
def State.jobReads (s : State) (k p a first n : Nat) : State :=
  let s := s.memReadLines p (a + 64 * first) n (fun i => .job k (first + i))
  s.setJob k ((s.job k).map (fun j => { j with left := j.left + n }))

/-- The bytes that a job has read: its lines in order. -/
def Job.bytes (j : Job) : List Byte := j.lines.flatMap (fun e => natBytes 64 e.2.toNat)

/-- A 2-, 4- or 8-byte number of a byte string. -/
def numAt (l : List Byte) (a n : Nat) : Nat := bytesNat ((l.drop a).take n)

/-! ### Frames -/

/-- Queue one frame's records for a die. `fol`: a frame of FOLLOWS requests; `own`: SEQs of the junction's
own records in it. -/
def State.tx (s : State) (peer : BitVec 9) (vc : BitVec 3) (typ : BitVec 4) (recs : List (BitVec 128))
    (fol : Bool := false) (own : List (BitVec 8) := []) : State :=
  { s with jct := { s.jct with txq := s.jct.txq ++ [⟨peer, vc, typ, recs, fol, none, own, false⟩] } }

/-- A record from (lowest bit, value) pairs. -/
def mkRec (l : List (Nat × Nat)) : BitVec 128 := BitVec.ofNat 128 (l.foldl (fun n e => n + e.2 * 2 ^ e.1) 0)

/-- NOTE record (09 R258). -/
def recNote (revert : Bool) (prio : BitVec 2) (addr : GAddr) (core : BitVec 8) (q : BitVec 5) : BitVec 128 :=
  mkRec [(0, bnat revert), (1, prio.toNat), (3, addr.toNat), (28, core.toNat), (36, q.toNat), (124, 8)]

end Sys2Proof.Machine
end

