-- ==== Sys2Proof/Machine/TicketRing.lean ====
section
/-! DEFINITION. Counters, drift pairs, ticket dispensers and message rings at their home station (03 R79,
04 R114 to R116, 07). -/

namespace Sys2Proof.Machine

/-! ### Drift pairs -/

def State.drift (s : State) (si k : Nat) : Drift := tget Drift.init (s.mem si).drift k
def State.modDrift (s : State) (si k : Nat) (f : Drift → Drift) : State :=
  s.modMem si (fun m => { m with drift := tmod Drift.init m.drift k f })

/-- Record a drift event with status `st` (04 R114, R115). -/
def State.driftEvent (s : State) (si k : Nat) (st : Status) : State :=
  (s.modDrift si k (fun d => { d with
    last := BitVec.ofNat 4 st.code, events := BitVec.ofNat 16 (min (d.events.toNat + 1) 0xFFFF) })).evt (0x08 + si) 4

/-- Compare one pair in CHECK mode after a change of counter `pon` (04 R115). -/
def State.driftCheck1 (s : State) (si pon k : Nat) : State :=
  let d := s.drift si k
  if d.mode = 1 ∧ (d.prod.toNat = pon ∨ d.cons.toNat = pon) then
    let p := (s.slot si d.prod.toNat).val.toNat
    let c := (s.slot si d.cons.toNat).val.toNat
    if p < c then s.driftEvent si k .underflow
    else if d.depth.toNat < p - c then s.driftEvent si k .overflow
    else s
  else s

def State.driftCheck (s : State) (si pon : Nat) : State :=
  ((s.mem si).drift.map (·.1)).foldl (fun s k => s.driftCheck1 si pon k) s

/-! ### Ticket dispensers -/

def tickModl (link : BitVec 24) : Nat := link.toNat % 32
def tickShift (link : BitVec 24) : Nat := link.toNat / 32 % 16
def tickBv (link : BitVec 24) : Bool := link.toNat / 512 % 2 = 1
def tickBpon (link : BitVec 24) : Nat := link.toNat / 1024 % 16384

/-- Offset of ticket `t` (07 R193). -/
def tickOffset (modl shift t : Nat) : Word64 :=
  BitVec.ofNat 64 ((if modl = 0 then t else t % 2 ^ modl) * 2 ^ shift)

/-- Tickets a request asks for, and its NOWAIT (07 R195, R201). -/
def tickN (rq : HReq) : Nat := rq.req.operand.toNat % 2 ^ 32
/-- NOWAIT (07 R195); a load from signal space acts as with it (07 R197), a lever's TICKET does not (08 R234). -/
def tickNowait (rq : HReq) : Bool :=
  let ss := match rq.who with
    | .thread _ => false
    | _ => rq.req.qtag = 24 || rq.req.qtag = 25
  rq.req.op = 0x14 && (rq.req.operand.toNat / 2 ^ 32 % 2 = 1 || ss)

/-- The bound object's value: none if it is not in the station (07 R198). -/
def State.tickBound (s : State) (si : Nat) (link : BitVec 24) : Option Nat :=
  let b := s.slot si (tickBpon link)
  if b.kind = .counter ∨ b.kind = .ringPart then some b.val.toNat else none

/-- Hand out the tickets of a request that fits: value and watches, and the answer (07 R195). A grant to a
waiter leaves LAST_SRC (02 R40). -/
def State.tickGrant (s : State) (si pon : Nat) (rq : HReq) (write : Bool) : State :=
  let sl := s.slot si pon
  let t := sl.val.toNat
  let s := s.setVal si pon (BitVec.ofNat 64 (t + tickN rq))
  let s := if write then s.setSrc si pon (lastSrcOf rq.who) else s
  let s := s.notifyWatches si pon
  s.answerFrom (.stn (BitVec.ofNat 2 si)) rq .done (tickOffset (tickModl sl.link) (tickShift sl.link) t)
    (BitVec.ofNat 64 t) (BitVec.ofNat 9 sl.link.toNat)

/-- A request fits its bound: (t + N) × 2^SHIFT ≤ B (07 R195). -/
def State.tickFits (s : State) (si pon : Nat) (rq : HReq) (b : Nat) : Bool :=
  let sl := s.slot si pon
  decide ((sl.val.toNat + tickN rq) * 2 ^ tickShift sl.link ≤ b)

/-- Grant the waiters of a bounded dispenser from the head while they fit (07 R196). -/
def State.tickGrants (s : State) (si pon : Nat) : Nat → State
  | 0 => s
  | fuel + 1 =>
    match s.waitersOf si pon, s.tickBound si (s.slot si pon).link with
    | w :: _, some b =>
      if s.tickFits si pon w.rq b then
        ((s.dropWaiter si w.row).tickGrant si pon w.rq false).tickGrants si pon fuel
      else s
    | _, _ => s

/-- The dispensers an object bounds are examined after its change (07 R196). -/
def State.boundChanged (s : State) (si pon : Nat) : State :=
  ((s.mem si).boundList.filter (fun e => e.2 = pon)).foldl
    (fun s e => s.tickGrants si e.1 (s.waitersOf si e.1).length) s

/-- What follows a change of a counter's value: watches, bounded dispensers, drift (03 R84, 04 R114,
07 R196). -/
def State.counterChanged (s : State) (si pon : Nat) : State :=
  ((s.notifyWatches si pon).boundChanged si pon).driftCheck si pon

/-- TICKET and TICKET_BATCH (07 R195, R198, R201). -/
def State.opTicket (s : State) (si pon : Nat) (rq : HReq) : State :=
  let sl := s.slot si pon
  let t := sl.val.toNat
  let me := Part.stn (BitVec.ofNat 2 si)
  let mods := BitVec.ofNat 9 sl.link.toNat
  if tickN rq = 0 then s.answerFrom me rq .done (tickOffset (tickModl sl.link) (tickShift sl.link) t) sl.val mods
  else if 2 ^ 64 - 1 < t + tickN rq then (s.evt (0x08 + si) 1).answer si rq .overflow 0
  else if !tickBv sl.link then s.tickGrant si pon rq true
  else
    match s.tickBound si sl.link with
    | none => s.answer si rq .denied 0
    | some b =>
      if (s.waitersOf si pon).isEmpty ∧ s.tickFits si pon rq b then s.tickGrant si pon rq true
      else if tickNowait rq then s.answer si rq .overflow 0
      else
        match s.queueWaiter si pon rq (·.length) with
        | some s => s
        | none => (s.watchFull si).answer si rq .retry 0

/-! ### Counters -/

/-- SIG (03 R79). -/
def State.opSig (s : State) (si pon : Nat) (rq : HReq) : State :=
  let v := (s.slot si pon).val
  let n := rq.req.operand
  if n = 0 then s.answer si rq .done v
  else if v.toNat + n.toNat ≤ 2 ^ 64 - 1 then
    let s := (s.setVal si pon (v + n)).setSrc si pon (lastSrcOf rq.who)
    let s := s.counterChanged si pon
    s.answer si rq .done (v + n)
  else (s.evt (0x08 + si) 1).answer si rq .overflow 0

/-! ### Rings -/

/-- Ring size (07 R205), and the ring's four values (R204). -/
def State.ringZ (s : State) (si p : Nat) : Nat := 2 ^ ((s.slot si p).link.toNat % 32)
def State.ringR (s : State) (si p : Nat) : Nat := (s.slot si p).val.toNat
def State.ringC (s : State) (si p : Nat) : Nat := (s.slot si (p + 1)).val.toNat
def State.ringL (s : State) (si p : Nat) : Nat := (s.slot si (p + 2)).val.toNat
def State.ringBase (s : State) (si p : Nat) : Nat := (s.slot si (p + 3)).val.toNat

/-- Skip state, in LINK of slot p + 1 (07 R205): SKIP_AT if SKIP_V. -/
def State.ringSkip (s : State) (si p : Nat) : Option Nat :=
  let l := (s.slot si (p + 1)).link.toNat
  if l / 4 % 2 = 1 then some (l / 8) else none
def State.setSkip (s : State) (si p : Nat) (x : Option Nat) : State :=
  s.modSlot si (p + 1) (fun sl => { sl with link := match x with
    | some a => BitVec.ofNat 24 (sl.link.toNat % 4 + 4 + a * 8)
    | none => BitVec.ofNat 24 (sl.link.toNat % 4) })

/-- The skip marker word (07 R208), written at the ring's tail. -/
def State.writeMarker (s : State) (si p o t : Nat) : State :=
  s.memWrite64 si (BitVec.ofNat 64 (s.ringBase si p + o)) (BitVec.ofNat 64 (t + 2 ^ 63)) (.skip si p)

/-- Message length of a ring operation, and whether it is one (07 R206). -/
def ringM (rq : HReq) : Nat := rq.req.operand.toNat % 2 ^ 32
def State.ringMOk (s : State) (si p m : Nat) : Bool := m % 8 = 0 && m ≠ 0 && decide (m ≤ s.ringZ si p)

/-- How a reserve stands (07 R207): offset granted, skip length, and whether it fits. -/
def State.reserveDecide (s : State) (si p m : Nat) : Nat × Nat × Bool :=
  let z := s.ringZ si p
  let r := s.ringR si p
  let o := r % z
  let t := z - o
  if m ≤ t then (o, 0, decide (r + m ≤ z + s.ringL si p))
  else (0, t, decide (r + t + m ≤ z + s.ringL si p))

/-- Grant a reserve: skip marker, R and the answer (07 R207, R208). -/
def State.reserveGrant (s : State) (si p : Nat) (rq : HReq) (write : Bool) : State :=
  let m := ringM rq
  let (grant, skip, _) := s.reserveDecide si p m
  let r := s.ringR si p
  let o := r % s.ringZ si p
  let s := if skip = 0 then s else
    let s := (s.writeMarker si p o skip).setSkip si p (some (o / 8))
    let s := s.modStn si (fun st => { st with marked := st.marked.filter (· ≠ p) })
    s.bump F.RING_SKIPS_COUNT si
  let s := s.setVal si p (BitVec.ofNat 64 (r + skip + m))
  let s := if write then s.setSrc si p (lastSrcOf rq.who) else s
  s.answer si rq .done (BitVec.ofNat 64 grant)

/-- Grant reserve waiters from the head while they fit; one that would pass 2^64 - 1 is refused (07 R209, R214). -/
def State.reserveGrants (s : State) (si p : Nat) : Nat → State
  | 0 => s
  | fuel + 1 =>
    match s.waitersOf si p with
    | [] => s
    | w :: _ =>
      let d := s.reserveDecide si p (ringM w.rq)
      if 2 ^ 64 - 1 < s.ringR si p + d.2.1 + ringM w.rq then
        (((s.dropWaiter si w.row).evt (0x08 + si) 1).answer si w.rq .overflow 0).reserveGrants si p fuel
      else if d.2.2 then
        ((s.dropWaiter si w.row).reserveGrant si p w.rq false).reserveGrants si p fuel
      else s

/-- RING_RESERVE (07 R207, R214). -/
def State.opRingReserve (s : State) (si p : Nat) (rq : HReq) : State :=
  let m := ringM rq
  if !s.ringMOk si p m then s.answer si rq .denied 0
  else if s.ringBase si p = 0 then s.answer si rq .denied 0
  else
    let (_, skip, fits) := s.reserveDecide si p m
    if 2 ^ 64 - 1 < s.ringR si p + skip + m then (s.evt (0x08 + si) 1).answer si rq .overflow 0
    else if fits ∧ (s.waitersOf si p).isEmpty then s.reserveGrant si p rq true
    else
      match s.queueWaiter si p rq (·.length) with
      | some s => s
      | none => (s.watchFull si).answer si rq .retry 0

/-- How a commit or release meets its counter (07 R210). -/
inductive RingFate where
  | hold
  | refuse (st : Status)
  | apply (x : Nat) (crossed : Bool)
  deriving DecidableEq, Repr

def State.ringFate (s : State) (si p : Nat) (commit : Bool) (rq : HReq) : RingFate :=
  let z := s.ringZ si p
  let m := ringM rq
  let ofs := rq.req.operand.toNat / 2 ^ 32 % 2 ^ 24
  let x := if commit then s.ringC si p else s.ringL si p
  let at' := x % z
  let crossed := decide (s.ringSkip si p = some (at' / 8)) && at' % 8 == 0
  if crossed then
    if ofs ≠ 0 then .hold
    else if commit ∧ !(s.stn si).marked.contains p then .hold
    else if z < ofs + m then .refuse .denied
    else
      let x' := x + (z - at') + m
      if commit ∧ s.ringR si p < x' then .refuse .denied
      else if !commit ∧ s.ringC si p < x' then .refuse .underflow
      else .apply x' true
  else if ofs ≠ at' then .hold
  else if z < ofs + m then .refuse .denied
  else
    let x' := x + m
    if commit ∧ s.ringR si p < x' then .refuse .denied
    else if !commit ∧ s.ringC si p < x' then .refuse .underflow
    else .apply x' false

/-- Slot of the counter a commit (p + 1) or release (p + 2) advances. -/
def ringPart (p : Nat) (commit : Bool) : Nat := if commit then p + 1 else p + 2

/-- Set the counter, clear the skip state a release has crossed, and what follows the change (07 R210 to
R212). -/
def State.ringApply (s : State) (si p : Nat) (commit : Bool) (x : Nat) (crossed : Bool) : State :=
  let q := ringPart p commit
  let s := s.setVal si q (BitVec.ofNat 64 x)
  let s := if crossed ∧ !commit then s.setSkip si p none else s
  let s := (s.notifyWatches si q).boundChanged si q
  if commit then s else s.reserveGrants si p (s.waitersOf si p).length

/-- Try the held requests of one counter, oldest first, until none applies or is refused (07 R211). -/
def State.ringTryHeld (s : State) (si p : Nat) (commit : Bool) : Nat → State
  | 0 => s
  | fuel + 1 =>
    let fateOf := fun (w : Waiter) => s.ringFate si p commit w.rq
    match (s.waitersOf si (ringPart p commit)).find? (fun w => fateOf w ≠ .hold) with
    | none => s
    | some w =>
      let s' := s.dropWaiter si w.row
      match fateOf w with
      | .hold => s
      | .refuse st => (s'.answer si w.rq st 0).ringTryHeld si p commit fuel
      | .apply x crossed =>
        ((s'.ringApply si p commit x crossed).answer si w.rq .done (BitVec.ofNat 64 x)).ringTryHeld si p commit fuel

def State.ringTry (s : State) (si p : Nat) (commit : Bool) : State :=
  s.ringTryHeld si p commit (s.waitersOf si (ringPart p commit)).length

/-- RING_COMMIT and RING_RELEASE (07 R210 to R214). -/
def State.opRingAdvance (s : State) (si p : Nat) (commit : Bool) (rq : HReq) : State :=
  if !s.ringMOk si p (ringM rq) then s.answer si rq .denied 0
  else
    match s.ringFate si p commit rq with
    | .refuse st => s.answer si rq st 0
    | .apply x crossed =>
      let s := (s.ringApply si p commit x crossed).setSrc si (ringPart p commit) (lastSrcOf rq.who)
      (s.answer si rq .done (BitVec.ofNat 64 x)).ringTry si p commit
    | .hold =>
      match s.queueWaiter si (ringPart p commit) rq (·.length) with
      | some s => s.bump F.RING_HELD_COUNT si
      | none => (s.occur (.stn (BitVec.ofNat 2 si)) 0x2C 1).answer si rq .retry 0

/-- A skip marker's write is acknowledged: commits that cross it may now apply (07 R210). -/
def State.markerAcked (s : State) (si p : Nat) : State :=
  (s.modStn si (fun st => { st with marked := st.marked ++ [p] })).ringTry si p true

end Sys2Proof.Machine
end

