-- ==== Sys2Proof/Machine/Fold.lean ====
section
/-! DEFINITION. Fold regions at their home station (06): contributions, beats, the release pass, aborted
rounds, and the apply of a configuration. -/

namespace Sys2Proof.Machine

/-! ### The lane store -/

/-- First line and length in groups of 64 lines of a FOLD_COUNTER's region (06 R161). -/
def foldFirst (sl : Slot) : Nat := sl.link.toNat % 2 ^ 15
def foldNlg (sl : Slot) : Nat := sl.link.toNat / 2 ^ 15

/-- A lane-store line as a number; a fresh line reads as empty lanes (06 R163). -/
def lineOf (ls : LaneStore) (op l : Nat) : Nat :=
  match tget none ls l with
  | some d => d.toNat
  | none => if op = 1 then (List.range 16).foldl (fun n i => n + emptyLane 1 * 2 ^ (32 * i)) 0 else 0

/-- Lane i of the half that starts at line `base` (06 R166): it may lie in two lines. -/
def laneGet (ls : LaneStore) (op size base i : Nat) : Nat :=
  let b := i * size
  let l := base + b / 64
  (lineOf ls op l + lineOf ls op (l + 1) * 2 ^ 512) >>> (8 * (b % 64)) % 2 ^ (8 * size)

def laneSet (ls : LaneStore) (op size base i v : Nat) : LaneStore :=
  let b := i * size
  let l := base + b / 64
  let o := 8 * (b % 64)
  let w := lineOf ls op l + lineOf ls op (l + 1) * 2 ^ 512
  let w' := w - ((w >>> o) % 2 ^ (8 * size)) * 2 ^ o + (v % 2 ^ (8 * size)) * 2 ^ o
  let ls := tset none ls l (some (BitVec.ofNat 512 w'))
  if b % 64 + size ≤ 64 then ls else tset none ls (l + 1) (some (BitVec.ofNat 512 (w' / 2 ^ 512)))

/-- First line of a half (06 R166): the current half is the second one when `second` differs. -/
def FoldHdr.base (h : FoldHdr) (first : Nat) (other : Bool) : Nat :=
  first + 1 + if h.second != other then halfLines (cfgOp h.cfg.toNat) (cfgIn h.cfg.toNat) h.lanes else 0

/-- Fold a list of (lane, fold) into a half; the flags raised. -/
def foldAll (op size base : Nat) (ls : LaneStore) (l : List (Nat × (Nat → Nat × Nat))) : LaneStore × Nat :=
  l.foldl (fun (acc : LaneStore × Nat) e =>
    let r := e.2 (laneGet acc.1 op size base e.1)
    (laneSet acc.1 op size base e.1 r.1, acc.2 ||| r.2)) (ls, 0)

/-- Lines from `a` to `a + n - 1` become fresh. -/
def freshen (ls : LaneStore) (a n : Nat) : LaneStore := ls.filter (fun e => e.1 < a || a + n ≤ e.1)

/-- Change the region header of a slot. -/
def State.modHdr (s : State) (si pon : Nat) (f : FoldHdr → FoldHdr) : State :=
  let first := foldFirst (s.slot si pon)
  s.modMem si (fun m => { m with hdrs := tmod FoldHdr.init m.hdrs first f })

/-- Every lane line of a slot's region becomes fresh. -/
def State.freshRegion (s : State) (si pon : Nat) : State :=
  let sl := s.slot si pon
  s.modMem si (fun m => { m with lanes := freshen m.lanes (foldFirst sl) (64 * foldNlg sl) })

/-- Set flags of a region and the events of the fold page (06 R191). -/
def State.foldFlags (s : State) (si pon fl : Nat) : State :=
  if fl = 0 then s else
    let s := s.modHdr si pon (fun h => { h with flags := h.flags ||| BitVec.ofNat 6 fl })
    let s := if fl &&& fOVF ≠ 0 then s.evt (0x0C + si) 0 else s
    let s := if fl &&& (fNAN ||| fCLASH) ≠ 0 then s.evt (0x0C + si) 1 else s
    if fl &&& (fRND ||| fSATD) ≠ 0 then s.evt (0x0C + si) 2 else s

/-! ### Fold banks (14 R401 to R405) -/

/-- A line's bank is gated or waking. -/
def State.bankOff (s : State) (si line : Nat) : Bool :=
  (s.get F.PW_FB_STAT_GATED 0 si ||| s.get F.PW_FB_STAT_WAKING 0 si).testBit (line / 2048)

/-- A lane line that the lanes `l` of the half at `base` use lies in a bank that is off. -/
def State.lanesOff (s : State) (si size base : Nat) (l : List Nat) : Bool :=
  l.any (fun i => s.bankOff si (base + i * size / 64) || s.bankOff si (base + (i * size + size - 1) / 64))

/-- The gated ones among the banks of the mask `m` of station `si` begin to wake (14 R404). -/
def State.wakeBanks (s : State) (si m : Nat) : State :=
  let wake := m &&& s.get F.PW_FB_STAT_GATED 0 si
  if wake = 0 then s else
    let s := s.put F.PW_FB_STAT_GATED (s.get F.PW_FB_STAT_GATED 0 si - wake) 0 si
    let s := s.put F.PW_FB_STAT_WAKING (s.get F.PW_FB_STAT_WAKING 0 si ||| wake) 0 si
    s.bump F.PW_FB_WAKES_COUNT 0 0 ((List.range 16).filter wake.testBit).length

/-- The banks of those lanes begin their wake (14 R404). -/
def State.wakeLanes (s : State) (si size base : Nat) (l : List Nat) : State :=
  s.wakeBanks si (l.foldl (fun m i => m ||| 2 ^ ((base + i * size / 64) / 2048) ||| 2 ^ ((base + (i * size + size - 1) / 64) / 2048)) 0)

/-- Put a write into the wake queue (14 R404, R405). -/
def State.holdWake (s : State) (si : Nat) (e : WakeEnt) : State :=
  let s := s.modStn si (fun st => { st with wakeQ := st.wakeQ ++ [e] })
  let n := (s.stn si).wakeQ.length
  let s := if 8 ≤ n then s.evt 0x2A 3 else s
  s.put F.PW_FB_WQ_HIGH (max (s.get F.PW_FB_WQ_HIGH 0 si) (min n 8)) 0 si

/-! ### Rounds -/

def FoldHdr.wide (h : FoldHdr) : Bool := cfgWide h.cfg.toNat
def FoldHdr.bpc (h : FoldHdr) : Nat := beatsPer (cfgIn h.cfg.toNat) h.lanes

/-- Contributions folded in the current half (`ARR`), and in the other (06 R171). -/
def FoldHdr.folded (h : FoldHdr) : Nat :=
  if h.wide then min h.ann.toNat (h.beats.toNat / h.bpc) else h.arr.toNat
def FoldHdr.foldedNx (h : FoldHdr) : Nat :=
  if h.wide then min h.annNx.toNat (h.beatsNx.toNat / h.bpc) else h.arrNx.toNat

/-- A fold is in progress (06 R162). -/
def FoldHdr.busy (h : FoldHdr) : Bool :=
  h.rel || h.arr ≠ 0 || h.arrNx ≠ 0 || h.ann ≠ 0 || h.annNx ≠ 0 || h.beats ≠ 0 || h.beatsNx ≠ 0

/-- A contribution at distance `d` modulo `m` names an aborted round (06 R172). -/
def FoldHdr.aborted (h : FoldHdr) (d m : Nat) : Bool :=
  h.faultN ≠ 0 && h.r == h.fr + h.faultN.toNat && decide (m ≤ d + h.faultN.toNat)

/-- The value while a round is in progress: r × TARGET + contributions, below the next round (06 R171, R173). -/
def FoldHdr.value (h : FoldHdr) : Word64 :=
  BitVec.ofNat 64 (h.r * h.target.toNat + min h.folded (h.target.toNat - 1))

/-- Requests for the region's results are no longer waited for. -/
def State.dropResults (s : State) (si pon : Nat) : State :=
  let f := fun (q : MemReq) => if q.why = .foldResult si pon then { q with why := .dropped } else q
  s.modPort si (fun p => { queue := p.queue.map f, taken := p.taken.map f })

/-- The value follows the counts, in one slot access with the watches (06 R171). -/
def State.foldValue (s : State) (si pon : Nat) : State :=
  let v := (s.hdr si pon).value
  if (s.slot si pon).val = v then s else (s.setVal si pon v).notifyWatches si pon

/-! ### Release (06 R173) -/

/-- Results of the current half, lane by lane, and the flags of rounding them. -/
def State.foldResults (s : State) (si pon : Nat) : List Nat × Nat :=
  let h := s.hdr si pon
  let c := h.cfg.toNat
  let base := h.base (foldFirst (s.slot si pon)) false
  let size := laneSize (cfgOp c) (cfgIn c)
  (List.range h.lanes).foldl (fun (acc : List Nat × Nat) i =>
    let r := releaseLane (cfgOp c) (cfgOut c) (cfgSat c) (laneGet (s.mem si).lanes (cfgOp c) size base i)
    (acc.1 ++ [r.1], acc.2 ||| r.2)) ([], 0)

/-- Step 4: value, ROUND, halves and counts in one slot access. -/
def State.finishRelease (s : State) (si pon : Nat) : State :=
  let s := s.modHdr si pon (fun h => { h with
    r := h.r + 1, second := !h.second && cfgDouble h.cfg.toNat, rel := false, left := 0
    result := if h.wide then h.result else h.pend
    arr := h.arrNx, arrNx := 0, ann := h.annNx, annNx := 0, beats := h.beatsNx, beatsNx := 0 })
  s.foldValue si pon

/-- Steps 1 to 3: round, freshen, write the results. -/
def State.startRelease (s : State) (si pon : Nat) : State :=
  let h := s.hdr si pon
  let c := h.cfg.toNat
  let (res, fl) := s.foldResults si pon
  let base := h.base (foldFirst (s.slot si pon)) false
  let bytes := res.flatMap (natBytes (fmtWidth (cfgOut c)))
  let s := s.modMem si (fun m => { m with lanes := freshen m.lanes base (halfLines (cfgOp c) (cfgIn c) h.lanes) })
  let s := s.foldFlags si pon fl
  if h.wide then
    let ls := linesOf bytes
    let s := s.modHdr si pon (fun h => { h with rel := true, left := ls.length })
    ls.zipIdx.foldl (fun s e =>
      s.memReq si true (h.resAddr.extractLsb' 6 58 + BitVec.ofNat 58 e.2)
        (BitVec.ofNat 64 (2 ^ min 64 (bytes.length - 64 * e.2) - 1)) e.1 (.foldResult si pon)) s
  else
    let w := BitVec.ofNat 64 (bytesNat bytes)
    let s := s.modHdr si pon (fun h => { h with rel := true, left := 1, pend := w })
    if h.resAddr = 0 then s.finishRelease si pon else s.memWrite64 si h.resAddr w (.foldResult si pon)

/-- A complete round starts its release pass; the round after it may be complete as well (06 R173). -/
def State.tryRelease (s : State) (si pon : Nat) : Nat → State
  | 0 => s
  | fuel + 1 =>
    let h := s.hdr si pon
    if !h.rel ∧ h.target ≠ 0 ∧ h.folded = h.target.toNat then (s.startRelease si pon).tryRelease si pon fuel else s

/-- The last result write is acknowledged. -/
def State.resultAcked (s : State) (si pon : Nat) : State :=
  let h := s.hdr si pon
  if !h.rel then s
  else if 1 < h.left then s.modHdr si pon (fun h => { h with left := h.left - 1 })
  else (s.finishRelease si pon).tryRelease si pon 2

/-! ### Contributions -/

/-- The lanes and folds of a small FOLD's payload, or of a partial's image (06 R167, 09 R272). -/
def foldItems (h : FoldHdr) (rq : HReq) : List (Nat × (Nat → Nat × Nat)) :=
  let c := h.cfg.toNat
  let op := cfgOp c
  match rq.part with
  | some p =>
    let size := laneSize op (cfgIn c)
    (List.range h.lanes).map (fun i => (i, fun lane => foldImage op lane (p.image.toNat / 2 ^ (8 * size * i) % 2 ^ (8 * size))))
  | none =>
    let w := 8 * fmtWidth (cfgIn c)
    (List.range h.lanes).map (fun i => (i, fun lane => foldElem op (cfgIn c) 0 lane (rq.req.operand.toNat / 2 ^ (w * i) % 2 ^ w)))

/-- Contributions a request carries: those of its partial, or one. -/
def foldN (rq : HReq) : Nat := match rq.part with | some p => p.n.toNat | none => 1

/-- A partial that does not fit the region (09 R272). -/
def partMismatch (h : FoldHdr) (rq : HReq) : Bool :=
  match rq.part with
  | some p => h.wide || p.op.toNat ≠ cfgOp h.cfg.toNat || p.fmt.toNat ≠ cfgIn h.cfg.toNat || p.lanes.toNat ≠ h.lanes
  | none => false

/-- Apply a FOLD or partial to the current half or the other (06 R171, R175). -/
def State.foldInto (s : State) (si pon : Nat) (rq : HReq) (other : Bool) : State :=
  let h := s.hdr si pon
  let c := h.cfg.toNat
  let op := cfgOp c
  let size := laneSize op (cfgIn c)
  let base := h.base (foldFirst (s.slot si pon)) other
  let n := foldN rq
  if !h.wide && s.lanesOff si size base (List.range h.lanes) then
    (s.wakeLanes si size base (List.range h.lanes)).holdWake si (.fold pon rq)
  else
    let (ls, fl) := if h.wide then ((s.mem si).lanes, 0) else foldAll op size base (s.mem si).lanes (foldItems h rq)
    let s := ((s.occur (.stn (BitVec.ofNat 2 si)) 0x25 1).modMem si (fun m => { m with lanes := ls })).foldFlags si pon fl
    let s := s.modHdr si pon (fun h =>
      if h.wide then (if other then { h with annNx := h.annNx + 1 } else { h with ann := h.ann + 1 })
      else if other then { h with arrNx := h.arrNx + BitVec.ofNat 32 n } else { h with arr := h.arr + BitVec.ofNat 32 n })
    let h := s.hdr si pon
    let t := h.target.toNat
    let val := if other then (h.r + 1) * t + (if h.wide then h.annNx.toNat else h.arrNx.toNat)
      else h.r * t + (if h.wide then h.ann.toNat else h.arr.toNat)
    let s := if other then s else (s.setSrc si pon (lastSrcOf rq.who)).foldValue si pon
    (s.answer si rq .done (BitVec.ofNat 64 val)).tryRelease si pon 2

/-- FOLD (06 R185), and a partial (09 R272). -/
def State.opFold (s : State) (si pon : Nat) (rq : HReq) : State :=
  let h := s.hdr si pon
  let d := ((rq.req.operand.extractLsb' 32 8).toNat + 256 - h.r % 256) % 256
  let n := foldN rq
  let have' := if h.wide then h.ann.toNat else h.arr.toNat
  let haveNx := if h.wide then h.annNx.toNat else h.arrNx.toNat
  if !h.v ∨ partMismatch h rq then s.answer si rq .denied 0
  else if h.aborted d 256 then s.answer si rq .fault 0
  else if d = 0 then
    if h.rel ∨ h.target.toNat < have' + n then s.answer si rq .overflow 0 else s.foldInto si pon rq false
  else if d = 1 ∧ cfgDouble h.cfg.toNat then
    if h.target.toNat < haveNx + n then s.answer si rq .overflow 0 else s.foldInto si pon rq true
  else if d < 128 then s.answer si rq .retry 0
  else s.answer si rq .denied 0

/-! ### Beats -/

/-- The answer to a beat: the write response, or the mesh error response with a status (06 R186, 03 R96). -/
def State.answerBeat (s : State) (si : Nat) (b : Beat) (st : Status) : State :=
  match b.src with
  | .port p _ _ rtn tx _ => if st = .done then s.drive (.wrsp (.stn p) rtn tx) else s.drive (.err (.stn p) rtn tx st)
  | .die src ridx => s.emit (.stn (BitVec.ofNat 2 si)) .jct (.beatAnswer src ridx st)

/-- A discarded beat (06 R186). -/
def State.rejectBeat (s : State) (si : Nat) (b : Beat) (st : Status) : State :=
  ((s.bump F.FOLD_REJ_COUNT si).evt (0x0C + si) 3).answerBeat si b st

/-- LAST_SRC of a beat (02 R40). -/
def beatSrc (b : Beat) : BitVec 16 :=
  match b.src with
  | .port _ true core _ _ _ => BitVec.ofNat 16 (core.toNat * 32 + 26)
  | .port _ false _ _ _ _ => 27
  | .die src _ => BitVec.ofNat 16 (0x8000 + src.toNat)

/-- Lanes and folds of a beat (06 R170). -/
def beatItems (h : FoldHdr) (b : Beat) : List (Nat × (Nat → Nat × Nat)) :=
  let op := cfgOp h.cfg.toNat
  let fmt := cfgIn h.cfg.toNat
  let d := b.data.toNat
  if isMx fmt then
    let n := b.off.toNat / 64
    (List.range 32).map (fun j => (32 * n + j, fun lane => foldElem op fmt (d / 2 ^ 256 % 256) lane (d / 2 ^ (8 * j) % 256)))
  else
    let w := fmtWidth fmt
    let k := 64 / w
    let i0 := b.off.toNat / w
    ((List.range k).filter (fun j => i0 + j < h.lanes)).map
      (fun j => (i0 + j, fun lane => foldElem op fmt 0 lane (d / 2 ^ (8 * w * j) % 2 ^ (8 * w))))

/-- Fold a beat into the current half or the other. -/
def State.beatInto (s : State) (si pon : Nat) (b : Beat) (other : Bool) : State :=
  let h := s.hdr si pon
  let op := cfgOp h.cfg.toNat
  let size := laneSize op (cfgIn h.cfg.toNat)
  let base := h.base (foldFirst (s.slot si pon)) other
  let items := beatItems h b
  if s.lanesOff si size base (items.map (·.1)) then
    (s.wakeLanes si size base (items.map (·.1))).holdWake si (.beat b)
  else
    let (ls, fl) := foldAll op size base (s.mem si).lanes items
    let s := ((s.occur (.stn (BitVec.ofNat 2 si)) 0x25 1).modMem si (fun m => { m with lanes := ls })).foldFlags si pon fl
    let s := s.modHdr si pon (fun h =>
      if other then { h with beatsNx := h.beatsNx + 1 } else { h with beats := h.beats + 1 })
    let s := s.answerBeat si b .done
    if other then s else
      let h := s.hdr si pon
      let s := if (s.slot si pon).val ≠ h.value ∨ h.folded = h.target.toNat then s.setSrc si pon (beatSrc b) else s
      (s.foldValue si pon).tryRelease si pon 2

/-- The pavilion is SAVED, or its SAVE has begun (11 R323). -/
def State.saving (s : State) (p : BitVec 6) : Bool :=
  s.pavState p == 4 || (s.job 0).any (fun j => j.pav == p && decide (j.phase ≤ 2))

/-- A beat at its FOLD_COUNTER (06 R186; 11 R323). -/
def State.opBeat (s : State) (si pon : Nat) (b : Beat) : State :=
  let h := s.hdr si pon
  let d := (b.rb.toNat + 4 - h.r % 4) % 4
  let full := h.target.toNat * h.bpc
  if !h.v ∨ !h.wide ∨ b.be ≠ BitVec.allOnes 64 ∨ b.off.toNat % 64 ≠ 0 ∨ h.bpc * 64 ≤ b.off.toNat then s.rejectBeat si b .denied
  else if b.gen ≠ s.gen b.pav then s.rejectBeat si b .flushed
  else if s.saving b.pav then s.rejectBeat si b .frozen
  else if h.aborted d 4 then s.rejectBeat si b .fault
  else if d = 0 then
    if h.rel ∨ full ≤ h.beats.toNat then s.rejectBeat si b .overflow else s.beatInto si pon b false
  else if d = 1 ∧ cfgDouble h.cfg.toNat then
    if full ≤ h.beatsNx.toNat then s.rejectBeat si b .overflow else s.beatInto si pon b true
  else if d < 3 then s.rejectBeat si b .retry
  else s.rejectBeat si b .denied

/-! ### Rounds given up -/

/-- Abort the rounds in progress of a region (06 R187, 12 R349). -/
def State.abortRegion (s : State) (si pon : Nat) : State :=
  let h := s.hdr si pon
  if !h.busy then s else
    let k : Nat := if h.arrNx ≠ 0 ∨ h.annNx ≠ 0 ∨ h.beatsNx ≠ 0 then 2 else 1
    let s := (s.freshRegion si pon).dropResults si pon
    let s := s.modHdr si pon (fun h => { h with
      r := h.r + k, fr := h.r, faultN := BitVec.ofNat 2 k, rel := false, left := 0, second := false
      arr := 0, arrNx := 0, ann := 0, annNx := 0, beats := 0, beatsNx := 0 })
    let s := (s.evt (0x0C + si) 4).setSrc si pon (stationSrc si)
    let s := s.setVal si pon (s.hdr si pon).value
    s.notifyWatches si pon

/-- RUN_CLOSE with FORCE or pavilion reset during a round (06 R185). -/
def State.flushRegion (s : State) (si pon : Nat) : State :=
  let s := (s.freshRegion si pon).dropResults si pon
  s.modHdr si pon (fun h => { h with rel := false, left := 0
                                     arr := 0, arrNx := 0, ann := 0, annNx := 0, beats := 0, beatsNx := 0 })

/-- RUN_OPEN (06 R185): the configuration stays. -/
def State.openRegion (s : State) (si pon : Nat) : State :=
  (s.flushRegion si pon).modHdr si pon (fun h => { h with
    r := 0, fr := 0, faultN := 0, result := 0, pend := 0, second := false })

/-! ### Apply (06 R191) -/

/-- FR_CTL.APPLY: the staged configuration goes into the header of the slot FR_SEL names. -/
def State.foldApply (s : State) (si : Nat) : State :=
  let pon := s.get F.FR_SEL_PON si
  let sl := s.slot si pon
  let cfg := s.get F.FR_CFG_OP si + s.get F.FR_CFG_IN_FMT si * 8 + s.get F.FR_CFG_OUT_FMT si * 128 +
    s.get F.FR_CFG_WIDE si * 2048 + s.get F.FR_CFG_DOUBLE si * 4096 + s.get F.FR_CFG_SAT si * 8192
  let lanes := s.get F.FR_LANES_LANES si
  let target := s.get F.FR_TARGET_TARGET si
  let res := s.get64 F.FR_RES_LO_ADDR F.FR_RES_HI_ADDR si
  let code := applyCode (sl.kind == .foldCounter) (s.hdr si pon).busy cfg lanes target res (foldNlg sl)
  let s := s.put F.FR_CTL_CODE code si
  if code ≠ 0 then s.putB F.FR_CTL_ERR true si
  else
    let s := (s.putB F.FR_CTL_ERR false si).freshRegion si pon
    s.modHdr si pon (fun h => { h with
      cfg := BitVec.ofNat 14 cfg, v := true, lanes := lanes, target := BitVec.ofNat 32 target
      resAddr := BitVec.ofNat 64 res, second := false })

end Sys2Proof.Machine
end

