-- ==== Sys2Proof/Machine/Rows.lean ====
section
/-! DEFINITION. The rows of the protected RAMs (12): the code and its classes, the correction log, and what a read of a
row in error does. -/

namespace Sys2Proof.Machine

/-! ### RAMs and rows (R338) -/

/-- Instance of the protection registers that covers a part's RAMs; its index among `prots`. -/
def protOf : Part → Nat
  | .stn x => x.toNat
  | .halt h => h.toNat / 4
  | .jct => 0x80

/-- A halt row that exists. -/
def haltRow (row : Nat) : Bool :=
  decide (row ≤ 0x180) || (decide (0x200 ≤ row) && decide (row < 0x380)) || (decide (0x400 ≤ row) && decide (row < 0x440)) ||
  (decide (0x480 ≤ row) && decide (row < 0x484)) || (decide (0x4C0 ≤ row) && decide (row < 0x4D0)) || (decide (0x500 ≤ row) && decide (row < 0x510))

/-- Bytes of a halt row. -/
def haltRowBytes (row : Nat) : Nat :=
  if row ≤ 0x180 then 18 else if row < 0x400 then 4 else if row < 0x480 then 20 else if row < 0x4C0 then 16 else 4

/-- Rows and row bytes of a RAM; none for a reserved identifier. -/
def ramShape (ram : Nat) : Option (Nat × Nat) :=
  match ram with
  | 0x00 => some (16384, 8) | 0x01 => some (16384, 8) | 0x02 => some (4096, 16) | 0x03 => some (1024, 16) | 0x04 => some (64, 160)
  | 0x05 => some (65536, 4) | 0x06 => some (8192, 16) | 0x07 => some (32768, 64) | 0x08 => some (4096, 4) | 0x09 => some (512, 16)
  | 0x0A => some (1024, 8) | 0x0B => some (1024, 16)
  | 0x10 => some (1296, 18) | 0x11 => some (1296, 18) | 0x12 => some (1296, 18) | 0x13 => some (1296, 18)
  | 0x18 => some (16384, 24) | 0x19 => some (1024, 64) | 0x1A => some (64, 160) | 0x1B => some (4096, 4) | 0x1C => some (512, 16)
  | 0x1D => some (1024, 16) | 0x1E => some (1280, 64)
  | _ => none

def isHaltRam (ram : Nat) : Bool := decide (0x10 ≤ ram) && decide (ram ≤ 0x13)
def isJctRam (ram : Nat) : Bool := decide (0x18 ≤ ram)

/-- The row exists. -/
def rowOk (ram row : Nat) : Bool :=
  (ramShape ram).any (fun x => decide (row < x.1)) && (!isHaltRam ram || haltRow row)
def rowBytes (ram row : Nat) : Nat := if isHaltRam ram then haltRowBytes row else ((ramShape ram).map (·.2)).getD 0

/-- The RAM is one of those that instance `i` covers. -/
def ramOf (i ram : Nat) : Bool := (ramShape ram).isSome && (isJctRam ram == decide (4 ≤ i))

/-- The part that a RAM of instance `i` belongs to. -/
def ramPart (i ram : Nat) : Part :=
  if 4 ≤ i then .jct else if isHaltRam ram then .halt (BitVec.ofNat 4 (4 * i + ram % 4)) else .stn (BitVec.ofNat 2 i)

/-- The RAM is that of the part: a halt's own among the four of its station. -/
def ramIs (part : Part) (ram : Nat) : Bool := ramOf (protOf part) ram && decide (ramPart (protOf part) ram = part)

/-! ### The code (R339 to R341) -/

/-- Columns of the data bits, lowest first, and of the check bits. -/
def dataColumns : List (BitVec 5) := [0x07, 0x0B, 0x0D, 0x0E, 0x13, 0x15, 0x16, 0x19]
def codeColumns : List (BitVec 5) := dataColumns ++ [0x01, 0x02, 0x04, 0x08, 0x10]

/-- The data part of a byte's check bits. -/
def dataPart (d : Byte) : BitVec 5 :=
  (List.range 8).foldl (fun c i => if d.getLsbD i then c ^^^ dataColumns.getD i 0 else c) 0

/-- The address signature of a row. -/
def signature (row : Nat) : BitVec 5 :=
  (List.range 20).foldl (fun c i => if row.testBit i then c ^^^ ([0x03, 0x05, 0x09, 0x11] : List (BitVec 5)).getD (i % 4) 0 else c) 0

/-- The check bits stored with a byte. -/
def checkBits (d : Byte) (row : Nat) : BitVec 5 := dataPart d ^^^ signature row

/-- Classes of a row, with the code of SP_UE_LAST.CLASS. -/
inductive RowClass where
  | clean | corr | multi | double | address
  deriving DecidableEq, Repr

def RowClass.code : RowClass → Nat
  | .multi => 1 | .double => 2 | .address => 3 | _ => 0

/-- Even weight. -/
def evenWeight (s : BitVec 5) : Bool := (List.range 5).foldl (fun b i => b ^^ s.getLsbD i) true

/-- The class of a row, from the syndromes of its bytes. -/
def classify (l : List (BitVec 5)) : RowClass :=
  if l.all (· = 0) then .clean
  else if l.any (fun s => !evenWeight s && !codeColumns.contains s) then .multi
  else if l.any (fun s => s ≠ 0 && evenWeight s) then (if l.all (fun s => s = l.headD 0) then .address else .double)
  else .corr

/-- The syndromes a read finds: those the event gives, and what an injection left in byte 0. -/
def State.syndromes (s : State) (i ram row : Nat) (syn : List (Nat × Byte)) : List (BitVec 5) :=
  let bad := ((s.prot i).bad.filter (fun e => e.1 = ram && e.2.1 = row)).foldl (fun m e => m ^^^ e.2.2) 0
  (List.range (rowBytes ram row)).map (fun b =>
    (syn.filter (fun e => e.1 = b)).foldl (fun m e => m ^^^ e.2.extractLsb' 0 5) (if b = 0 then bad else 0))

/-! ### The correction log (R350) -/

/-- An event of the protection registers: the junction's lie in bits 8 to 14 of page 0x29 (R356). -/
def State.evtProt (s : State) (i bit : Nat) : State := if i < 4 then s.evt (0x14 + i) bit else s.evt 0x29 (8 + bit)

/-- An entry after another correction of its row in lap `lap`. -/
def LogRow.again (r : LogRow) (lap : BitVec 16) : LogRow :=
  let r := if r.total = 0xFFFF then r else { r with total := r.total + 1 }
  let n : BitVec 3 := if lap - r.wlap ≤ 1 then (if r.wcount < 4 then r.wcount + 1 else 4) else 1
  { r with wcount := n, wlap := if lap - r.wlap ≤ 1 then r.wlap else lap, persist := r.persist || n = 4 }

/-- The entry a new row takes: a free one, or the one without PERSIST that was corrected longest ago. -/
def Prot.victim (p : Prot) : Option Nat :=
  (lowestFrom (fun n => (tget none p.log n).isNone) 0 32).or (p.recent.find? (fun n => (tget none p.log n).any (fun r => !r.persist)))

/-- Log a correction. -/
def State.logRow (s : State) (i ram row : Nat) : State :=
  let p := s.prot i
  let lap := BitVec.ofNat 16 (s.get F.SP_LAP_LAP_NO i)
  let write := fun (s : State) (n : Nat) (r : LogRow) =>
    s.modProt i (fun p => { p with log := tset none p.log n (some r), recent := p.recent.filter (· ≠ n) ++ [n] })
  match p.log.find? (fun e => e.2.any (fun r => r.ram.toNat = ram && r.row.toNat = row)) with
  | some (n, some r) =>
    let s := write s n (r.again lap)
    if !r.persist ∧ (r.again lap).persist then s.evtProt i 1 else s
  | _ =>
    match p.victim with
    | some n => write s n ⟨BitVec.ofNat 5 ram, BitVec.ofNat 16 row, 1, 1, lap, false⟩
    | none => (s.bump F.SP_LOG_CTL_LOST i).evtProt i 6

/-- Clear an entry. -/
def State.logClear (s : State) (i n : Nat) : State :=
  s.modProt i (fun p => { p with log := tset none p.log n none, recent := p.recent.filter (· ≠ n) })

/-! ### Reactions (R343, R347) -/

/-- The row holds good check bits again. -/
def State.mendRow (s : State) (i ram row : Nat) : State :=
  s.modProt i (fun p => { p with bad := p.bad.filter (fun e => !(e.1 = ram && e.2.1 = row)) })

/-- A CORR read. -/
def State.corrected (s : State) (i ram row : Nat) : State :=
  (((s.bump F.SP_CE_COUNT i).evtProt i 0).logRow i ram row).mendRow i ram row

/-- The region of a station that a lane line lies in: its slot. -/
def State.regionAt (s : State) (si row : Nat) : Option Nat :=
  ((s.mem si).slots.find? (fun e => e.2.kind = .foldCounter && decide (foldFirst e.2 ≤ row) && decide (row < foldFirst e.2 + 64 * foldNlg e.2))).map (·.1)

/-- What an uncorrectable row is of. -/
inductive Uncorr where
  | reset
  /-- A lane line of a region with a fold in progress: its slot. -/
  | lane (pon : Nat)
  /-- A fold line that holds nothing. -/
  | idle
  deriving DecidableEq, Repr

def State.uncorrOf (s : State) (i ram row : Nat) (cls : RowClass) : Uncorr :=
  if ram ≠ 0x07 ∨ cls = .address then .reset
  else match s.regionAt i row with
    | none => .idle
    | some pon =>
      if foldFirst (s.slot i pon) = row then .reset
      else if (tget none (s.mem i).lanes row).isSome ∧ (s.hdr i pon).busy then .lane pon
      else .idle

/-- The detail of an uncorrectable row in the fault log (13 R391). -/
def ueDetail (ram row : Nat) (cls : RowClass) : Nat := ram + cls.code * 2 ^ 5 + row * 2 ^ 7

/-- A reset of a part is due (R347); two rows of one fclk reset it once (R353). -/
def State.dueReset (s : State) (i : Nat) (p : Part) (detail : Nat) : State :=
  s.modProt i (fun x => { x with due := if x.due.any (fun e => e.1 == p) then x.due else x.due ++ [(p, detail)] })

/-- An uncorrectable row has been read (R347). `src`: 0 access, 1 scrub, 2 pass, 3 scan or MOVE copy. False if its part is to
be reset; before READY was first reached start-up stops in its place (14 R399). -/
def State.uncorrectable (s : State) (i ram row : Nat) (cls : RowClass) (src : Nat) : Bool × State :=
  let s := (((s.put F.SP_UE_LAST_RAM ram i).put F.SP_UE_LAST_CLASS cls.code i).put F.SP_UE_LAST_SRC src i).putB F.SP_UE_LAST_V true i
  let s := (s.put F.SP_UE_ROW_ROW row i).mendRow i ram row
  let due := fun (s : State) => s.dueReset i (ramPart i ram) (ueDetail ram row cls)
  if !s.su.everReady then (false, due s)
  else match s.uncorrOf i ram row cls with
    | .reset => (false, due ((s.bump F.SP_UE_CNT_RESETS i).evtProt i 2))
    | .lane pon => (true, (((s.bump F.SP_UE_CNT_CLEARED i).evtProt i 3).fault 4 i (ueDetail ram row cls)).abortRegion i pon)
    | .idle => (true, ((s.bump F.SP_UE_CNT_CLEARED i).evtProt i 3).modMem i (fun m => { m with lanes := freshen m.lanes row 1 }))

/-- A row is read in which the bytes of `syn` are in error (R341, R343). -/
def State.readRow (s : State) (i ram row : Nat) (syn : List (Nat × Byte)) (src : Nat) : Bool × State :=
  match classify (s.syndromes i ram row syn) with
  | .clean => (true, s)
  | .corr => (true, s.corrected i ram row)
  | c => s.uncorrectable i ram row c src

/-- Rows of instance `i` in error that `q` picks, of the highest RAM first: SP_UE_LAST then holds the lowest (R353). -/
def State.badRows (s : State) (i : Nat) (q : Nat → Nat → Bool) : List (Nat × Nat) :=
  (List.range 32).reverse.flatMap (fun ram =>
    ((((s.prot i).bad.filter (fun e => e.1 = ram && q ram e.2.1)).map (fun e => (ram, e.2.1))).eraseDups))

/-- The rows that `q` picks are read: those in error are corrected, or reset their part; false if one does. -/
def State.reads (s : State) (i src : Nat) (q : Nat → Nat → Bool) : Bool × State :=
  (s.badRows i q).foldl (fun (acc : Bool × State) e =>
    let r := acc.2.readRow i e.1 e.2 [] src
    (acc.1 && r.1, r.2)) (true, s)

/-! ### What an access reads -/

/-- Rows that an operation at a slot reads: its attribute word and value, what its kind links to, the header of its region,
and its watch entries and waiter records. MOVE leaves all but the attribute word to its copy. -/
def State.objectRow (s : State) (si pon : Nat) (move : Bool) (ram row : Nat) : Bool :=
  let sl := s.slot si pon
  let m := s.mem si
  if move then ram = 0x01 && row = pon
  else match ram with
    | 0x00 | 0x01 => row = pon
    | 0x02 => (sl.kind = .sem || sl.kind = .glock) && decide (sl.link.toNat % 4096 = row)
    | 0x03 => sl.kind = .mlock && decide (sl.link.toNat % 1024 = row)
    | 0x04 => sl.kind = .turnstile && decide (sl.link.toNat % 64 = row)
    | 0x06 => m.watches.any (fun w => w.pon = pon && w.row = row) || m.waiters.any (fun w => w.pon = pon && w.row = row)
    | 0x07 => sl.kind = .foldCounter && decide (foldFirst sl = row)
    | _ => false

/-- The rows a MOVE copies: those of its group of `n` slots (02 R64). -/
def State.copyRow (s : State) (si pon n : Nat) (ram row : Nat) : Bool :=
  (List.range n).any (fun i => s.objectRow si (pon + i) false ram row)

/-- The lines of the lanes `l` that a contribution folds into (06 R166). -/
def State.laneRow (s : State) (si pon : Nat) (other : Bool) (l : List Nat) (ram row : Nat) : Bool :=
  let h := s.hdr si pon
  let size := laneSize (cfgOp h.cfg.toNat) (cfgIn h.cfg.toNat)
  let base := h.base (foldFirst (s.slot si pon)) other
  ram = 0x07 && (tget none (s.mem si).lanes row).isSome &&
    l.any (fun i => decide (base + i * size / 64 = row) || decide (base + (i * size + size - 1) / 64 = row))

/-- A wait register's row, and for a context-local handle the queue's context base; the core's masks for an operation that
only a supervisor queue may use. -/
def haltReadRow (h i : Nat) (ctxl supv : Bool) (ram row : Nat) : Bool :=
  ram = 0x10 + h % 4 && (row = i || (ctxl && decide (row = 0x200 + i)) || (supv && decide (row = 0x500 + i / 24)))

/-- The proxy entries of an address (09 R262). -/
def State.proxyRead (s : State) (as : List GAddr) (ram row : Nat) : Bool :=
  ram = 0x18 && s.jct.proxies.any (fun e => e.row = row && (as.contains e.addr || as.contains e.loc))

/-- Rows that a ledger snapshot reads (13 R362): of the lane store each header line. -/
def snapRow (ram row : Nat) : Bool :=
  if ram = 0x07 then row % 64 = 0 else ram < 0x10 || (decide (0x1B ≤ ram) && decide (ram ≤ 0x1D))

end Sys2Proof.Machine
end

