-- ==== Sys2Proof/Machine/SemLock.lean ====
section
/-! DEFINITION. Semaphores and queued locks at their home station (05). Every meaning here is one slot
access; the checks of 03 R78 come before it. -/

namespace Sys2Proof.Machine

/-! ### Rights -/

/-- A pavilion's rights in a group of a station (05 R136): bit 0 R, 1 S, 2 W, 3 A. -/
def State.rightsOf (s : State) (si group : Nat) (p : BitVec 6) : BitVec 4 :=
  tget 0 (s.mem si).rights (group * 64 + p.toNat)

/-- The right an operation needs of a SEM or GLOCK slot (05 R136); LOCK_REL needs none of the lock's holder. -/
def rightNeeded (op : BitVec 6) : Nat :=
  match op.toNat with
  | 0x04 => 1
  | 0x08 => 2
  | 0x09 | 0x0A | 0x0C | 0x0E => 4
  | 0x0F | 0x20 => 8
  | _ => 0

/-! ### Entries -/

/-- The lock or semaphore state of a slot: a semaphore-file entry, or a lock queue for a MLOCK (05 R135). -/
def State.ent (s : State) (si pon : Nat) : SemEnt :=
  let sl := s.slot si pon
  if sl.kind = .mlock then tget SemEnt.init (s.mem si).lockqs (sl.link.toNat % 1024)
  else tget SemEnt.init (s.mem si).sems (sl.link.toNat % 4096)

def State.setEnt (s : State) (si pon : Nat) (e : SemEnt) : State :=
  let sl := s.slot si pon
  if sl.kind = .mlock then s.modMem si (fun m => { m with lockqs := tset SemEnt.init m.lockqs (sl.link.toNat % 1024) e })
  else s.modMem si (fun m => { m with sems := tset SemEnt.init m.sems (sl.link.toNat % 4096) e })

/-- READ of a SEM (05 R138). -/
def State.semWord (s : State) (si pon : Nat) : Word64 :=
  BitVec.ofNat 64 ((s.ent si pon).count.toNat + (s.waitersOf si pon).length * 2 ^ 32)

/-- The lock word (05 R147). -/
def State.lockWord (s : State) (si pon : Nat) : Word64 :=
  let e := s.ent si pon
  BitVec.ofNat 64 (e.holder.toNat + bnat e.held * 2 ^ 24 + bnat e.orphan * 2 ^ 25 + e.hprio.toNat * 2 ^ 26 +
    e.boost.toNat * 2 ^ 28 + bnat e.boosted * 2 ^ 30 + (s.waitersOf si pon).length * 2 ^ 32 + e.grants.toNat * 2 ^ 48)

/-- The grant word (05 R150). -/
def grantWord (st : Status) (granted orphan forced : Bool) (prev : Option (BitVec 24)) (prio : BitVec 2)
    (grants : BitVec 16) : Word64 :=
  BitVec.ofNat 64 (st.code + bnat granted * 16 + bnat orphan * 32 + bnat forced * 64 + bnat prev.isSome * 128 +
    (prev.getD 0).toNat * 2 ^ 8 + prio.toNat * 2 ^ 32 + grants.toNat * 2 ^ 48)

/-- The memory word of a MLOCK is written when what it shows of the lock has changed (05 R148). -/
def State.mlockWrite (s : State) (si pon : Nat) : State :=
  let sl := s.slot si pon
  if sl.kind = .mlock ∧ sl.val ≠ 0 then s.memWrite64 si sl.val (s.lockWord si pon) (.mlock si pon) else s

/-- An access to a lock, followed by the write of its memory word if HOLDER, HELD, ORPHAN, BOOST or BOOSTED
has changed. -/
def State.lockAccess (s : State) (si pon : Nat) (f : State → State) : State :=
  let a := s.ent si pon
  let t := f s
  let b := t.ent si pon
  if a.holder = b.holder ∧ a.held = b.held ∧ a.orphan = b.orphan ∧ a.boost = b.boost ∧ a.boosted = b.boosted then t
  else t.mlockWrite si pon

/-! ### Inheritance notices (05 R151) -/

/-- Notices for the holder are not sent: LOCK_CFG.INH is 0, or the holder is in signal space. -/
def State.noteSuppressed (s : State) (e : SemEnt) : Bool :=
  !s.flag F.LOCK_CFG_INH 0 e.hpav.toNat || e.holder.toNat % 32 == 24 || e.holder.toNat % 32 == 25

/-- Send a notice to the holder: to its halt on this die, or in a NOTE record to its die. -/
def State.sendNote (s : State) (si pon : Nat) (e : SemEnt) (revert : Bool) (prio : BitVec 2) : State :=
  let core := BitVec.ofNat 8 (e.holder.toNat / 32)
  let q := BitVec.ofNat 5 e.holder.toNat
  let die : BitVec 9 := BitVec.ofNat 9 ((e.holder.toNat / 2 ^ 13 % 128) * 4 + e.holder.toNat / 2 ^ 20 % 4)
  let a := s.addrOf si pon
  if die = s.dieSrc then
    s.drive (.note (if revert then .revert else .inherit) core q (BitVec.ofNat 96 (prio.toNat + a.toNat * 4)))
  else s.tx die 1 1 [recNote revert prio a core q]

/-- Count a notice not sent (15 R423 code of suppressed notices). -/
def State.noteCount (s : State) (si : Nat) : State := s.occur (.stn (BitVec.ofNat 2 si)) 0x2B 1

/-- REVERT falls due if BOOSTED is 1: it is sent or counted, and BOOSTED is cleared. -/
def State.revert (s : State) (si pon : Nat) : State :=
  let e := s.ent si pon
  if !e.boosted then s else
    let s := if s.noteSuppressed e then s.noteCount si else s.sendNote si pon e true e.hprio
    s.setEnt si pon { e with boosted := false }

/-- What a request needs of its slot: LOCK_REL from another than the holder needs W. -/
def State.needOf (s : State) (si pon : Nat) (rq : HReq) : Nat :=
  let e := s.ent si pon
  if rq.req.op = 0x0D ∧ !(e.held ∧ e.holder = s.identOf rq.who) then 4 else rightNeeded rq.req.op

/-- BOOST is recomputed from the waiters, and compared with HPRIO where it has changed, while the lock is held with
waiters queued: INHERIT or REVERT falls due. (A grant changes HPRIO to the highest BOOST: none falls due by it.) -/
def State.reboost (s : State) (si pon : Nat) : State :=
  let e := s.ent si pon
  let ws := s.waitersOf si pon
  let b : BitVec 2 := ws.foldl (fun b w => if b.toNat < w.rq.req.operand.toNat % 4 then BitVec.ofNat 2 w.rq.req.operand.toNat else b) 0
  let s := s.setEnt si pon { e with boost := b }
  let e' := { e with boost := b }
  if e.held ∧ e.hprio.toNat < b.toNat ∧ b ≠ e.boost then
    if s.noteSuppressed e' then s.noteCount si
    else (s.sendNote si pon e' false b).setEnt si pon { e' with boosted := true }
  else if e.boosted ∧ b.toNat ≤ e.hprio.toNat then s.revert si pon
  else s

/-! ### Semaphores -/

/-- Grant queued SEM_TAKEs from the head while the count suffices (05 R140). -/
def State.semGrant (s : State) (si pon : Nat) : Nat → State
  | 0 => s
  | fuel + 1 =>
    match s.waitersOf si pon with
    | [] => s
    | w :: _ =>
      let e := s.ent si pon
      let n : Nat := w.rq.req.operand.toNat % 2 ^ 32
      if n ≤ e.count.toNat then
        let c : Word32 := BitVec.ofNat 32 (e.count.toNat - n)
        let s := (s.dropWaiter si w.row).setEnt si pon { e with count := c }
        let s := s.answer si w.rq .done (BitVec.ofNat 64 c.toNat)
        s.semGrant si pon fuel
      else s

/-- Grants after a change of the count. -/
def State.semGrants (s : State) (si pon : Nat) : State := s.semGrant si pon (s.waitersOf si pon).length

/-- SEM_POST (05 R139, R142). -/
def State.opSemPost (s : State) (si pon : Nat) (rq : HReq) : State :=
  let e := s.ent si pon
  let n : Nat := rq.req.operand.toNat % 2 ^ 32
  if n = 0 then s.answer si rq .done (BitVec.ofNat 64 e.count.toNat)
  else if e.count.toNat + n ≤ 2 ^ 31 - 1 then
    let c : Word32 := BitVec.ofNat 32 (e.count.toNat + n)
    let s := (s.setEnt si pon { e with count := c }).setSrc si pon (lastSrcOf rq.who)
    let s := s.answer si rq .done (BitVec.ofNat 64 c.toNat)
    s.semGrants si pon
  else (s.evt (0x08 + si) 1).answer si rq .overflow 0

/-- SEM_TAKE (05 R140, R142). -/
def State.opSemTake (s : State) (si pon : Nat) (rq : HReq) : State :=
  let e := s.ent si pon
  let n : Nat := rq.req.operand.toNat % 2 ^ 32
  if n = 0 then s.answer si rq .done (BitVec.ofNat 64 e.count.toNat)
  else if 2 ^ 31 - 1 < n then s.answer si rq .denied 0
  else if (s.waitersOf si pon).isEmpty ∧ n ≤ e.count.toNat then
    let c : Word32 := BitVec.ofNat 32 (e.count.toNat - n)
    ((s.setEnt si pon { e with count := c }).setSrc si pon (lastSrcOf rq.who)).answer si rq .done (BitVec.ofNat 64 c.toNat)
  else
    match s.queueWaiter si pon rq (·.length) with
    | some s => s.setSrc si pon (lastSrcOf rq.who)
    | none => (s.watchFull si).answer si rq .retry 0

/-- SEM_DEC (05 R141). -/
def State.opSemDec (s : State) (si pon : Nat) (rq : HReq) : State :=
  let e := s.ent si pon
  let n : Nat := rq.req.operand.toNat % 2 ^ 32
  if n ≤ e.count.toNat then
    let c : Word32 := BitVec.ofNat 32 (e.count.toNat - n)
    let s := if n = 0 then s else (s.setEnt si pon { e with count := c }).setSrc si pon (lastSrcOf rq.who)
    s.answer si rq .done (BitVec.ofNat 64 c.toNat)
  else s.answer si rq .underflow 0

/-! ### Locks -/

/-- Grant the lock to the head waiter (05 R150, R152, R155), if one is queued; `prev` held it before. -/
def State.grantHead (s : State) (si pon : Nat) (orphan forced : Bool) (prev : BitVec 24) : State × Option Word64 :=
  match s.waitersOf si pon with
  | [] => (s, none)
  | w :: _ =>
    let e := s.ent si pon
    let prio : BitVec 2 := BitVec.ofNat 2 w.rq.req.operand.toNat
    let g := e.grants + 1
    let st := if orphan then Status.orphan else .done
    let gw := grantWord st true orphan forced (some prev) prio g
    let s := (s.dropWaiter si w.row).setEnt si pon
      { e with held := true, holder := s.identOf w.rq.who, hpav := w.rq.req.pav, hprio := prio, grants := g }
    let s := s.answer si w.rq st gw
    (s.reboost si pon, some gw)

/-- Clear the holder, and HPAV and HPRIO with it (assumption log 89); the caller grants or leaves the lock free. REVERT
falls due (05 R151). -/
def State.unhold (s : State) (si pon : Nat) : State :=
  let s := s.revert si pon
  let e := s.ent si pon
  s.setEnt si pon { e with held := false, holder := 0, hpav := 0, hprio := 0, boosted := false }

/-- LOCK_ACQ (05 R150, R155). -/
def State.opLockAcq (s : State) (si pon : Nat) (rq : HReq) : State :=
  s.lockAccess si pon fun s =>
    let e := s.ent si pon
    let prio : BitVec 2 := BitVec.ofNat 2 rq.req.operand.toNat
    let me := s.identOf rq.who
    if !e.held then
      let g := e.grants + 1
      let st := if e.orphan then Status.orphan else .done
      let s := s.setEnt si pon { e with held := true, holder := me, hpav := rq.req.pav, hprio := prio, grants := g, orphan := false }
      (s.setSrc si pon (lastSrcOf rq.who)).answer si rq st (grantWord st true e.orphan false none prio g)
    else if e.holder = me then s.answer si rq .denied (grantWord .denied false false false none prio e.grants)
    else
      let pos := fun (ws : List Waiter) =>
        (ws.findIdx? (fun w => w.pon = pon && decide (w.rq.req.operand.toNat % 4 < prio.toNat))).getD ws.length
      match s.queueWaiter si pon rq pos with
      | some s => (s.setSrc si pon (lastSrcOf rq.who)).reboost si pon
      | none => (s.watchFull si).answer si rq .retry (grantWord .retry false false false none prio e.grants)

/-- LOCK_TRY (05 R152). -/
def State.opLockTry (s : State) (si pon : Nat) (rq : HReq) : State :=
  let e := s.ent si pon
  let prio : BitVec 2 := BitVec.ofNat 2 rq.req.operand.toNat
  if !e.held then s.opLockAcq si pon rq
  else
    let st := if e.holder = s.identOf rq.who then Status.denied else .retry
    s.answer si rq st (grantWord st false false false none prio e.grants)

/-- LOCK_REL (05 R152): from the holder; from another identity DENIED, whatever its rights (R136). -/
def State.opLockRel (s : State) (si pon : Nat) (rq : HReq) : State :=
  s.lockAccess si pon fun s =>
    let e := s.ent si pon
    if e.held ∧ e.holder = s.identOf rq.who then
      let s := (s.unhold si pon).setSrc si pon (lastSrcOf rq.who)
      match s.grantHead si pon false false e.holder with
      | (s, some gw) => s.answer si rq .done gw
      | (s, none) => s.answer si rq .done (grantWord .done false false false (some e.holder) 0 e.grants)
    else s.answer si rq .denied (grantWord .denied false false false none 0 e.grants)

/-- LOCK_FORCE (05 R153). -/
def State.opLockForce (s : State) (si pon : Nat) (rq : HReq) : State :=
  s.lockAccess si pon fun s =>
    let e := s.ent si pon
    if e.held then
      let s := (s.unhold si pon).setSrc si pon (lastSrcOf rq.who)
      let s := s.setEnt si pon { s.ent si pon with orphan := false }
      match s.grantHead si pon false true e.holder with
      | (s, some gw) => s.answer si rq .done gw
      | (s, none) => s.answer si rq .done (grantWord .done false false true (some e.holder) 0 e.grants)
    else s.answer si rq .done (grantWord .done false false false none 0 e.grants)

/-- A held lock is orphaned (05 R155): the head waiter is granted, or the next grant is an orphan grant. -/
def State.orphanLock (s : State) (si pon : Nat) : State :=
  s.lockAccess si pon fun s =>
    let e := s.ent si pon
    let s := s.unhold si pon
    match s.grantHead si pon true false e.holder with
    | (s, some _) => s
    | (s, none) => s.setEnt si pon { s.ent si pon with orphan := true }

/-- A lock waiter is removed (TIMEOUT, FLUSHED): BOOST is recomputed (05 R155). -/
def State.dropLockWaiter (s : State) (si pon row : Nat) : State :=
  s.lockAccess si pon fun s => (s.dropWaiter si row).reboost si pon

end Sys2Proof.Machine
end

