-- ==== Sys2Proof/Machine/Turnstile.lean ====
section
/-! DEFINITION. Turnstiles at their home station (04 R105 to R116). -/

namespace Sys2Proof.Machine

def State.turn (s : State) (si pon : Nat) : TurnRec :=
  tget TurnRec.init (s.mem si).turns ((s.slot si pon).link.toNat % 64)
def State.setTurn (s : State) (si pon : Nat) (t : TurnRec) : State :=
  s.modMem si (fun m => { m with turns := tset TurnRec.init m.turns ((s.slot si pon).link.toNat % 64) t })

/-- RMASK bit of a die (04 R106), if it lies in the window of 32 packages. -/
def remoteBit (base : BitVec 7) (src : BitVec 9) : Option Nat :=
  let off := (src.toNat / 4 + 128 - base.toNat) % 128
  if off < 32 then some (off * 4 + src.toNat % 4) else none

/-- The participants that count: {RMASK, CMASK}, the bit of the turnstile's own die excluded (04 R106). -/
def State.turnMask (s : State) (t : TurnRec) : BitVec 384 :=
  let own : BitVec 128 := match remoteBit t.pkgBase s.dieSrc with
    | some n => ~~~ (1#128 <<< n)
    | none => BitVec.allOnes 128
  (t.rmask &&& own) ++ t.cmask

/-- Participant bit of an arriving originator (04 R107). -/
def State.arrivalBit (t : TurnRec) : Orig → Option Nat
  | .queue _ core q => if q.toNat < 22 then some core.toNat else none
  | .die src _ _ _ => (remoteBit t.pkgBase src).map (· + 256)
  | _ => none

/-- The first completion of an armed pair's re-alignment turnstile (04 R116). -/
def State.realign1 (s : State) (si pon k : Nat) : State :=
  let d := s.drift si k
  if d.mode = 2 ∧ d.armed ∧ d.ts.toNat = pon then
    let p := (s.slot si d.prod.toNat).val
    let c := (s.slot si d.cons.toNat).val
    if c.toNat < p.toNat then
      let s := (s.setVal si d.cons.toNat p).setSrc si d.cons.toNat (stationSrc si)
      let s := (s.driftEvent si k .done).modDrift si k (fun d => { d with armed := false, skip := p - c })
      s.counterChanged si d.cons.toNat
    else if c = p then s.modDrift si k (fun d => { d with armed := false })
    else (s.driftEvent si k .underflow).modDrift si k (fun d => { d with armed := false })
  else s

def State.realign (s : State) (si pon : Nat) : State :=
  ((s.mem si).drift.map (·.1)).foldl (fun s k => s.realign1 si pon k) s

/-- Root of a gang (04 R117): its cluster's halt, or the junction. -/
def State.gangRoot (s : State) (g : Nat) : Part :=
  let wl := s.get F.GANG_CFG_WL 0 g
  let hl := s.get F.GANG_CFG_HL 0 g
  if wl ≤ 2 ∧ hl ≤ 2 then
    let x := s.get F.GANG_CFG_X0 0 g
    let y := s.get F.GANG_CFG_Y0 0 g
    .halt (BitVec.ofNat 4 ((y / 8) * 8 + (x / 8) * 4 + (y / 4 % 2) * 2 + x / 4 % 2))
  else .jct

/-- Complete the phase if every participant has arrived (04 R109); the moved early arrivals may complete
the next phase as well. -/
def State.phaseComplete (s : State) (si pon : Nat) : Nat → State
  | 0 => s
  | fuel + 1 =>
    let t := s.turn si pon
    let v := (s.slot si pon).val
    if t.cur = s.turnMask t ∧ t.cur ≠ 0 ∧ v.toNat < 2 ^ 64 - 1 then
      let s := (s.setTurn si pon { t with cur := t.nxt, nxt := 0 }).setVal si pon (v + 1)
      let s := s.notifyWatches si pon
      let g := t.gang.toNat
      let s := if 32 ≤ g then
          s.emit (.stn (BitVec.ofNat 2 si)) (s.gangRoot (g % 32)) (.gangFire (BitVec.ofNat 5 g))
        else s
      (s.realign si pon).phaseComplete si pon fuel
    else s

/-- The arrival is a gang wait (04 R119): a blocking TURN_ARRIVE on a bound turnstile from tags 16 to 21. -/
def gangWaitOf (t : TurnRec) (rq : HReq) : Option (BitVec 5) :=
  match rq.who with
  | .queue _ _ q => if rq.req.op = 0x10 ∧ 16 ≤ q.toNat ∧ 32 ≤ t.gang.toNat then some (BitVec.ofNat 5 t.gang.toNat) else none
  | _ => none

/-- Change the wait register of a queue. -/
def waitIdx (core : BitVec 8) (q : BitVec 5) : Nat := 24 * (core.toNat % 16) + q.toNat
def State.wait (s : State) (h i : Nat) : WaitReg := tget WaitReg.init (s.halt h).waits i
def State.modWait (s : State) (h i : Nat) (f : WaitReg → WaitReg) : State :=
  s.modHalt h (fun ht => { ht with waits := tmod WaitReg.init ht.waits i f })

/-- The register an answer for a queue belongs to: its own, or a siding of its core (13 R370). -/
def State.answerReg (s : State) (h : Nat) (core : BitVec 8) (q : BitVec 5) (p : WaitReg → Bool) : Option Nat :=
  let i := waitIdx core q
  let c := 24 * (core.toNat % 16)
  if p (s.wait h i) ∧ !(s.wait h i).sided then some i
  else [c + 22, c + 23].find? (fun j => (s.wait h j).sided && (s.wait h j).homeQ = q && p (s.wait h j))

/-- A blocking arrival waits for its target T (04 R110): the halt writes T into EXP; the station answers
at once, makes or lowers its watch entry, or refuses. The wait may have been sided, or have ended, since. An arrival from
another die is answered with its target, which its halt then waits for through the junctions (assumption log 20). No
count reaches a T of 2^64 or more, and EXP cannot hold it: such a wait is registered nowhere (assumption log 80). -/
def State.turnWait (s : State) (si pon : Nat) (rq : HReq) (tgt : Nat) (gang : Option (BitVec 5)) : State :=
  match rq.who with
  | .queue h core q =>
    let a := s.addrOf si pon
    let mine := fun (w : WaitReg) => w.v && !w.stale && w.op = 0x10 && w.addrV && (w.addr = rq.addr || w.addr = a)
    match s.answerReg h.toNat core q mine with
    | none => s
    | some i =>
    let s := s.modWait h.toNat i (fun w => if tgt < 2 ^ 64
      then { w with exp := BitVec.ofNat 64 tgt, noTarget := false, gang := gang, addr := a } else { w with gang := gang, addr := a })
    match gang with
    | some g =>
      if s.get F.GANG_STAT_STATE 0 g.toNat = 3 then s.answer si rq .derailed 0 else s
    | none =>
      let sub : BitVec 5 := BitVec.ofNat 5 h.toNat
      if 2 ^ 64 ≤ tgt then s else
      let low := (s.mem si).watches.foldl (fun (e : Nat) w => if w.pon = pon ∧ w.sub = sub then min e w.exp.toNat else e) tgt
      if tgt ≤ (s.slot si pon).val.toNat then s.register si pon sub (BitVec.ofNat 64 tgt)
      else s.register si pon sub (BitVec.ofNat 64 low)
  | _ => if tgt < 2 ^ 64 then s.answer si rq .done (BitVec.ofNat 64 tgt) else s

/-- TURN_ARRIVE and TURN_ARRIVE_NW (04 R108 to R112). -/
def State.opTurn (s : State) (si pon : Nat) (rq : HReq) : State :=
  let t := s.turn si pon
  let p := (s.slot si pon).val
  let mask := s.turnMask t
  match State.arrivalBit t rq.who with
  | none => s.answer si rq .denied 0
  | some b =>
    if !mask.getLsbD b then s.answer si rq .denied 0
    else
      let bit : BitVec 384 := 1#384 <<< b
      let inCur := !t.cur.getLsbD b
      if t.cur.getLsbD b ∧ t.nxt.getLsbD b then s.answer si rq .overflow 0
      else if inCur ∧ (t.cur ||| bit) = mask ∧ p.toNat = 2 ^ 64 - 1 then (s.evt (0x08 + si) 1).answer si rq .overflow 0
      else
        let t' := if inCur then { t with cur := t.cur ||| bit } else { t with nxt := t.nxt ||| bit }
        let tgt := if inCur then p.toNat + 1 else p.toNat + 2
        let s := (s.setTurn si pon t').setSrc si pon (lastSrcOf rq.who)
        let s := s.phaseComplete si pon 2
        if rq.req.op = 0x11 then s.answer si rq .done p
        else s.turnWait si pon rq tgt (gangWaitOf t rq)

end Sys2Proof.Machine
end

