-- ==== Sys2Proof/Machine/Move.lean ====
section
/-! DEFINITION. MOVE at the source's home station, and the allocation of lock queues and turnstile records
(02 R51, R63 to R65; 07 R199; 08 R247). -/

namespace Sys2Proof.Machine

/-- Lock queues and turnstile records in use: those that a slot of the kind names. -/
def StnMem.linked (m : StnMem) (k : Kind) (width : Nat) : List Nat :=
  (m.slots.filter (fun e => e.2.kind = k)).map (fun e => e.2.link.toNat % width)
def State.freeTurn (s : State) (si : Nat) : Option Nat :=
  let u := (s.mem si).linked .turnstile 64 ++ ((s.stn si).retiredRows.filter (fun e => e.1 = 4)).map (·.2)
  lowestFrom (fun i => !u.contains i) 0 64
def State.freeLockq (s : State) (si : Nat) : Option Nat :=
  let u := (s.mem si).linked .mlock 1024 ++ ((s.stn si).retiredRows.filter (fun e => e.1 = 3)).map (·.2)
  lowestFrom (fun i => !u.contains i) 0 1024

/-- A comparator of the station's box watches the object (08 R231, R247). -/
def State.boxWatches (s : State) (si pon : Nat) : Bool :=
  (s.mem si).box.threads.any (fun e => match e.2.cmp with
    | some (a, _) => decide (aPon a = pon ∧ (aStn a).toNat = si)
    | none => false)

/-- First slot of the group that moves, and how many slots (02 R63). -/
def State.moveGroup (s : State) (si pon : Nat) : Nat × Nat :=
  let k := (s.slot si pon).kind
  if k = .ring ∨ k = .ringPart then (pon - pon % 4, 4) else (pon, 1)

/-- The slot is reserved by a MOVE under way: it holds the copy of an object that still stands at its source (02 R64). -/
def State.moveDest (s : State) (si pon : Nat) : Bool :=
  s.net.any (fun m => match m.msg with
    | .moveAck a d _ => decide ((aStn d).toNat = si) && decide (aPon d ≤ pon) &&
        decide (pon < aPon d + (s.moveGroup (aStn a).toNat (aPon a)).2)
    | _ => false)

/-- The station of a destination address on this die. -/
def moveDst (rq : HReq) : GAddr := rq.req.operand.extractLsb' 0 25

/-- The cases in which MOVE ends at once (02 R65, 07 R199, 08 R247), in the order of their tables. -/
def State.moveRefusal (s : State) (si pon : Nat) (rq : HReq) : Option Status :=
  let d := moveDst rq
  let (p, n) := s.moveGroup si pon
  let dst := (aStn d).toNat
  let k := (s.slot si p).kind
  let other := dst ≠ si
  let src := List.range n |>.map (p + ·)
  let ds := List.range n |>.map (aPon d + ·)
  if aPkg d ≠ s.su.pkg ∨ aDie d ≠ s.su.die then some .denied
  else if n = 4 ∧ aPon d % 4 ≠ 0 then some .denied
  else if ds.any (fun x => (s.slot dst x).kind ≠ .free || (s.slot dst x).frozen) then some .denied
  else if other ∧ (k = .foldCounter ∨ k = .sem ∨ k = .glock) then some .denied
  else if other ∧ k = .ticket ∧ tickBv (s.slot si p).link then some .denied
  else if other ∧ (s.mem si).boundList.any (fun e => src.contains e.2) then some .denied
  else if k = .foldCounter ∧ (s.hdr si p).busy then some .retry
  else if other ∧ k = .mlock ∧ !(s.waitersOf si p).isEmpty then some .retry
  else if other ∧ (k = .ticket ∨ n = 4) ∧ src.any (fun x => !(s.waitersOf si x).isEmpty) then some .retry
  else if other ∧ k = .turnstile ∧ s.freeTurn dst = none then some .retry
  else if other ∧ k = .mlock ∧ s.freeLockq dst = none then some .retry
  else if src.any (fun x => s.boxWatches si x) then some .retry
  else none

/-- Copy one slot to its destination, both FROZEN (02 R64 steps 2 and 3): a turnstile or MLOCK that leaves
its station takes the lowest free record or lock queue there. -/
def State.copySlot (s : State) (si p dst q : Nat) : State :=
  let sl := s.slot si p
  let link : Nat :=
    if dst = si then sl.link.toNat
    else if sl.kind = .turnstile then (s.freeTurn dst).getD 0
    else if sl.kind = .mlock then (s.freeLockq dst).getD 0
    else sl.link.toNat
  let t := s.turn si p
  let e := s.ent si p
  let s := s.modSlot si p (fun sl => { sl with frozen := true })
  let s := s.modSlot dst q (fun _ => { sl with frozen := true, link := BitVec.ofNat 24 link })
  if dst = si then s
  else if sl.kind = .turnstile then s.setTurn dst q t
  else if sl.kind = .mlock then s.setEnt dst q e
  else s

/-- MOVE (02 R64, steps 1 to 3): it completes with the destination's acknowledgement. An uncorrectable row that the copy
reads ends it with FAULT (12 R353). -/
def State.opMove (s : State) (si pon : Nat) (rq : HReq) : State :=
  match s.moveRefusal si pon rq with
  | some st => s.answer si rq st 0
  | none =>
    let d := moveDst rq
    let (p, n) := s.moveGroup si pon
    let dst := (aStn d).toNat
    let rd := s.reads si 3 (s.copyRow si p n)
    let s := rd.2
    if !rd.1 then s.answer si rq .fault 0 else
    let s := (List.range n).foldl (fun s i => s.copySlot si (p + i) dst (aPon d + i)) s
    s.emit (.stn (aStn d)) (.stn (BitVec.ofNat 2 si)) (.moveAck (s.addrOf si p) d rq)

/-- The destination's copy is as the source stands now: what changed there since the copy (a grant, an orphaning, a
thread's own change) is not lost. A record or lock queue taken in another station stays taken. -/
def State.recopySlot (s : State) (si p dst q : Nat) : State :=
  let sl := s.slot si p
  let own := dst ≠ si ∧ (sl.kind = .turnstile ∨ sl.kind = .mlock)
  let t := s.turn si p
  let e := s.ent si p
  let s := s.modSlot dst q (fun x => { sl with link := if own then x.link else sl.link })
  if dst = si then s
  else if sl.kind = .turnstile then s.setTurn dst q t
  else if sl.kind = .mlock then s.setEnt dst q e
  else s

/-- Step 4 for one slot: the source becomes MOVED, the destination is no longer FROZEN, and what names the
object follows it (02 R64): watch entries, waiter records, the bound table, a gang's GANG_TS, and a ring's skip region
whose marker is acknowledged (07 R210). -/
def State.finishSlot (s : State) (si p dst q : Nat) : State :=
  let a := s.addrOf si p
  let d := s.addrOf dst q
  let s := s.recopySlot si p dst q
  let sl := s.slot si p
  let s := if (s.stn si).marked.contains p then
      (s.modStn si (fun st => { st with marked := st.marked.filter (· ≠ p) })).modStn dst (fun st => { st with marked := st.marked ++ [q] })
    else s
  let s := if dst = si then s
    else if sl.kind = .turnstile then s.setTurn si p TurnRec.init
    else if sl.kind = .mlock then s.setEnt si p SemEnt.init
    else s
  let moved := (s.mem si).watches.filter (fun w => w.pon = p)
  let s := s.modMem si (fun m => { m with watches := m.watches.filter (fun w => w.pon ≠ p) })
  let s := moved.foldl (fun s w =>
    match if dst = si then some w.row else s.freeRow dst with
    | some r => s.modMem dst (fun m => { m with watches := m.watches ++ [{ w with row := r, pon := q }] })
    | none => s) s
  let s := if moved.isEmpty then s else s.watchHigh dst
  let s := moved.foldl (fun s w =>
    s.emit (.stn (BitVec.ofNat 2 si)) (Orig.part (.sub w.sub)) (.moveNotice a d)) s
  let s := if dst = si then s.modMem si (fun m => { m with
      waiters := m.waiters.map (fun w => if w.pon = p then { w with pon := q } else w)
      bounds := m.bounds.map (fun e => (e.1, e.2.map (fun x => (if x.1 = p then q else x.1, if x.2 = p then q else x.2))))
      slots := m.slots.map (fun e => if e.2.kind = .ticket ∧ tickBv e.2.link ∧ tickBpon e.2.link = p
        then (e.1, { e.2 with link := BitVec.ofNat 24 (e.2.link.toNat % 1024 + q * 1024) }) else e) })
    else s
  let g := (s.slot dst q).kind = .turnstile ∧ 32 ≤ (s.turn dst q).gang.toNat
  let s := if g then s.put F.GANG_TS_ADDR d.toNat 0 ((s.turn dst q).gang.toNat % 32) else s
  let s := s.modSlot si p (fun _ => { sl with kind := .moved, val := BitVec.ofNat 64 d.toNat, link := 0, frozen := false })
  s.modSlot dst q (fun sl => { sl with frozen := false })

end Sys2Proof.Machine
end

