-- ==== Sys2Proof/Machine/Origin.lean ====
section
/-! DEFINITION. Originators: sequence numbers, retention, durability reports and releases (03 R70, 13 R363,
R364, R368), and the routing tags of other dies (09 R258). -/

namespace Sys2Proof.Machine

def State.origin (s : State) : Part → Origin
  | .halt h => (s.halt h.toNat).orig
  | .stn x => (s.stn x.toNat).boxOrig
  | .jct => s.jct.orig

def State.modOrigin (s : State) (p : Part) (f : Origin → Origin) : State :=
  match p with
  | .halt h => s.modHalt h.toNat (fun ht => { ht with orig := f ht.orig })
  | .stn x => s.modStn x.toNat (fun st => { st with boxOrig := f st.boxOrig })
  | .jct => { s with jct := { s.jct with orig := f s.jct.orig } }

/-- Retention entries: 64 of a halt (12 R338), 32 of a station box (08 R233). -/
def retCapacity : Part → Nat
  | .stn _ => 32
  | _ => 64

/-- A retained request may be stamped and retained (13 R364): a free entry, of the junction's 64 for each home station one for
that of `a`, and a SEQ less than 128 beyond the oldest entry. -/
def State.room (s : State) (p : Part) (a : Option GAddr := none) : Bool :=
  let o := s.origin p
  decide ((o.ret.filter (fun e => p ≠ .jct || a.all (fun x => aHome x = e.home))).length < retCapacity p) &&
    match (o.ret.filter (·.stamped)).head? with
    | some e => decide ((o.seq.toNat + 1 + 256 - e.seq.toNat) % 256 < 128)
    | none => true

/-- Advance the sequence counter (03 R70). -/
def State.stamp (s : State) (p : Part) : BitVec 8 × State :=
  let q := (s.origin p).seq + 1
  (q, s.modOrigin p (fun o => { o with seq := q }))

def State.retain (s : State) (p : Part) (e : Retained) : State :=
  s.modOrigin p (fun o => { o with ret := o.ret ++ [e] })

/-- A retained entry for a request whose home its address names. -/
def State.retainReq (s : State) (p : Part) (rq : HReq) : State :=
  let f := rq.req.follows && decide (aSrc rq.addr ≠ s.dieSrc)
  s.retain p ⟨rq.req.seq, f, aHome rq.addr, rq, none, true⟩

/-- Data VC of a request with FOLLOWS, minus 4 (09 R253, R267). -/
def State.dataVc (s : State) : Orig → BitVec 3
  | .queue _ core _ => BitVec.ofNat 3 (4 + core.toNat / 64)
  | .thread (.stn x _) => BitVec.ofNat 3 (4 + x.toNat)
  | .thread (.script h) => BitVec.ofNat 3 (4 + h.toNat / 4)
  | _ => BitVec.ofNat 3 (4 + s.get F.JL_CFG_JB_VC)

/-- Routing tag of an originator (09 R258): CORE and QTAG. For an agent that is not a core, CORE names the
halt its access came in on (assumption log 21). -/
def routeTag : Orig → BitVec 8 × BitVec 5
  | .queue h core q => if q = 25 then (BitVec.ofNat 8 (16 * h.toNat), 25) else (core, q)
  | .thread (.stn x t) => (BitVec.ofNat 8 (16 * x.toNat + t.toNat), 26)
  | .thread (.jct t) => (BitVec.ofNat 8 t.toNat, 27)
  | .thread (.script h) => (BitVec.ofNat 8 h.toNat, 28)
  | .combine e => (BitVec.ofNat 8 e.toNat, 29)
  | .die _ core q _ => (core, q)
  | _ => (0, 27)

/-- The part a routing tag leads back to. -/
def tagHome (core : BitVec 8) (q : BitVec 5) : Part :=
  let p := tagPart core q
  if p < 16 then .halt (BitVec.ofNat 4 p) else if p < 20 then .stn (BitVec.ofNat 2 (p - 16)) else .jct

/-- Release of an originator-table entry at a station (13 R368): dropped if it holds `p`; its own SEQ is
reported as covered. -/
def State.applyRelease (s : State) (si : Nat) (stream : BitVec 15) (seq p : BitVec 8) (back : Part) : State :=
  let hit := decide (tget 0 (s.mem si).origins stream.toNat = p.toNat + 1)
  let s := if hit then s.modMem si (fun m => { m with origins := tset 0 m.origins stream.toNat 0 }) else s
  if s.unprot (.stn (BitVec.ofNat 2 si)) then
    s.emit (.stn (BitVec.ofNat 2 si)) back (.dur stream seq (aHome (s.addrOf si 0)))
  else
    s.modStn si (fun st => { st with streams := (st.streams.filter (fun e => e.1 ≠ stream)) ++ [(stream, seq)] })

/-- RLS record (09 R258). -/
def recRls (seq p core : Nat) (q : Nat) (f : Bool) (stn : Nat) : BitVec 128 :=
  mkRec [(0, seq), (8, p), (16, core), (24, q), (29, bnat f), (30, stn), (124, 0xA)]

/-- The originator ends a stream's entry at a home station (13 R368): a release that names the newest request that
reached it is stamped, retained and sent on the path of the stream. `e`: an entry of the stream. -/
def State.endStream (s : State) (p : Part) (e : Retained) (newest : BitVec 8) : State :=
  let stream := s.streamOf e.rq
  let s := s.modOrigin p (fun o => { o with owed := o.owed.filter (fun x => x.1 ≠ (stream, e.home)) })
  let (q, s) := s.stamp p
  let s := s.retain p { e with seq := q, rel := some newest }
  let stn := e.home.toNat % 4
  if BitVec.ofNat 9 (e.home.toNat / 4) = s.dieSrc then
    s.emit p (.stn (BitVec.ofNat 2 stn)) (.release stream q newest)
  else
    let (core, tag) := routeTag e.rq.who
    let core' := if tag.toNat < 26 then core.toNat / 16 * 16 else core.toNat
    let tag' := if tag.toNat < 26 then 0 else tag.toNat
    s.tx (BitVec.ofNat 9 (e.home.toNat / 4)) (if e.f then s.dataVc e.rq.who else 0) 1
      [recRls q.toNat newest.toNat core' tag' e.f stn] e.f

/-- A durability report at its originator (13 R363, R368): the entries it covers are freed, and with the last
of them the stream's entry is ended. -/
def State.covered (s : State) (p : Part) (stream : BitVec 15) (seq : BitVec 8) (home : BitVec 11) : State :=
  let ret := (s.origin p).ret
  let mine := fun (e : Retained) => e.stamped && e.home = home && s.streamOf e.rq = stream
  let done := fun (e : Retained) => mine e && decide ((seq.toNat + 256 - e.seq.toNat) % 256 < 128)
  let freed := ret.filter done
  let s := s.modOrigin p (fun o => { o with ret := o.ret.filter (fun e => !done e) })
  match (freed.filter (·.rel.isNone)).getLast? with
  | none => s
  | some last =>
    if (s.origin p).ret.any mine then
      s.modOrigin p (fun o => { o with owed := ((stream, home), last.seq) :: o.owed.filter (fun x => x.1 ≠ (stream, home)) })
    else s.endStream p last last.seq

/-- A request answered with a failure before any home station received it is freed (13 R363). If it was the last of
its stream that its home station knows, the stream's entry is ended. -/
def State.unretain (s : State) (p : Part) (seq : BitVec 8) : State :=
  let mine := fun (e : Retained) => e.stamped && e.seq = seq && e.rel.isNone
  match (s.origin p).ret.find? mine with
  | none => s
  | some e =>
    let s := s.modOrigin p (fun o => { o with ret := o.ret.filter (fun x => !mine x) })
    let key := (s.streamOf e.rq, e.home)
    match (s.origin p).owed.find? (fun x => x.1 = key) with
    | some x => if (s.origin p).ret.any (fun y => y.stamped && y.home = e.home && s.streamOf y.rq = key.1) then s else s.endStream p e x.2
    | none => s

/-- An answer without a replay to follow frees the request at an originator of this die (13 R363). -/
def State.refused (s : State) (si : Nat) (rq : HReq) (st : Status) : State :=
  let own := match rq.who with
    | .queue .. | .thread _ => opRetained rq.req.op
    | _ => false
  (if own then s.unretain rq.who.part rq.req.seq else s).answer si rq st 0

end Sys2Proof.Machine
end

