-- ==== Sys2Proof/Machine/Home.lean ====
section
/-! DEFINITION. A request at its home station: the checks of 02 R45 and the operation (03 R78 to R81), the
freeze queue, and the answers to replays (13 R369). -/

namespace Sys2Proof.Machine

/-- The kinds that accept an operation (02 R37, 03 R72). -/
def kindAccepts (k : Kind) (op : Nat) : Bool :=
  match k with
  | .free | .moved | .retired => false
  | _ =>
    if op = 0x04 ∨ op = 0x20 then true
    else match k with
      | .counter => op = 0x01 || op = 0x02
      | .foldCounter => op = 0x18 || op = 0x02
      | .sem => op = 0x08 || op = 0x09 || op = 0x0A
      | .glock | .mlock => op = 0x0C || op = 0x0D || op = 0x0E || op = 0x0F
      | .turnstile => op = 0x10 || op = 0x11 || op = 0x02
      | .ticket => op = 0x14 || op = 0x15 || op = 0x02
      | .ring => op = 0x1C || op = 0x1D || op = 0x1E
      | .ringPart => op = 0x02
      | _ => false

/-- What READ returns (03 R81). -/
def State.readWord (s : State) (si pon : Nat) : Word64 :=
  match (s.slot si pon).kind with
  | .sem => s.semWord si pon
  | .glock | .mlock => s.lockWord si pon
  | _ => (s.slot si pon).val

/-- The wait that a queue's registration belongs to (its own register's, or one sided since) learns where its object is. -/
def State.foundAt (s : State) (h : Nat) (core : BitVec 8) (q : BitVec 5) (rq : HReq) (a : GAddr) : State :=
  let c := 24 * (core.toNat % 16)
  let hit := fun (w : WaitReg) => w.v && w.op = 0x02 && w.addrV && w.addr = rq.addr && w.exp = rq.req.operand
  match [waitIdx core q, c + 22, c + 23].find? (fun j => hit (s.wait h j) && (j = waitIdx core q || (s.wait h j).homeQ = q)) with
  | some j => s.modWait h j (fun w => { w with addr := a })
  | none => s

/-- WAIT_GE at its object (03 R80): answered at once if the value reaches E; with ORPHAN if the object is
orphaned; else a watch is registered for the subscriber the originator waits through (R82, 08 R231). -/
def State.opWaitGe (s : State) (si pon : Nat) (rq : HReq) : State :=
  let sl := s.slot si pon
  let e := rq.req.operand
  let lower := fun (sub : BitVec 5) => BitVec.ofNat 64
    ((s.mem si).watches.foldl (fun (x : Nat) w => if w.pon = pon ∧ w.sub = sub then min x w.exp.toNat else x) e.toNat)
  let me := Part.stn (BitVec.ofNat 2 si)
  match rq.who with
  | .queue h core q =>
    let s := s.foundAt h.toNat core q rq (s.addrOf si pon)
    if e.toNat ≤ sl.val.toNat then s.register si pon (BitVec.ofNat 5 h.toNat) e
    else if sl.orphan then (s.occur me 0x23 1).emit me (.halt h) (.compl { rq with addr := s.addrOf si pon } .orphan 0 0 0)
    else s.register si pon (BitVec.ofNat 5 h.toNat) (lower (BitVec.ofNat 5 h.toNat))
  | .sub n =>
    if e.toNat ≤ sl.val.toNat then s.register si pon n e
    else if sl.orphan then (s.occur me 0x23 1).emit me rq.who.part (.notify (s.addrOf si pon) sl.val .orphan none)
    else s.register si pon n e
  | .thread th =>
    if e.toNat ≤ sl.val.toNat then s.answer si rq (s.reachedStatus si pon e.toNat) ((s.foldWord si pon).getD sl.val)
    else if sl.orphan then s.answer si rq .orphan 0
    else match th with
      | .stn _ _ => s
      | .jct _ => s.register si pon 16 (lower 16)
      | .script h => s.register si pon (BitVec.ofNat 5 h.toNat) (lower (BitVec.ofNat 5 h.toNat))
  | _ => s.answer si rq .done sl.val

/-- The lane lines that a contribution folds into are read first; an uncorrectable one gives its round up (12 R349), and the
contribution meets that. -/
def State.readLanes (s : State) (si pon : Nat) (other : Bool) (l : List Nat) : State :=
  let h := s.hdr si pon
  let size := laneSize (cfgOp h.cfg.toNat) (cfgIn h.cfg.toNat)
  if s.lanesOff si size (h.base (foldFirst (s.slot si pon)) other) l then s else (s.reads si 0 (s.laneRow si pon other l)).2
def State.foldAt (s : State) (si pon : Nat) (rq : HReq) : State :=
  let h := s.hdr si pon
  if h.wide then s.opFold si pon rq
  else (s.readLanes si pon ((rq.req.operand.extractLsb' 32 8).toNat ≠ h.r % 256) (List.range h.lanes)).opFold si pon rq
/-- The beat that completes a round reads every lane of it. -/
def State.beatAt (s : State) (si pon : Nat) (b : Beat) : State :=
  let h := s.hdr si pon
  let other := decide (b.rb.toNat ≠ h.r % 4)
  let l := if !other ∧ h.beats.toNat + 1 = h.target.toNat * h.bpc then List.range h.lanes else (beatItems h b).map (·.1)
  (s.readLanes si pon other l).opBeat si pon b

/-- The operation itself (03 R78 step 5). -/
def State.opDo (s : State) (si pon : Nat) (rq : HReq) : State :=
  let s := s.occur (.stn (BitVec.ofNat 2 si)) 0x20 1
  match rq.req.op.toNat with
  | 0x01 => s.opSig si pon rq
  | 0x02 => s.opWaitGe si pon rq
  | 0x04 => s.answer si rq .done (s.readWord si pon)
  | 0x08 => s.opSemPost si pon rq
  | 0x09 => s.opSemTake si pon rq
  | 0x0A => s.opSemDec si pon rq
  | 0x0C => s.opLockAcq si pon rq
  | 0x0D => s.opLockRel si pon rq
  | 0x0E => s.opLockTry si pon rq
  | 0x0F => s.opLockForce si pon rq
  | 0x10 | 0x11 => s.opTurn si pon rq
  | 0x14 | 0x15 => s.opTicket si pon rq
  | 0x18 => s.foldAt si pon rq
  | 0x1C => s.opRingReserve si pon rq
  | 0x1D => s.opRingAdvance si pon true rq
  | 0x1E => s.opRingAdvance si pon false rq
  | 0x20 => s.opMove si pon rq
  | _ => s.answer si rq .denied 0

/-- A replayed request already applied is answered by the table of 13 R369 and not applied again. -/
def State.replayAnswer (s : State) (si pon : Nat) (rq : HReq) : State :=
  let sl := s.slot si pon
  let me := s.identOf rq.who
  let mine := fun (x : Nat) => (s.waitersOf si x).any (fun w => s.identOf w.rq.who = me && w.rq.req.op = rq.req.op)
  let faulted := (s.bump F.REC_LOST_FAULTED si).answer si rq .fault 0
  match rq.req.op.toNat with
  | 0x08 => s.answer si rq .done (BitVec.ofNat 64 (s.ent si pon).count.toNat)
  | 0x0D => s.answer si rq .done (s.readWord si pon)
  | 0x1D | 0x1E =>
    let x := ringPart pon (rq.req.op = 0x1D)
    if (s.waitersOf si x).any (fun w => s.identOf w.rq.who = me && w.rq.req.operand.extractLsb' 32 24 = rq.req.operand.extractLsb' 32 24)
    then s else s.answer si rq .done (s.slot si x).val
  | 0x10 => s
  | 0x09 => if mine pon then s else s.answer si rq .done (BitVec.ofNat 64 (s.ent si pon).count.toNat)
  | 0x0A => s.answer si rq .done (BitVec.ofNat 64 (s.ent si pon).count.toNat)
  | 0x0C | 0x0E =>
    let e := s.ent si pon
    if e.held ∧ e.holder = me then
      let st := if e.orphan then Status.orphan else .done
      s.answer si rq st (grantWord st true e.orphan false none e.hprio e.grants)
    else if rq.req.op = 0x0C ∧ mine pon then s else faulted
  | 0x14 | 0x15 | 0x1C => if mine pon then s else faulted
  | 0x0F => faulted
  | 0x20 => s.answer si rq .done (BitVec.ofNat 64 (moveDst rq).toNat)
  | _ => s.answer si rq .done sl.val

/-- The freeze queue holds 16 requests; a station withholds its mesh credits while it is full, and while it serves
nothing: in phases 1 to 5 of its recovery, or when its reset is due (02 R45, 12 R347, 13 R372). -/
def State.withholding (s : State) (si : Nat) : Bool :=
  decide (16 ≤ (s.mem si).freezeQ.length) || s.stopped (.stn (BitVec.ofNat 2 si))

/-- The pavilion's state is FREEZING, FROZEN or SAVED (11 R309, R323). -/
def State.pavFrozen (s : State) (p : BitVec 6) : Bool :=
  let st := s.pavState p
  decide (2 ≤ st) && decide (st ≤ 4)

/-- The checks of a home station (02 R45, R28, 11 R318) and the operation. A request that meets an uncorrectable row waits
with those that come to the station later (12 R347, 13 R372). `fuel` bounds the MOVED slots followed. -/
def State.reach (s : State) (si pon : Nat) (rq : HReq) : Nat → State
  | 0 => s.answer si rq .unmapped 0
  | fuel + 1 =>
    let sl := s.slot si pon
    let id := s.stnId si
    let sub := match rq.who with | .sub _ => true | _ => false
    if s.flag F.REC_STAT_FAILED si then s.refused si rq .fault
    else if s.withholding si then s.modStn si (fun st => { st with backlog := st.backlog ++ [(pon, rq)] })
    else if id.pkg ≠ aPkg rq.addr ∨ id.die ≠ aDie rq.addr ∨ id.stn ≠ BitVec.ofNat 2 si then
      (s.fault 0xA si rq.addr.toNat).refused si rq .unmapped
    else
    let rd := s.reads si 0 (s.objectRow si pon (rq.req.op = 0x20))
    let s := rd.2
    if !rd.1 then s.modStn si (fun st => { st with backlog := st.backlog ++ [(pon, rq)] })
    else if s.isReplayDone si rq then (if rq.replay then s.bump F.REC_REPLAY_DISCARDED si else s).replayAnswer si pon rq
    else if !sub ∧ rq.req.gen ≠ s.gen rq.req.pav then (s.recordSeq si rq).answer si rq .flushed 0
    else if sl.kind = .free ∨ sl.kind = .retired then (s.recordSeq si rq).answer si rq .unmapped 0
    else if sl.kind = .moved then
      let d : GAddr := sl.val.extractLsb' 0 25
      (s.occur (.stn (BitVec.ofNat 2 si)) 0x2A 1).reach (aStn d).toNat (aPon d) rq fuel
    else if sl.frozen then
      if rq.req.op = 0x20 then (s.recordSeq si rq).answer si rq .retry 0
      else s.modMem si (fun m => { m with freezeQ := m.freezeQ ++ [(pon, rq)] })
    else
      let s := s.recordSeq si rq
      let s := if rq.replay then s.bump F.REC_REPLAY_APPLIED si else s
      if !kindAccepts sl.kind rq.req.op.toNat then s.answer si rq .denied 0
      else if sl.kind = .sem ∨ sl.kind = .glock then
        let need := s.needOf si pon rq
        let has := (s.rightsOf si (sl.link.toNat / 64 % 64) rq.req.pav).toNat
        if need &&& has ≠ need then s.answer si rq .denied 0
        else if rq.req.pav ≠ sl.pav ∧ s.pavFrozen sl.pav then s.answer si rq .frozen 0
        else s.opDo si pon rq
      else if rq.req.pav ≠ sl.pav then s.answer si rq .denied 0
      else s.opDo si pon rq

/-- MOVED slots followed at most: every slot of the die once. -/
def moveFuel : Nat := 65537

/-- A request arrives at the home station its address names. -/
def State.arrive (s : State) (rq : HReq) : State :=
  s.reach (aStn rq.addr).toNat (aPon rq.addr) rq moveFuel

/-- Requests that waited at withheld credits are taken in order, as far as the station takes them. -/
def State.drainBacklog (s : State) (si : Nat) : Nat → State
  | 0 => s
  | fuel + 1 =>
    if s.withholding si then s
    else match (s.stn si).backlog with
      | [] => s
      | (pon, rq) :: rest => ((s.modStn si (fun st => { st with backlog := rest })).reach si pon rq moveFuel).drainBacklog si fuel

/-- A beat at the slot its address names (06 R186, 02 R45): FOLD stands for the operation. -/
def State.reachBeat (s : State) (si pon : Nat) (b : Beat) : Nat → State
  | 0 => s.answerBeat si b .unmapped
  | fuel + 1 =>
    let sl := s.slot si pon
    let id := s.stnId si
    if s.flag F.REC_STAT_FAILED si then s.answerBeat si b .fault
    else if s.withholding si ∨ sl.frozen then
      s.modStn si (fun st => { st with beats := st.beats ++ [{ b with addr := s.addrOf si pon }] })
    else if id.pkg ≠ aPkg b.addr ∨ id.die ≠ aDie b.addr ∨ id.stn ≠ BitVec.ofNat 2 si then
      (s.fault 0xA si b.addr.toNat).answerBeat si b .unmapped
    else
    let rd := s.reads si 0 (s.objectRow si pon false)
    let s := rd.2
    if !rd.1 then s.modStn si (fun st => { st with beats := st.beats ++ [{ b with addr := s.addrOf si pon }] })
    else if sl.kind = .free ∨ sl.kind = .retired then s.answerBeat si b .unmapped
    else if sl.kind = .moved then
      let d : GAddr := sl.val.extractLsb' 0 25
      (s.occur (.stn (BitVec.ofNat 2 si)) 0x2A 1).reachBeat (aStn d).toNat (aPon d) b fuel
    else if sl.kind ≠ .foldCounter ∨ b.pav ≠ sl.pav then s.answerBeat si b .denied
    else s.beatAt si pon b

/-- A beat arrives at the home station its address names. -/
def State.arriveBeat (s : State) (b : Beat) : State :=
  s.reachBeat (aStn b.addr).toNat (aPon b.addr) b moveFuel

/-- Beats that waited at withheld credits meet the checks again, in order. -/
def State.drainBeats (s : State) (si : Nat) : State :=
  let bs := (s.stn si).beats
  bs.foldl (fun s b => s.arriveBeat b) (s.modStn si (fun st => { st with beats := [] }))

/-- A station takes what waited at its withheld credits. -/
def State.drainAll (s : State) (si : Nat) : State :=
  (s.drainBacklog si (s.stn si).backlog.length).drainBeats si

/-- `n` slots from `pon` unfreeze: the requests held for them meet the checks again, in arrival order (02 R45, R64), at
the slots from address `at'` on. -/
def State.drainGroup (s : State) (si pon n : Nat) (at' : GAddr) : State :=
  let mine := fun (r : Nat × HReq) => decide (pon ≤ r.1) && decide (r.1 < pon + n)
  let held := (s.mem si).freezeQ.filter mine
  let s := s.modMem si (fun m => { m with freezeQ := m.freezeQ.filter (fun r => !mine r) })
  let s := held.foldl (fun s r => s.reach (aStn at').toNat (aPon at' + (r.1 - pon)) r.2 moveFuel) s
  s.drainAll si

/-- The same for one slot. -/
def State.drainFrozen (s : State) (si pon : Nat) (at' : GAddr) : State := s.drainGroup si pon 1 at'

/-- A bank's wake ends: the writes held for it are applied in arrival order (14 R404). -/
def State.bankAwake (s : State) (si bank : Nat) : State :=
  let s := s.put F.PW_FB_STAT_WAKING (s.get F.PW_FB_STAT_WAKING 0 si &&& (2 ^ 16 - 1 - 2 ^ bank)) 0 si
  let q := (s.stn si).wakeQ
  q.foldl (fun s e => match e with
    | .fold pon rq => if (s.slot si pon).kind = .foldCounter then s.foldAt si pon rq else s.arrive rq
    | .beat b => s.arriveBeat b) (s.modStn si (fun st => { st with wakeQ := [] }))

/-- From step 4 on a MOVE stands through a reset of either station, whatever window records it (02 R65; assumption
log 51): what a reload would rebuild is as the rows are now. -/
def State.moveStands (s : State) (k : Nat) : State :=
  let m := s.mem k
  s.modLedger k (fun l => { l with
    durable := m
    windows := l.windows.map (fun w => { w with image := m })
    snap := l.snap.map (fun x => { x with image := m }) })

/-- The destination's acknowledgement reaches the source (02 R64 steps 4 to 6). -/
def State.moveFinish (s : State) (si : Nat) (a d : GAddr) (rq : HReq) : State :=
  let n := (s.moveGroup si (aPon a)).2
  let dst := (aStn d).toNat
  let s := (List.range n).foldl (fun s i => s.finishSlot si (aPon a + i) dst (aPon d + i)) s
  let s := if n = 4 then s.modMem si (fun m => { m with ringMoved := m.ringMoved ++ [aPon a] }) else s
  let s := (s.moveStands si).moveStands dst
  let s := s.drainGroup si (aPon a) n d
  s.answer si rq .done (BitVec.ofNat 64 d.toNat)

end Sys2Proof.Machine
end

