-- ==== Sys2Proof/Machine/Link.lean ====
section
/-! DEFINITION. Leaving the die (09): requests of this die for objects on others, the proxy table, combining,
and the frames handed to the link controller. -/

namespace Sys2Proof.Machine

def State.modJct (s : State) (f : Jct → Jct) : State := { s with jct := f s.jct }

/-! ### Records (09 R258) -/

def recReq (rq : HReq) (ridx : Nat) : BitVec 128 :=
  let (core, tag) := routeTag rq.who
  let operand := if rq.load.isSome then rq.req.operand.toNat % 2 ^ 56 + ridx * 2 ^ 56 else rq.req.operand.toNat
  mkRec [(0, operand), (64, rq.req.seq.toNat), (72, rq.addr.toNat), (97, rq.req.op.toNat), (103, rq.req.pav.toNat),
    (109, core.toNat), (117, tag.toNat), (122, bnat rq.req.follows), (123, bnat rq.req.ret), (124, 1)]
def recCpl (val : Word64) (st : Status) (posted : Bool) (seq core : BitVec 8) (q : BitVec 5) (ridx : BitVec 8) : BitVec 128 :=
  mkRec [(0, val.toNat), (64, st.code), (68, bnat posted), (69, seq.toNat), (77, core.toNat), (85, q.toNat),
    (90, ridx.toNat), (124, 2)]
def recReg (addr : GAddr) (exp : Word64) (pav : BitVec 6) : BitVec 128 :=
  mkRec [(0, exp.toNat), (64, addr.toNat), (89, pav.toNat), (124, 3)]
def recCan (addr : GAddr) : BitVec 128 := mkRec [(64, addr.toNat), (124, 4)]
def recNtf (addr : GAddr) (val : Word64) (st : Status) (word : Bool) : BitVec 128 :=
  mkRec [(0, val.toNat), (64, addr.toNat), (89, st.code), (93, bnat word), (124, 5)]
def recWord (w : Word64) : BitVec 128 := mkRec [(0, w.toNat), (124, 6)]
def recDur (seq core : BitVec 8) (q : BitVec 5) : BitVec 128 :=
  mkRec [(0, seq.toNat), (8, core.toNat), (16, q.toNat), (124, 7)]
def recRfs (addr : GAddr) (st : Status) : BitVec 128 := mkRec [(64, addr.toNat), (89, st.code), (124, 9)]

/-! ### The proxy table -/

/-- The pavilion's share of the proxy table in the active bank (10 R301), and its occupancy. -/
def State.proxyShare (s : State) (p : BitVec 6) : Nat := s.get F.SH_PROXY_SHARE 0 (p.toNat + 64)
def State.proxiesOf (s : State) (p : BitVec 6) : Nat := (s.jct.proxies.filter (fun e => e.pav = p)).length

/-- A row for a new entry of a pavilion (09 R265, 10 R302): the lowest free one (assumption log 12). -/
def State.proxyRow (s : State) (p : BitVec 6) : Option Nat :=
  let used := s.jct.proxies.map (·.row)
  if s.proxiesOf p < s.proxyShare p then
    lowestFrom (fun r => !used.contains r) 0 (used.length + 1) >>= fun r => if r < 16384 then some r else none
  else none

/-- Add an entry, or count and report the refusal. -/
def State.proxyAdd (s : State) (addr loc : GAddr) (far : Bool) (peer : BitVec 9) (exp : Word64) (pav : BitVec 6) : Option State :=
  match s.proxyRow pav with
  | none => none
  | some r =>
    let s := s.modJct (fun j => { j with proxies := j.proxies ++ [⟨r, addr, loc, far, peer, exp, pav⟩] })
    some (s.put F.JL_PROXY_HIGH (max (s.get F.JL_PROXY_HIGH) s.jct.proxies.length))

def State.proxyRefused (s : State) : State := ((s.bump F.JL_PROXY_REF_COUNT).evt 1 3).occur .jct 0x2C 1

/-- Entries of a far chain, and its lowest EXP. -/
def State.farChain (s : State) (addr : GAddr) : List Proxy := s.jct.proxies.filter (fun e => e.far && e.addr = addr)
def lowestExp (l : List Proxy) : Option Word64 :=
  l.foldl (fun (m : Option Word64) e => match m with
    | some x => some (if e.exp.toNat < x.toNat then e.exp else x)
    | none => some e.exp) none

/-- Send REG with the chain's lowest value if none was sent or it is below SENT (09 R263). -/
def State.farReg (s : State) (addr : GAddr) (always : Bool) : State :=
  match lowestExp (s.farChain addr), s.jct.farHeads.find? (fun h => h.addr = addr) with
  | none, _ => s.modJct (fun j => { j with farHeads := j.farHeads.filter (fun h => h.addr ≠ addr) })
  | some e, none =>
    (s.modJct (fun j => { j with farHeads := j.farHeads ++ [⟨addr, e, false⟩] })).tx (aSrc addr) 0 1
      [recReg addr e ((s.farChain addr).headD ⟨0, 0, 0, true, 0, 0, 0⟩).pav]
  | some e, some h =>
    if always ∨ e.toNat < h.sent.toNat then
      (s.modJct (fun j => { j with farHeads := j.farHeads.map (fun h => if h.addr = addr then ⟨addr, e, false⟩ else h) })).tx
        (aSrc addr) 0 1 [recReg addr e ((s.farChain addr).headD ⟨0, 0, 0, true, 0, 0, 0⟩).pav]
    else s

/-- A registration of a local subscriber for an object on another die (09 R263, R265). With `join` the
entry keeps the lowest value; otherwise it takes the one given. -/
def State.farRegister (s : State) (sub : BitVec 5) (addr : GAddr) (exp : Word64) (pav : BitVec 6) (join : Bool) : State :=
  let peer : BitVec 9 := BitVec.ofNat 9 sub.toNat
  if (s.farChain addr).any (fun e => e.peer = peer) then
    (s.modJct (fun j => { j with proxies := j.proxies.map (fun e =>
      if e.far ∧ e.addr = addr ∧ e.peer = peer then
        { e with exp := if join ∧ e.exp.toNat ≤ exp.toNat then e.exp else exp } else e) })).farReg addr false
  else
    match s.proxyAdd addr addr true peer exp pav with
    | some s => s.farReg addr false
    | none => s.proxyRefused.emit .jct (Orig.part (.sub sub)) (.refusal addr exp)

/-- A cancel of a local subscriber (09 R263). -/
def State.farCancel (s : State) (sub : BitVec 5) (addr : GAddr) : State :=
  let had := !(s.farChain addr).isEmpty
  let s := s.modJct (fun j => { j with proxies := j.proxies.filter (fun e => !(e.far && e.addr = addr && e.peer = BitVec.ofNat 9 sub.toNat)) })
  if had ∧ (s.farChain addr).isEmpty then (s.farReg addr false).tx (aSrc addr) 0 1 [recCan addr] else s

/-! ### Combining (09 R270, R271) -/

def State.comb (s : State) (e : Nat) : Comb := tget Comb.init s.jct.combs e
def State.modComb (s : State) (e : Nat) (f : Comb → Comb) : State :=
  s.modJct (fun j => { j with combs := tmod Comb.init j.combs e f })

/-- The entry a FOLD of this die joins. -/
def State.combFor (s : State) (rq : HReq) : Option Nat :=
  if rq.req.op ≠ 0x18 ∨ rq.req.follows then none
  else (List.range 64).find? (fun e =>
    s.flag F.JF_CFG_V 0 e && s.get F.JF_ADDR_ADDR 0 e == rq.addr.toNat && s.get F.JF_CFG_PAV 0 e == rq.req.pav.toNat &&
    (rq.req.operand.extractLsb' 32 8) == (s.comb e).rnd && decide ((s.comb e).early + (s.comb e).count < s.get F.JF_CFG_N 0 e))

/-- Bytes of a lane image: lane i at byte i × S. -/
def imageOf (size : Nat) (lanes : List Nat) : Nat :=
  lanes.zipIdx.foldl (fun n e => n + (e.1 % 2 ^ (8 * size)) * 2 ^ (8 * size * e.2)) 0

/-- Records of a byte string of `n` bytes, 16 to a record. -/
def recsOf (n x : Nat) : List (BitVec 128) := (List.range ((n + 15) / 16)).map (fun i => BitVec.ofNat 128 (x / 2 ^ (128 * i)))

/-- Cut the rest of an image into PART2 frames of at most three records. -/
def cutThree : Nat → List (BitVec 128) → List (List (BitVec 128))
  | 0, _ => []
  | _, [] => []
  | n + 1, l => l.take 3 :: cutThree n (l.drop 3)

/-- Send the entry's partial (09 R271): with `early` the round goes on (11 R324). -/
def State.sendPartial (s : State) (e : Nat) (early : Bool) : State :=
  let c := s.comb e
  let op := s.get F.JF_CFG_OP 0 e
  let fmt := s.get F.JF_CFG_IN_FMT 0 e
  let lanes := s.get F.JF_CFG_LANES 0 e
  let addr : GAddr := BitVec.ofNat 25 (s.get F.JF_ADDR_ADDR 0 e)
  let pav := s.get F.JF_CFG_PAV 0 e
  let size := laneSize op fmt
  let recs := recsOf (lanes * size) (imageOf size c.lanes)
  let (seq, s) := s.stamp .jct
  let desc := mkRec [(0, addr.toNat), (25, c.rnd.toNat), (33, op), (36, fmt), (40, lanes), (43, c.count), (50, pav),
    (56, seq.toNat), (64, e)]
  let prq : HReq := ⟨⟨0x18, BitVec.ofNat 6 pav, 0, 0, 0, 0, false, true, false, seq, BitVec.ofNat 64 (c.rnd.toNat * 2 ^ 32)⟩,
    addr, .combine (BitVec.ofNat 6 e), false, none, false,
    some ⟨BitVec.ofNat 3 op, BitVec.ofNat 4 fmt, BitVec.ofNat 3 lanes, BitVec.ofNat 7 c.count, BitVec.ofNat 1280 (imageOf size c.lanes)⟩⟩
  let s := s.retain .jct ⟨seq, false, aHome addr, prq, none, true⟩
  let s := s.tx (aSrc addr) 2 4 (desc :: recs.take 2) false [seq]
  let s := (cutThree recs.length (recs.drop 2)).foldl (fun s r => s.tx (aSrc addr) 2 5 r false [seq]) s
  let s := s.bump F.JF_PARTS_COUNT
  s.modComb e (fun c => { c with
    rnd := if early then c.rnd else c.rnd + 1
    early := if early then c.early + c.count else 0
    count := 0, lanes := List.replicate lanes (emptyLane op), members := []
    outMembers := c.outMembers ++ c.members.map (fun m => (seq, m))
    cover := c.cover ++ [(seq, c.members.map (fun m => (m.who.part, m.req.seq)))] })

/-- A FOLD joins an entry; the N-th sends the partial. -/
def State.combine (s : State) (e : Nat) (rq : HReq) : State :=
  let rd := s.reads 4 0 (fun ram row => ram = 0x1A && row = e)
  let s := rd.2
  if !rd.1 then s else
  let op := s.get F.JF_CFG_OP 0 e
  let fmt := s.get F.JF_CFG_IN_FMT 0 e
  let lanes := s.get F.JF_CFG_LANES 0 e
  let w := 8 * fmtWidth fmt
  let s := ((s.occur .jct 0x25 1).occur .jct 0x37 1).modComb e (fun c =>
    let ls := if c.lanes.length = lanes then c.lanes else List.replicate lanes (emptyLane op)
    { c with
      lanes := ls.zipIdx.map (fun l => (foldElem op fmt 0 l.1 (rq.req.operand.toNat / 2 ^ (w * l.2) % 2 ^ w)).1)
      count := c.count + 1, members := c.members ++ [rq] })
  let c := s.comb e
  if c.early + c.count = s.get F.JF_CFG_N 0 e then s.sendPartial e false else s

/-! ### Requests to other dies -/

/-- The subscriber an originator waits through (03 R82, 08 R231). -/
def subOf : Orig → BitVec 5
  | .queue h _ _ => BitVec.ofNat 5 h.toNat
  | .thread (.script h) => BitVec.ofNat 5 h.toNat
  | .sub n => n
  | _ => 16

/-- Hand a request record to the link: a signal-space load needs a response entry (09 R274). -/
def State.sendReq (s : State) (rq : HReq) : State :=
  let vc := if rq.req.follows then s.dataVc rq.who else 0
  let own := match rq.who with
    | .thread (.jct _) => if opRetained rq.req.op then [rq.req.seq] else []
    | _ => []
  match rq.load with
  | none => s.tx (aSrc rq.addr) vc 1 [recReq rq 0] rq.req.follows own
  | some l =>
    let src := rq.who.part
    match (List.range 256).find? (fun i => tget none s.jct.resps i = none) with
    | some i => (s.modJct (fun j => { j with resps := tset none j.resps i (some (.load src l)) })).tx (aSrc rq.addr) vc 1 [recReq rq i] false own
    | none => s.modJct (fun j => { j with respWait := j.respWait ++ [(.load src l, rq)] })

/-- CORE × 32 + QTAG of a queue, whose blocking request on another die the junction notes (13 R378). -/
def remoteKey (rq : HReq) : Option Nat :=
  match rq.who with
  | .queue _ core q => if q.toNat < 24 ∧ !rq.posted then some (core.toNat * 32 + q.toNat) else none
  | _ => none

/-- A request that the junction takes for an object on another die (09 R251, R263, R267, R270). -/
def State.sendTaken (s : State) (rq : HReq) : State :=
  let key := remoteKey rq
  if key.any (fun k => s.jct.remoteStale.any (fun e => e.1 = k)) then
    s.modJct (fun j => { j with remoteHeld := j.remoteHeld ++ [rq] })
  else if rq.req.op = 0x02 ∧ !rq.req.follows then
    s.farRegister (subOf rq.who) rq.addr rq.req.operand rq.req.pav true
  else
    let s := match key with
      | some k => s.modJct (fun j => { j with remoteOut := (j.remoteOut.filter (· ≠ k)) ++ [k] })
      | none => s
    match s.combFor rq with
    | some e => s.combine e rq
    | none =>
      if rq.req.op = 0x02 then
        let sub : BitVec 9 := BitVec.ofNat 9 (subOf rq.who).toNat
        let have' := (s.farChain rq.addr).any (fun e => e.peer = sub)
        match if have' then some s else s.proxyAdd rq.addr rq.addr true sub rq.req.operand rq.req.pav with
        | none => s.proxyRefused.emit .jct (Orig.part (.sub (subOf rq.who))) (.refusal rq.addr rq.req.operand)
        | some s =>
          let s := s.modJct (fun j => { j with
            proxies := j.proxies.map (fun e => if e.far ∧ e.addr = rq.addr ∧ e.peer = sub then
              { e with exp := if e.exp.toNat ≤ rq.req.operand.toNat then e.exp else rq.req.operand } else e) })
          if s.jct.farHeads.any (fun h => h.addr = rq.addr && decide (h.sent.toNat ≤ rq.req.operand.toNat)) then s
          else
            (s.modJct (fun j => { j with
              farHeads := (j.farHeads.filter (fun h => h.addr ≠ rq.addr)) ++ [⟨rq.addr, rq.req.operand, false⟩] })).sendReq rq
      else s.sendReq rq

/-- Retention entries in use or spoken for by frames that wait to be handed over (09 R277). -/
def State.retUse (s : State) : Nat :=
  s.jct.retained.length + (s.jct.txq.filter (fun t => t.seq.isNone && decide (t.vc ≠ 3))).length

/-- No retention entry is free for a frame of another VC than 1: the junction takes no request from the mesh. -/
def State.retFull (s : State) : Bool := decide (896 ≤ s.retUse)

/-- The request would complete a partial that the junction may not retain: 64 of its own for that home station are not yet
covered (13 R364). -/
def State.partialWaits (s : State) (rq : HReq) : Bool :=
  (s.combFor rq).any (fun e => (s.comb e).early + (s.comb e).count + 1 == s.get F.JF_CFG_N 0 e) && !s.room .jct (some rq.addr)

/-- A request of this die for an object on another reaches the junction: while no retention entry is free for it, or for the
partial it completes, it waits, with those before it (09 R277, 13 R364). -/
def State.sendRemote (s : State) (rq : HReq) : State :=
  if s.retFull ∨ !s.jct.retWait.isEmpty ∨ s.partialWaits rq then s.modJct (fun j => { j with retWait := j.retWait ++ [rq] }) else s.sendTaken rq

/-- Routing after translation (01 R27) by the serving station's own identity: to the home station on this die, or
through the junction. -/
def State.route (s : State) (rq : HReq) : State :=
  if aSrc rq.addr = s.srcOf rq.who.part then s.arrive rq else s.sendRemote rq

/-- A beat for another die (09 R274): one BEAT frame with its scale in the descriptor where its bytes 33 to 63 are zero, as
an MX beat's may be, else a BEAT and a BEAT2 frame. The region's input format is known only at its home, and either way the
home has every byte of the beat (assumption log 22). -/
def State.sendBeat (s : State) (b : Beat) (i : Nat) : State :=
  let d := b.data.toNat
  let mx := decide (d < 2 ^ 264)
  let desc := mkRec [(0, b.addr.toNat), (25, b.off.toNat), (41, b.rb.toNat), (43, b.pav.toNat), (49, i), (57, bnat mx),
    (58, if mx then d / 2 ^ 256 else 0)]
  let s := s.tx (aSrc b.addr) 2 2 [desc, BitVec.ofNat 128 d, BitVec.ofNat 128 (d / 2 ^ 128)]
  if mx then s else s.tx (aSrc b.addr) 2 3 [BitVec.ofNat 128 (d / 2 ^ 256), BitVec.ofNat 128 (d / 2 ^ 384)]

/-- A beat of this die for another takes a response entry, or waits for one, or for a retention entry (09 R274, R277). -/
def State.beatRemote (s : State) (b : Beat) : State :=
  match if s.retFull then none else (List.range 256).find? (fun i => tget none s.jct.resps i = none) with
  | some i => (s.modJct (fun j => { j with resps := tset none j.resps i (some (.beat b.src)) })).sendBeat b i
  | none => s.modJct (fun j => { j with beatWait := j.beatWait ++ [b] })

/-- What waits for a retention entry is taken, oldest first, while one is free. -/
def State.retPump (s : State) : Nat → State
  | 0 => s
  | fuel + 1 =>
    if s.retFull then s
    else match s.jct.retWait, s.jct.beatWait with
      | rq :: rest, _ => if s.partialWaits rq then s else ((s.modJct (fun j => { j with retWait := rest })).sendTaken rq).retPump fuel
      | [], b :: rest =>
        if (List.range 256).any (fun i => tget none s.jct.resps i = none) then
          ((s.modJct (fun j => { j with beatWait := rest })).beatRemote b).retPump fuel
        else s
      | [], [] => s
def State.retFree (s : State) : State := s.retPump (s.jct.retWait.length + s.jct.beatWait.length)

/-- A response entry is freed: the oldest access that waited for one takes it. -/
def State.freeResp (s : State) (i : Nat) : State :=
  let s := s.modJct (fun j => { j with resps := tset none j.resps i none })
  match s.jct.respWait, s.jct.beatWait with
  | (_, rq) :: rest, _ => (s.modJct (fun j => { j with respWait := rest })).sendReq rq
  | [], b :: rest => if s.retFull then s else (s.modJct (fun j => { j with beatWait := rest })).beatRemote b
  | [], [] => s

end Sys2Proof.Machine
end

