-- ==== Sys2Proof/Machine/Inbound.lean ====
section
/-! DEFINITION. The junction as the home of requests from other dies (09 R260 to R264), and what the records
of other dies do on this one. -/

namespace Sys2Proof.Machine

/-! ### Answers to other dies -/

/-- A home station's answer to a request of another die becomes a CPL record on VC 1 (09 R258). A TICKET_BATCH's reply
carries MODL and SHIFT in reserved bits of it (assumption log 91). -/
def State.sendCpl (s : State) (rq : HReq) (st : Status) (val : Word64) (posted : Bool) (mods : BitVec 9) : State :=
  match rq.who with
  | .die src core q ridx => s.tx src 1 1 [recCpl val st posted rq.req.seq core q ridx ||| BitVec.ofNat 128 (mods.toNat * 2 ^ 98)]
  | _ => s

/-- A beat's answer (09 R274); QTAG 25 tells a response index from a queue's answer. -/
def State.sendBeatCpl (s : State) (src : BitVec 9) (ridx : BitVec 8) (st : Status) : State :=
  s.tx src 1 1 [recCpl 0 st false 0 0 25 ridx]

/-! ### Home entries -/

/-- The object a chain of MOVED slots leads to, on this die (02 R45). -/
def State.resolve (s : State) (a : GAddr) : Nat → GAddr
  | 0 => a
  | fuel + 1 =>
    let sl := s.slot (aStn a).toNat (aPon a)
    if sl.kind = .moved then s.resolve (sl.val.extractLsb' 0 25) fuel else a

/-- Waits and triggers of junction-box threads on an object: thread and threshold (08 R231). -/
def State.boxWaitsOn (s : State) (a : GAddr) : List (Nat × Word64) :=
  s.jct.box.threads.filterMap (fun e => match e.2.cmp with
    | some (x, v) => if x = a ∧ (e.2.state = .armed ∨ e.2.state = .waiting) then some (e.1, v) else none
    | none => none)

/-- Lowest value the junction waits for on an object at `loc` (09 R264). -/
def State.homeLowest (s : State) (loc : GAddr) : Option Word64 :=
  let a := (s.jct.proxies.filter (fun e => !e.far && e.loc = loc)).map (·.exp)
  let b := (s.boxWaitsOn loc).map (·.2)
  let c := if s.jct.ttBound = some loc then [BitVec.ofNat 64 (s.get64 F.TT_EPOCH_LO_VALUE F.TT_EPOCH_HI_VALUE + 1)] else []
  (a ++ b ++ c).foldl (fun (m : Option Word64) x => match m with
    | some y => some (if x.toNat < y.toNat then x else y)
    | none => some x) none

/-- Register subscriber 16 with the home station (09 R264), or cancel its watch if nothing waits. -/
def State.homeReg (s : State) (loc : GAddr) : State :=
  let si := (aStn loc).toNat
  match s.homeLowest loc with
  | some e =>
    let pav := if s.jct.ttBound = some loc then s.jct.ttPav else (s.slot si (aPon loc)).pav
    s.arrive ⟨⟨0x02, pav, s.gen pav, 0, 0, 0, false, true, false, 0, e⟩, loc, .sub 16, false, none, false, none⟩
  | none => s.modMem si (fun m => { m with watches := m.watches.filter (fun w => !(w.pon = aPon loc && w.sub = 16)) })

/-- A REG of die `src` with its imported pavilion (09 R264, R265): the object must be of that pavilion (R260, 02 R45). -/
def State.homeRegister (s : State) (src : BitVec 9) (addr : GAddr) (exp : Word64) (pav : BitVec 6) : State :=
  let loc := s.resolve addr moveFuel
  let mine := fun (e : Proxy) => !e.far && e.addr = addr && e.peer = src
  let sl := s.slot (aStn loc).toNat (aPon loc)
  if kindAccepts sl.kind 0x02 ∧ sl.pav ≠ pav then s.tx src 1 1 [recRfs addr .denied]
  else if s.jct.proxies.any mine then
    (s.modJct (fun j => { j with proxies := j.proxies.map (fun e => if mine e then { e with exp := exp, loc := loc } else e) })).homeReg loc
  else
    match s.proxyAdd addr loc false src exp pav with
    | some s => s.homeReg loc
    | none => s.proxyRefused.tx src 1 1 [recRfs addr .retry]

/-- A junction-box thread's wait or trigger ends: its message to the box (08 R231). -/
def State.boxWake (s : State) (t : Nat) (addr : GAddr) (st : Status) (val : Word64) : State :=
  let th := tget Thread.init s.jct.box.threads t
  let rq : HReq := (th.wait).getD ⟨⟨0x02, 0, 0, 0, 0, 0, false, true, false, 0, 0⟩, addr, .thread (.jct (BitVec.ofNat 4 t)), false, none, false, none⟩
  (s.modJct (fun j => { j with box := { j.box with threads := tmod Thread.init j.box.threads t (fun th => { th with cmp := none }) } })).emit
    .jct .jct (.compl rq st val 0 0)

/-- A notification of an object of this die to subscriber 16 (09 R264). -/
def State.homeNotified (s : State) (loc : GAddr) (val : Word64) (st : Status) (word : Option Word64) : State :=
  let hit := fun (e : Proxy) => !e.far && e.loc = loc && (st ≠ .done || decide (e.exp.toNat ≤ val.toNat))
  let es := s.jct.proxies.filter hit
  let s := s.modJct (fun j => { j with proxies := j.proxies.filter (fun e => !hit e) })
  let s := es.foldl (fun s e => s.tx e.peer 1 1 (recNtf e.addr val st word.isSome :: (word.map recWord).toList)) s
  let ws := (s.boxWaitsOn loc).filter (fun w => st ≠ .done || decide (w.2.toNat ≤ val.toNat))
  let s := ws.foldl (fun s w => s.boxWake w.1 loc st (word.getD val)) s
  if (s.homeLowest loc).isSome then s.homeReg loc else s

/-! ### Import (09 R260, R261) -/

/-- The local pavilion of a source triple. -/
def State.importPav (s : State) (src : BitVec 9) (pav : Nat) : Option (BitVec 6) :=
  ((List.range 256).find? (fun i => s.flag F.JL_IMP_V 0 i && s.get F.JL_IMP_PKG 0 i == src.toNat / 4 &&
    s.get F.JL_IMP_DIE 0 i == src.toNat % 4 && s.get F.JL_IMP_SRC_PAV 0 i == pav)).map
    (fun i => BitVec.ofNat 6 (s.get F.JL_IMP_PAV 0 i))

def State.importMiss (s : State) : State := (s.bump F.JL_IMP_MISS_COUNT).evt 1 1

/-- A field of a record. -/
def recBits (r : BitVec 128) (lo len : Nat) : Nat := bitsOf r.toNat lo len

/-- A REQ record as the home junction forwards it (09 R260). -/
def State.importReq (s : State) (src : BitVec 9) (r : BitVec 128) (pav : BitVec 6) (replay : Bool) : HReq :=
  let op : BitVec 6 := BitVec.ofNat 6 (recBits r 97 6)
  let q : BitVec 5 := BitVec.ofNat 5 (recBits r 117 5)
  let ret := recBits r 123 1 = 1
  let isLoad := (q = 24 ∨ q = 25) ∧ (op = 0x04 ∨ op = 0x0C ∨ op = 0x14)
  let operand := if isLoad then recBits r 0 56 else recBits r 0 64
  let posted := op.toNat ∈ [0x01, 0x08, 0x0D, 0x11, 0x18, 0x1D, 0x1E] ∧ !ret
  ⟨⟨op, pav, s.gen pav, 0, BitVec.ofNat 8 (recBits r 109 8), q, decide (recBits r 122 1 = 1), decide ret, false,
    BitVec.ofNat 8 (recBits r 64 8), BitVec.ofNat 64 operand⟩,
    BitVec.ofNat 25 (recBits r 72 25),
    .die src (BitVec.ofNat 8 (recBits r 109 8)) q (BitVec.ofNat 8 (if isLoad then recBits r 56 8 else 0)), decide posted, none, replay, none⟩

/-- Forward an imported REQ or REG record to its object. -/
def State.forwardRec (s : State) (src : BitVec 9) (r : BitVec 128) (pav : BitVec 6) (replay : Bool) : State :=
  if recBits r 124 4 = 1 then
    let rq := s.importReq src r pav replay
    if rq.req.op = 0x02 then s.homeRegister src rq.addr rq.req.operand pav else s.arrive rq
  else s.homeRegister src (BitVec.ofNat 25 (recBits r 64 25)) (BitVec.ofNat 64 (recBits r 0 64)) pav

/-- Refuse a REQ record with CPL, or a REG record with RFS. -/
def State.refuseRec (s : State) (src : BitVec 9) (r : BitVec 128) (st : Status) : State :=
  if recBits r 124 4 = 1 then
    let rq := s.importReq src r 0 false
    s.sendCpl rq st 0 rq.posted 0
  else s.tx src 1 1 [recRfs (BitVec.ofNat 25 (recBits r 64 25)) st]

/-- A REQ or REG record enters (09 R260, R261); a frozen pavilion's is parked (11 R323). -/
def State.enterRec (s : State) (src : BitVec 9) (r : BitVec 128) (replay : Bool) : State :=
  let srcPav := if recBits r 124 4 = 1 then recBits r 103 6 else recBits r 89 6
  match s.importPav src srcPav with
  | none => s.importMiss.refuseRec src r .denied
  | some pav =>
    if s.pavFrozen pav then
      if s.jct.parked.length < 256 then s.modJct (fun j => { j with parked := j.parked ++ [⟨src, [r], false, replay, pav⟩] })
      else s.refuseRec src r .frozen
    else s.forwardRec src r pav replay

/-! ### Records that answer this die -/

/-- Every local subscriber of a far chain that `p` picks is notified and freed (09 R263). -/
def State.farNotify (s : State) (addr : GAddr) (p : Proxy → Bool) (val : Word64) (st : Status) (word : Option Word64) : State :=
  let es := (s.farChain addr).filter p
  let s := s.modJct (fun j => { j with proxies := j.proxies.filter (fun e => !(e.far && e.addr = addr && p e)) })
  es.foldl (fun s e =>
    if e.peer.toNat = 16 then
      ((s.boxWaitsOn addr).filter (fun w => st ≠ .done || decide (w.2.toNat ≤ val.toNat))).foldl (fun s w => s.boxWake w.1 addr st (word.getD val)) s
    else s.emit .jct (.halt (BitVec.ofNat 4 e.peer.toNat)) (.notify addr val st word)) s

/-- The pavilion under which a junction-box thread waits (08 R220, R245). -/
def State.boxPav (s : State) (t : Nat) : BitVec 6 :=
  ((tget Thread.init s.jct.box.threads t).run.getD (tget Entry.init s.jct.box.active t)).pav

/-- NTF (09 R263). -/
def State.rxNtf (s : State) (addr : GAddr) (val : Word64) (st : Status) (word : Option Word64) : State :=
  if st = .done then
    let s := s.farNotify addr (fun e => decide (e.exp.toNat ≤ val.toNat)) val st word
    let s := (s.boxWaitsOn addr).foldl (fun s w => if val.toNat < w.2.toNat ∧ !(s.farChain addr).any (fun e => e.peer = 16) then
      s.farRegister 16 addr w.2 (s.boxPav w.1) true else s) s
    s.farReg addr true
  else (s.farNotify addr (fun _ => true) val st word).farReg addr false

/-- RFS: RETRY keeps the chain; another status ends every wait (09 R261, R263). -/
def State.rxRfs (s : State) (addr : GAddr) (st : Status) : State :=
  if st = .retry then
    s.modJct (fun j => { j with farHeads := j.farHeads.map (fun h => if h.addr = addr then { h with retry := true } else h) })
  else (s.farNotify addr (fun _ => true) 0 st none).farReg addr false

/-- A partial's CPL answers each FOLD it combined (09 R272). -/
def State.partialDone (s : State) (e : Nat) (seq : BitVec 8) (st : Status) (val : Word64) : State :=
  let c := s.comb e
  let s := s.modComb e (fun c => { c with outMembers := c.outMembers.filter (fun m => m.1 ≠ seq), last := BitVec.ofNat 4 st.code })
  (c.outMembers.filter (fun m => m.1 = seq)).foldl (fun s m => s.answerFrom .jct m.2 st val) s

/-- An answer for a queue whose mark is stale is discarded and clears it (13 R378). -/
def State.staleAnswer (s : State) (k : Nat) : Option State :=
  match s.jct.remoteStale.find? (fun e => e.1 = k) with
  | none => none
  | some e =>
    let s := (s.modJct (fun j => { j with remoteStale := j.remoteStale.filter (fun e => e.1 ≠ k) })).bump F.PAV_LATE_COUNT 0 e.2
    let (go, stay) := s.jct.remoteHeld.partition (fun rq => remoteKey rq = some k)
    some (go.foldl (fun s rq => s.sendRemote rq) (s.modJct (fun j => { j with remoteHeld := stay })))

/-- CPL (09 R258, R272, R274). One that answers a release ends nothing: the release stays retained until it is covered
(assumption log 93). -/
def State.rxCpl (s : State) (r : BitVec 128) : State :=
  let val := BitVec.ofNat 64 (recBits r 0 64)
  let st := Status.ofCode (recBits r 64 4)
  let posted := decide (recBits r 68 1 = 1)
  let seq := BitVec.ofNat 8 (recBits r 69 8)
  let core := BitVec.ofNat 8 (recBits r 77 8)
  let q := BitVec.ofNat 5 (recBits r 85 5)
  let ridx := recBits r 90 8
  let release := posted && (s.origin (tagHome core q)).ret.any (fun e => e.stamped && e.seq = seq && e.rel.isSome)
  if q = 29 then s.partialDone core.toNat seq st val
  else if release then s
  else if (q = 24 ∨ q = 25) ∧ !posted then
    match tget none s.jct.resps ridx with
    | some (.load p l) => (s.answerLoad p l st val).freeResp ridx
    | some (.beat (.port p _ _ rtn tx _)) =>
      (if st = .done then s.drive (.wrsp (.stn p) rtn tx) else s.drive (.err (.stn p) rtn tx st)).freeResp ridx
    | some (.beat (.die ..)) => s.freeResp ridx
    | none => s
  else
    let k := core.toNat * 32 + q.toNat
    match if posted then none else s.staleAnswer k with
    | some s => s
    | none =>
      let s := if posted then s else s.modJct (fun j => { j with remoteOut := j.remoteOut.filter (· ≠ k) })
      s.emit .jct (tagHome core q) (.remoteAnswer core q posted seq st val (BitVec.ofNat 9 (recBits r 98 9)))

/-- DUR (09 R258, R273, R280): the report goes to the part that retains the request. -/
def State.rxDur (s : State) (r : BitVec 128) : State :=
  let seq := BitVec.ofNat 8 (recBits r 0 8)
  let core := BitVec.ofNat 8 (recBits r 8 8)
  let q := BitVec.ofNat 5 (recBits r 16 5)
  let p := tagHome core q
  match (s.origin p).ret.find? (fun e => e.stamped && e.seq = seq && aSrc e.rq.addr ≠ s.dieSrc) with
  | none => s
  | some e =>
    let cover := fun (f : TxFrame) => if p = .jct then { f with own := f.own.filter (· ≠ seq) } else f
    let s := s.modJct (fun j => { j with retained := (j.retained.map cover).filter (fun f => !(f.acked && f.own.isEmpty)) })
    match e.rq.who with
    | .combine c =>
      let s := s.covered .jct (s.streamOf e.rq) seq e.home
      let ms := (((s.comb c.toNat).cover.filter (fun x => x.1 = seq)).map (·.2)).flatten
      let s := s.modComb c.toNat (fun x => { x with cover := x.cover.filter (fun x => x.1 ≠ seq) })
      ms.foldl (fun s m =>
        match (s.origin m.1).ret.find? (fun r => r.stamped && r.seq = m.2) with
        | some r => s.emit .jct m.1 (.dur (s.streamOf r.rq) m.2 r.home)
        | none => s) s
    | _ => s.emit .jct p (.dur (s.streamOf e.rq) seq e.home)

/-- RLS (13 R368): at the home station it names. -/
def State.rxRls (s : State) (src : BitVec 9) (r : BitVec 128) : State :=
  let q := BitVec.ofNat 5 (recBits r 24 5)
  let core := BitVec.ofNat 8 (recBits r 16 8)
  let stream := BitVec.ofNat 15 (src.toNat + tagPart core q * 2 ^ 9 + recBits r 29 1 * 2 ^ 14)
  s.applyRelease (recBits r 30 2) stream (BitVec.ofNat 8 (recBits r 0 8)) (BitVec.ofNat 8 (recBits r 8 8)) .jct

/-- NOTE (05 R151): the holder's halt passes the notice to the core's scheduler. -/
def State.rxNote (s : State) (r : BitVec 128) : State :=
  s.drive (.note (if recBits r 0 1 = 1 then .revert else .inherit) (BitVec.ofNat 8 (recBits r 28 8)) (BitVec.ofNat 5 (recBits r 36 5))
    (BitVec.ofNat 96 (recBits r 1 27)))

/-- CAN (09 R264): the die's entry is freed. -/
def State.rxCan (s : State) (src : BitVec 9) (addr : GAddr) : State :=
  let mine := fun (e : Proxy) => !e.far && e.addr = addr && e.peer = src
  match s.jct.proxies.find? mine with
  | none => s
  | some e =>
    let s := s.modJct (fun j => { j with proxies := j.proxies.filter (fun e => !mine e) })
    if (s.homeLowest e.loc).isNone then s.homeReg e.loc else s

/-- One record of an accepted SYNC frame, with the WORD that follows it. -/
def State.rxRecord (s : State) (src : BitVec 9) (replay : Bool) (r : BitVec 128) (next : Option (BitVec 128)) : State :=
  match recBits r 124 4 with
  | 1 | 3 => s.enterRec src r replay
  | 2 => s.rxCpl r
  | 4 => s.rxCan src (BitVec.ofNat 25 (recBits r 64 25))
  | 5 => s.rxNtf (BitVec.ofNat 25 (recBits r 64 25)) (BitVec.ofNat 64 (recBits r 0 64)) (Status.ofCode (recBits r 89 4))
      (if recBits r 93 1 = 1 then next.map (fun w => BitVec.ofNat 64 (recBits w 0 64)) else none)
  | 7 => s.rxDur r
  | 8 => s.rxNote r
  | 9 => s.rxRfs (BitVec.ofNat 25 (recBits r 64 25)) (Status.ofCode (recBits r 89 4))
  | 10 => s.rxRls src r
  | _ => s

/-- The records of a frame, in order. -/
def State.rxRecords (s : State) (src : BitVec 9) (replay : Bool) : List (BitVec 128) → State
  | [] => s
  | r :: rest => (s.rxRecord src replay r rest.head?).rxRecords src replay rest

/-! ### Beats and partials (09 R272, R274) -/

/-- A beat whose frames have all arrived: descriptor and payload records. -/
def State.rxBeat (s : State) (src : BitVec 9) (recs : List (BitVec 128)) : State :=
  let d := recs.headD 0
  let ridx := BitVec.ofNat 8 (recBits d 49 8)
  let pay := (recs.drop 1).zipIdx.foldl (fun n e => n + e.1.toNat * 2 ^ (128 * e.2)) 0
  let data := if recBits d 57 1 = 1 then pay % 2 ^ 256 + recBits d 58 8 * 2 ^ 256 else pay
  match s.importPav src (recBits d 43 6) with
  | none => s.importMiss.sendBeatCpl src ridx .denied
  | some pav => s.arriveBeat ⟨.die src ridx, BitVec.ofNat 25 (recBits d 0 25), pav, s.gen pav, BitVec.ofNat 2 (recBits d 41 2),
      BitVec.ofNat 16 (recBits d 25 16), BitVec.allOnes 64, BitVec.ofNat 512 data⟩

/-- A partial of a die goes to its station under the pavilion `pav`, or is refused (09 R261, R272). -/
def State.partialTo (s : State) (src : BitVec 9) (recs : List (BitVec 128)) (pav : Option (BitVec 6)) (refuse : Option Status) : State :=
  let d := recs.headD 0
  let image := (recs.drop 1).zipIdx.foldl (fun n e => n + e.1.toNat * 2 ^ (128 * e.2)) 0
  let who : Orig := .die src (BitVec.ofNat 8 (recBits d 64 6)) 29 0
  let rq := fun (pav : BitVec 6) => (⟨⟨0x18, pav, s.gen pav, 0, 0, 29, false, true, false, BitVec.ofNat 8 (recBits d 56 8),
      BitVec.ofNat 64 (recBits d 25 8 * 2 ^ 32)⟩, BitVec.ofNat 25 (recBits d 0 25), who, false, none, false,
      some ⟨BitVec.ofNat 3 (recBits d 33 3), BitVec.ofNat 4 (recBits d 36 4), BitVec.ofNat 3 (recBits d 40 3),
        BitVec.ofNat 7 (recBits d 43 7), BitVec.ofNat 1280 image⟩⟩ : HReq)
  match pav with
  | none => s.importMiss.sendCpl (rq 0) .denied 0 false 0
  | some pav => (match refuse with | some st => s.sendCpl (rq pav) st 0 false 0 | none => s.arrive (rq pav))

/-- A partial whose frames have all arrived; a frozen pavilion's is parked (11 R323). -/
def State.rxPartial (s : State) (src : BitVec 9) (recs : List (BitVec 128)) : State :=
  let pav := s.importPav src (recBits (recs.headD 0) 50 6)
  if pav.any (fun p => s.pavFrozen p) then
    if s.jct.parked.length < 256 then
      s.modJct (fun j => { j with parked := j.parked ++ [⟨src, recs, true, false, pav.getD 0⟩] })
    else s.partialTo src recs pav (some .frozen)
  else s.partialTo src recs pav none

/-- What the park holds is forwarded to its object, or refused with `st`. -/
def State.forwardParked (s : State) (r : Parked) : State :=
  if r.part then s.partialTo r.src r.recs (some r.pav) none else s.forwardRec r.src (r.recs.headD 0) r.pav r.replay
def State.refuseParked (s : State) (r : Parked) (st : Status) : State :=
  if r.part then s.partialTo r.src r.recs (some r.pav) (some st) else s.refuseRec r.src (r.recs.headD 0) st

/-- PART2 frames that complete a partial (09 R257, R271): 16-byte records beyond the two of PART. -/
def partRecs (d : BitVec 128) : Nat :=
  (recBits d 40 3 * laneSize (recBits d 33 3) (recBits d 36 4) + 15) / 16

end Sys2Proof.Machine
end

