-- ==== Sys2Proof/Machine/Frames.lean ====
section
/-! DEFINITION. Frames (09 R254 to R259): building, checking, sequencing, acknowledgement, credits, resending,
holds for commit, and the link controller's events (09 R268, R269, R275 to R281; 16 R439, R440). -/

namespace Sys2Proof.Machine

/-! ### CRC-32 (09 R256) -/

/-- One bit of the reflected IEEE 802.3 polynomial. -/
def crcStep (c : Nat) : Nat := if c % 2 = 1 then (c / 2) ^^^ 0xEDB88320 else c / 2
def crcByte (c b : Nat) : Nat :=
  let x := c ^^^ b
  crcStep (crcStep (crcStep (crcStep (crcStep (crcStep (crcStep (crcStep x)))))))
/-- CRC-32 of a byte string, bytes in ascending order. -/
def crc32 (l : List Byte) : Nat := (l.foldl (fun c b => crcByte c b.toNat) 0xFFFFFFFF) ^^^ 0xFFFFFFFF
/-- FCRC of a frame: over its bytes 0 to 59. -/
def fcrcOf (f : Nat) : Nat := crc32 (natBytes 60 f)

/-! ### Header and trailer fields -/

def fDst (f : Line) : BitVec 9 := f.extractLsb' 0 9
def fSrc (f : Line) : BitVec 9 := f.extractLsb' 9 9
def fType (f : Line) : Nat := (f.extractLsb' 18 4).toNat
def fVc (f : Line) : BitVec 3 := f.extractLsb' 22 3
def fNrec (f : Line) : Nat := (f.extractLsb' 25 2).toNat
def fFol (f : Line) : Bool := f.getLsbD 27
def fReplay (f : Line) : Bool := f.getLsbD 28
def fSeq (f : Line) : Nat := (f.extractLsb' 32 16).toNat
def fRecs (f : Line) : List (BitVec 128) := (List.range (fNrec f)).map (fun i => f.extractLsb' (64 + 128 * i) 128)

/-- The frame's type is one of its VC (09 R257). -/
def fVcOk (f : Line) : Bool :=
  match fType f with
  | 0 | 6 => fVc f = 3
  | 1 => fVc f ≠ 2 && fVc f ≠ 3
  | _ => fVc f = 2

/-- What a frame carries: the kind of its first record (09 R258) for SYNC, else 16 BEAT, 17 PART, 18 CTRL,
19 RESYNC; none for a reserved type or kind, or a type on a VC that is not its own (assumption log 94). -/
def fKind (f : Line) : Option Nat :=
  if !fVcOk f then none else
  match fType f with
  | 0 => some 18
  | 1 =>
    let ks := (fRecs f).map (fun r => recBits r 124 4)
    if ks.any (fun k => k = 0 || 10 < k) then none else ks.head?
  | 2 | 3 => some 16
  | 4 | 5 => some 17
  | 6 => some 19
  | _ => none

/-! ### Peers -/

def peerVc (die : BitVec 9) (vc : BitVec 3) : Nat := die.toNat * 8 + vc.toNat
/-- Credit class of a VC: 0 REQ, 1 BULK, none for VC 1 and 3 (09 R251). -/
def creditClass (vc : BitVec 3) : Option Nat := if vc = 2 then some 1 else if vc = 1 ∨ vc = 3 then none else some 0
/-- Frames allowed uncredited at a die (09 R278). -/
def State.creditWindow (s : State) (die : BitVec 9) : Nat := if die.toNat / 4 = s.su.pkg.toNat then 128 else 8

/-- A frame that waits may be handed over: a resend, an answer or control frame, or one with credit; and a
retention entry is free, 128 of the 1,024 being kept for VC 1 (09 R277, R278). -/
def State.hasCredit (s : State) (t : TxFrame) : Bool :=
  t.seq.isSome || match creditClass t.vc with
    | some c => decide (tget 0 s.jct.uncredited (t.peer.toNat * 2 + c) < s.creditWindow t.peer)
    | none => true
def State.hasRoom (s : State) (t : TxFrame) : Bool :=
  t.seq.isSome || t.vc = 3 || decide (s.jct.retained.length < if t.vc = 1 then 1024 else 896)

/-- Credits for `n` frames of the die fall due (09 R278). -/
def State.creditDue (s : State) (die : BitVec 9) (vc : BitVec 3) (n : Nat) : State :=
  match creditClass vc with
  | some c => s.modJct (fun j => { j with creditsDue := tmod 0 j.creditsDue (die.toNat * 2 + c) (· + n) })
  | none => s

/-! ### The receive pool (09 R279) -/

/-- Some of the frames' records wait for a station that withholds its credits. -/
def State.poolWaits (s : State) (f : PoolEnt) : Bool :=
  (List.range 4).any (fun si => (s.stn si).backlog.any (fun e => f.reqs.contains e.2) || (s.stn si).beats.any (fun b => f.beats.contains b))
/-- Some of them have not been forwarded: they wait so, or are parked. -/
def State.poolLive (s : State) (f : PoolEnt) : Bool := s.poolWaits f || f.parked.any (fun r => s.jct.parked.contains r)

/-- Frames that have been forwarded whole leave the pool, and their credits fall due. -/
def State.poolSettle (s : State) : State :=
  (s.jct.pool.filter (fun f => !s.poolLive f)).foldl (fun t f => t.creditDue f.src f.vc f.credits)
    (s.modJct (fun j => { j with pool := j.pool.filter (fun f => s.poolLive f) }))

/-- Frames in the pool: those that wait for a station, and those of beats and partials not yet whole. -/
def State.poolUse (s : State) : Nat :=
  ((s.jct.pool.filter (fun f => s.poolWaits f)).map (·.frames)).foldl (· + ·) 0 +
  (s.jct.rxPart.map (fun e => (e.2.length + 1) / 3)).foldl (· + ·) 0

/-- Frames of a data VC in its hold queue. -/
def State.heldOn (s : State) (vc : BitVec 3) : Nat := (s.jct.held.filter (fun h => h.vc.toNat + 4 = vc.toNat)).length

/-- LK_RX_RDY: the junction takes frames of the VC (R252, R268, R279; 16 R440). -/
def State.rxReady (s : State) (vc : BitVec 3) : Bool :=
  vc = 1 || vc = 3 || (decide (s.poolUse < 512) && !(decide (4 ≤ vc.toNat) && decide (32 ≤ s.heldOn vc)))

/-- Frames whose records have been dealt with from `s` to `t`: what now waits of them at a station's door or in the park
keeps them, and their credits, in the pool. -/
def State.poolTake (s t : State) (src : BitVec 9) (vc : BitVec 3) (frames credits : Nat) : State :=
  let reqs := (List.range 4).flatMap (fun si => ((t.stn si).backlog.drop (s.stn si).backlog.length).map (·.2))
  let beats := (List.range 4).flatMap (fun si => (t.stn si).beats.drop (s.stn si).beats.length)
  let parked := t.jct.parked.drop s.jct.parked.length
  if reqs.isEmpty && beats.isEmpty && parked.isEmpty then t.creditDue src vc credits
  else t.modJct (fun j => { j with pool := j.pool ++ [⟨src, vc, frames, credits, reqs, beats, parked⟩] })

/-- The trailer of the next frame to a die: one acknowledgement and one return of credits, if due. -/
def State.trailer (s : State) (die : BitVec 9) : Nat × State :=
  let s := s.poolSettle
  let (a, s) := match s.jct.acks.find? (fun e => e.1 = die) with
    | some (_, vc) =>
      let q := (tget 0 s.jct.rxSeq (peerVc die vc) + 65535) % 65536
      (q + vc.toNat * 2 ^ 16 + 2 ^ 19, s.modJct (fun j => { j with acks := j.acks.filter (fun e => e ≠ (die, vc)) }))
    | none => (0, s)
  let cls := if tget 0 s.jct.creditsDue (die.toNat * 2) ≠ 0 then 0 else 1
  let n := tget 0 s.jct.creditsDue (die.toNat * 2 + cls)
  if n = 0 then (a, s)
  else
    let k := min n 255
    (a + 2 ^ 20 + cls * 2 ^ 21 + k * 2 ^ 22,
      s.modJct (fun j => { j with creditsDue := tset 0 j.creditsDue (die.toNat * 2 + cls) (n - k) }))

/-- The 64 bytes of a frame (09 R254 to R256). -/
def State.buildFrame (s : State) (t : TxFrame) (seq : Nat) : Line × State :=
  let hdr := t.peer.toNat + s.dieSrc.toNat * 2 ^ 9 + t.typ.toNat * 2 ^ 18 + t.vc.toNat * 2 ^ 22 +
    t.recs.length * 2 ^ 25 + bnat t.fol * 2 ^ 27 + bnat t.seq.isSome * 2 ^ 28 + seq * 2 ^ 32
  let body := t.recs.zipIdx.foldl (fun n e => n + e.1.toNat * 2 ^ (64 + 128 * e.2)) hdr
  let (tr, s) := s.trailer t.peer
  let x := body + tr * 2 ^ 448
  (BitVec.ofNat 512 (x + fcrcOf x * 2 ^ 480), s)

/-- LINK_TX_READY: hand over the oldest frame of the VC that may go (16 R439, R440). -/
def State.txReady (s : State) (vc : BitVec 3) : State :=
  let mine := fun (t : TxFrame) => t.vc = vc
  match s.jct.txq.findIdx? (fun t => mine t && s.hasCredit t && s.hasRoom t) with
  | none => s
  | some i =>
    let t := (s.jct.txq[i]?).getD ⟨0, 0, 0, [], false, none, [], false⟩
    let k := peerVc t.peer t.vc
    let seq := match t.seq with | some q => q.toNat | none => if t.vc = 3 then 0 else tget 0 s.jct.txSeq k
    let fresh := t.seq.isNone && t.vc ≠ 3
    let s := s.modJct (fun j => { j with txq := j.txq.eraseIdx i })
    let (f, s) := s.buildFrame t seq
    let s := if fresh then
        let s := s.modJct (fun j => { j with
          txSeq := tset 0 j.txSeq k ((seq + 1) % 65536)
          retained := j.retained ++ [{ t with seq := some (BitVec.ofNat 16 seq) }]
          uncredited := match creditClass t.vc with
            | some c => tmod 0 j.uncredited (t.peer.toNat * 2 + c) (· + 1)
            | none => j.uncredited })
        s.put F.JL_RET_HIGH (max (s.get F.JL_RET_HIGH) s.jct.retained.length)
      else s
    let s := if t.seq.isSome then s.bump F.JL_RESEND_COUNT else s
    let s := ((s.put F.JL_TX_COUNT (s.get F.JL_TX_COUNT + 1)).occur .jct 0x30 1).modJct (fun j => { j with txNow := j.txNow + 1 })
    s.drive (.frame vc f)

/-- Queue again, in front and oldest first, every unacknowledged frame that `p` picks (09 R275). -/
def State.resend (s : State) (p : TxFrame → Bool) : State :=
  let fs := s.jct.retained.filter (fun t => p t && !t.acked)
  s.modJct (fun j => { j with txq := fs ++ j.txq.filter (fun t => !(t.seq.isSome && p t)) })

/-! ### Acceptance -/

/-- A trailer's acknowledgement and credits (09 R256, R275, R278). -/
def State.rxTrailer (s : State) (f : Line) : State :=
  let src := fSrc f
  let a := (f.extractLsb' 448 16).toNat
  let vc : BitVec 3 := f.extractLsb' 464 3
  let s := if f.getLsbD 467 then
      let hit := fun (t : TxFrame) => t.peer = src && t.vc = vc &&
        t.seq.any (fun q => decide ((a + 65536 - q.toNat) % 65536 < 32768))
      (s.modJct (fun j => { j with
        retained := (j.retained.map (fun t => if hit t then { t with acked := true } else t)).filter (fun t => !(t.acked && t.own.isEmpty))
        txq := j.txq.filter (fun t => !hit t) })).retFree
    else s
  if f.getLsbD 468 then
    let k := src.toNat * 2 + bnat (f.getLsbD 469)
    s.modJct (fun j => { j with uncredited := tmod 0 j.uncredited k (· - (f.extractLsb' 470 8).toNat) })
  else s

/-- A frame is discarded, counted and reported (09 R259). -/
def State.badFrame (s : State) : State := (s.bump F.JL_BAD_COUNT).evt 1 4

/-- The records of a frame whose preceding writes failed to commit are answered with CPL and DENIED (09 R269); the answer
to a release names its SEQ (assumption log 93). -/
def State.failHeld (s : State) (h : HeldFrame) : State :=
  h.recs.foldl (fun s r =>
    if recBits r 124 4 = 10 then
      s.tx h.src 1 1 [recCpl 0 .denied true (BitVec.ofNat 8 (recBits r 0 8)) (BitVec.ofNat 8 (recBits r 16 8)) (BitVec.ofNat 5 (recBits r 24 5)) 0]
    else s.refuseRec h.src r .denied) s

/-- Frames leave a hold queue from its head, in hold order: forwarded when confirmed, answered when their writes failed
(09 R268, R269). -/
def State.drainHeld (s : State) (vc : BitVec 2) : Nat → State
  | 0 => s
  | fuel + 1 =>
    match s.jct.held.find? (fun h => h.vc = vc) with
    | some h =>
      let v : BitVec 3 := BitVec.ofNat 3 (4 + vc.toNat)
      let out := s.modJct (fun j => { j with held := j.held.eraseP (fun h => h.vc = vc) })
      if h.failed then ((out.failHeld h).creditDue h.src v h.credits).drainHeld vc fuel
      else if h.confirmed then
        ((out.poolTake (out.rxRecords h.src h.replay h.recs) h.src v 1 0).creditDue h.src v h.credits).drainHeld vc fuel
      else s
    | none => s

/-- Frames of BEAT and PART kinds: the frame continues what its source has begun, or begins anew (09 R259). -/
def State.bulkOk (s : State) (f : Line) : Bool :=
  let begun := tget [] s.jct.rxPart (fSrc f).toNat
  match fType f with
  | 2 | 4 => begun.isEmpty
  | 3 => begun.head? == some 2
  | 5 => begun.head? == some 4
  | _ => true

/-- A bulk frame is taken: when a beat or partial is whole, it goes to its station. `part` tells a partial. -/
def State.rxBulk (s : State) (f : Line) : State :=
  let src := fSrc f
  let recs := (tget [] s.jct.rxPart src.toNat).drop 1 ++ fRecs f
  let d := recs.headD 0
  let part := fType f = 4 ∨ fType f = 5
  let whole := if part then decide (1 + partRecs d ≤ recs.length) else decide (recBits d 57 1 = 1 ∨ 5 ≤ recs.length)
  let s := s.modJct (fun j => { j with rxPart := tset [] j.rxPart src.toNat (if whole then [] else (if part then 4 else 2) :: recs) })
  let n := (recs.length + 2) / 3
  if !whole then s else s.poolTake (if part then s.rxPartial src recs else s.rxBeat src recs) src 2 n n

/-- Dies that the junction's state shows it has a route to: those it has exchanged frames with, or holds import entries
for. -/
def State.peers (s : State) : List (BitVec 9) :=
  let a := (s.jct.txSeq.map (fun e => BitVec.ofNat 9 (e.1 / 8))) ++ (s.jct.rxSeq.map (fun e => BitVec.ofNat 9 (e.1 / 8)))
  let b := ((List.range 256).filter (fun i => s.flag F.JL_IMP_V 0 i)).map
    (fun i => BitVec.ofNat 9 (s.get F.JL_IMP_PKG 0 i * 4 + s.get F.JL_IMP_DIE 0 i))
  ((a ++ b).filter (· ≠ s.dieSrc)).eraseDups

/-- Every die to which the junction has a route (09 R276; assumption log 23). -/
def State.routes (s : State) : List (BitVec 9) :=
  (s.peers ++ ((List.range 512).map (BitVec.ofNat 9)).filter (fun d => Config.linkRoute d && decide (d ≠ s.dieSrc))).eraseDups

/-- Send RESYNC to every die (09 R276). -/
def State.sendResyncs (s : State) : State :=
  s.modJct (fun j => { j with txq := j.txq ++ s.routes.map (fun d => ⟨d, 3, 6, [], false, none, [], false⟩) })

/-- Sequence numbers of a die return to 0, and credits are full again. -/
def State.zeroPeer (s : State) (die : BitVec 9) : State :=
  s.modJct (fun j => { j with
    txSeq := j.txSeq.filter (fun e => e.1 / 8 ≠ die.toNat)
    rxSeq := j.rxSeq.filter (fun e => e.1 / 8 ≠ die.toNat)
    uncredited := j.uncredited.filter (fun e => e.1 / 2 ≠ die.toNat)
    creditsDue := j.creditsDue.filter (fun e => e.1 / 2 ≠ die.toNat)
    acks := j.acks.filter (fun e => e.1 ≠ die)
    pool := j.pool.map (fun f => if f.src = die then { f with credits := 0 } else f)
    held := j.held.map (fun h => if h.src = die then { h with credits := 0 } else h)
    rxPart := tset [] j.rxPart die.toNat [] })

/-- A retained request is sent again by its originator (13 R371, R372): a release by its own rule, a FOLD
that a partial carries not at all. -/
def State.replayOne (s : State) (p : Part) (e : Retained) : State :=
  match e.rel with
  | some q =>
    let stream := s.streamOf e.rq
    if aSrc e.rq.addr = s.dieSrc then s.emit p (.stn (aStn e.rq.addr)) (.release stream e.seq q)
    else
      let (core, tag) := routeTag e.rq.who
      let core' := if tag.toNat < 26 then core.toNat / 16 * 16 else core.toNat
      let tag' := if tag.toNat < 26 then 0 else tag.toNat
      s.tx (aSrc e.rq.addr) (if e.f then s.dataVc e.rq.who else 0) 1 [recRls e.seq.toNat q.toNat core' tag' e.f (aStn e.rq.addr).toNat] e.f
  | none =>
    match e.rq.who with
    | .combine _ => s
    | _ =>
      let inPartial := s.jct.combs.any (fun c => c.2.cover.any (fun x => x.2.contains (p, e.seq)) ||
        c.2.members.any (fun m => m.who.part = p && m.req.seq = e.seq))
      if inPartial then s else s.route { e.rq with replay := true }

/-- Replay, oldest first, every retained request of a part that `q` picks. -/
def State.replayAll (s : State) (p : Part) (q : Retained → Bool) : State :=
  ((s.origin p).ret.filter (fun e => e.stamped && q e)).foldl (fun s e => s.replayOne p e) s

/-- READs outstanding from queues of halt `h` for objects that `q` picks are issued again (03 R81). -/
def State.reissueReads (s : State) (h : Nat) (q : GAddr → Bool) : State :=
  ((s.halt h).waits.filter (fun e => e.2.v && e.2.op = 0x04 && e.2.addrV && q e.2.addr)).foldl (fun s e =>
    let core := BitVec.ofNat 8 (16 * h + e.1 / 24)
    let tag := BitVec.ofNat 5 (e.1 % 24)
    s.route ⟨⟨0x04, e.2.pav, e.2.gen, 0, core, tag, false, e.2.ret, false, 0, 0⟩, e.2.addr,
      .queue (BitVec.ofNat 4 h) core tag, false, none, false, none⟩) s

def allParts : List Part :=
  (List.range 16).map (fun h => .halt (BitVec.ofNat 4 h)) ++ (List.range 4).map (fun x => .stn (BitVec.ofNat 2 x)) ++ [.jct]

/-- RESYNC from a die (09 R276, 13 R372). -/
def State.rxResync (s : State) (die : BitVec 9) : State :=
  let s := s.zeroPeer die
  let keep := s.jct.retained.filter (fun t => t.peer = die)
  let s := s.modJct (fun j => { j with
    retained := j.retained.filter (fun t => t.peer ≠ die)
    txq := keep.map (fun t => { t with seq := none, acked := false }) ++ j.txq.filter (fun t => !(t.peer = die && t.seq.isSome)) })
  let s := (s.jct.farHeads.filter (fun h => aSrc h.addr = die)).foldl (fun s h => s.farReg h.addr true) s
  let s := allParts.foldl (fun s p => s.replayAll p (fun e => aSrc e.rq.addr = die)) s
  (List.range 16).foldl (fun s h => s.reissueReads h (fun a => aSrc a = die)) s

/-- The proxy entries that a frame's registrations and notifications name are read (12 R341); false if one is uncorrectable:
the frame is then not taken, and its die sends it again after the junction's recovery. -/
def State.readFrame (s : State) (f : Line) : Bool × State :=
  let as := if fType f ≠ 1 ∨ fFol f then [] else
    (fRecs f).filterMap (fun r => if recBits r 124 4 ∈ [3, 4, 5, 9] then some (BitVec.ofNat 25 (recBits r 64 25)) else none)
  s.reads 4 0 (s.proxyRead as)

/-- A frame is accepted: its counts (09 R285, 15 R423). -/
def State.rxCounted (s : State) : State :=
  ((s.put F.JL_RX_COUNT (s.get F.JL_RX_COUNT + 1)).occur .jct 0x31 1).modJct (fun j => { j with rxNow := j.rxNow + 1 })

/-- An inbound frame given as a row of kind `kind` (09 R259, R268, R275). A frame for another die, or of
another kind than the row's, is no event of the row; nor is one on a VC whose link credits the junction withholds (09 R268,
R279; 13 R379). A frame that comes before the one expected is counted and acknowledged again (assumption log 94). -/
def State.rxFrame (s : State) (f : Line) (kind : Nat) (pos : BitVec 16) : State :=
  let src := fSrc f
  let vc := fVc f
  let k := peerVc src vc
  let exp := tget 0 s.jct.rxSeq k
  if s.stopped .jct || s.parked then s
  else if fcrcOf (f.toNat % 2 ^ 480) ≠ (f.extractLsb' 480 32).toNat then s.badFrame
  else if fDst f ≠ s.dieSrc then s
  else if fKind f = none then s.badFrame
  else if fKind f ≠ some kind ∨ !s.rxReady vc then s
  else if vc = 3 then
    let s := s.rxCounted.rxTrailer f
    if kind = 19 then s.rxResync src else s
  else if fSeq f ≠ exp then
    if (exp + 65536 - fSeq f) % 65536 ≤ 32768 then
      s.badFrame.modJct (fun j => { j with acks := j.acks.filter (· ≠ (src, vc)) ++ [(src, vc)] })
    else s.badFrame
  else if vc = 2 ∧ !s.bulkOk f then s.badFrame
  else
    let rd := s.readFrame f
    let s := rd.2
    if !rd.1 then s else
    let s := s.modJct (fun j => { j with
      rxSeq := tset 0 j.rxSeq k ((exp + 1) % 65536)
      acks := j.acks.filter (· ≠ (src, vc)) ++ [(src, vc)] })
    let s := s.rxCounted.rxTrailer f
    if fFol f ∧ 4 ≤ vc.toNat then
      let v := BitVec.ofNat 2 (vc.toNat - 4)
      let s := s.modJct (fun j => { j with held := j.held ++ [⟨v, pos, src, fRecs f, fReplay f, false, false, 1⟩] })
      (s.bump F.JL_FOL_HELD_COUNT).drive (.commitQuery v pos)
    else if vc = 2 then s.rxBulk f
    else s.poolTake (s.rxRecords src (fReplay f) (fRecs f)) src vc 1 1

/-! ### Meanings -/

/-- LINK_TX_READY (16 R440). -/
def execLinkTxReady (vc : BitVec 3) (s : State) : Host.Outcome State Fault Refusal :=
  .next (s.keep (s.quiet.txReady vc))

/-- A REQ record's frame (09 R258, R260, R267). -/
def execReqRecord (f : Line) (pos : BitVec 16) (s : State) : Host.Outcome State Fault Refusal :=
  .next (s.keep (s.quiet.rxFrame f 1 pos))
/-- A CPL record's frame. -/
def execCplRecord (f : Line) (s : State) : Host.Outcome State Fault Refusal := .next (s.keep (s.quiet.rxFrame f 2 0))
/-- A REG record's frame (09 R264). -/
def execRegRecord (f : Line) (s : State) : Host.Outcome State Fault Refusal := .next (s.keep (s.quiet.rxFrame f 3 0))
/-- A CAN record's frame. -/
def execCanRecord (f : Line) (s : State) : Host.Outcome State Fault Refusal := .next (s.keep (s.quiet.rxFrame f 4 0))
/-- An NTF record's frame (09 R263). -/
def execNtfRecord (f : Line) (s : State) : Host.Outcome State Fault Refusal := .next (s.keep (s.quiet.rxFrame f 5 0))
/-- A DUR record's frame. -/
def execDurRecord (f : Line) (s : State) : Host.Outcome State Fault Refusal := .next (s.keep (s.quiet.rxFrame f 7 0))
/-- A NOTE record's frame. -/
def execNoteRecord (f : Line) (s : State) : Host.Outcome State Fault Refusal := .next (s.keep (s.quiet.rxFrame f 8 0))
/-- An RFS record's frame. -/
def execRfsRecord (f : Line) (s : State) : Host.Outcome State Fault Refusal := .next (s.keep (s.quiet.rxFrame f 9 0))
/-- An RLS record's frame. -/
def execRlsRecord (f : Line) (pos : BitVec 16) (s : State) : Host.Outcome State Fault Refusal :=
  .next (s.keep (s.quiet.rxFrame f 10 pos))
/-- A BEAT or BEAT2 frame (09 R274). -/
def execBeatFrame (f : Line) (s : State) : Host.Outcome State Fault Refusal := .next (s.keep (s.quiet.rxFrame f 16 0))
/-- A PART or PART2 frame (09 R271, R272). -/
def execPartFrame (f : Line) (s : State) : Host.Outcome State Fault Refusal := .next (s.keep (s.quiet.rxFrame f 17 0))
/-- A CTRL frame (09 R257). -/
def execCtrlFrame (f : Line) (s : State) : Host.Outcome State Fault Refusal := .next (s.keep (s.quiet.rxFrame f 18 0))
/-- A RESYNC frame (09 R276). -/
def execResync (f : Line) (s : State) : Host.Outcome State Fault Refusal := .next (s.keep (s.quiet.rxFrame f 19 0))

/-- A refused registration is sent again (09 R263, 03 R85): of a chain, or of the junction's own waits. The event is the 256
fclk having passed. -/
def execProxyRegRetry (addr : GAddr) (s : State) : Host.Outcome State Fault Refusal :=
  .next (s.keep (
    let s := s.quiet
    if s.jct.farHeads.any (fun h => h.addr = addr && h.retry) then s.farReg addr true
    else if s.jct.homeRefused.contains addr then
      let s := s.modJct (fun j => { j with homeRefused := j.homeRefused.filter (· ≠ addr) })
      if aSrc addr = s.dieSrc then s.homeReg (s.resolve addr moveFuel)
      else (s.boxWaitsOn addr).foldl (fun s w => s.farRegister 16 addr w.2 (s.boxPav w.1) true) s
    else s))

/-- A sequenced frame has stayed unacknowledged for JL_RTO lclk (09 R275). -/
def execFrameResendTimeout (die : BitVec 9) (vc : BitVec 3) (s : State) : Host.Outcome State Fault Refusal :=
  .next (s.keep (s.quiet.resend (fun t => t.peer = die && t.vc = vc)))

/-- 64 lclk without a frame to the die: acknowledgements and credits due go in CTRL frames (09 R275, R278). -/
def execAckIdleTimer (die : BitVec 9) (s : State) : Host.Outcome State Fault Refusal :=
  .next (s.keep (
    let s := s.quiet.poolSettle
    if s.jct.acks.any (fun e => e.1 = die) ∨ tget 0 s.jct.creditsDue (die.toNat * 2) ≠ 0 ∨
      tget 0 s.jct.creditsDue (die.toNat * 2 + 1) ≠ 0 then s.tx die 3 0 [] else s))

/-- A link reset towards a die (09 R253, R275; 13 R357). -/
def execLinkReset (die : BitVec 9) (s : State) : Host.Outcome State Fault Refusal :=
  .next (s.keep (
    let s := ((s.quiet.bump F.JL_STAT_RESETS).evt 1 0).fault 9 21 0
    s.resend (fun t => t.peer = die)))

/-- Answer one record of a frame that has no route with UNMAPPED (01 R28, 16 R440). -/
def State.noRouteRec (s : State) (r : BitVec 128) : State :=
  let core := BitVec.ofNat 8 (recBits r 109 8)
  let q := BitVec.ofNat 5 (recBits r 117 5)
  match recBits r 124 4 with
  | 1 =>
    let op := recBits r 97 6
    let ret := recBits r 123 1 = 1
    let posted := op ∈ [0x01, 0x08, 0x0D, 0x11, 0x18, 0x1D, 0x1E] ∧ !ret
    let addr := BitVec.ofNat 25 (recBits r 72 25)
    if op = 2 then (s.farNotify addr (fun _ => true) 0 .unmapped none).farReg addr false
    else
      let ridx := if (q = 24 ∨ q = 25) ∧ (op = 4 ∨ op = 0xC ∨ op = 0x14) then recBits r 56 8 else 0
      s.rxCpl (recCpl 0 .unmapped (decide posted) (BitVec.ofNat 8 (recBits r 64 8)) core q (BitVec.ofNat 8 ridx))
  | 3 =>
    let addr := BitVec.ofNat 25 (recBits r 64 25)
    (s.farNotify addr (fun _ => true) 0 .unmapped none).farReg addr false
  | _ => s

/-- Answer a whole frame: a beat by its response index, a partial by its entry. -/
def State.noRouteFrame (s : State) (t : TxFrame) : State :=
  let d := t.recs.headD 0
  match t.typ.toNat with
  | 1 => t.recs.foldl (fun s r => s.noRouteRec r) s
  | 2 => s.rxCpl (recCpl 0 .unmapped false 0 0 25 (BitVec.ofNat 8 (recBits d 49 8)))
  | 4 =>
    let seq := BitVec.ofNat 8 (recBits d 56 8)
    (s.partialDone (recBits d 64 6) seq .unmapped 0).unretain .jct seq
  | _ => s

/-- No route to a die (16 R440): every frame retained for it ends. -/
def execLinkNoRoute (die : BitVec 9) (s : State) : Host.Outcome State Fault Refusal :=
  .next (s.keep (
    let s := s.quiet
    let fs := s.jct.retained.filter (fun t => t.peer = die)
    let s := (s.modJct (fun j => { j with
      retained := j.retained.filter (fun t => t.peer ≠ die)
      txq := j.txq.filter (fun t => !(t.peer = die && t.seq.isSome)) })).zeroPeer die
    (fs.foldl (fun s t => s.noRouteFrame t) s).retFree))

/-- Commitment of the writes before a held frame is confirmed (09 R268). -/
def execLinkCommitConfirm (vc : BitVec 2) (pos : BitVec 16) (s : State) : Host.Outcome State Fault Refusal :=
  .next (s.keep (
    let s := s.quiet
    let s := s.modJct (fun j => { j with held := j.held.map (fun h => if h.vc = vc ∧ h.pos = pos then { h with confirmed := true } else h) })
    s.drainHeld vc s.jct.held.length))

/-- A write before a held frame failed to commit (09 R269). -/
def execLinkCommitFail (vc : BitVec 2) (pos : BitVec 16) (s : State) : Host.Outcome State Fault Refusal :=
  .next (s.keep (
    let s := s.quiet
    match s.jct.held.find? (fun h => h.vc = vc ∧ h.pos = pos) with
    | none => s
    | some h =>
      let s := s.modJct (fun j => { j with held := j.held.map (fun h => if h.vc = vc ∧ h.pos = pos then { h with failed := true } else h) })
      let s := ((s.bump F.JL_FOL_ERR_COUNT).evt 1 2).fault 8 21 (4 + vc.toNat + h.src.toNat * 8)
      s.drainHeld vc s.jct.held.length))

end Sys2Proof.Machine
end

