-- ==== Sys2Proof/Machine/Census.lean ====
section
/-! DEFINITION. Stall-census records (13 R382, R383). -/

namespace Sys2Proof.Machine

/-- The identity word of a record: R145 for a queue, the lever form of LAST_SRC for a thread or script. -/
def State.censusIdent (s : State) (who : Orig) : Nat :=
  match who with
  | .thread _ => (lastSrcOf who).toNat + 2 ^ 23
  | _ => (s.identOf who).toNat

/-- N of a waiter record (05 R144). -/
def waiterN (rq : HReq) : Nat := if rq.req.op = 0x0C then 0 else rq.req.operand.toNat % 2 ^ 32

/-- Write a record to the ring of a station (0 to 3) or of the junction (4). -/
def State.census (s : State) (ring : Nat) (st : Status) (source : Nat) (req : Req) (ident : Nat) (addr : GAddr) (age : Nat)
    (exp : Word64) (val : Option Word64) : State :=
  let n := s.get F.SC_SIZE_N 0 ring
  let wr := s.get F.SC_WR_IDX 0 ring
  let rd := s.get F.SC_RD_IDX 0 ring
  if n = 0 ∨ (wr + 65536 - rd) % 65536 = n then (s.bump F.SC_LOST_COUNT 0 ring).evt 0x29 6
  else
    let x := st.code + source * 2 ^ 4 + req.op.toNat * 2 ^ 8 + bnat val.isSome * 2 ^ 15 + req.pav.toNat * 2 ^ 16 +
      req.gen.toNat * 2 ^ 24 + ident * 2 ^ 32 + addr.toNat * 2 ^ 64 + age * 2 ^ 96 + exp.toNat * 2 ^ 128 +
      (val.getD 0).toNat * 2 ^ 192
    let at' := s.get64 F.SC_BASE_LO_ADDR F.SC_BASE_HI_ADDR 0 ring + 32 * (wr % n)
    let o := at' % 64
    let s := s.memReq ring true (BitVec.ofNat 58 (at' / 64)) (BitVec.ofNat 64 ((2 ^ 32 - 1) * 2 ^ o)) (BitVec.ofNat 512 (x * 2 ^ (8 * o))) (.census ring)
    (s.put F.SC_WR_IDX (wr + 1) 0 ring).evt 0x29 5

end Sys2Proof.Machine
end

