-- ==== Sys2Proof/Machine/Request.lean ====
section
/-! DEFINITION. Sync requests at the halt and their translation (02 R43, R44; 03 R69 to R78, R87 to R92;
07 R200). -/

namespace Sys2Proof.Machine

/-! ### Operations (03 R72) -/

/-- The operation codes of 03 R72. -/
def opKnown (op : BitVec 6) : Bool :=
  op.toNat ∈ [0x00, 0x01, 0x02, 0x04, 0x08, 0x09, 0x0A, 0x0C, 0x0D, 0x0E, 0x0F, 0x10, 0x11, 0x14, 0x15, 0x18,
    0x1C, 0x1D, 0x1E, 0x20]

/-- A posted request: it stalls its queue until acceptance only. A reserved code with RETURN = 0 is handled
as posted (03 R73). -/
def opPosted (op : BitVec 6) (ret : Bool) : Bool :=
  !ret && (op.toNat ∈ [0x01, 0x08, 0x0D, 0x11, 0x18, 0x1D, 0x1E] || !opKnown op)

/-! ### Translation (02 R44) -/

/-- Steps 1 to 10: the object's address, or the status that ends the request. COUNT cannot exceed 4,096: a larger one
in a context base counts as that. -/
def State.translate (s : State) (sv : Nat) (pav : BitVec 6) (handle : BitVec 20) (ctxl ss : Bool) (base : Word32) :
    Except Status GAddr :=
  let w0 := 64 * s.get F.HM_WIN_BASE_G 0 pav.toNat
  let size := 64 * s.get F.HM_WIN_SIZE_G 0 pav.toNat
  let pw := s.get F.HM_PW_PW 0 pav.toNat
  let lo := handle.toNat % 2 ^ 16
  let idx := if ctxl then base.toNat % 2 ^ 16 + lo else w0 + handle.toNat
  let e := tget 0 (s.mem sv).hmap idx
  if !s.runOpen pav then .error .unmapped
  else if !ctxl ∧ pw ≤ handle.toNat then .error .unmapped
  else if ctxl ∧ ss then .error .unmapped
  else if ctxl ∧ (!base.getLsbD 31 ∨ min (base.toNat / 2 ^ 16 % 2 ^ 13) 4096 ≤ lo) then .error .unmapped
  else if idx < w0 ∨ w0 + size ≤ idx ∨ 65536 ≤ idx ∨ (ctxl ∧ idx < w0 + pw) then .error .unmapped
  else if e.getLsbD 26 then .error .frozen
  else if !e.getLsbD 25 then .error .unmapped
  else .ok (e.extractLsb' 0 25)

/-- The handle-map row of a handle is read at the serving station; false if it is uncorrectable. -/
def State.readMap (s : State) (sv : Nat) (pav : BitVec 6) (handle : BitVec 20) (ctxl : Bool) (base : Word32) : Bool × State :=
  let lo := handle.toNat % 2 ^ 16
  let idx := if ctxl then base.toNat % 2 ^ 16 + lo else 64 * s.get F.HM_WIN_BASE_G 0 pav.toNat + handle.toNat
  s.reads sv 0 (fun ram row => ram = 0x05 && row = idx)

/-! ### Releases -/

def qCore (h i : Nat) : BitVec 8 := BitVec.ofNat 8 (16 * h + i / 24)
def qTag (i : Nat) : BitVec 5 := BitVec.ofNat 5 (i % 24)

/-- A request is accepted (16 R428): the halt's port pointer moves past its core (03 R99; assumption log 79). A queue is
released (16 R429). -/
def State.acc (s : State) (core : BitVec 8) (q : BitVec 5) : State :=
  ((s.occur (.halt (core.extractLsb' 4 4)) 0x10 1).modHalt (core.toNat / 16) (fun ht =>
    { ht with port := core.extractLsb' 0 4 + 1 })).drive (.acc core q)
def State.releaseQ (s : State) (core : BitVec 8) (q : BitVec 5) (st : Status) (v : Word64) : State :=
  (s.occur (.halt (core.extractLsb' 4 4)) 0x15 1).drive (.release core q st v)

/-- Completion of what a wait register holds: the release, or the WAKE of a siding (03 R89, R90; 16 R427,
R430). -/
def State.endWait (s : State) (h i : Nat) (st : Status) (val : Word64) : State :=
  let w := s.wait h i
  let v := if w.ret ∨ w.op = 0x04 then val else 0
  let s := s.modWait h i (fun w => { w with v := false, sided := false, refused := false, gang := none })
  if w.sided then
    (s.occur (.halt (BitVec.ofNat 4 h)) 0x15 1).drive (.note .wake (qCore h i) w.homeQ (BitVec.ofNat 96 (i % 2 + st.code * 2 + bnat w.ret * 32 + v.toNat * 2 ^ 32)))
  else s.releaseQ (qCore h i) (qTag i) st v

/-- A posted request's status other than DONE is counted, and held as the latest (03 R75, R102). -/
def State.postedCount (s : State) (h : Nat) (core : BitVec 8) (q : BitVec 5) (st : Status) : State :=
  ((((s.bump F.HALT_PERR_COUNT h).put F.HALT_PERR_LAST st.code h).put F.HALT_PERR_QTAG q.toNat h).put
    F.HALT_PERR_CORE (core.toNat % 16) h)

/-- A posted request ends with a status other than DONE: counted, and the queue's first failure (03 R75). -/
def State.postedFail (s : State) (h : Nat) (core : BitVec 8) (q : BitVec 5) (st : Status) : State :=
  let s := s.postedCount h core q st
  if 24 ≤ q.toNat then s
  else s.modHalt h (fun ht => { ht with firstFail := tmod 0 ht.firstFail (waitIdx core q) (fun x => if x = 0 then BitVec.ofNat 4 st.code else x) })

/-- A fence whose earlier posted requests are all acknowledged completes (03 R76, 13 R376). -/
def State.fenceDone (s : State) (h i : Nat) : State :=
  let ht := s.halt h
  let w := s.wait h i
  if w.v ∧ w.op = 0 ∧ tget 0 ht.unacked i = 0 then
    let st := if ht.lostPosted.contains i then Status.fault else Status.ofCode (tget 0 ht.firstFail i).toNat
    let s := s.modHalt h (fun ht => { ht with firstFail := tset 0 ht.firstFail i 0, lostPosted := ht.lostPosted.filter (· ≠ i) })
    s.endWait h i st 0
  else s

/-- A request ends at the halt in the form of its own completion (03 R73). -/
def State.endAtHalt (s : State) (h : Nat) (core : BitVec 8) (q : BitVec 5) (posted : Bool) (st : Status) : State :=
  if posted then s.postedFail h core q st else s.releaseQ core q st 0

/-! ### Waits on objects (03 R82, R83) -/

/-- The part that homes an object for a halt: its station, or the junction. -/
def State.homePart (s : State) (a : GAddr) : Part := if aSrc a = s.dieSrc then .stn (aStn a) else .jct

/-- A register holds a wait on an object that notifications release (03 R83). -/
def waitsOn (a : GAddr) (w : WaitReg) : Bool :=
  w.v && w.addrV && w.addr = a && (w.op = 0x02 || (w.op = 0x10 && w.gang.isNone && !w.noTarget))

/-- The script's wait or trigger on an object (08 R231). -/
def scriptWaits (ht : Halt) (a : GAddr) : Option Word64 :=
  match ht.script.cmp with
  | some (x, v) => if x = a ∧ (ht.script.state = .armed ∨ ht.script.state = .waiting) then some v else none
  | none => none

/-- Lowest value a halt waits for on an object. -/
def State.haltLowest (s : State) (h : Nat) (a : GAddr) : Option Word64 :=
  let ht := s.halt h
  (((ht.waits.filter (fun e => waitsOn a e.2)).map (·.2.exp)) ++ (scriptWaits ht a).toList).foldl
    (fun (m : Option Word64) x => match m with
      | some y => some (if x.toNat < y.toNat then x else y)
      | none => some x) none

/-- The pavilion of a halt's script: that of the entry it runs under (08 R244, R245). -/
def State.scriptPav (s : State) (h : Nat) : BitVec 6 :=
  ((s.halt h).script.run.map (·.pav)).getD (BitVec.ofNat 6 (s.get F.HS_ENT_PAV h))

/-- Register the halt's lowest value on an object (03 R82, R83), for the pavilion of a wait on it: a queue's, or the
script's alone (08 R231). With none left, cancel if `cancel`. -/
def State.haltReg (s : State) (h : Nat) (a : GAddr) (cancel : Bool) : State :=
  let me := Part.halt (BitVec.ofNat 4 h)
  let pav := (((s.halt h).waits.find? (fun e => waitsOn a e.2)).map (·.2.pav)).getD (s.scriptPav h)
  match s.haltLowest h a with
  | some e => s.emit me (s.homePart a) (.reg a e pav)
  | none => if cancel then s.emit me (s.homePart a) (.cancel a none) else s

/-- A first registration overtakes nothing: registrations and cancels of the halt for the object that are still on their
way came before it (01 R16). -/
def State.settleReg (s : State) (h : Nat) (a : GAddr) : State :=
  let me := Part.halt (BitVec.ofNat 4 h)
  let p := s.homePart a
  let mine := fun (m : InFlight) => decide (m.src = me ∧ m.dst = p) && (match m.msg with
    | .cancel x none => x == a
    | .reg x _ _ => x == a
    | _ => false)
  if s.net.any mine then
    let s := { s with net := s.net.filter (fun m => !mine m) }
    match p with
    | .stn _ =>
      let d := s.resolve a moveFuel
      s.modMem (aStn d).toNat (fun m => { m with watches := m.watches.filter (fun w => !(w.pon = aPon d && w.sub = BitVec.ofNat 5 h)) })
    | _ => s.farCancel (BitVec.ofNat 5 h) a
  else s

/-- A queue's WAIT_GE whose object the serving station has found (03 R82): it is registered if its E is lower than every
E pending on the object; the first goes to the home station as the request itself, later ones by the object's address. -/
def State.queueWait (s : State) (h : Nat) (core : BitVec 8) (q : BitVec 5) (rq : HReq) : State :=
  let low := s.haltLowest h rq.addr
  let named := fun (s : State) => s.modWait h (waitIdx core q) (fun w => { w with addr := rq.addr, addrV := true })
  match low with
  | none => (named (s.settleReg h rq.addr)).route rq
  | some e => if e.toNat ≤ rq.req.operand.toNat then named s else (named s).haltReg h rq.addr false

/-! ### Launch -/

/-- A request at its serving station: generation, translation, routing (03 R78, 11 R318). A request that
goes no further is freed from retention at that answer (13 R363). `kept`: it is retained already. -/
def State.serve (s : State) (sv : Nat) (rq : HReq) (ss : Bool) (base : Word32) : State :=
  let me := Part.stn (BitVec.ofNat 2 sv)
  let p := rq.who.part
  let fail := fun (st : Status) => (s.unretain p rq.req.seq).answerFrom me rq st 0
  if s.flag F.REC_STAT_FAILED sv then fail .fault
  else if rq.req.gen ≠ s.gen rq.req.pav then fail .flushed
  else match s.translate sv rq.req.pav rq.req.handle rq.req.ctxl ss base with
    | .error st => fail st
    | .ok a =>
      let rq := { rq with addr := a }
      match (if rq.req.op = 0x02 ∧ rq.load.isNone then some rq.who else none : Option Orig) with
      | some (.queue h core q) => s.queueWait h.toNat core q rq
      | _ =>
      let s := match rq.who with
        | .queue h core q => if rq.posted ∨ 24 ≤ q.toNat then s
            else s.modWait h.toNat (waitIdx core q) (fun w => { w with addr := a, addrV := true })
        | _ => s
      let own := match p with | .stn x => decide (aSrc a = s.srcOf p) && x == aStn a | _ => false
      let s := if opRetained rq.req.op ∧ !own then s.retainReq p rq else s
      s.route rq

/-- The wait register of a blocking request at acceptance (03 R87), under the pavilion's LUISK (R90). -/
def waitOf (rq : Req) (luisk : Bool) : WaitReg :=
  { WaitReg.init with exp := rq.operand, pav := rq.pav, gen := rq.gen, op := rq.op, v := true, ret := rq.ret,
                        noTarget := rq.op = 0x10, luisk := luisk }

/-- Stamp a request that is retained, and send it to its serving station. -/
def State.launch (s : State) (h : Nat) (rq : HReq) (base : Word32) : State :=
  let p := Part.halt (BitVec.ofNat 4 h)
  if opRetained rq.req.op then
    let (q, s) := s.stamp p
    s.serve (h / 4) { rq with req := { rq.req with seq := q } } false base
  else s.serve (h / 4) rq false base

/-! ### Ticket batches (07 R200) -/

def batchSum (b : Batch) : Nat := b.members.foldl (fun n m => n + m.2.2.toNat) 0

/-- The batch record a TICKET joins or opens. -/
def State.batchFor (s : State) (h : Nat) (rq : Req) : Option Nat :=
  let ht := s.halt h
  if rq.ctxl ∨ rq.operand.toNat / 2 ^ 32 % 2 = 1 then none
  else
    let n := rq.operand.toNat % 2 ^ 32
    let bs := fun i => tget Batch.init ht.batches i
    match (List.range 4).find? (fun i => let b := bs i
        !b.members.isEmpty && !b.sent && b.pav = rq.pav && b.gen = rq.gen && b.handle = rq.handle &&
        decide (b.members.length < 16) && decide (batchSum b + n ≤ 2 ^ 32 - 1)) with
    | some i => some i
    | none => if s.get F.HALT_TICK_WINDOW h = 0 then none else (List.range 4).find? (fun i => (bs i).members.isEmpty)

def State.joinBatch (s : State) (h i : Nat) (rq : Req) : State :=
  s.modHalt h (fun ht => { ht with batches := tmod Batch.init ht.batches i (fun b =>
    ⟨rq.pav, rq.gen, rq.handle, b.members ++ [(rq.core, rq.qtag, BitVec.ofNat 32 rq.operand.toNat)], false⟩) })

/-! ### Acceptance -/

/-- The clock-gate wire of a queue (03 R89, 11 R323, 14 R400): driven while its own wait register is in use, so not for a
wait in a siding, and while the halt holds its request for a freeze; 0 under test (16 R447). -/
def State.gateWire (s : State) (core : BitVec 8) (q : BitVec 5) : Bool :=
  let ht := s.halt (core.toNat / 16)
  decide (q.toNat < 22) && !s.su.wInstr.underTest && ((s.wait (core.toNat / 16) (waitIdx core q)).v || ht.heldQ.any (fun r => r.core = core && r.qtag = q))

/-- A supervisor queue (03 R74): the masks are kept per core, selected by HALT_SUPV_SEL. -/
def State.isSupv (s : State) (h : Nat) (core : BitVec 8) (q : BitVec 5) : Bool :=
  (s.get F.HALT_SUPV_MASK h (core.toNat % 16)).testBit q.toNat

/-- The five-level view holds the halt's queues (01 R17): not ready, a recovery of its own, or one of its
serving station; or the reset of either is due (12 R347). -/
def State.haltStalled (s : State) (h : Nat) : Bool :=
  !s.serving || s.resetDue (.halt (BitVec.ofNat 4 h)) || s.resetDue (.stn (BitVec.ofNat 2 (h / 4))) || (s.halt h).phase ≠ 0 || (s.get F.REC_STAT_PHASE (h / 4) ≠ 0 && !s.flag F.REC_STAT_FAILED (h / 4))

/-- The halt's own reasons to refuse an operation, with the HALT_REJ field that counts it (03 R73). -/
def State.rejectField (s : State) (h : Nat) (op : BitVec 6) (core : BitVec 8) (q : BitVec 5) : Option Fld :=
  if q.toNat = 22 ∨ q.toNat = 23 then some F.HALT_REJ_RSVD_TAG
  else if !opKnown op then some F.HALT_REJ_RSVD_OP
  else if op = 0x15 then some F.HALT_REJ_BATCH
  else if (op = 0x0F ∨ op = 0x20) ∧ !s.isSupv h core q then some F.HALT_REJ_SUPV
  else none

/-- The request of 03 R69 as the halt completes it. -/
def haltReq (op : BitVec 6) (r : CoreReq) : Req :=
  ⟨op, r.pav, r.gen, r.handle, r.core, r.q, r.follows, r.ret, r.handle.toNat / 2 ^ 16 = 0xF, 0, r.operand⟩

/-- An accepted request: NOP and fence end at the halt, a TICKET may join a batch, the rest is launched. A TURN_ARRIVE_NW
with RETURN = 1 holds its queue's wait register until its answer, as every blocking request does (assumption log 88). -/
def State.accepted (s : State) (h i : Nat) (rq : Req) : State :=
  let s := s.acc rq.core rq.qtag
  if rq.op = 0 ∧ !rq.ret then s.releaseQ rq.core rq.qtag .done 0
  else
    let posted := opPosted rq.op rq.ret
    let s := if posted then s.modHalt h (fun ht => { ht with unacked := tmod 0 ht.unacked i (· + 1), unackedPav := tmod 0 ht.unackedPav rq.pav.toNat (· + 1) })
      else s.modWait h i (fun _ => waitOf rq (s.flag F.WAIT_CFG_LUISK 0 rq.pav.toNat))
    if rq.op = 0 then s.fenceDone h i
    else
      let hrq : HReq := ⟨rq, 0, .queue (BitVec.ofNat 4 h) rq.core rq.qtag, posted, none, false, none⟩
      let base := tget 0 (s.halt h).bases i
      match if rq.op = 0x14 then s.batchFor h rq else none with
      | some b => s.joinBatch h b rq
      | none => s.launch h hrq base

/-- A STALE mark of the queue's own register, or of a siding its request was in (11 R320). -/
def State.staleMark (s : State) (h i : Nat) : Bool :=
  let c := 24 * (i / 24)
  (s.wait h i).stale || [c + 22, c + 23].any (fun j => (s.wait h j).stale && !(s.wait h j).v && (s.wait h j).homeQ.toNat == i % 24)

/-- What the acceptance of a request reads: of its halt the rows of the queue, of the serving station the map entry of its
handle. False if one is uncorrectable: the request then waits on its wires (12 R347; assumption log 61). -/
def State.readPresent (s : State) (rq : Req) : Bool × State :=
  let h := rq.core.toNat / 16
  let i := waitIdx rq.core rq.qtag
  let a := s.reads (h / 4) 0 (haltReadRow h i (rq.ctxl && rq.op ≠ 0) (rq.op = 0x0F || rq.op = 0x20))
  if !a.1 ∨ rq.op = 0 ∨ !opKnown rq.op then a
  else a.2.readMap (h / 4) rq.pav rq.handle rq.ctxl (tget 0 (s.halt h).bases i)

/-- A request presented on halt wires (03 R73, R78, R88, R99; 11 R318, R320, R323; 16 R428). A request that
waits on its wires leaves the state unchanged, but for what a read of a row in error does, and for the mark of one that waits for
retention or SEQ room, which event 0x12 counts (15 R423). -/
def State.present (s : State) (op : BitVec 6) (r : CoreReq) : State :=
  let h := r.core.toNat / 16
  let i := waitIdx r.core r.q
  let ht := s.halt h
  let rq := haltReq op r
  let posted := opPosted op r.ret
  if 24 ≤ r.q.toNat ∨ s.haltStalled h ∨ (s.wait h i).v ∧ r.q.toNat < 22 ∨ ht.heldQ.any (fun x => x.core = r.core && x.qtag = r.q) ∨
    (rq.ctxl ∧ op ≠ 0 ∧ ht.asking.contains i) then s
  else
  let rd := s.readPresent rq
  let s := rd.2
  if !rd.1 then s
  else match s.rejectField h op r.core r.q with
    | some f => ((s.acc r.core r.q).bump f h).endAtHalt h r.core r.q posted .denied
    | none =>
      if r.gen ≠ s.gen r.pav then (s.acc r.core r.q).endAtHalt h r.core r.q posted .flushed
      else if s.pavFrozen r.pav ∧ op ≠ 0 then
        if op = 0x0F ∨ op = 0x20 then (s.acc r.core r.q).endAtHalt h r.core r.q posted .frozen
        else s.modHalt h (fun ht => { ht with heldQ := ht.heldQ ++ [rq] })
      else if !posted ∧ s.staleMark h i then s
      else if s.flag F.REC_STAT_FAILED (h / 4) ∧ op ≠ 0 then
        (s.acc r.core r.q).endAtHalt h r.core r.q posted .fault
      else if opRetained op ∧ !s.room (.halt (BitVec.ofNat 4 h)) then s.modHalt h (fun ht => { ht with retHeld := true })
      else s.accepted h i rq

/-! ### Waits at the halt (03 R82 to R92) -/

/-- The script's own wait ends: a message to the script (08 R229). -/
def State.scriptWake (s : State) (h : Nat) (a : GAddr) (st : Status) (val : Word64) : State :=
  let me := Part.halt (BitVec.ofNat 4 h)
  let rq : HReq := ((s.halt h).script.wait).getD
    ⟨⟨0x02, 0, 0, 0, 0, 0, false, true, false, 0, 0⟩, a, .thread (.script (BitVec.ofNat 4 h)), false, none, false, none⟩
  (s.modHalt h (fun ht => { ht with script := { ht.script with cmp := none }, scriptRefused := false })).emit me me (.compl rq st val 0 0)

/-- A notification at a halt (03 R83): every wait on the object that the value reaches ends, or, if the
watch itself has ended or its station is FAILED (13 R366), every wait. -/
def State.haltNotify (s : State) (h : Nat) (a : GAddr) (val : Word64) (st : Status) (word : Option Word64) : State :=
  let all := !(st = .done || (st = .fault && val ≠ 0))
  let hit := fun (x : Word64) => all || decide (x.toNat ≤ val.toNat)
  let rs := ((s.halt h).waits.filter (fun e => waitsOn a e.2 && hit e.2.exp)).map (·.1)
  let sc := (scriptWaits (s.halt h) a).any hit
  let s := rs.foldl (fun s i => s.endWait h i st (if all then 0 else word.getD val)) s
  if sc then
    let s := s.scriptWake h a st (word.getD val)
    if (s.halt h).waits.any (fun e => waitsOn a e.2) then s.haltReg h a false else s
  else s.haltReg h a false

/-- A wait ends at its halt other than by a notification: the last on its object cancels the watch (03 R83). -/
def State.dropWait (s : State) (h i : Nat) (st : Status) : State :=
  let w := s.wait h i
  let s := s.endWait h i st 0
  if waitsOn w.addr w ∧ (s.haltLowest h w.addr).isNone then s.haltReg h w.addr true else s

/-- Two addresses name one object: they are equal, or moves on this die join them. A MOVE_NOTICE rewrites the
address of a register whose answer may still name the old one (02 R64, 13 R370; assumption log 50). -/
def State.sameObj (s : State) (a b : GAddr) : Bool :=
  a = b || (aSrc a = s.dieSrc && aSrc b = s.dieSrc && s.resolve a moveFuel = s.resolve b moveFuel)

/-- An answer that belongs to no live request (11 R319, R320; 13 R370); of a TICKET's grant the tickets are lost (07
R196, R203). -/
def State.lateAnswer (s : State) (h : Nat) (core : BitVec 8) (q : BitVec 5) (rq : HReq) (st : Status) : State :=
  let i := waitIdx core q
  let s := s.bump F.PAV_LATE_COUNT 0 rq.req.pav.toNat
  let s := if rq.req.op = 0x14 ∧ st = .done then s.bump F.HALT_TICK_LOST h else s
  let c := 24 * (core.toNat % 16)
  let hit := fun (w : WaitReg) => w.stale && w.op = rq.req.op && (!w.addrV || s.sameObj w.addr rq.addr)
  match (i :: [c + 22, c + 23]).find? (fun j => hit (s.wait h j) && (j = i || (s.wait h j).homeQ = q)) with
  | some j => s.modWait h j (fun w => { w with stale := false })
  | none => s

/-- The launched batch record whose first member is a queue: one sent as that member's TICKET, or as a TICKET_BATCH. -/
def State.batchOf (s : State) (h : Nat) (core : BitVec 8) (q : BitVec 5) (one : Bool) : Option Nat :=
  (List.range 4).find? (fun i => let b := tget Batch.init (s.halt h).batches i
    b.sent && (b.members.length == 1) == one && (b.members.head?).any (fun m => m.1 = core && m.2.1 = q))

/-- The reply to a batch of one member frees its record (07 R200). -/
def State.singleReply (s : State) (h : Nat) (core : BitVec 8) (q : BitVec 5) : State :=
  match s.batchOf h core q true with
  | some i => s.modHalt h (fun ht => { ht with batches := tset Batch.init ht.batches i Batch.init })
  | none => s

/-- A TICKET_BATCH's reply (07 R201). A member whose wait has ended receives nothing; the answer is late for it (11
R319). -/
def State.batchReply (s : State) (h : Nat) (rq : HReq) (st : Status) (t : Word64) (mods : BitVec 9) : State :=
  match s.batchOf h rq.req.core rq.req.qtag false with
  | none => (s.bump F.PAV_LATE_COUNT 0 rq.req.pav.toNat).bump F.HALT_TICK_LOST h
  | some i =>
    let ms := (tget Batch.init (s.halt h).batches i).members
    let s := s.modHalt h (fun ht => { ht with batches := tset Batch.init ht.batches i Batch.init })
    (ms.foldl (fun (acc : State × Nat) m =>
      let s := acc.1
      let j := waitIdx m.1 m.2.1
      let w := s.wait h j
      let s := if w.v ∧ !w.stale ∧ w.op = 0x14 then
          s.endWait h j st (if st = .done then tickOffset (mods.toNat % 32) (mods.toNat / 32) (t.toNat + acc.2) else 0)
        else
          let s := (s.bump F.PAV_LATE_COUNT 0 rq.req.pav.toNat).bump F.HALT_TICK_LOST h
          if w.stale then s.modWait h j (fun w => { w with stale := false }) else s
      (s, acc.2 + m.2.2.toNat)) (s, 0)).1

/-- A completion or grant at a halt (13 R370). Where a registration ends so without a value, the waits that relied on it
register again (03 R82, R83). -/
def State.haltCompl (s : State) (h : Nat) (core : BitVec 8) (q : BitVec 5) (rq : HReq) (st : Status) (val aux : Word64)
    (mods : BitVec 9) : State :=
  if rq.req.op = 0x15 then s.batchReply h rq st aux mods
  else
    let s := if rq.req.op = 0x14 then s.singleReply h core q else s
    let p := fun (w : WaitReg) => w.v && !w.stale && w.op = rq.req.op && (!w.addrV || s.sameObj w.addr rq.addr)
    match s.answerReg h core q p with
    | some i =>
      let a := (s.wait h i).addr
      let s := s.endWait h i st val
      if rq.req.op = 0x02 then s.haltReg h a false else s
    | none => s.lateAnswer h core q rq st

/-- Acknowledgement of a posted request at its halt (03 R75, 11 R319, 13 R376). -/
def State.haltAck (s : State) (h : Nat) (core : BitVec 8) (q : BitVec 5) (pav : BitVec 6) (gen : BitVec 8) (st : Status) : State :=
  let i := waitIdx core q
  if 24 ≤ q.toNat then
    let s := s.modHalt h (fun ht => { ht with unackedPav := tmod 0 ht.unackedPav pav.toNat (· - 1) })
    let s := if gen ≠ s.gen pav then s.bump F.PAV_LATE_COUNT 0 pav.toNat else s
    if st = .done then s else s.postedFail h core q st
  else if tget 0 (s.halt h).unacked i = 0 then s
  else
    let s := s.modHalt h (fun ht => { ht with unacked := tmod 0 ht.unacked i (· - 1), unackedPav := tmod 0 ht.unackedPav pav.toNat (· - 1) })
    let s := if gen ≠ s.gen pav then
        let s := s.bump F.PAV_LATE_COUNT 0 pav.toNat
        if st = .done then s else s.postedCount h core q st
      else if st = .done then s else s.postedFail h core q st
    s.fenceDone h i

/-- A CPL of another die for a queue of the halt (09 R258). A counted TURN_ARRIVE's answer is its target,
which the halt then waits for (assumption log 20). The retained copy tells the answer's pavilion and generation. -/
def State.haltRemote (s : State) (h : Nat) (core : BitVec 8) (q : BitVec 5) (posted : Bool) (seq : BitVec 8) (st : Status)
    (val : Word64) (mods : BitVec 9) : State :=
  let ent := ((s.halt h).orig.ret.find? (fun e => e.stamped && e.seq = seq && e.rel.isNone)).map (·.rq.req)
  let bad := st = .denied ∨ st = .unmapped ∨ st = .fault ∨ st = .flushed
  let s := if bad ∧ seq ≠ 0 then s.unretain (.halt (BitVec.ofNat 4 h)) seq else s
  if posted then
    let pav := (ent.map (·.pav)).getD 0
    s.haltAck h core q pav ((ent.map (·.gen)).getD (s.gen pav)) st
  else match s.batchOf h core q false with
  | some b =>
    let m := tget Batch.init (s.halt h).batches b
    s.batchReply h ⟨⟨0x15, m.pav, m.gen, m.handle, core, q, false, true, false, seq, 0⟩, 0,
      .queue (BitVec.ofNat 4 h) core q, false, none, false, none⟩ st val mods
  | none =>
    let s := s.singleReply h core q
    let p := fun (w : WaitReg) => w.v && !w.stale && w.addrV && aSrc w.addr ≠ s.dieSrc
    match s.answerReg h core q p with
    | some i =>
      let w := s.wait h i
      if w.op = 0x10 ∧ st = .done then
        (s.modWait h i (fun w => { w with exp := val, noTarget := false })).haltReg h w.addr false
      else s.endWait h i st val
    | none =>
      let i := waitIdx core q
      let c := 24 * (core.toNat % 16)
      let j := ([i, c + 22, c + 23].find? (fun j => (s.wait h j).stale && (j = i || (s.wait h j).homeQ = q))).getD i
      let w := s.wait h j
      let s := s.bump F.PAV_LATE_COUNT 0 ((ent.map (·.pav)).getD w.pav).toNat
      let s := if (ent.map (·.op)).getD w.op = 0x14 ∧ st = .done then s.bump F.HALT_TICK_LOST h else s
      if w.stale then s.modWait h j (fun w => { w with stale := false }) else s

/-! ### Meanings: sync operations -/

/-- NOP with RETURN = 0 (03 R76); with RETURN = 1 it is a fence. -/
def execNop (r : CoreReq) (s : State) : Host.Outcome State Fault Refusal := .next (s.keep (s.quiet.present 0 { r with ret := false }))
/-- NOP with RETURN = 1 (03 R76). -/
def execFence (r : CoreReq) (s : State) : Host.Outcome State Fault Refusal := .next (s.keep (s.quiet.present 0 { r with ret := true }))
/-- A request presented with any code, for those 03 R72 does not name (03 R73). -/
def execSyncReservedOp (op : BitVec 6) (r : CoreReq) (s : State) : Host.Outcome State Fault Refusal := .next (s.keep (s.quiet.present op r))
/-- SIG (03 R79). -/
def execSig (r : CoreReq) (s : State) : Host.Outcome State Fault Refusal := .next (s.keep (s.quiet.present 0x01 r))
/-- WAIT_GE (03 R80). -/
def execWaitGe (r : CoreReq) (s : State) : Host.Outcome State Fault Refusal := .next (s.keep (s.quiet.present 0x02 r))
/-- READ (03 R81). -/
def execRead (r : CoreReq) (s : State) : Host.Outcome State Fault Refusal := .next (s.keep (s.quiet.present 0x04 r))
/-- SEM_POST (05 R139). -/
def execSemPost (r : CoreReq) (s : State) : Host.Outcome State Fault Refusal := .next (s.keep (s.quiet.present 0x08 r))
/-- SEM_TAKE (05 R140). -/
def execSemTake (r : CoreReq) (s : State) : Host.Outcome State Fault Refusal := .next (s.keep (s.quiet.present 0x09 r))
/-- SEM_DEC (05 R141). -/
def execSemDec (r : CoreReq) (s : State) : Host.Outcome State Fault Refusal := .next (s.keep (s.quiet.present 0x0A r))
/-- LOCK_ACQ (05 R150). -/
def execLockAcq (r : CoreReq) (s : State) : Host.Outcome State Fault Refusal := .next (s.keep (s.quiet.present 0x0C r))
/-- LOCK_REL (05 R152). -/
def execLockRel (r : CoreReq) (s : State) : Host.Outcome State Fault Refusal := .next (s.keep (s.quiet.present 0x0D r))
/-- LOCK_TRY (05 R152). -/
def execLockTry (r : CoreReq) (s : State) : Host.Outcome State Fault Refusal := .next (s.keep (s.quiet.present 0x0E r))
/-- LOCK_FORCE (05 R153). -/
def execLockForce (r : CoreReq) (s : State) : Host.Outcome State Fault Refusal := .next (s.keep (s.quiet.present 0x0F r))
/-- TURN_ARRIVE (04 R108, R110). -/
def execTurnArrive (r : CoreReq) (s : State) : Host.Outcome State Fault Refusal := .next (s.keep (s.quiet.present 0x10 r))
/-- TURN_ARRIVE_NW (04 R111). -/
def execTurnArriveNw (r : CoreReq) (s : State) : Host.Outcome State Fault Refusal := .next (s.keep (s.quiet.present 0x11 r))
/-- TICKET (07 R195). -/
def execTicket (r : CoreReq) (s : State) : Host.Outcome State Fault Refusal := .next (s.keep (s.quiet.present 0x14 r))
/-- FOLD (06 R185). -/
def execFold (r : CoreReq) (s : State) : Host.Outcome State Fault Refusal := .next (s.keep (s.quiet.present 0x18 r))
/-- RING_RESERVE (07 R207). -/
def execRingReserve (r : CoreReq) (s : State) : Host.Outcome State Fault Refusal := .next (s.keep (s.quiet.present 0x1C r))
/-- RING_COMMIT (07 R210). -/
def execRingCommit (r : CoreReq) (s : State) : Host.Outcome State Fault Refusal := .next (s.keep (s.quiet.present 0x1D r))
/-- RING_RELEASE (07 R210). -/
def execRingRelease (r : CoreReq) (s : State) : Host.Outcome State Fault Refusal := .next (s.keep (s.quiet.present 0x1E r))
/-- MOVE (02 R63). -/
def execMove (r : CoreReq) (s : State) : Host.Outcome State Fault Refusal := .next (s.keep (s.quiet.present 0x20 r))

/-- BATCH_LAUNCH (07 R200): a batch of one member goes as that member's TICKET. The record stays in use until the reply. -/
def execBatchLaunch (h : BitVec 4) (n : BitVec 2) (s : State) : Host.Outcome State Fault Refusal :=
  .next (s.keep (
    let s := s.quiet
    let hn := h.toNat
    let b := tget Batch.init (s.halt hn).batches n.toNat
    let p := Part.halt h
    match b.members with
    | [] => s
    | m :: rest =>
      let rd := s.reads (hn / 4) 0 (fun ram row => ram = 0x10 + hn % 4 && row = 0x480 + n.toNat)
      let s := rd.2
      let rm := if rest.isEmpty ∧ rd.1 then s.readMap (hn / 4) b.pav b.handle false 0 else rd
      let s := rm.2
      if b.sent ∨ !s.room p ∨ !rm.1 then s
      else
        let w := s.wait hn (waitIdx m.1 m.2.1)
        let one := rest.isEmpty
        let sum := BitVec.ofNat 64 (batchSum b)
        let rq : HReq := ⟨⟨if one then 0x14 else 0x15, b.pav, b.gen, b.handle, m.1, m.2.1, false, if one then w.ret else true, false, 0, sum⟩,
          0, .queue h m.1 m.2.1, false, none, false, none⟩
        let s := s.modHalt hn (fun ht => { ht with batches := tset Batch.init ht.batches n.toNat { b with sent := true } })
        if one then s.launch hn rq 0
        else
          let s := (s.bump F.HALT_TICK_BATCHES hn).bump F.HALT_TICK_MEMB_MEMBERS hn 0 b.members.length
          let s := s.occur (.halt h) 0x13 b.members.length
          let (q, s) := s.stamp p
          s.emit p (.stn (BitVec.ofNat 2 (hn / 4))) (.batch { rq with req := { rq.req with seq := q } })))

/-- TICKET_BATCH at its serving station (07 R201). -/
def execTicketBatch (src dst : Part) (s : State) : Host.Outcome State Fault Refusal :=
  .next (s.keep (
    let s := s.quiet
    match s.head? src dst, dst with
    | some (.batch rq), .stn x =>
      let rd := s.readMap x.toNat rq.req.pav rq.req.handle false 0
      if !rd.1 then rd.2 else
      let s := rd.2.pop src dst
      match src with
      | .halt h =>
        let a := match s.translate x.toNat rq.req.pav rq.req.handle false false 0 with | .ok a => some a | .error _ => none
        let ms := ((s.batchOf h.toNat rq.req.core rq.req.qtag false).map (fun i => (tget Batch.init (s.halt h.toNat).batches i).members)).getD []
        let s := match a with
          | some a => ms.foldl (fun (s : State) (m : BitVec 8 × BitVec 5 × Word32) => s.modWait h.toNat (waitIdx m.1 m.2.1) (fun w => if w.v ∧ w.op = 0x14 then { w with addr := a, addrV := true } else w)) s
          | none => s
        s.serve x.toNat rq false 0
      | _ => s
    | _, _ => s))

/-! ### Meanings: messages at halts -/

/-- The rows that a halt or the junction reads to take a message: wait registers of the queue or of the waits on the
object, proxy entries of the object. -/
def State.readMsg (s : State) (dst : Part) (m : Msg) : Bool × State :=
  match dst with
  | .halt h =>
    let of := fun (q : Nat → Bool) => s.reads (h.toNat / 4) 0 (fun ram row => ram = 0x10 + h.toNat % 4 && row < 0x180 && q row)
    let queue := fun (core : BitVec 8) (q : BitVec 5) => of (fun row => decide (waitIdx core q = row))
    let object := fun (a : GAddr) => of (fun row => waitsOn a (s.wait h.toNat row))
    match m with
    | .compl rq _ _ _ _ => match rq.who with | .queue _ core q => queue core q | _ => (true, s)
    | .ack rq _ => match rq.who with | .queue _ core q => queue core q | _ => (true, s)
    | .remoteAnswer core q .. => queue core q
    | .notify a .. => object a
    | .refusal a _ => object a
    | .moveNotice a _ => object a
    | _ => (true, s)
  | .jct =>
    let entries := fun (a : GAddr) => s.reads 4 0 (s.proxyRead [a])
    match m with
    | .notify a .. => entries a
    | .reg a .. => entries a
    | .cancel a _ => entries a
    | .moveNotice a _ => entries a
    | _ => (true, s)
  | _ => (true, s)

/-- A message of the kind a row takes is at the head of its pair: apply it, else the row is no event. A message that an
uncorrectable row keeps from being taken stays at the head (12 R347). -/
def State.onHead (s : State) (src dst : Part) (f : State → Msg → Option State) : State :=
  match s.head? src dst with
  | some m =>
    let rd := s.readMsg dst m
    match f (rd.2.pop src dst) m with
    | some t => if rd.1 then t else rd.2
    | none => s
  | none => s

/-- WATCH_REGISTRATION: a registration sent by address (03 R82, R84; 09 R263). -/
def execWatchRegistration (src dst : Part) (s : State) : Host.Outcome State Fault Refusal :=
  .next (s.keep (s.quiet.onHead src dst (fun s m =>
    match m, src, dst with
    | .reg a e pav, .halt h, .stn _ =>
      some (s.arrive ⟨⟨0x02, pav, s.gen pav, 0, 0, 0, false, true, false, 0, e⟩, a, .sub (BitVec.ofNat 5 h.toNat), false, none, false, none⟩)
    | .reg a e pav, .halt h, .jct => some (s.farRegister (BitVec.ofNat 5 h.toNat) a e pav false)
    | _, _, _ => none)))

/-- WATCH_CANCEL: a watch is withdrawn (03 R84, 09 R263), or a waiter record removed (07 R196, 08 R239). -/
def execWatchCancel (src dst : Part) (s : State) : Host.Outcome State Fault Refusal :=
  .next (s.keep (s.quiet.onHead src dst (fun s m =>
    match m, dst with
    | .cancel a none, .stn _ =>
      let d := s.resolve a moveFuel
      let sub : BitVec 5 := match src with | .halt h => BitVec.ofNat 5 h.toNat | _ => 16
      some (s.modMem (aStn d).toNat (fun m => { m with watches := m.watches.filter (fun w => !(w.pon = aPon d && w.sub = sub)) }))
    | .cancel a none, .jct =>
      match src with | .halt h => some (s.farCancel (BitVec.ofNat 5 h.toNat) a) | _ => some s
    | .cancel a (some rq), .stn _ =>
      let d := s.resolve a moveFuel
      let si := (aStn d).toNat
      match ((s.mem si).waiters.find? (fun w => w.rq.who = rq.who && w.rq.req.op = rq.req.op && s.resolve w.rq.addr moveFuel = d)) with
      | some w =>
        let k := (s.slot si w.pon).kind
        some (if k = .glock ∨ k = .mlock then s.dropLockWaiter si w.pon w.row else s.dropWaiter si w.row)
      | none => some s
    | .cancel _ (some _), .jct => some s
    | _, _ => none)))

/-- NOTIFICATION at a halt (03 R83). -/
def execNotification (src dst : Part) (s : State) : Host.Outcome State Fault Refusal :=
  .next (s.keep (s.quiet.onHead src dst (fun s m =>
    match m, dst with
    | .notify a v st word, .halt h => some ((s.occur dst 0x14 1).haltNotify h.toNat a v st word)
    | _, _ => none)))

/-- A notification is one of the bound epoch watch (10 R290, R291). -/
def State.epochOf (s : State) (a : GAddr) (v : Word64) (st : Status) : Bool :=
  s.jct.ttBound == some a && (st ≠ .done || decide (s.get64 F.TT_EPOCH_LO_VALUE F.TT_EPOCH_HI_VALUE < v.toNat))

/-- JUNCTION_NOTIFICATION: a notification, or a refusal, of a home station to subscriber 16 (09 R264). -/
def execJunctionNotification (src dst : Part) (s : State) : Host.Outcome State Fault Refusal :=
  .next (s.keep (s.quiet.onHead src dst (fun s m =>
    match m, dst with
    | .notify a v st word, .jct => if s.epochOf a v st then none else some (s.homeNotified a v st word)
    | _, _ => none)))

/-- REGISTRATION_REFUSAL (03 R85): the wait stays, and is registered again later. -/
def execRegistrationRefusal (src dst : Part) (s : State) : Host.Outcome State Fault Refusal :=
  .next (s.keep (s.quiet.onHead src dst (fun s m =>
    match m, dst with
    | .refusal a _, .halt h =>
      some (s.modHalt h.toNat (fun ht => { ht with
        waits := ht.waits.map (fun e => if waitsOn a e.2 then (e.1, { e.2 with refused := true }) else e)
        scriptRefused := ht.scriptRefused || (scriptWaits ht a).isSome }))
    | .refusal a _, .jct => some (s.modJct (fun j => { j with homeRefused := j.homeRefused.filter (· ≠ a) ++ [a] }))
    | _, _ => none)))

/-- WATCH_REGISTRATION_RETRY (03 R85): 256 fclk have passed. -/
def execWatchRegistrationRetry (h : BitVec 4) (a : GAddr) (s : State) : Host.Outcome State Fault Refusal :=
  .next (s.keep (
    let s := s.quiet
    if (s.halt h.toNat).waits.any (fun e => waitsOn a e.2 && e.2.refused) ∨
        ((s.halt h.toNat).scriptRefused ∧ (scriptWaits (s.halt h.toNat) a).isSome) then
      let s := s.modHalt h.toNat (fun ht => { ht with
        waits := ht.waits.map (fun e => if waitsOn a e.2 then (e.1, { e.2 with refused := false }) else e)
        scriptRefused := ht.scriptRefused && (scriptWaits ht a).isNone })
      s.haltReg h.toNat a false
    else s))

/-- POSTED_ACK (03 R75): at a halt, or at the junction on its way to another die. -/
def execPostedAck (src dst : Part) (s : State) : Host.Outcome State Fault Refusal :=
  .next (s.keep (s.quiet.onHead src dst (fun s m =>
    match m, dst with
    | .ack rq st, .halt h =>
      match rq.who with
      | .queue _ core q => some (s.haltAck h.toNat core q rq.req.pav rq.req.gen st)
      | _ => none
    | .ack rq st, .jct =>
      match rq.who with
      | .die .. => some (s.sendCpl rq st 0 true 0)
      | _ => none
    | .remoteAnswer core q true seq st val mods, .halt h => if q.toNat < 26 then some (s.haltRemote h.toNat core q true seq st val mods) else none
    | _, _ => none)))

/-- COMPLETION: an answer or grant at a halt (13 R370), or at the junction on its way to another die. -/
def execCompletion (src dst : Part) (s : State) : Host.Outcome State Fault Refusal :=
  .next (s.keep (s.quiet.onHead src dst (fun s m =>
    match m, dst with
    | .compl rq st val aux mods, .halt h =>
      match rq.who with
      | .queue _ core q => some (s.haltCompl h.toNat core q rq st val aux mods)
      | _ => none
    | .compl rq st val aux mods, .jct =>
      match rq.who with
      | .die .. => some (if rq.req.op = 0x15 then s.sendCpl rq st aux false mods else s.sendCpl rq st val false 0)
      | _ => none
    | .beatAnswer d i st, .jct => some (s.sendBeatCpl d i st)
    | .remoteAnswer core q false seq st val mods, .halt h => if q.toNat < 26 then some (s.haltRemote h.toNat core q false seq st val mods) else none
    | _, _ => none)))

/-- MOVE_DESTINATION_ACK (02 R64 steps 4 to 6). -/
def execMoveDestinationAck (src dst : Part) (s : State) : Host.Outcome State Fault Refusal :=
  .next (s.keep (s.quiet.onHead src dst (fun s m =>
    match m, dst with
    | .moveAck a d rq, .stn x => some (s.moveFinish x.toNat a d rq)
    | _, _ => none)))

/-- MOVE_NOTICE (02 R64): addresses follow the object, and its lowest value is registered at the destination. -/
def execMoveNotice (src dst : Part) (s : State) : Host.Outcome State Fault Refusal :=
  .next (s.keep (s.quiet.onHead src dst (fun s m =>
    match m, dst with
    | .moveNotice a d, .halt h =>
      let s := s.modHalt h.toNat (fun ht => { ht with
        waits := ht.waits.map (fun e => if e.2.v ∧ e.2.addrV ∧ e.2.addr = a then (e.1, { e.2 with addr := d }) else e)
        script := match ht.script.cmp with
          | some (x, v) => if x = a then { ht.script with cmp := some (d, v) } else ht.script
          | none => ht.script })
      some (s.haltReg h.toNat d false)
    | .moveNotice a d, .jct =>
      let s := s.modJct (fun j => { j with
        proxies := j.proxies.map (fun e => if !e.far ∧ e.loc = a then { e with loc := d } else e)
        ttBound := if j.ttBound = some a then some d else j.ttBound
        box := { j.box with threads := j.box.threads.map (fun e => match e.2.cmp with
          | some (x, v) => if x = a then (e.1, { e.2 with cmp := some (d, v) }) else e
          | none => e) } })
      some (s.homeReg d)
    | _, _ => none)))

/-! ### Meanings: the halt's timers -/

/-- WAIT_SIDING (03 R90): the event is the 64 fclk having passed. -/
def execWaitSiding (h : BitVec 4) (reg : BitVec 9) (s : State) : Host.Outcome State Fault Refusal :=
  .next (s.keep (
    let s := s.quiet
    let hn := h.toNat
    let i := reg.toNat
    let w := s.wait hn i
    let c := 24 * (i / 24)
    if w.v ∧ i < 384 ∧ i % 24 < 16 ∧ w.luisk ∧ (w.op = 0x02 ∨ w.op = 0x09 ∨ w.op = 0x10) then
      match [c + 22, c + 23].find? (fun j => !(s.wait hn j).v && !(s.wait hn j).stale) with
      | some j =>
        let s := s.modWait hn j (fun _ => { w with sided := true, homeQ := qTag i })
        let s := s.modWait hn i (fun _ => WaitReg.init)
        s.drive (.note .siding (qCore hn i) (qTag i) (BitVec.ofNat 96 (j % 2)))
      | none => s.bump F.HALT_WAITS_NO_SIDING hn
    else s))

/-- Operations the halt itself ages: not those a waiter record times, and not a fence (03 R92). -/
def agedByHalt (op : BitVec 6) : Bool := op.toNat ∉ [0x00, 0x09, 0x0C, 0x14, 0x1C]

/-- Ages saturate at the largest value of their field. -/
def ageUp (a : BitVec 22) : BitVec 22 := if a = BitVec.allOnes 22 then a else a + 1

/-- HALT_AGE_TICK (03 R92). -/
def execHaltAgeTick (h : BitVec 4) (s : State) : Host.Outcome State Fault Refusal :=
  .next (s.keep (s.quiet.modHalt h.toNat (fun ht => { ht with
    waits := ht.waits.map (fun e => if e.2.v ∧ agedByHalt e.2.op then (e.1, { e.2 with age := ageUp e.2.age }) else e)
    script := match ht.script.state, ht.script.wait with
      | .waiting, some rq => if rq.req.op = 0x02 ∨ rq.req.op = 0x04 then { ht.script with age := ageUp ht.script.age } else ht.script
      | _, _ => ht.script })))

/-- Census records of a wait register or siding, and of a halt's script (13 R382, R383). -/
def State.censusWait (s : State) (h i : Nat) (st : Status) : State :=
  let w := s.wait h i
  let q := if w.sided then w.homeQ else qTag i
  let req : Req := ⟨w.op, w.pav, w.gen, 0, qCore h i, q, false, w.ret, false, 0, w.exp⟩
  s.census (h / 4) st (bnat w.sided) req (s.identOf (.queue (BitVec.ofNat 4 h) (qCore h i) q)).toNat w.addr w.age.toNat w.exp none
def State.censusScript (s : State) (h : Nat) (st : Status) : State :=
  let t := (s.halt h).script
  match t.wait with
  | some rq => s.census (h / 4) st 2 rq.req (s.censusIdent rq.who) rq.addr t.age.toNat rq.req.operand none
  | none => s

/-- WAIT_TIMEOUT (03 R92, 08 R232): register 384 is the script's. -/
def execWaitTimeout (h : BitVec 4) (reg : BitVec 9) (s : State) : Host.Outcome State Fault Refusal :=
  .next (s.keep (
    let s := s.quiet
    let hn := h.toNat
    let i := reg.toNat
    if i = 384 then
      let t := (s.halt hn).script
      match t.state, t.wait with
      | .waiting, some rq =>
        let out := s.net.any (fun m => match m.msg with
          | .compl x _ _ _ _ => decide (m.dst = .halt h ∧ x.who = rq.who ∧ x.req = rq.req)
          | _ => false)
        if s.waitLimit rq.req.pav ≠ 0 ∧ s.waitLimit rq.req.pav ≤ t.age.toNat ∧ (rq.req.op = 0x02 ∨ rq.req.op = 0x04) ∧ !out then
          let s := s.censusScript hn .timeout
          let s := (s.modHalt hn (fun ht => { ht with script := { ht.script with age := 0 } })).scriptWake hn rq.addr .timeout 0
          if rq.req.op = 0x02 ∧ (s.haltLowest hn rq.addr).isNone then s.haltReg hn rq.addr true else s
        else s
      | _, _ => s
    else
      let w := s.wait hn i
      if i < 384 ∧ w.v ∧ agedByHalt w.op ∧ s.waitLimit w.pav ≠ 0 ∧ s.waitLimit w.pav ≤ w.age.toNat then
        (s.censusWait hn i .timeout).dropWait hn i .timeout
      else s))

/-- HALT_STALE_EXPIRY (11 R320): 2^21 fclk have passed. -/
def execHaltStaleExpiry (h : BitVec 4) (reg : BitVec 9) (s : State) : Host.Outcome State Fault Refusal :=
  .next (s.keep (
    let s := s.quiet
    let w := s.wait h.toNat reg.toNat
    if w.stale then (s.modWait h.toNat reg.toNat (fun w => { w with stale := false })).bump F.PAV_LATE_COUNT 0 w.pav.toNat else s))

/-- JUNCTION_STALE_EXPIRY (13 R378). -/
def execJunctionStaleExpiry (core : BitVec 8) (q : BitVec 5) (s : State) : Host.Outcome State Fault Refusal :=
  .next (s.keep (
    let s := s.quiet
    let k := core.toNat * 32 + q.toNat
    if s.jct.remoteStale.any (fun e => e.1 = k) then
      let s := s.modJct (fun j => { j with remoteStale := j.remoteStale.filter (fun e => e.1 ≠ k) })
      let (go, stay) := s.jct.remoteHeld.partition (fun rq => remoteKey rq = some k)
      go.foldl (fun s rq => s.sendRemote rq) (s.modJct (fun j => { j with remoteHeld := stay }))
    else s))

/-! ### Meanings: waiter records at stations (05 R144) -/

/-- STATION_AGE_TICK. -/
def execStationAgeTick (x : BitVec 2) (s : State) : Host.Outcome State Fault Refusal :=
  .next (s.keep (s.quiet.modMem x.toNat (fun m => { m with waiters := m.waiters.map (fun w => { w with age := ageUp w.age }) })))

/-- The limit that times a waiter record, in units of 1,024 fclk (05 R144). -/
def State.recordLimit (s : State) (w : Waiter) : Nat :=
  if w.rq.req.op = 0x0C then s.lockLimit w.rq.req.pav else s.waitLimit w.rq.req.pav

/-- The grants that may follow when a waiter leaves its queue (05 R140, 07 R196, R209, R211). -/
def State.waiterGone (s : State) (si pon : Nat) : State :=
  match (s.slot si pon).kind with
  | .sem => s.semGrants si pon
  | .ticket => s.tickGrants si pon (s.waitersOf si pon).length
  | .ring => s.reserveGrants si pon (s.waitersOf si pon).length
  | _ => s

/-- Census record of a waiter record, or of a held commit or release. -/
def State.censusWaiter (s : State) (si : Nat) (w : Waiter) (st : Status) : State :=
  let held := w.rq.req.op = 0x1D ∨ w.rq.req.op = 0x1E
  s.census si st (if held then 4 else 3) w.rq.req (s.censusIdent w.rq.who) (s.addrOf si w.pon) w.age.toNat
    (if held then w.rq.req.operand else BitVec.ofNat 64 (waiterN w.rq)) (some (s.slot si w.pon).val)

/-- WAITER_TIMEOUT: a record at its limit is removed and answered with TIMEOUT, and a census record written. -/
def execWaiterTimeout (x : BitVec 2) (row : BitVec 13) (s : State) : Host.Outcome State Fault Refusal :=
  .next (s.keep (
    let s := s.quiet
    let si := x.toNat
    match (s.mem si).waiters.find? (fun w => w.row = row.toNat) with
    | none => s
    | some w =>
      if s.recordLimit w = 0 ∨ w.age.toNat < s.recordLimit w then s
      else
        let s := s.censusWaiter si w .timeout
        let k := (s.slot si w.pon).kind
        let s := if k = .glock ∨ k = .mlock then s.dropLockWaiter si w.pon w.row else s.dropWaiter si w.row
        let val := if k = .glock ∨ k = .mlock then
            grantWord .timeout false false false none (BitVec.ofNat 2 w.rq.req.operand.toNat) (s.ent si w.pon).grants
          else 0
        (s.answer si w.rq .timeout val).waiterGone si w.pon))

/-! ### Meanings: context bases (16 R427, R431) -/

/-- CONTEXT_BASE_LOAD. A LOAD while the halt asks for the queue's base stands as the answer (16 R451; assumption log 96). -/
def execContextBaseLoad (core : BitVec 8) (q : BitVec 5) (base : Word32) (s : State) : Host.Outcome State Fault Refusal :=
  .next (s.keep (
    let s := s.quiet
    if q.toNat < 24 then s.modHalt (core.toNat / 16) (fun ht => { ht with
      bases := tset 0 ht.bases (waitIdx core q) base, asking := ht.asking.filter (· ≠ waitIdx core q) }) else s))

/-- CONTEXT_BASE_READ. -/
def execContextBaseRead (core : BitVec 8) (q : BitVec 5) (s : State) : Host.Outcome State Fault Refusal :=
  .next (s.keep (
    let s := s.quiet
    if q.toNat < 24 then s.drive (.cbData core q (tget 0 (s.halt (core.toNat / 16)).bases (waitIdx core q))) else s))

/-- CONTEXT_BASE_ANSWER: the queue's context-local requests are no longer held (13 R376). -/
def execContextBaseAnswer (core : BitVec 8) (q : BitVec 5) (base : Word32) (s : State) : Host.Outcome State Fault Refusal :=
  .next (s.keep (
    let s := s.quiet
    let i := waitIdx core q
    if q.toNat < 24 ∧ (s.halt (core.toNat / 16)).asking.contains i then
      s.modHalt (core.toNat / 16) (fun ht => { ht with bases := tset 0 ht.bases i base, asking := ht.asking.filter (· ≠ i) })
    else s))

end Sys2Proof.Machine
end

