-- ==== Sys2Proof/Machine/SignalSpace.lean ====
section
/-! DEFINITION. Signal space (03 R94 to R96), beats at the fold-intake window (06 R169), and durability
reports, which free what signal space waits for. -/

namespace Sys2Proof.Machine

/-! ### Signal space -/

/-- Fields of a signal-space address (03 R94). -/
def ssPav (a : SsAccess) : BitVec 6 := a.addr.extractLsb' 24 6
def ssHandle (a : SsAccess) : BitVec 20 := a.addr.extractLsb' 4 20
def ssSel (a : SsAccess) : Nat := (a.addr.extractLsb' 0 4).toNat

/-- A valid access: 8 bytes at select 0x0 or 0x8, and a store only at 0x0 (03 R94). -/
def ssValid (a : SsAccess) : Bool := a.size = 8 && (ssSel a = 0 || ssSel a = 8)

/-- The request the halt builds of an access (03 R95). -/
def State.ssReq (s : State) (a : SsAccess) (op : BitVec 6) (operand : Word64) (posted : Bool) (addr : GAddr) : HReq :=
  let core := if a.isCore then a.core else 0
  let q : BitVec 5 := if a.isCore then 24 else 25
  ⟨⟨op, ssPav a, s.gen (ssPav a), ssHandle a, core, q, false, false, false, 0, operand⟩, addr, .queue a.halt core q, posted,
    if posted then none else some (a.rtn ++ a.txid), false, none⟩

/-- What an access becomes by the object's kind (03 R94); none for a store the kind refuses. -/
def ssOp (a : SsAccess) (store : Bool) (k : Kind) : Option (BitVec 6 × Word64) :=
  if store then
    match k with
    | .counter => some (0x01, a.data)
    | .sem => some (0x08, a.data &&& 0xFFFFFFFF)
    | .glock | .mlock => some (0x0D, 0)
    | _ => none
  else if ssSel a = 8 then some (0x04, 0)
  else match k with
    | .glock | .mlock => some (0x0C, 0)
    | .ticket => some (0x14, 1)
    | _ => some (0x04, 0)

/-- The kind the serving station returns. Of an object on another die the spec does not say how the
station knows it: a free value (assumption log 24). -/
def State.ssKindOf (s : State) (a : SsAccess) (addr : GAddr) : Kind × State :=
  if aSrc addr = s.srcOf (.halt a.halt) then
    let d := s.resolve addr moveFuel
    ((s.slot (aStn d).toNat (aPon d)).kind, s)
  else
    let (w, s) := s.fresh
    ((Kind.ofCode (w.toNat % 16)).getD .free, s)

/-- The map row of an access's handle is read (12 R341). -/
def State.ssRead (s : State) (a : SsAccess) : Bool × State :=
  s.readMap (a.halt.toNat / 4) (ssPav a) (ssHandle a) ((ssHandle a).toNat / 2 ^ 16 = 0xF) 0

/-- The access's pavilion and handle at the serving station, and its answer on the way back (03 R95). -/
def State.ssAsk (s : State) (a : SsAccess) (store : Bool) : State :=
  let h := a.halt.toNat
  let s := s.occur (.halt a.halt) 0x10 1
  let sv := Part.stn (BitVec.ofNat 2 (h / 4))
  match s.translate (h / 4) (ssPav a) (ssHandle a) ((ssHandle a).toNat / 2 ^ 16 = 0xF) true 0 with
  | .error st => s.emit sv (.halt a.halt) (.kind a store st 0 .free)
  | .ok addr =>
    let (k, s) := s.ssKindOf a addr
    s.emit sv (.halt a.halt) (.kind a store .done addr k)

/-- Accesses the halt answers itself (03 R96, 11 R323, 13 R372). -/
def State.ssRefusal (s : State) (a : SsAccess) (store : Bool) : Option Status :=
  if !ssValid a ∨ (store ∧ ssSel a = 8) then some .denied
  else if s.pavFrozen (ssPav a) then some .frozen
  else if s.flag F.REC_STAT_FAILED (a.halt.toNat / 4) then some .fault
  else none

def State.ssRefuse (s : State) (a : SsAccess) (st : Status) : State :=
  let s := if ssValid a then s else s.bump F.HALT_REJ_RSVD_OP a.halt.toNat
  (s.occur (.halt a.halt) 0x10 1).drive (.err (.halt a.halt) a.rtn a.txid st)

/-- SIGNAL_SPACE_LOAD (03 R94 to R96). -/
def execSignalSpaceLoad (a : SsAccess) (s : State) : Host.Outcome State Fault Refusal :=
  .next (s.keep (
    let s := s.quiet
    if s.haltStalled a.halt.toNat then s
    else match s.ssRefusal a false with
      | some st => (s.free1 a.halt.toNat 1).ssRefuse a st
      | none =>
        let rd := s.ssRead a
        if rd.1 then (rd.2.free1 a.halt.toNat 1).ssAsk a false else rd.2))

/-- SIGNAL_SPACE_STORE: the retention entry is taken and the write response returned at acceptance. -/
def execSignalSpaceStore (a : SsAccess) (s : State) : Host.Outcome State Fault Refusal :=
  .next (s.keep (
    let s := s.quiet
    let p := Part.halt a.halt
    if s.haltStalled a.halt.toNat then s
    else match s.ssRefusal a true with
      | some st => (s.free1 a.halt.toNat 1).ssRefuse a st
      | none =>
        let rd := s.ssRead a
        let s := rd.2
        if retCapacity p ≤ (s.origin p).ret.length ∨ !rd.1 then s
        else
          let s := s.retain p ⟨0, false, 0, s.ssReq a 0 a.data true 0, none, false⟩
          ((s.free1 a.halt.toNat 1).drive (.wrsp p a.rtn a.txid)).ssAsk a true))

/-- Take the entry of the oldest store whose kind was not known. -/
def dropUnstamped : List Retained → List Retained
  | [] => []
  | e :: l => if e.stamped then e :: dropUnstamped l else l

/-- Stamp, retain and send a request of signal space to its object. -/
def State.ssSend (s : State) (a : SsAccess) (rq : HReq) : State :=
  if opRetained rq.req.op then
    let (q, s) := s.stamp (.halt a.halt)
    let rq := { rq with req := { rq.req with seq := q } }
    let s := if rq.posted then s.modHalt a.halt.toNat (fun ht => { ht with unackedPav := tmod 0 ht.unackedPav rq.req.pav.toNat (· + 1) }) else s
    (s.retainReq (.halt a.halt) rq).route rq
  else s.route rq

/-- The kind of an access's object is known (03 R96). -/
def State.ssKnown (s : State) (a : SsAccess) (store : Bool) (st : Status) (addr : GAddr) (k : Kind) : State :=
  let h := a.halt.toNat
  let p := Part.halt a.halt
  let core : BitVec 8 := if a.isCore then a.core else 0
  let q : BitVec 5 := if a.isCore then 24 else 25
  if store then
    let s := s.modOrigin p (fun o => { o with ret := dropUnstamped o.ret })
    if st ≠ .done then s.postedFail h core q st
    else match ssOp a true k with
      | none => s.postedFail h core q .denied
      | some (op, x) => s.ssSend a (s.ssReq a op x true addr)
  else if st ≠ .done then s.drive (.err p a.rtn a.txid st)
  else match ssOp a false k with
    | none => s
    | some (op, x) =>
      if opRetained op ∧ !s.room p then
        s.modHalt h (fun ht => { ht with ssHeld := ht.ssHeld ++ [⟨.stn (BitVec.ofNat 2 (h / 4)), p, .kind a store st addr k⟩] })
      else s.ssSend a (s.ssReq a op x false addr)

/-- Loads that waited for a retention entry take one, oldest first (03 R96). -/
def State.ssDrain (s : State) (h : Nat) : Nat → State
  | 0 => s
  | fuel + 1 =>
    match (s.halt h).ssHeld with
    | [] => s
    | m :: rest =>
      if !s.room (.halt (BitVec.ofNat 4 h)) then s
      else
        let s := s.modHalt h (fun ht => { ht with ssHeld := rest })
        let s := match m.msg with
          | .kind a store st addr k => s.ssKnown a store st addr k
          | _ => s
        s.ssDrain h fuel

def State.ssDrainPart (s : State) : Part → State
  | .halt h => s.ssDrain h.toNat (s.halt h.toNat).ssHeld.length
  | _ => s

/-- SIGNAL_SPACE_KIND. -/
def execSignalSpaceKind (src dst : Part) (s : State) : Host.Outcome State Fault Refusal :=
  .next (s.keep (s.quiet.onHead src dst (fun s m =>
    match m, dst with
    | .kind a store st addr k, .halt _ => some ((s.ssKnown a store st addr k).ssDrainPart dst)
    | _, _ => none)))

/-! ### Beats -/

/-- The station takes the write from the port it came in on. -/
def State.freeBeat (s : State) (b : BeatWrite) : State := s.free1 (if b.portB then 20 + b.stn.toNat else 16 + b.stn.toNat) 2

/-- FOLD_BEAT (06 R169, R186; 09 R274): the receiving station translates and routes. A station that
withholds its credits takes no beat (13 R372, 14 R405). The generation is compared at the home (06 R186); a beat
for another die carries none, so it is compared here. -/
def execFoldBeat (b : BeatWrite) (s : State) : Host.Outcome State Fault Refusal :=
  .next (s.keep (
    let s := s.quiet
    let si := b.stn.toNat
    let pav : BitVec 6 := b.addr.extractLsb' 28 6
    let handle : BitVec 20 := BitVec.ofNat 20 (b.addr.extractLsb' 16 10).toNat
    let src : BeatSrc := .port b.stn b.isCore b.core b.rtn b.txid b.portB
    let beat : Beat := ⟨src, 0, pav, b.tag, b.addr.extractLsb' 26 2, b.addr.extractLsb' 0 16, b.be, b.data⟩
    if !s.serving ∨ s.withholding si then s
    else if s.flag F.REC_STAT_FAILED si then (s.freeBeat b).answerBeat si beat .fault
    else
    let rd := s.readMap si pav handle false 0
    let s := rd.2
    if !rd.1 then s
    else
    let s := s.freeBeat b
    match s.translate si pav handle false false 0 with
      | .error st => s.answerBeat si beat st
      | .ok a =>
        let beat := { beat with addr := a }
        if aSrc a = s.srcOf (.stn b.stn) then s.arriveBeat beat
        else if b.tag ≠ s.gen pav then s.rejectBeat si beat .flushed
        else s.beatRemote beat))

/-! ### Meanings: durability (13 R363, R368) -/

/-- Routing tag that names a stream's originator in a DUR record (09 R258). -/
def streamTag (stream : BitVec 15) : BitVec 8 × BitVec 5 :=
  let p := stream.toNat / 2 ^ 9 % 32
  if p < 16 then (BitVec.ofNat 8 (16 * p), 0) else if p < 20 then (BitVec.ofNat 8 (16 * (p - 16)), 26)
  else if p = 20 then (0, 27) else (0, 29)

/-- DURABILITY_REPORT: at a local originator, or at the junction on its way to another die (09 R280). -/
def execDurabilityReport (src dst : Part) (s : State) : Host.Outcome State Fault Refusal :=
  .next (s.keep (s.quiet.onHead src dst (fun s m =>
    match m with
    | .dur stream seq home =>
      let die : BitVec 9 := stream.extractLsb' 0 9
      if die = s.dieSrc then some ((s.covered dst stream seq home).ssDrainPart dst)
      else
        let (core, q) := streamTag stream
        some (s.tx die 1 1 [recDur seq core q])
    | _ => none)))

/-- ORIGIN_RELEASE (13 R368). -/
def execOriginRelease (src dst : Part) (s : State) : Host.Outcome State Fault Refusal :=
  .next (s.keep (s.quiet.onHead src dst (fun s m =>
    match m, dst with
    | .release stream seq p, .stn x => some (s.applyRelease x.toNat stream seq p src)
    | _, _ => none)))

end Sys2Proof.Machine
end

