-- ==== Sys2Proof/Machine/ConfigPort.lean ====
section
/-! DEFINITION. The configuration port: which page and register an access reaches, the checks of R460,
fields by their access codes (R461), and the page header (17). -/

namespace Sys2Proof.Machine

/-! ### Pages -/

/-- A page that is not reserved (17 R464). -/
def pageOk (p : Nat) : Bool := decide (p ≤ 0x03) || (decide (0x08 ≤ p) && decide (p ≤ 0x2D)) || decide (0x40 ≤ p)

/-- Station of a station page. -/
def pageStn (p : Nat) : Option Nat := if 0x08 ≤ p ∧ p ≤ 0x17 then some (p % 4) else none
/-- Halt of a halt page. -/
def pageHalt (p : Nat) : Option Nat := if 0x18 ≤ p ∧ p ≤ 0x27 then some (p - 0x18) else none

/-- The page under whose number the part stands that a configuration page shows (01 R35): page n holds the part whose
latched number matches it, and a part that has latched none stands at its place in the chain. None: no part holds the
number (assumption log 77). -/
def State.shownPage (s : State) (p : Nat) : Option Nat :=
  let pick := fun (n m : Nat) (holds : Nat → Bool) (latched : Bool) =>
    match (List.range m).find? holds with
    | some i => some (p - n + i)
    | none => if latched then none else some p
  match pageStn p, pageHalt p with
  | some n, _ => pick n 4 (fun i => (s.stnId i).valid && (s.stnId i).stn.toNat == n) (s.stnId n).valid
  | _, some n =>
    let id := fun i => tget HaltId.init s.su.haltIds i
    pick n 16 (fun i => (id i).valid && (id i).halt.toNat == n) (id n).valid
  | _, _ => some p

/-- The page group, instance and offset under which a register's fields are named. The junction's box is
instance 0x18 of the box pages, its ledger and protection registers instance 0x80 (13 R389, 12 R356). -/
def canon (p off : Nat) : Nat × Nat × Nat :=
  if 0x08 ≤ p ∧ p ≤ 0x17 then (p / 4 * 4, p % 4, off)
  else if 0x18 ≤ p ∧ p ≤ 0x27 then (0x18, p - 0x18, off)
  else if p = 0x28 then (0x10, 0x18, off)
  else if p = 0x29 ∧ 0x058 ≤ off ∧ off ≤ 0x06C then (0x08, 0x80, off + 0x0A8)
  else if p = 0x29 ∧ 0x300 ≤ off ∧ off ≤ 0x358 then (0x14, 0x80, off - 0x2C0)
  else if p = 0x29 ∧ off = 0x4C0 then (0x14, 0x80, 0x400)
  else if 0x40 ≤ p then (0x40, p - 0x40, off)
  else (p, 0, off)

/-- Event bits a page's chapter defines (17 R456). -/
def evtMask (p : Nat) : Nat :=
  match (canon p 0).1 with
  | 0x00 => 0x1 | 0x01 => 0x1F | 0x02 => 0x3F | 0x03 => 0x3F | 0x08 => 0x12 | 0x0C => 0x1F | 0x10 => 0x7
  | 0x14 => 0x7F | 0x18 => 0x10 | 0x29 => 0xFFFF | 0x2A => 0xFF | 0x2B => 0x1 | 0x2C => 0x3 | 0x2D => 0xFF
  | _ => 0xFFFFFFFF

/-- PAGE_CAP.EXP (17 R464). -/
def pageExp (p : Nat) : Bool := p = 0x01 || p = 0x29 || (decide (0x14 ≤ p) && decide (p ≤ 0x17))

/-- The five-level view applies to the whole block: BLOCK_READY has not risen since reset, or the block is under
test (01 R17); and to halt `h` (13 R376). -/
def State.viewAll (s : State) : Bool := !s.su.everReady || s.su.wInstr.underTest
def State.viewHalt (s : State) (h : Nat) : Bool :=
  s.viewAll || s.get F.REC_STAT_PHASE (h / 4) ≠ 0 || (s.halt h).phase ≠ 0

/-- A refused write (17 R460 steps 4 to 6). -/
def State.cfgRefused (s : State) (p : Nat) : State := s.bump F.PAGE_STAT_REFUSED p

/-- An access to a reserved page (17 R465). -/
def State.cfgReserved (s : State) (p : Nat) (wr : Bool) : State :=
  ((((s.bump F.JG_CFGERR_COUNT).put F.JG_CFGERR_PAGE p).putB F.JG_CFGERR_WR wr)).evt 0x00 0

/-- A write that waits at the configuration port: to HM_DATA while an earlier map write has not reached all four
stations (02 R68). -/
def State.portWaits (s : State) (p off : Nat) : Bool := p = 0x03 && off = 0x0D4 && s.jct.hmWait.isSome

/-- A configuration write by R460: refused or ignored writes are answered, a write that waits at the port is
not taken, and `f` is what a write that is let through does. -/
def State.cfgAccess (s : State) (p off : Nat) (f : State → State) : State :=
  let answer := fun (t : State) => t.drive (.cfRsp 0)
  if s.parked then answer s
  else if !pageOk p then answer (s.cfgReserved p true)
  else if (pageStn p).any (fun x => let ph := s.get F.REC_STAT_PHASE x; decide (1 ≤ ph ∧ ph ≤ 5)) then s
  else if (pageHalt p).any (fun h => s.viewHalt h) then answer ((s.cfgRefused p).bump F.RC_HALT_REFUSED_COUNT)
  else if s.flag F.PAGE_LOCK_LOCK p ∧ off ∉ [0x010, 0x014, 0x018] then answer (s.cfgRefused p)
  else if 0x400 ≤ off ∧ !s.flag F.PAGE_CTL_EXPERT p then answer (s.cfgRefused p)
  else if s.portWaits p off then s
  else answer (f s)

/-! ### Fields (17 R461, R462) -/

/-- Write one field by its access code. Commands (W1S) and staged fields are the registers' own matter. -/
def State.writeField (s : State) (inst sel w : Nat) (f : Fld) : State :=
  let v := bitsOf w f.lo f.len
  match f.acc with
  | .RW => s.put f v inst sel
  | .W1C => s.put f (s.get f inst sel &&& (2 ^ f.len - 1 - v)) inst sel
  | .WC => s.put f 0 inst sel
  | .RO | .WO | .W1S | .RW2 => s

/-- The fields of a register. -/
def fieldsAt (base off : Nat) : List Fld := F.all.filter (fun f => f.page = base && f.off = off)

/-- Write a register field by field. -/
def State.writeFields (s : State) (base inst off sel w : Nat) : State :=
  (fieldsAt base off).foldl (fun s f => s.writeField inst sel w f) s

/-- Bit of a write's data. -/
def wbit (w : Word32) (i : Nat) : Bool := w.getLsbD i

/-! ### The page header (17 R454 to R458) -/

/-- PAGE_CTL. -/
def State.pageCtl (s : State) (p : Nat) (w : Word32) : State :=
  if 0x40 ≤ p then s
  else if !wbit w 0 then s.putB F.PAGE_CTL_EXPERT false p
  else if bitsOf w.toNat 8 8 = 0xA5 ∧ pageExp p ∧ !s.flag F.PAGE_LOCK_NOEXP p then s.putB F.PAGE_CTL_EXPERT true p
  else s.cfgRefused p

/-- PAGE_STAT. -/
def State.pageStat (s : State) (p : Nat) (w : Word32) : State := if wbit w 16 then s.put F.PAGE_STAT_REFUSED 0 p else s

/-- EVT_STAT, EVT_EN and EVT_SET. -/
def State.evtClear (s : State) (p : Nat) (w : Word32) : State := s.writeField p 0 w.toNat F.EVT_STAT_EVT
def State.evtEnable (s : State) (p : Nat) (w : Word32) : State := s.put F.EVT_EN_EN (w.toNat &&& evtMask p) p
def State.evtSet (s : State) (p : Nat) (w : Word32) : State :=
  s.put F.EVT_STAT_EVT (s.get F.EVT_STAT_EVT p ||| (w.toNat &&& evtMask p)) p

/-- PAGE_LOCK. -/
def State.pageLock (s : State) (p : Nat) (w : Word32) : State :=
  if 0x40 ≤ p then s
  else
    let s := if wbit w 1 then s.putB F.PAGE_LOCK_NOEXP true p else s
    if wbit w 0 then (s.putB F.PAGE_LOCK_LOCK true p).putB F.PAGE_CTL_EXPERT false p else s

/-- A row's command bit is set in the data it writes. -/
def withBit (w : Word32) (i : Nat) : Word32 := w ||| BitVec.ofNat 32 (2 ^ i)

/-- A write to a page by its number: it reaches the part whose latched number the page matches, and where no part holds the
number it is answered and changes nothing (01 R35; assumption log 77). -/
def State.pageAccess (s : State) (page off : Nat) (f : State → Nat → State) : State :=
  match s.shownPage page with
  | some p => s.cfgAccess p off (fun s => f s p)
  | none => s.drive (.cfRsp 0)

/-- EVENT_CLEAR. -/
def execEventClear (page : BitVec 7) (w : Word32) (s : State) : Host.Outcome State Fault Refusal :=
  .next (s.keep (s.quiet.pageAccess page.toNat 0x014 (fun s p => s.evtClear p w)))
/-- EVENT_SET. -/
def execEventSet (page : BitVec 7) (w : Word32) (s : State) : Host.Outcome State Fault Refusal :=
  .next (s.keep (s.quiet.pageAccess page.toNat 0x01C (fun s p => s.evtSet p w)))
/-- PAGE_EXPERT. -/
def execPageExpert (page : BitVec 7) (w : Word32) (s : State) : Host.Outcome State Fault Refusal :=
  .next (s.keep (s.quiet.pageAccess page.toNat 0x00C (fun s p => s.pageCtl p w)))
/-- PAGE_LOCK. -/
def execPageLock (page : BitVec 7) (w : Word32) (s : State) : Host.Outcome State Fault Refusal :=
  .next (s.keep (s.quiet.pageAccess page.toNat 0x024 (fun s p => s.pageLock p (withBit w 0))))
/-- PAGE_NOEXP. -/
def execPageNoexp (page : BitVec 7) (w : Word32) (s : State) : Host.Outcome State Fault Refusal :=
  .next (s.keep (s.quiet.pageAccess page.toNat 0x024 (fun s p => s.pageLock p (withBit w 1))))
/-- PAGE_STAT_CLR. -/
def execPageStatClr (page : BitVec 7) (w : Word32) (s : State) : Host.Outcome State Fault Refusal :=
  .next (s.keep (s.quiet.pageAccess page.toNat 0x010 (fun s p => s.pageStat p (withBit w 16))))

/-- RESERVED_PAGE_ACCESS (17 R465); a read of a reserved page reads zero. -/
def execReservedPageAccess (page : BitVec 7) (wr : Bool) (s : State) : Host.Outcome State Fault Refusal :=
  .next (s.keep (
    let s := s.quiet
    if pageOk page.toNat then s
    else if s.parked then s.drive (.cfRsp 0)
    else (s.cfgReserved page.toNat wr).drive (.cfRsp 0)))

/-! ### Registers that only clear a counter -/

/-- JG_CFGERR. -/
def State.cfgerrWrite (s : State) (w : Word32) : State := if wbit w 31 then s.put F.JG_CFGERR_COUNT 0 else s
/-- HALT_REJ: a write of any value clears its four fields (17 R461). -/
def State.haltRejWrite (s : State) (h : Nat) (w : Word32) : State := s.writeFields 0x18 h F.HALT_REJ_RSVD_OP.off 0 w.toNat
/-- HALT_PERR. -/
def State.haltPerrWrite (s : State) (h : Nat) (w : Word32) : State := if wbit w F.HALT_PERR_CLR.lo then s.put F.HALT_PERR_COUNT 0 h else s
/-- WATCH_STAT: CLR_HIGH sets HIGH to the occupancy. -/
def State.watchStatWrite (s : State) (si : Nat) (w : Word32) : State :=
  if wbit w F.WATCH_STAT_CLR_HIGH.lo then s.put F.WATCH_STAT_HIGH (s.mem si).rowsUsed.length si else s
/-- HALT_GANG. -/
def State.haltGangWrite (s : State) (h : Nat) (w : Word32) : State :=
  if wbit w 31 then (s.put F.HALT_GANG_SLIP_IGN 0 h).put F.HALT_GANG_SLIP_ZERO 0 h else s

end Sys2Proof.Machine
end

