-- ==== Sys2Proof/Machine/Lever.lean ====
section
/-! DEFINITION. Signal-box threads and halt scripts (08): instruction words, requests, completions, triggers,
traps and the retry entry, with the meanings of the lever instructions. -/

namespace Sys2Proof.Machine

/-! ### Threads and their entries -/

/-- The box a thread belongs to: a station's, or the junction's. -/
def State.box (s : State) : Part → SBox
  | .stn x => (s.mem x.toNat).box
  | _ => s.jct.box
def State.modBox (s : State) (p : Part) (f : SBox → SBox) : State :=
  match p with
  | .stn x => s.modMem x.toNat (fun m => { m with box := f m.box })
  | _ => s.modJct (fun j => { j with box := f j.box })

/-- Number of a thread in its box. -/
def thNum : ThreadId → Nat
  | .stn _ t => t.toNat
  | .jct t => t.toNat
  | .script _ => 0

def State.th (s : State) : ThreadId → Thread
  | .script h => (s.halt h.toNat).script
  | t => tget Thread.init (s.box (thPart t)).threads (thNum t)
def State.modTh (s : State) (t : ThreadId) (f : Thread → Thread) : State :=
  match t with
  | .script h => s.modHalt h.toNat (fun ht => { ht with script := f ht.script })
  | _ => s.modBox (thPart t) (fun b => { b with threads := tmod Thread.init b.threads (thNum t) f })

/-- A halt script's entry: its span is the whole store (08 R246, R250). -/
def State.scriptEntry (s : State) (h : Nat) : Entry where
  pav := BitVec.ofNat 6 (s.get F.HS_ENT_PAV h)
  base := 0
  len := 16
  v := true
  entry := BitVec.ofNat 12 (s.get F.HS_ENT_ENTRY h)
  retry := BitVec.ofNat 12 (s.get F.HS_ENT_RETRY h)
  retryV := s.flag F.HS_ENT_RETRY_V h
  obj := BitVec.ofNat 20 (s.get F.HS_TRIG_HANDLE h)
  trigV := s.flag F.HS_ENT_TRIG_V h
  step := BitVec.ofNat 32 (s.get F.HS_STEP_STEP h)

/-- A thread's active entry, and the entry its current run is under (08 R245). -/
def State.activeEntry (s : State) : ThreadId → Entry
  | .script h => s.scriptEntry h.toNat
  | t => tget Entry.init (s.box (thPart t)).active (thNum t)
def State.entryOf (s : State) (t : ThreadId) : Entry := (s.th t).run.getD (s.activeEntry t)

/-- The word of the program at the thread's program counter. -/
def State.fetchLever (s : State) (t : ThreadId) : Word32 :=
  match t with
  | .script h => tget 0 (s.halt h.toNat).scriptStore (s.th t).pc.toNat
  | _ => tget 0 (s.box (thPart t)).store (s.th t).pc.toNat

def Thread.reg (t : Thread) (i : Nat) : Word64 := tget 0 t.regs i
def Thread.setReg (t : Thread) (i : Nat) (v : Word64) : Thread := { t with regs := tset 0 t.regs i v }

/-- Page whose EVT_STAT a thread's traps set, and the bit (08 R239). -/
def thEvt : ThreadId → Nat × Nat
  | .stn x _ => (0x10 + x.toNat, 0)
  | .jct _ => (0x28, 0)
  | .script h => (0x18 + h.toNat, 4)

/-! ### Instruction words (08 R224 to R228) -/

def lvOp (w : Word32) : Nat := bitsOf w.toNat 26 6
def lvReg (w : Word32) : Nat := bitsOf w.toNat 22 4
def lvImm (w : Word32) : Nat := bitsOf w.toNat 0 22
/-- Opcode, with an ALU function told apart by 0x40 + its number. -/
def lvKey (w : Word32) : Nat := if lvOp w = 0x1F then 0x40 + bitsOf w.toNat 19 3 else lvOp w

/-- Instructions that name an object. -/
def lvObject (op : Nat) : Bool := op ∈ [0x04, 0x05, 0x08, 0x09, 0x0A, 0x0B, 0x0C, 0x10, 0x11, 0x12, 0x13]
/-- Instructions not available in a halt script. -/
def lvNotScript (op : Nat) : Bool := op ∈ [0x0B, 0x0C, 0x10, 0x11, 0x12, 0x13, 0x14, 0x15]

/-- A word is a legal instruction of its host (08 R240 ILLEGAL). REG is not checked where it is ignored. -/
def lvLegal (t : ThreadId) (w : Word32) : Bool :=
  let op := lvOp w
  let imm := lvImm w
  let script := match t with | .script _ => true | _ => false
  let jct := match t with | .jct _ => true | _ => false
  let regOk := decide (lvReg w < 8) || op = 0x0B || op = 0x1B
  let short := !script || imm / 16 % 256 = 0
  regOk && !(script && lvNotScript op) &&
    (if lvObject op then !jct || imm / 256 % 4096 = 0
     else match op with
      | 0x00 | 0x01 => imm = 0
      | 0x14 | 0x15 => imm / 64 = 0
      | 0x18 | 0x19 => imm / 2 ^ 16 = 0 && short
      | 0x1A | 0x1B | 0x1C => imm / 2 ^ 12 = 0 && short
      | 0x1D | 0x1E => true
      | 0x1F => imm / 2 ^ 9 % 2 ^ 10 = 0 && decide (imm / 2 ^ 19 < 5)
      | 0x20 => imm / 256 = 0
      | _ => false)

/-- Sync operation, whether it always blocks (08 R227). -/
def lvSync (op : Nat) : BitVec 6 × Bool :=
  match op with
  | 0x04 => (0x02, true) | 0x05 => (0x04, true) | 0x08 => (0x01, false) | 0x09 => (0x08, false) | 0x0A => (0x0A, true)
  | 0x0B => (0x11, false) | 0x0C => (0x18, false) | 0x10 => (0x14, true) | 0x11 => (0x1C, true) | 0x12 => (0x1D, false)
  | _ => (0x1E, false)

/-! ### Waits of threads -/

/-- A completion of a request of the thread that has not reached it yet. -/
def answerOf (t : ThreadId) (rq : HReq) (m : InFlight) : Bool :=
  decide (m.dst = thPart t) && match m.msg with
    | .compl x _ _ _ _ => decide (x.who = .thread t ∧ x.req = rq.req)
    | _ => false

/-- The part that keeps a thread's wait withdraws it (08 R239): its comparator, its watch or the waiter
record of its request. A completion already on its way is discarded, and that of a READ when it comes. -/
def State.cancelWait (s : State) (t : ThreadId) : State :=
  let th := s.th t
  let rd := th.wait.toList.filter (fun rq => rq.req.op = 0x04 && (th.state = .waiting))
  let s := s.modTh t (fun th => { th with wait := none, cmp := none, kickw := false, age := 0, cancelled := th.cancelled ++ rd })
  let s := match th.wait with
    | some rq => if rq.req.op = 0x02 then { s with net := s.net.filter (fun m => !answerOf t rq m) } else s
    | none => s
  match th.wait with
  | none => s
  | some rq =>
    if rq.req.op = 0x02 then
      match th.cmp, t with
      | some (a, _), .jct _ =>
        if aSrc a = s.dieSrc then s.homeReg a
        else if (s.boxWaitsOn a).isEmpty then s.farCancel 16 a else s
      | some (a, _), .script h =>
        let s := s.modHalt h.toNat (fun ht => { ht with scriptRefused := false })
        if (s.haltLowest h.toNat a).isNone then s.haltReg h.toNat a true else s
      | _, _ => s
    else if rq.req.op = 0x14 ∨ rq.req.op = 0x1C ∨ rq.req.op = 0x1D ∨ rq.req.op = 0x1E then
      s.emit (thPart t) (s.homePart rq.addr) (.cancel rq.addr (some rq))
    else s

/-- A trap (08 R239, R240). -/
def State.trap (s : State) (t : ThreadId) (cause code : Nat) : State :=
  let s := s.cancelWait t
  let s := s.modTh t (fun th => { th with state := .stopped, cause := BitVec.ofNat 4 cause, tcode := BitVec.ofNat 8 code, run := none })
  s.evt (thEvt t).1 (thEvt t).2

/-- The thread goes on at `n`, or traps with RANGE outside its span. -/
def State.goTo (s : State) (t : ThreadId) (n : Nat) : State :=
  let e := s.entryOf t
  let s := s.modTh t (fun th => { th with pc := BitVec.ofNat 12 n })
  if e.base.toNat ≤ n ∧ n < e.base.toNat + e.len.toNat then s else s.trap t 3 (n % 256)

def State.advance (s : State) (t : ThreadId) : State := s.goTo t ((s.th t).pc.toNat + 1)

/-- FAULT reaches a thread (08 R241). -/
def State.thFault (s : State) (t : ThreadId) : State :=
  let th := s.th t
  let e := s.entryOf t
  if th.state = .off ∨ th.state = .stopped then s
  else if !e.retryV then s.trap t 4 7
  else if th.retries = 4 then s.trap t 5 7
  else
    (s.cancelWait t).modTh t (fun th => { th with status := .fault, retries := th.retries + 1, state := .running, pc := e.retry })

/-- A blocking instruction completes (08 R229). -/
def State.thDone (s : State) (t : ThreadId) (st : Status) (val : Word64) : State :=
  if st = .fault then s.thFault t
  else
    (s.modTh t (fun th => { th.setReg 7 val with status := st, wait := none, cmp := none, age := 0, state := .running })).advance t

/-- A posted request of the thread is acknowledged (08 R229). -/
def State.thAck (s : State) (t : ThreadId) (st : Status) : State :=
  let s := s.modTh t (fun th => { th with unacked := th.unacked - 1 })
  if st = .done then s
  else if st = .fault then s.thFault t
  else
    let s := s.modTh t (fun th => { th with
      pfFirst := some (th.pfFirst.getD st)
      pfCount := BitVec.ofNat 16 (min (th.pfCount.toNat + 1) 0xFFFF) })
    match t with
    | .script _ => s
    | _ => s.evt (thEvt t).1 2

/-! ### Requests of threads (08 R219, R220, R229 to R233) -/

/-- The request of an instruction or trigger. -/
def State.thReq (s : State) (t : ThreadId) (op : BitVec 6) (obj : Nat) (posted fol : Bool) (operand : Word64) : HReq :=
  let pav := (s.entryOf t).pav
  let h : BitVec 20 := match t with | .jct _ => 0 | _ => BitVec.ofNat 20 obj
  ⟨⟨op, pav, s.gen pav, h, 0, 25, fol, !posted, decide (obj / 2 ^ 16 = 0xF), 0, operand⟩, 0, .thread t, posted, none, false, none⟩

/-- The address-table entry of a junction-box index, if the thread may use it (08 R230). -/
def State.atEntry (s : State) (i : Nat) (pav : BitVec 6) : Option GAddr :=
  if s.flag F.SB_AT_V 0x18 i ∧ s.get F.SB_AT_PAV 0x18 i = pav.toNat then some (BitVec.ofNat 25 (s.get F.SB_AT_ADDR 0x18 i)) else none

/-- Serving station of a thread that has one. -/
def thServing : ThreadId → Nat
  | .stn x _ => x.toNat
  | .script h => h.toNat / 4
  | .jct _ => 0

/-- The address the thread's request will have: none if it fails before. -/
def State.thAddr (s : State) (t : ThreadId) (obj : Nat) (pav : BitVec 6) : Option GAddr :=
  match t with
  | .jct _ => s.atEntry (obj % 256) pav
  | _ => match s.translate (thServing t) pav (BitVec.ofNat 20 obj) (obj / 2 ^ 16 = 0xF) false 0 with
    | .ok a => some a
    | .error _ => none

/-- The map row of the thread's object is read (12 R341). -/
def State.thReadMap (s : State) (t : ThreadId) (obj : Nat) (pav : BitVec 6) : Bool × State :=
  match t with
  | .jct _ => (true, s)
  | _ => s.readMap (thServing t) pav (BitVec.ofNat 20 obj) (obj / 2 ^ 16 = 0xF) 0

/-- A state-changing request that needs a retention entry finds none (08 R233). -/
def State.thNoRoom (s : State) (t : ThreadId) (op : BitVec 6) (addr : Option GAddr) : Bool :=
  let own := match t, addr with
    | .stn x _, some a => decide (aSrc a = s.srcOf (thPart t)) && x == aStn a
    | _, _ => false
  opRetained op && !own && !s.room (thPart t) addr

/-- Launch a thread's request. A WAIT or trigger of a station box on another station's object is DENIED
(08 R231). -/
def State.thLaunch (s : State) (t : ThreadId) (rq : HReq) (addr : Option GAddr) : State :=
  let p := thPart t
  match t with
  | .jct _ =>
    match addr with
    | none => s
    | some a =>
      let rq := { rq with addr := a }
      if opRetained rq.req.op then
        let (q, s) := s.stamp p
        let rq := { rq with req := { rq.req with seq := q } }
        (s.retainReq p rq).route rq
      else s.route rq
  | .script h => s.launch h.toNat rq 0
  | .stn x _ =>
    let far : Bool := match addr with
      | some a => !(decide (aSrc a = s.dieSrc) && decide (aStn (s.resolve a moveFuel) = x))
      | none => false
    if rq.req.op = 0x02 ∧ far then s.answerFrom p rq .denied 0
    else if opRetained rq.req.op then
      let (q, s) := s.stamp p
      s.serve x.toNat { rq with req := { rq.req with seq := q } } false 0
    else s.serve x.toNat rq false 0

/-- The thread waits for the answer of `rq`, a WAIT or trigger with its comparator or wait on the object: of a station
box, on an object of its station (08 R231). -/
def State.thWaits (s : State) (t : ThreadId) (st : ThState) (rq : HReq) (addr : Option GAddr) : State :=
  let cmp := match addr with
    | some a =>
      let d := if aSrc a = s.dieSrc then s.resolve a moveFuel else a
      let own := match t with | .stn x _ => decide (aSrc d = s.dieSrc) && aStn d == x | _ => true
      if rq.req.op = 0x02 ∧ own = true then some (d, rq.req.operand) else none
    | none => none
  s.modTh t (fun th => { th with state := st, wait := some { rq with addr := addr.getD 0 }, cmp := cmp, age := 0 })

/-- The sequence number the part will stamp next goes into the request the thread remembers. -/
def State.withSeq (s : State) (t : ThreadId) (rq : HReq) : HReq :=
  if opRetained rq.req.op then { rq with req := { rq.req with seq := (s.origin (thPart t)).seq + 1 } } else rq

/-- The trigger of an entry is registered: the thread is ARMED (08 R236). Where the map row of its object is uncorrectable it
is registered after the station's recovery. -/
def State.thTrigger (s : State) (t : ThreadId) : State :=
  let e := s.activeEntry t
  let rd := s.thReadMap t e.obj.toNat e.pav
  let s := rd.2
  if !rd.1 then s.modTh t (fun th => { th with state := .armed, wait := none, cmp := none, age := 0 }) else
  let rq := s.thReq t 0x02 e.obj.toNat false false ((s.th t).reg 6)
  let a := s.thAddr t e.obj.toNat e.pav
  let s := s.thWaits t .armed rq a
  match t, a with
  | .jct _, none => s.trap t 7 (e.obj.toNat % 256)
  | _, _ => s.thLaunch t rq a

/-- An entry is malformed (08 R240 RANGE, R244). -/
def inSpan (e : Entry) (n : Nat) : Bool := decide (e.base.toNat ≤ n) && decide (n < e.base.toNat + e.len.toNat)
def Entry.malformed (e : Entry) : Bool :=
  e.len = 0 || decide (4096 < e.base.toNat + e.len.toNat) || !inSpan e e.entry.toNat || (e.retryV && !inSpan e e.retry.toNat)

/-- A thread is armed again, at its END or at a swap (08 R236, R245): a malformed active entry traps it. -/
def State.thRearm (s : State) (t : ThreadId) : State :=
  if (s.activeEntry t).malformed then s.trap t 3 ((s.th t).pc.toNat % 256) else s.thTrigger t

/-- A run begins at the entry address, or the trigger is registered (08 R236). -/
def State.thStart (s : State) (t : ThreadId) : State :=
  let e := s.activeEntry t
  if e.trigV then s.thTrigger t else s.modTh t (fun th => { th with state := .running, pc := e.entry })

/-- The ledger records a box thread's registers at its arming and its END (08 R243). -/
def State.thSnap (s : State) (t : ThreadId) : State :=
  match t with
  | .script _ => s
  | _ => s.modBox (thPart t) (fun b => { b with snap := tset [] b.snap (thNum t) (tget Thread.init b.threads (thNum t)).regs })

/-! ### Issuing -/

/-- The thread's host is in service. -/
def State.thServed (s : State) : ThreadId → Bool
  | .stn x _ => s.serving && !s.resetDue (.stn x) && s.get F.REC_STAT_PHASE x.toNat == 0 && !s.flag F.REC_STAT_FAILED x.toNat
  | .jct _ => s.serving && !s.resetDue .jct && s.get F.FD_JREC_PHASE == 0
  | .script h => !s.haltStalled h.toNat

/-- A box's round-robin moves past a thread that issues (08 R223; assumption log 79). -/
def State.turnBox (s : State) (t : ThreadId) : State :=
  match t with
  | .stn x n => s.modStn x.toNat (fun st => { st with rr := n + 1 })
  | .jct n => s.modJct (fun j => { j with rr := n + 1 })
  | .script _ => s

/-- The program-store row that a thread fetches from is read (12 R338, R341); false if it is uncorrectable. -/
def State.readFetch (s : State) (t : ThreadId) : Bool × State :=
  let pc := (s.th t).pc.toNat
  match t with
  | .stn x _ => s.reads x.toNat 0 (fun ram row => ram = 0x08 && row = pc)
  | .jct _ => s.reads 4 0 (fun ram row => ram = 0x1B && row = pc)
  | .script h => s.reads (h.toNat / 4) 0 (fun ram row => ram = 0x10 + h.toNat % 4 && row = 0x4C0 + pc)

/-- Issue the instruction at the program counter if its key is `key`: `f` executes it. Otherwise the row is
no event. -/
def State.issue (s : State) (t : ThreadId) (key : Nat) (f : State → Word32 → State) : State :=
  let th := s.th t
  let w := s.fetchLever t
  if !s.thServed t ∨ th.state ≠ .running ∨ th.spin = 65536 ∨ lvKey w ≠ key then s
  else
  let rd := s.readFetch t
  let s := rd.2
  if !rd.1 then s
  else if !lvLegal t w then (s.turnBox t).trap t 2 (lvOp w)
  else f ((s.turnBox t).occur (thPart t) 0x2D 1) w

/-- An instruction that names no object, nor a doorbell, counts towards SPIN (08 R240). -/
def State.spun (s : State) (t : ThreadId) : State := s.modTh t (fun th => { th with spin := th.spin + 1 })

/-- A register instruction: `f` changes the thread, which goes on at the next word. -/
def State.issueReg (s : State) (t : ThreadId) (key : Nat) (f : Thread → Word32 → Thread) : State :=
  s.issue t key (fun s w => ((s.modTh t (fun th => f th w)).spun t).advance t)

/-- A branch: taken to the target when `p` holds. -/
def State.issueBranch (s : State) (t : ThreadId) (key : Nat) (f : Thread → Word32 → Thread) (p : Thread → Word32 → Bool) : State :=
  s.issue t key (fun s w =>
    let s := (s.modTh t (fun th => f th w)).spun t
    if p (s.th t) w then s.goTo t (lvImm w % 4096) else s.advance t)

/-- An object instruction (08 R225, R226, R229). -/
def State.issueObject (s : State) (t : ThreadId) (key : Nat) : State :=
  s.issue t key (fun s w =>
    let th := s.th t
    let e := s.entryOf t
    let (op, always) := lvSync (lvOp w)
    let imm := lvImm w
    let obj := imm % 2 ^ 20
    let posted := !always && imm / 2 ^ 20 % 2 = 0
    let operand := if lvOp w = 0x05 ∨ lvOp w = 0x0B then 0 else th.reg (lvReg w)
    let rd := s.thReadMap t obj e.pav
    if s.pavFrozen e.pav then s.modTh t (fun th => { th with state := .held })
    else if !rd.1 then rd.2
    else
      let s := rd.2
      let a := s.thAddr t obj e.pav
      match t, a with
      | .jct _, none => s.trap t 7 (obj % 256)
      | _, _ =>
        if s.thNoRoom t op a then s
        else
          let rq := s.thReq t op obj posted (imm / 2 ^ 21 % 2 = 1) operand
          let s := s.modTh t (fun th => { th with spin := 0 })
          if posted then
            let s := (s.modTh t (fun th => { th with unacked := th.unacked + 1 })).thLaunch t rq a
            s.advance t
          else (s.thWaits t .waiting (s.withSeq t rq) a).thLaunch t rq a)

/-- KICK and KICKW (08 R237): the write leaves with a WR credit of the part's mesh port (16 R435). -/
def State.issueKick (s : State) (t : ThreadId) (key : Nat) (wait : Bool) : State :=
  s.issue t key (fun s w =>
    let i := lvImm w % 64
    let e := s.entryOf t
    let d := tget Doorbell.init (s.box (thPart t)).doorbells i
    if s.pavFrozen e.pav then s.modTh t (fun th => { th with state := .held })
    else if !d.v ∨ d.pav ≠ e.pav then s.trap t 7 i
    else if s.credits (partEndpoint (thPart t)) 2 = 0 then s
    else
      let s := s.spendCredit (partEndpoint (thPart t)) 2
      let s := (s.modTh t (fun th => { th with spin := 0 })).drive (.kick (thPart t) d.addr ((s.th t).reg (lvReg w)))
      if wait then s.modTh t (fun th => { th with state := .waiting, kickw := true }) else s.advance t)

/-! ### Meanings: instructions (08 R227, R228) -/

/-- END (08 R236): it waits for every posted request of the thread. -/
def execLeverEnd (t : ThreadId) (s : State) : Host.Outcome State Fault Refusal :=
  .next (s.keep (s.quiet.issue t 0x00 (fun s _ =>
    let th := s.th t
    if th.unacked ≠ 0 then s
    else
      let e := s.entryOf t
      let s := (s.spun t).modTh t (fun th => { th.setReg 6 (th.reg 6 + e.step.zeroExtend 64) with
        retries := 0, run := none, runs := BitVec.ofNat 16 (min (th.runs.toNat + 1) 0xFFFF) })
      let s := s.thSnap t
      let n := s.activeEntry t
      if n.v ∧ n.trigV then s.thRearm t else s.modTh t (fun th => { th with state := .off }))))
/-- STOP. -/
def execLeverStop (t : ThreadId) (s : State) : Host.Outcome State Fault Refusal :=
  .next (s.keep (s.quiet.issue t 0x01 (fun s _ => if (s.th t).unacked ≠ 0 then s else s.trap t 11 0)))
/-- WAIT. -/
def execLeverWait (t : ThreadId) (s : State) : Host.Outcome State Fault Refusal := .next (s.keep (s.quiet.issueObject t 0x04))
/-- READ. -/
def execLeverRead (t : ThreadId) (s : State) : Host.Outcome State Fault Refusal := .next (s.keep (s.quiet.issueObject t 0x05))
/-- SIG. -/
def execLeverSig (t : ThreadId) (s : State) : Host.Outcome State Fault Refusal := .next (s.keep (s.quiet.issueObject t 0x08))
/-- POST. -/
def execLeverPost (t : ThreadId) (s : State) : Host.Outcome State Fault Refusal := .next (s.keep (s.quiet.issueObject t 0x09))
/-- DEC. -/
def execLeverDec (t : ThreadId) (s : State) : Host.Outcome State Fault Refusal := .next (s.keep (s.quiet.issueObject t 0x0A))
/-- ARRIVE. -/
def execLeverArrive (t : ThreadId) (s : State) : Host.Outcome State Fault Refusal := .next (s.keep (s.quiet.issueObject t 0x0B))
/-- FOLD. -/
def execLeverFold (t : ThreadId) (s : State) : Host.Outcome State Fault Refusal := .next (s.keep (s.quiet.issueObject t 0x0C))
/-- TICK. -/
def execLeverTick (t : ThreadId) (s : State) : Host.Outcome State Fault Refusal := .next (s.keep (s.quiet.issueObject t 0x10))
/-- RSV. -/
def execLeverRsv (t : ThreadId) (s : State) : Host.Outcome State Fault Refusal := .next (s.keep (s.quiet.issueObject t 0x11))
/-- CMT. -/
def execLeverCmt (t : ThreadId) (s : State) : Host.Outcome State Fault Refusal := .next (s.keep (s.quiet.issueObject t 0x12))
/-- REL. -/
def execLeverRel (t : ThreadId) (s : State) : Host.Outcome State Fault Refusal := .next (s.keep (s.quiet.issueObject t 0x13))
/-- KICK. -/
def execLeverKick (t : ThreadId) (s : State) : Host.Outcome State Fault Refusal := .next (s.keep (s.quiet.issueKick t 0x14 false))
/-- KICKW. -/
def execLeverKickw (t : ThreadId) (s : State) : Host.Outcome State Fault Refusal := .next (s.keep (s.quiet.issueKick t 0x15 true))

/-- STATUS equals the immediate status of a BEQ or BNE. -/
def lvStatusIs (th : Thread) (w : Word32) : Bool := th.status.code == lvImm w / 4096 % 16

/-- BEQ. -/
def execLeverBeq (t : ThreadId) (s : State) : Host.Outcome State Fault Refusal :=
  .next (s.keep (s.quiet.issueBranch t 0x18 (fun th _ => th) lvStatusIs))
/-- BNE. -/
def execLeverBne (t : ThreadId) (s : State) : Host.Outcome State Fault Refusal :=
  .next (s.keep (s.quiet.issueBranch t 0x19 (fun th _ => th) (fun th w => !lvStatusIs th w)))
/-- BZ. -/
def execLeverBz (t : ThreadId) (s : State) : Host.Outcome State Fault Refusal :=
  .next (s.keep (s.quiet.issueBranch t 0x1A (fun th _ => th) (fun th w => th.reg (lvReg w) = 0)))
/-- B. -/
def execLeverB (t : ThreadId) (s : State) : Host.Outcome State Fault Refusal :=
  .next (s.keep (s.quiet.issueBranch t 0x1B (fun th _ => th) (fun _ _ => true)))
/-- LOOP. -/
def execLeverLoop (t : ThreadId) (s : State) : Host.Outcome State Fault Refusal :=
  .next (s.keep (s.quiet.issueBranch t 0x1C (fun th w => th.setReg (lvReg w) (th.reg (lvReg w) - 1)) (fun th w => th.reg (lvReg w) ≠ 0)))

/-- IMM sign-extended from bit 21. -/
def lvSigned (w : Word32) : Word64 := (w.extractLsb' 0 22).signExtend 64

/-- SETI. -/
def execLeverSeti (t : ThreadId) (s : State) : Host.Outcome State Fault Refusal :=
  .next (s.keep (s.quiet.issueReg t 0x1D (fun th w => th.setReg (lvReg w) (lvSigned w))))
/-- ADDI. -/
def execLeverAddi (t : ThreadId) (s : State) : Host.Outcome State Fault Refusal :=
  .next (s.keep (s.quiet.issueReg t 0x1E (fun th w => th.setReg (lvReg w) (th.reg (lvReg w) + lvSigned w))))

/-- Register Lb and the shift count of an ALU instruction. -/
def lvB (th : Thread) (w : Word32) : Word64 := th.reg (lvImm w % 8)
def lvShift (w : Word32) : Nat := lvImm w / 8 % 64

/-- ALU ADD. -/
def execLeverAluAdd (t : ThreadId) (s : State) : Host.Outcome State Fault Refusal :=
  .next (s.keep (s.quiet.issueReg t 0x40 (fun th w => th.setReg (lvReg w) (th.reg (lvReg w) + lvB th w))))
/-- ALU SUB. -/
def execLeverAluSub (t : ThreadId) (s : State) : Host.Outcome State Fault Refusal :=
  .next (s.keep (s.quiet.issueReg t 0x41 (fun th w => th.setReg (lvReg w) (th.reg (lvReg w) - lvB th w))))
/-- ALU AND. -/
def execLeverAluAnd (t : ThreadId) (s : State) : Host.Outcome State Fault Refusal :=
  .next (s.keep (s.quiet.issueReg t 0x42 (fun th w => th.setReg (lvReg w) (th.reg (lvReg w) &&& lvB th w))))
/-- ALU SHL. -/
def execLeverAluShl (t : ThreadId) (s : State) : Host.Outcome State Fault Refusal :=
  .next (s.keep (s.quiet.issueReg t 0x43 (fun th w => th.setReg (lvReg w) (th.reg (lvReg w) <<< lvShift w))))
/-- ALU SHR. -/
def execLeverAluShr (t : ThreadId) (s : State) : Host.Outcome State Fault Refusal :=
  .next (s.keep (s.quiet.issueReg t 0x44 (fun th w => th.setReg (lvReg w) (th.reg (lvReg w) >>> lvShift w))))

/-- A key that some instruction row issues. -/
def lvKnown (k : Nat) : Bool :=
  lvObject k || k ∈ [0x00, 0x01, 0x14, 0x15, 0x18, 0x19, 0x1A, 0x1B, 0x1C, 0x1D, 0x1E, 0x20, 0x40, 0x41, 0x42, 0x43, 0x44]

/-- TRAP; and the ILLEGAL trap of a word that is no instruction of any row (08 R240, assumption log 25). -/
def execLeverTrap (t : ThreadId) (s : State) : Host.Outcome State Fault Refusal :=
  .next (s.keep (
    let s := s.quiet
    let w := s.fetchLever t
    s.issue t (if lvKnown (lvKey w) then 0x20 else lvKey w) (fun s w => s.trap t 1 (lvImm w % 256))))

/-- SPIN_TRAP (08 R240). -/
def execSpinTrap (t : ThreadId) (s : State) : Host.Outcome State Fault Refusal :=
  .next (s.keep (
    let s := s.quiet
    if (s.th t).state = .running ∧ (s.th t).spin = 65536 then s.trap t 8 0 else s))

/-! ### Meanings: completions and triggers -/

/-- The thread a routing tag of another die's answer names (09 R258). -/
def tagThread (core : BitVec 8) (q : BitVec 5) : Option ThreadId :=
  if q = 26 then some (.stn (core.extractLsb' 4 2) (core.extractLsb' 0 4))
  else if q = 27 then some (.jct (core.extractLsb' 0 4))
  else if q = 28 then some (.script (core.extractLsb' 0 4))
  else none

/-- A message that belongs to a thread. -/
def forThread (t : ThreadId) : Msg → Bool
  | .ack rq _ => decide (rq.who = .thread t)
  | .compl rq _ _ _ _ => decide (rq.who = .thread t)
  | .remoteAnswer core q _ _ _ _ _ => decide (tagThread core q = some t)
  | _ => false

/-- The oldest message for a thread that stands at the head of its pair (01 R16). -/
def State.thMsg (s : State) (t : ThreadId) : Option InFlight :=
  s.net.find? (fun m => decide (m.dst = thPart t) && forThread t m.msg && decide (s.head? m.src m.dst = some m.msg))

/-- The value of a station box's watched object reaches the comparator, or the object is orphaned (08 R231). -/
def State.thReached (s : State) (t : ThreadId) : Option (Status × Word64) :=
  match t, (s.th t).cmp with
  | .stn x _, some (a, e) =>
    let sl := s.slot x.toNat (aPon a)
    if s.stopped (.stn x) then none
    else if s.flag F.REC_STAT_FAILED x.toNat then some (.fault, 0)
    else if e.toNat ≤ sl.val.toNat then
      some (s.reachedStatus x.toNat (aPon a) e.toNat, (s.foldWord x.toNat (aPon a)).getD sl.val)
    else if sl.orphan then some (.orphan, 0) else none
  | _, _ => none

/-- A CPL of another die with a failure frees the request's entry (13 R363). -/
def State.thFreed (s : State) (t : ThreadId) (seq : BitVec 8) (st : Status) : State :=
  if (st = .denied ∨ st = .unmapped ∨ st = .fault ∨ st = .flushed) ∧ seq ≠ 0 then s.unretain (thPart t) seq else s

/-- A completion of a READ that was cancelled: it is discarded (08 R239). -/
def State.thLate (s : State) (t : ThreadId) (p : HReq → Bool) : State :=
  s.modTh t (fun th => { th with cancelled := th.cancelled.eraseP p })

/-- The CPL that another die gives for a thread's blocking request: of a retained one by its SEQ, of a READ the oldest
outstanding (08 R239). -/
def State.thRemote (s : State) (t : ThreadId) (seq : BitVec 8) (st : Status) (v : Word64) : State :=
  let th := s.th t
  let far := fun (w : HReq) => decide (aSrc w.addr ≠ s.dieSrc)
  if th.state = .waiting ∧ th.wait.any (fun w => opRetained w.req.op && far w && w.req.seq = seq) then s.thDone t st v
  else if th.cancelled.any far then s.thLate t far
  else if th.state = .waiting ∧ th.wait.any (fun w => w.req.op = 0x04 && far w && seq = 0) then s.thDone t st v
  else s

/-- LEVER_COMPLETION (08 R229, R239): an answer to the thread, or the value its comparator waits for. -/
def execLeverCompletion (t : ThreadId) (s : State) : Host.Outcome State Fault Refusal :=
  .next (s.keep (
    let s := s.quiet
    let th := s.th t
    match s.thMsg t with
    | none =>
      match if th.state = .waiting then s.thReached t else none with
      | some (st, v) => s.thDone t st v
      | none => s
    | some m =>
      match m.msg with
      | .ack _ st => (s.pop m.src m.dst).thAck t st
      | .remoteAnswer _ _ true seq st _ _ => ((s.pop m.src m.dst).thFreed t seq st).thAck t st
      | .remoteAnswer _ _ false seq st v _ => ((s.pop m.src m.dst).thFreed t seq st).thRemote t seq st v
      | .compl rq st v _ _ =>
        if th.state = .armed ∧ th.wait.any (fun w => w.req = rq.req) then s
        else
          let s := s.pop m.src m.dst
          if rq.req.op = 0x04 ∧ th.cancelled.any (fun w => w.req = rq.req) then s.thLate t (fun w => w.req = rq.req)
          else if th.state = .waiting ∧ th.wait.any (fun w => w.req = rq.req) then s.thDone t st v else s
      | _ => s))

/-- The answer that has come to the registration of an ARMED thread's trigger. -/
def State.thAnswer (s : State) (t : ThreadId) : Option (InFlight × Status × Word64) :=
  match s.thMsg t with
  | some m =>
    match m.msg with
    | .compl rq st v _ _ => if (s.th t).wait.any (fun w => w.req = rq.req) then some (m, st, v) else none
    | _ => none
  | none => none

/-- A trigger ends (08 R236). -/
def State.thTriggered (s : State) (t : ThreadId) (st : Status) (v : Word64) : State :=
  if st = .done then
    s.modTh t (fun th => { th.setReg 7 v with status := .done, wait := none, cmp := none, state := .running, pc := (s.activeEntry t).entry })
  else if st = .fault then s.thFault t
  else if st = .flushed then s.trap t 6 st.code
  else s.trap t 9 st.code

/-- TRIGGER (08 R236). -/
def execTrigger (t : ThreadId) (s : State) : Host.Outcome State Fault Refusal :=
  .next (s.keep (
    let s := s.quiet
    let th := s.th t
    if th.state ≠ .armed then s
    else match s.thAnswer t with
      | some (m, st, v) => (s.pop m.src m.dst).thTriggered t st v
      | none =>
        match s.thReached t with
        | some (st, v) => s.thTriggered t st v
        | none => s))

/-- DOORBELL_WRITE_RESPONSE (08 R237): FAULT goes to the retry entry as for any blocking completion. -/
def execDoorbellWriteResponse (t : ThreadId) (err : Bool) (s : State) : Host.Outcome State Fault Refusal :=
  .next (s.keep (
    let s := s.quiet
    let th := s.th t
    if th.state = .waiting ∧ th.kickw then
      if err then s.thFault t
      else (s.modTh t (fun th => { th with status := .done, kickw := false, state := .running })).advance t
    else s))

/-- Part of a box: stations 0 to 3, the junction 4. -/
def boxPart (b : Nat) : Part := if b < 4 then .stn (BitVec.ofNat 2 b) else .jct
def boxThread (b : Nat) (t : Nat) : ThreadId :=
  if b < 4 then .stn (BitVec.ofNat 2 b) (BitVec.ofNat 4 t) else .jct (BitVec.ofNat 4 t)

/-- One thread at its box's tick (08 R232): a WAIT or READ at its limit ends with TIMEOUT, unless it has been released (R247). -/
def State.thAge (s : State) (b : Nat) (t : ThreadId) : State :=
  let th := s.th t
  match th.state, th.wait with
  | .waiting, some rq =>
    if rq.req.op = 0x02 ∨ rq.req.op = 0x04 then
      let s := s.modTh t (fun th => { th with age := ageUp th.age })
      let age := (s.th t).age.toNat
      let lim := s.waitLimit rq.req.pav
      if lim = 0 ∨ age < lim ∨ s.net.any (answerOf t rq) then s
      else match s.thReached t with
      | some (st, v) => s.thDone t st v
      | none =>
        let val := if b < 4 ∧ aSrc rq.addr = s.dieSrc then some (s.slot b (aPon (s.resolve rq.addr moveFuel))).val else none
        let s := s.census b .timeout (if b < 4 then 5 else 6) rq.req (s.censusIdent rq.who) rq.addr age rq.req.operand val
        (s.cancelWait t).thDone t .timeout 0
    else s
  | _, _ => s

/-- BOX_AGE_TICK (08 R232). -/
def execBoxAgeTick (box : BitVec 3) (s : State) : Host.Outcome State Fault Refusal :=
  .next (s.keep (
    let s := s.quiet
    let b := box.toNat
    if 4 < b then s else (List.range 16).foldl (fun s i => s.thAge b (boxThread b i)) s))

end Sys2Proof.Machine
end

