-- ==== Sys2Proof/Machine/LeverCmd.lean ====
section
/-! DEFINITION. The manager's commands to signal boxes and halt scripts (08 R236, R239, R244 to R250) and
the report of refused timetable writes (10 R300). -/

namespace Sys2Proof.Machine

/-- A write to a timetabled setting is refused and reported to the junction (10 R300): cause 0 active bank,
1 committed shadow. -/
def State.ttDeny (s : State) (page off cause : Nat) : State :=
  (((((s.bump F.TT_DENY_COUNT).put F.TT_DENY_LAST_PAGE page).put F.TT_DENY_LAST_OFFSET off).put F.TT_DENY_LAST_CAUSE cause).put
    F.TT_DENY_LAST_STATUS 6).evt 2 2

/-- Instance of the box registers, and page, of box `b` (4 the junction's). -/
def boxInst (b : Nat) : Nat := if b < 4 then b else 0x18
def boxPage (b : Nat) : Nat := if b < 4 then 0x10 + b else 0x28

/-- The thread that THR_SEL selects. -/
def State.selThread (s : State) (b : Nat) : ThreadId := boxThread b (s.get F.THR_SEL_THR (boxInst b))

/-! ### The program store (08 R245) -/

/-- A protected word. -/
def SBox.protects (b : SBox) (n : Nat) : Bool :=
  b.active.any (fun e => e.2.v && inSpan e.2 n) ||
    b.threads.any (fun t => match t.2.run with
      | some e => (t.2.state = .running || t.2.state = .waiting || t.2.state = .held) && inSpan e n
      | none => false)

/-- A refused write at a box (08 R249): the count, the word or thread, and the event. -/
def State.boxRefused (s : State) (b n : Nat) : State :=
  ((s.bump F.SB_PW_REF_COUNT (boxInst b)).put F.SB_PW_REF_LAST n (boxInst b)).evt (boxPage b) 1

/-- SB_PW_DATA. -/
def State.pwWrite (s : State) (b : Nat) (w : Word32) : State :=
  let i := boxInst b
  let n := s.get F.SB_PW_IDX_IDX i
  let s := if (s.box (boxPart b)).protects n then s.boxRefused b n
    else s.modBox (boxPart b) (fun x => { x with store := tset 0 x.store n w })
  if s.flag F.SB_PW_IDX_INC i then s.put F.SB_PW_IDX_IDX (n + 1) i else s

/-- SB_PW_REF. -/
def State.pwRefWrite (s : State) (b : Nat) (w : Word32) : State :=
  if wbit w 31 then s.put F.SB_PW_REF_COUNT 0 (boxInst b) else s

/-! ### Doorbells and addresses -/

/-- SB_DB_LO, SB_DB_HI and SB_DB_CFG. -/
def State.doorbellWrite (s : State) (b off : Nat) (w : Word32) : State :=
  let n := s.get F.SB_DB_SEL_IDX (boxInst b)
  s.modBox (boxPart b) (fun x => { x with doorbells := tmod Doorbell.init x.doorbells n (fun d =>
    if off = 0x054 then { d with addr := d.addr.extractLsb' 32 32 ++ (w &&& ~~~7#32) }
    else if off = 0x058 then { d with addr := w ++ d.addr.extractLsb' 0 32 }
    else { d with pav := w.extractLsb' 0 6, v := wbit w 6 }) })

/-- SB_AT, of the junction's box alone. -/
def State.atWrite (s : State) (b : Nat) (w : Word32) : State :=
  if b < 4 then s else s.writeFields 0x10 0x18 0x064 (s.get F.SB_AT_SEL_IDX 0x18) w.toNat

/-! ### Entries (08 R244) -/

/-- One register of an entry. -/
def entryWrite (e : Entry) (off : Nat) (w : Word32) : Entry :=
  if off = 0x0C4 then { e with base := w.extractLsb' 0 12, len := w.extractLsb' 12 13, v := wbit w 25, pav := w.extractLsb' 26 6 }
  else if off = 0x0C8 then { e with entry := w.extractLsb' 0 12, retry := w.extractLsb' 12 12, retryV := wbit w 24 }
  else if off = 0x0CC then { e with obj := w.extractLsb' 0 20, trigV := wbit w 20 }
  else { e with step := w }

/-- ENT_SPAN, ENT_PC, ENT_TRIG and ENT_STEP: the shadow bank, or a refusal (10 R300). -/
def State.entWrite (s : State) (b off : Nat) (w : Word32) : State :=
  let t := s.get F.THR_SEL_THR (boxInst b)
  if s.flag F.ENT_SEL_BANK (boxInst b) then (s.boxRefused b t).ttDeny (boxPage b) off 0
  else if s.flag F.TT_STAT_COMMITTED then (s.evt (boxPage b) 1).ttDeny (boxPage b) off 1
  else s.modBox (boxPart b) (fun x => { x with shadow := tmod Entry.init x.shadow t (fun e => entryWrite e off w) })

/-! ### Threads -/

def Thread.idle (t : Thread) : Bool := t.state = .off || t.state = .stopped

/-- Why an ARM is refused (THR_CTL.CODE), 0 none. -/
def State.armCode (s : State) (t : ThreadId) : Nat :=
  let e := s.activeEntry t
  if (s.th t).state ≠ .off then 1 else if !e.v then 2 else if !s.runOpen e.pav then 3 else 0

/-- An OFF thread is armed (08 R236, R243). -/
def State.thArm (s : State) (t : ThreadId) : State :=
  if (s.activeEntry t).malformed then s.trap t 3 ((s.th t).pc.toNat % 256)
  else ((s.modTh t (fun th => { th with spin := 0, run := none })).thSnap t).thStart t

/-- STOP (08 R239): a thread that is not STOPPED traps with cause MANAGER. -/
def State.thStop (s : State) (t : ThreadId) : State := if (s.th t).state = .stopped then s else s.trap t 10 0

/-- CLEAR: STOPPED to OFF. -/
def State.thClear (s : State) (t : ThreadId) : State :=
  if (s.th t).state = .stopped then
    s.modTh t (fun th => { th with state := .off, cause := 0, tcode := 0, pfFirst := none })
  else s

/-- THR_CTL: its commands in bit order. -/
def State.thrCtl (s : State) (b : Nat) (w : Word32) : State :=
  let i := boxInst b
  let n := s.get F.THR_SEL_THR i
  let t := boxThread b n
  let s := if wbit w 6 then s.put F.THR_CTL_REFUSED 0 i n else s
  let s := if wbit w 0 then
      let c := s.armCode t
      let s := (s.putB F.THR_CTL_ERR (c ≠ 0) i n).put F.THR_CTL_CODE c i n
      if c = 0 then s.thArm t else s
    else s
  let s := if wbit w 1 then s.thStop t else s
  if wbit w 2 then s.thClear t else s

/-- Write a half of a thread's register. -/
def halfWrite (v : Word64) (hi : Bool) (w : Word32) : Word64 :=
  if hi then w ++ v.extractLsb' 0 32 else v.extractLsb' 32 32 ++ w

/-- THR_REG_LO and THR_REG_HI. -/
def State.thrReg (s : State) (b : Nat) (hi : Bool) (w : Word32) : State :=
  let i := boxInst b
  let n := s.get F.THR_SEL_THR i
  let t := boxThread b n
  let r := s.get F.THR_REG_SEL_REG i
  if (s.th t).idle then s.modTh t (fun th => th.setReg r (halfWrite (th.reg r) hi w))
  else s.putB F.THR_CTL_REFUSED true i n

/-! ### Halt scripts (08 R246, R250) -/

/-- A script register that only an OFF or STOPPED script lets a write into. -/
def State.scriptWrite (s : State) (h off : Nat) (w : Word32) : State :=
  if !(s.halt h).script.idle then s.bump F.HS_CTL_REFUSED h
  else if off = 0x084 then
    s.modHalt h (fun ht => { ht with scriptStore := tset 0 ht.scriptStore (s.get F.HS_IDX_IDX h) w })
  else if off = 0x09C ∨ off = 0x0A0 then
    let r := s.get F.HS_REG_SEL_REG h
    s.modTh (.script (BitVec.ofNat 4 h)) (fun th => th.setReg r (halfWrite (th.reg r) (off = 0x0A0) w))
  else s.writeFields 0x18 h off 0 w.toNat

/-- HS_CTL: its commands in bit order. -/
def State.hsCtl (s : State) (h : Nat) (w : Word32) : State :=
  let t : ThreadId := .script (BitVec.ofNat 4 h)
  let s := if wbit w 0 ∧ s.armCode t = 0 then s.thArm t else s
  let s := if wbit w 1 then s.thStop t else s
  if wbit w 2 then s.thClear t else s

/-! ### Meanings -/

/-- PROGRAM_STORE_WRITE (08 R245). -/
def execProgramStoreWrite (box : BitVec 3) (w : Word32) (s : State) : Host.Outcome State Fault Refusal :=
  .next (s.keep (s.quiet.cfgAccess (boxPage box.toNat) 0x044 (fun s => s.pwWrite (min box.toNat 4) w)))
/-- THREAD_ARM (08 R236). -/
def execThreadArm (box : BitVec 3) (w : Word32) (s : State) : Host.Outcome State Fault Refusal :=
  .next (s.keep (s.quiet.cfgAccess (boxPage box.toNat) 0x084 (fun s => s.thrCtl (min box.toNat 4) (withBit w 0))))
/-- THREAD_STOP (08 R239). -/
def execThreadStop (box : BitVec 3) (w : Word32) (s : State) : Host.Outcome State Fault Refusal :=
  .next (s.keep (s.quiet.cfgAccess (boxPage box.toNat) 0x084 (fun s => s.thrCtl (min box.toNat 4) (withBit w 1))))
/-- THREAD_CLEAR (08 R249). -/
def execThreadClear (box : BitVec 3) (w : Word32) (s : State) : Host.Outcome State Fault Refusal :=
  .next (s.keep (s.quiet.cfgAccess (boxPage box.toNat) 0x084 (fun s => s.thrCtl (min box.toNat 4) (withBit w 2))))
/-- THREAD_REGISTER_WRITE (08 R249). -/
def execThreadRegisterWrite (box : BitVec 3) (hi : Bool) (w : Word32) (s : State) : Host.Outcome State Fault Refusal :=
  .next (s.keep (s.quiet.cfgAccess (boxPage box.toNat) (if hi then 0x098 else 0x094) (fun s => s.thrReg (min box.toNat 4) hi w)))
/-- HALT_SCRIPT_WRITE (08 R246): the store, the entry and the registers of the script. -/
def execHaltScriptWrite (h : BitVec 4) (off : BitVec 12) (w : Word32) (s : State) : Host.Outcome State Fault Refusal :=
  .next (s.keep (
    if off.toNat ∈ [0x084, 0x088, 0x08C, 0x090, 0x09C, 0x0A0] then
      s.quiet.cfgAccess (0x18 + h.toNat) off.toNat (fun s => s.scriptWrite h.toNat off.toNat w)
    else s.quiet))
/-- HALT_SCRIPT_ARM. -/
def execHaltScriptArm (h : BitVec 4) (w : Word32) (s : State) : Host.Outcome State Fault Refusal :=
  .next (s.keep (s.quiet.cfgAccess (0x18 + h.toNat) 0x094 (fun s => s.hsCtl h.toNat (withBit w 0))))
/-- HALT_SCRIPT_STOP. -/
def execHaltScriptStop (h : BitVec 4) (w : Word32) (s : State) : Host.Outcome State Fault Refusal :=
  .next (s.keep (s.quiet.cfgAccess (0x18 + h.toNat) 0x094 (fun s => s.hsCtl h.toNat (withBit w 1))))
/-- HALT_SCRIPT_CLEAR. -/
def execHaltScriptClear (h : BitVec 4) (w : Word32) (s : State) : Host.Outcome State Fault Refusal :=
  .next (s.keep (s.quiet.cfgAccess (0x18 + h.toNat) 0x094 (fun s => s.hsCtl h.toNat (withBit w 2))))
/-- SB_PW_REF_CLR. -/
def execSbPwRefClr (box : BitVec 3) (w : Word32) (s : State) : Host.Outcome State Fault Refusal :=
  .next (s.keep (s.quiet.cfgAccess (boxPage box.toNat) 0x048 (fun s => s.pwRefWrite (min box.toNat 4) (withBit w 31))))

end Sys2Proof.Machine
end

