-- ==== Sys2Proof/Machine/Gang.lean ====
section
/-! DEFINITION. Gangs (04 R117 to R134): enabling and disabling, release, slip, hold and derail. Times are
those of the halt-wire boundary as far as the model's clock tells them apart (assumption log 5). -/

namespace Sys2Proof.Machine

/-! ### Rectangles (01 R9, 04 R117) -/

def coreX (c : Nat) : Nat := c / 64 % 2 * 8 + c / 16 % 2 * 4 + c % 4
def coreY (c : Nat) : Nat := c / 128 % 2 * 8 + c / 32 % 2 * 4 + c / 4 % 4

/-- Cores of the rectangle with origin (x, y), 2^wl wide and 2^hl high. -/
def inRect (x y wl hl c : Nat) : Bool :=
  decide (x ≤ coreX c) && decide (coreX c < x + 2 ^ wl) && decide (y ≤ coreY c) && decide (coreY c < y + 2 ^ hl)

def State.gangHas (s : State) (g c : Nat) : Bool :=
  inRect (s.get F.GANG_CFG_X0 0 g) (s.get F.GANG_CFG_Y0 0 g) (s.get F.GANG_CFG_WL 0 g) (s.get F.GANG_CFG_HL 0 g) c
def State.gangCores (s : State) (g : Nat) : List Nat := (List.range 256).filter (fun c => s.gangHas g c)
/-- Halts that serve a core of the gang. -/
def State.gangHalts (s : State) (g : Nat) : List Nat :=
  (List.range 16).filter (fun h => (List.range 16).any (fun c => s.gangHas g (16 * h + c)))
def State.gangState (s : State) (g : Nat) : Nat := s.get F.GANG_STAT_STATE 0 g

/-- SHAPE holds (R117). -/
def shapeOk (x y wl hl : Nat) : Bool :=
  decide (wl ≤ 4) && decide (hl ≤ 4) && x % 2 ^ wl == 0 && y % 2 ^ hl == 0

/-- Hold lead L (R117, R125). -/
def State.gangLead (s : State) (g : Nat) : Nat :=
  if s.get F.GANG_CFG_WL 0 g ≤ 2 ∧ s.get F.GANG_CFG_HL 0 g ≤ 2 then 4 else 12

/-- CMASK of a list of cores. -/
def coresMask (l : List Nat) : BitVec 256 := l.foldl (fun m c => m ||| (1#256 <<< c)) 0

/-! ### ENABLE and DISABLE -/

/-- Why ENABLE is refused (R118, R311), 0 none: the first case in table order. -/
def State.gangCode (s : State) (g : Nat) : Nat :=
  let x := s.get F.GANG_CFG_X0 0 g
  let y := s.get F.GANG_CFG_Y0 0 g
  let p := s.get F.GANG_CFG_PAV 0 g
  let a : GAddr := BitVec.ofNat 25 (s.get F.GANG_TS_ADDR 0 g)
  let si := (aStn a).toNat
  let sl := s.slot si (aPon a)
  let t := s.turn si (aPon a)
  let live := fun (i : Nat) => s.gangState i ≠ 0
  if live g then 1
  else if !shapeOk x y (s.get F.GANG_CFG_WL 0 g) (s.get F.GANG_CFG_HL 0 g) then 2
  else if (List.range 32).any (fun i => live i && (s.gangCores g).any (fun c => s.gangHas i c)) then 3
  else if aSrc a ≠ s.dieSrc ∨ sl.kind ≠ .turnstile ∨ sl.pav.toNat ≠ p ∨ 32 ≤ t.gang.toNat then 4
  else if s.turnMask t ≠ 0#128 ++ coresMask (s.gangCores g) then 5
  else if t.cur ≠ 0 ∨ t.nxt ≠ 0 then 6
  else if s.get F.PQ_RES_GANG 0 p ≤ ((List.range 32).filter (fun i => live i && s.get F.GANG_CFG_PAV 0 i == p)).length then 8
  else 0

def State.gangErr (s : State) (g code : Nat) : State := (s.putB F.GANG_STAT_ERR true 0 g).put F.GANG_STAT_CODE code 0 g

/-- ENABLE. -/
def State.gangEnable (s : State) (g : Nat) : State :=
  let c := s.gangCode g
  if c ≠ 0 then s.gangErr g c
  else
    let a : GAddr := BitVec.ofNat 25 (s.get F.GANG_TS_ADDR 0 g)
    let si := (aStn a).toNat
    let v := (s.slot si (aPon a)).val
    let s := s.setTurn si (aPon a) { s.turn si (aPon a) with gang := BitVec.ofNat 6 (32 + g) }
    let s := (s.gangHalts g).foldl (fun s h => s.modHalt h (fun ht => { ht with gangs := tset 0 ht.gangs g v })) s
    let s := ((s.put F.GANG_HOLDS_COUNT 0 0 g).put F.GANG_HOLD_CYC_COUNT 0 0 g).put F.GANG_RELEASES_COUNT 0 0 g
    let s := s.modJct (fun j => { j with holds := tset 0 j.holds g 0 })
    s.put F.GANG_STAT_STATE 1 0 g

/-- Pending gang waits of a gang, by halt and register. -/
def State.gangWaits (s : State) (g : Nat) : List (Nat × Nat) :=
  (List.range 16).flatMap (fun h => ((s.halt h).waits.filter (fun e => e.2.v && e.2.gang == some (BitVec.ofNat 5 g))).map (fun e => (h, e.1)))

/-- Every pending gang wait ends with `st`. -/
def State.endGangWaits (s : State) (g : Nat) (st : Status) : State :=
  (s.gangWaits g).foldl (fun s w => s.endWait w.1 w.2 st 0) s

def State.driveAbort (s : State) (g : Nat) : State :=
  (s.gangCores g).foldl (fun s c => s.drive (.abort (BitVec.ofNat 8 c))) s
def State.driveHold (s : State) (g n : Nat) : State :=
  (s.gangCores g).foldl (fun s c => s.drive (.hold (BitVec.ofNat 8 c) (BitVec.ofNat 4 n))) s

/-- The gang wires are driven: one hold, or the abort, for all slips that were sampled in one fclk (R125, R127). -/
def State.driveWires (s : State) (g : Nat) : State :=
  let x := tget 0 s.jct.wires g
  let s := s.modJct (fun j => { j with wires := tset 0 j.wires g 0 })
  if x = 0 then s else if x = 16 then s.driveAbort g else s.driveHold g x

/-- An abort ends the freeze under way: GANG_HOLD_CYC counts the cycles frozen (R127, R133). -/
def State.cutHold (s : State) (g : Nat) : State :=
  let x := tget 0 s.jct.holds g
  if s.fclk < x / 16 + x % 16 then s.put F.GANG_HOLD_CYC_COUNT (s.get F.GANG_HOLD_CYC_COUNT 0 g - (x / 16 + x % 16 - s.fclk)) 0 g else s

/-- The gang becomes OFF: pending waits end with `st`, and with FORCE a RUNNING gang is aborted (R129), whether or not it
has waits pending (assumption log 81). -/
def State.gangOff (s : State) (g : Nat) (st : Status) (force : Bool) : State :=
  if s.gangState g = 0 then s else
    let s := s.endGangWaits g st
    let s := if force ∧ s.gangState g = 2 then (((s.driveWires g).cutHold g).driveAbort g).putB F.GANG_STAT_DR_FORCED true 0 g else s
    let a : GAddr := BitVec.ofNat 25 (s.get F.GANG_TS_ADDR 0 g)
    let si := (aStn a).toNat
    let s := if (s.slot si (aPon a)).kind = .turnstile then s.setTurn si (aPon a) { s.turn si (aPon a) with gang := 0 } else s
    let s := (List.range 16).foldl (fun s h => s.modHalt h (fun ht => { ht with gangs := tset 0 ht.gangs g 0 })) s
    let s := s.modJct (fun j => { j with holds := tset 0 j.holds g 0 })
    s.put F.GANG_STAT_STATE 0 0 g

/-- GANG_CMD. -/
def State.gangCmd (s : State) (w : Word32) : State :=
  let g := s.get F.GANG_SEL_GANG
  if wbit w 0 ∧ wbit w 1 then s.gangErr g 9
  else
  let s := s.putB F.GANG_CMD_FORCE (wbit w 2)
  if wbit w 0 then s.gangEnable g
  else if wbit w 1 then
    if !(s.gangWaits g).isEmpty ∧ !wbit w 2 then s.gangErr g 7 else s.gangOff g .derailed (wbit w 2)
  else s

/-- GANG_CFG and GANG_TS: written only while the state is OFF (R133). -/
def State.gangCfg (s : State) (off : Nat) (w : Word32) : State :=
  let g := s.get F.GANG_SEL_GANG
  if s.gangState g ≠ 0 then s.gangErr g 1 else s.writeFields 0x00 0 off g w.toNat

/-! ### Release (R123) -/

/-- The wave at a halt: the gang's phase rises and its waits that reach it end. -/
def State.gangWave (s : State) (g h : Nat) : State :=
  let v := tget 0 (s.halt h).gangs g + 1
  let s := s.modHalt h (fun ht => { ht with gangs := tset 0 ht.gangs g v })
  let ws := (s.halt h).waits.filter (fun e => e.2.v && e.2.gang == some (BitVec.ofNat 5 g) && decide (e.2.exp.toNat ≤ v.toNat))
  ws.foldl (fun s e => s.endWait h e.1 .done v) s

/-- The release of a gang. A DERAILED gang's halts take the wave too, so that their phase stays that of the turnstile
(R128; assumption log 82). -/
def State.gangRelease (s : State) (g : Nat) : State :=
  if s.gangState g = 0 then s else
    let s := (s.gangHalts g).foldl (fun s h => s.gangWave g h) s
    let s := s.bump F.GANG_RELEASES_COUNT 0 g
    if s.gangState g = 1 then s.put F.GANG_STAT_STATE 2 0 g else s

/-- GANG_FIRE: the oldest message for the gang that stands at the head of its pair. -/
def execGangFire (gang : BitVec 5) (s : State) : Host.Outcome State Fault Refusal :=
  .next (s.keep (
    let s := s.quiet
    match s.net.find? (fun m => decide (m.msg = .gangFire gang) && decide (s.head? m.src m.dst = some m.msg)) with
    | some m => (s.pop m.src m.dst).gangRelease gang.toNat
    | none => s))

/-! ### Slip, hold and derail (R124 to R128, R130) -/

/-- The gang a core's slip belongs to: one whose state is not OFF. -/
def State.gangOfCore (s : State) (c : Nat) : Option Nat :=
  (List.range 32).find? (fun g => decide (s.gangState g ≠ 0) && s.gangHas g c)

/-- The record of a derailing slip. -/
def State.derailSlip (s : State) (g c n : Nat) (cause : Bool) : State :=
  ((s.put F.GANG_STAT_LAST_N n 0 g).put F.GANG_STAT_DR_CORE c 0 g).putB F.GANG_STAT_DR_CAUSE cause 0 g

/-- The gang derails at a slip: its wires will carry GANG_ABORT. -/
def State.derail (s : State) (g c n : Nat) (cause : Bool) : State :=
  let s := (s.cutHold g).derailSlip g c n cause
  let s := (s.endGangWaits g .derailed).putB F.GANG_STAT_DR_FORCED false 0 g
  (s.modJct (fun j => { j with holds := tset 0 j.holds g (s.fclk * 16 + n), wires := tset 0 j.wires g 16 })).put F.GANG_STAT_STATE 3 0 g

/-- A hold of `n` cycles is taken: the gang's wires will carry it. -/
def State.takeHold (s : State) (g n : Nat) : State :=
  let s := ((s.bump F.GANG_HOLDS_COUNT 0 g).bump F.GANG_HOLD_CYC_COUNT 0 g n).put F.GANG_STAT_LAST_N n 0 g
  s.modJct (fun j => { j with holds := tset 0 j.holds g (s.fclk * 16 + n), wires := tset 0 j.wires g n })

/-- A slip of a RUNNING gang's core. Slips sampled in one fclk merge: one hold with the largest N, or one derail. -/
def State.slipRun (s : State) (g c n : Nat) : State :=
  let x := tget 0 s.jct.holds g
  let at' := x / 16
  let m := x % 16
  if m ≠ 0 ∧ at' = s.fclk then
    if 8 ≤ n then
      (s.put F.GANG_HOLDS_COUNT (s.get F.GANG_HOLDS_COUNT 0 g - 1) 0 g).derail g c n false
    else if n ≤ m then s
    else
      let s := (s.bump F.GANG_HOLD_CYC_COUNT 0 g (n - m)).put F.GANG_STAT_LAST_N n 0 g
      s.modJct (fun j => { j with holds := tset 0 j.holds g (s.fclk * 16 + n), wires := tset 0 j.wires g n })
  else if 8 ≤ n then s.derail g c n false
  else if m ≠ 0 ∧ at' < s.fclk ∧ s.fclk ≤ at' + s.gangLead g + m - 1 then s.derail g c n true
  else s.takeHold g n

/-- SLIP (R124, R130). -/
def State.slipOf (s : State) (c n : Nat) : State :=
  let h := c / 16
  if n = 0 then s.bump F.HALT_GANG_SLIP_ZERO h
  else match s.gangOfCore c with
    | none => s.bump F.HALT_GANG_SLIP_IGN h
    | some g =>
      let x := tget 0 s.jct.holds g
      if s.gangState g = 2 then s.slipRun g c n
      else if s.gangState g = 3 ∧ x % 16 ≠ 0 ∧ x / 16 = s.fclk then
        let last := s.get F.GANG_STAT_LAST_N 0 g
        let s := if 8 ≤ n then s.putB F.GANG_STAT_DR_CAUSE false 0 g else s
        if last < n ∨ last = n ∧ c < s.get F.GANG_STAT_DR_CORE 0 g then
          (s.put F.GANG_STAT_LAST_N n 0 g).put F.GANG_STAT_DR_CORE c 0 g
        else s
      else s.bump F.HALT_GANG_SLIP_IGN h

/-- SLIP. -/
def execSlip (core : BitVec 8) (n : BitVec 4) (s : State) : Host.Outcome State Fault Refusal :=
  .next (s.keep (s.quiet.slipOf core.toNat n.toNat))

/-! ### Meanings: commands -/

/-- GANG_ENABLE (R118). -/
def execGangEnable (w : Word32) (s : State) : Host.Outcome State Fault Refusal :=
  .next (s.keep (s.quiet.cfgAccess 0x00 0x10C (fun s => s.gangCmd (withBit w 0))))
/-- GANG_DISABLE (R129). -/
def execGangDisable (w : Word32) (s : State) : Host.Outcome State Fault Refusal :=
  .next (s.keep (s.quiet.cfgAccess 0x00 0x10C (fun s => s.gangCmd (withBit w 1))))
/-- GANG_CONFIG_WRITE (R133): GANG_CFG or GANG_TS. -/
def execGangConfigWrite (off : BitVec 12) (w : Word32) (s : State) : Host.Outcome State Fault Refusal :=
  .next (s.keep (
    if off.toNat = 0x104 ∨ off.toNat = 0x108 then s.quiet.cfgAccess 0x00 off.toNat (fun s => s.gangCfg off.toNat w) else s.quiet))
/-- HALT_GANG_CLR (R134). -/
def execHaltGangClr (h : BitVec 4) (w : Word32) (s : State) : Host.Outcome State Fault Refusal :=
  .next (s.keep (s.quiet.cfgAccess (0x18 + h.toNat) 0x060 (fun s => s.haltGangWrite h.toNat (withBit w 31))))

end Sys2Proof.Machine
end

