-- ==== Sys2Proof/Machine/Alloc.lean ====
section
/-! DEFINITION. Allocating, freeing and retiring slots (02 R47 to R52), and the station commands on their
objects: turnstile masks, drift pairs, semaphores, lock words, rings (04 R131, R132; 05 R143, R149; 07 R217). -/

namespace Sys2Proof.Machine

/-! ### Use and quotas (11 R311) -/

def Kind.live (k : Kind) : Bool := k ≠ .free && k ≠ .retired && k ≠ .moved

/-- Live slots of a pavilion in a station: each object once, so without the destinations of MOVEs under way. -/
def State.slotsOf (s : State) (si : Nat) (p : BitVec 6) : List (Nat × Slot) :=
  (s.mem si).slots.filter (fun e => e.2.kind.live && e.2.pav == p && !s.moveDest si e.1)
def State.objUse (s : State) (si : Nat) (p : BitVec 6) : Nat := (s.slotsOf si p).length
def State.kindUse (s : State) (si : Nat) (p : BitVec 6) (k : Kind) : Nat :=
  ((s.slotsOf si p).filter (fun e => e.2.kind = k)).length
def State.lineUse (s : State) (si : Nat) (p : BitVec 6) : Nat :=
  ((s.slotsOf si p).filter (fun e => e.2.kind = .foldCounter)).foldl (fun n e => n + 64 * foldNlg e.2) 0

/-- An allocation of `k` with LINK `link` would exceed a quota. -/
def State.overQuota (s : State) (si : Nat) (p : BitVec 6) (k : Kind) (link : Nat) : Bool :=
  let n := if k = .ring then 4 else 1
  decide (s.get F.PQ_OBJ_OBJ 0 p.toNat < s.objUse si p + n) ||
    (k = .foldCounter && decide (s.get F.PQ_FOLD_LINES 0 p.toNat < s.lineUse si p + 64 * (link / 2 ^ 15))) ||
    (k = .turnstile && decide (s.get F.PQ_RES_TS 0 p.toNat < s.kindUse si p .turnstile + 1)) ||
    (k = .mlock && decide (s.get F.PQ_RES_MLQ 0 p.toNat < s.kindUse si p .mlock + 1))

/-! ### Choice of a slot (R51) -/

/-- A FREE slot that no MOVE has reserved. -/
def State.slotFree (s : State) (si pon : Nat) : Bool :=
  let sl := s.slot si pon
  sl.kind = .free && !sl.frozen

/-- The lowest FREE slot, or four-aligned group of four. -/
def State.findSlot (s : State) (si : Nat) (ring : Bool) : Option Nat :=
  let n := (s.mem si).slots.length + 1
  if ring then
    (lowestFrom (fun g => (List.range 4).all (fun i => s.slotFree si (4 * g + i))) 0 (min n 4096)).map (4 * ·)
  else lowestFrom (fun i => s.slotFree si i) 0 (min n 16384)

/-! ### LINK (R48, R52; 06 R161; 07 R194, R205) -/

/-- A fold region [first, first + n) meets a region of the station or a retired bank. -/
def State.linesTaken (s : State) (si first n : Nat) : Bool :=
  (s.mem si).slots.any (fun e => e.2.kind = .foldCounter &&
    decide (foldFirst e.2 < first + n) && decide (first < foldFirst e.2 + 64 * foldNlg e.2)) ||
  (s.stn si).retiredBanks.any (fun b => decide (2048 * b < first + n) && decide (first < 2048 * (b + 1)))

/-- A bound object is unsuitable. -/
def State.boundBad (s : State) (si : Nat) (p : BitVec 6) (b : Nat) : Bool :=
  let sl := s.slot si b
  !(sl.kind = .counter || (sl.kind = .ringPart && sl.link.toNat % 4 = 1)) || sl.pav ≠ p ||
    (s.mem si).boundList.any (fun e => e.2 = b)

/-- LINK names nothing it may name (CODE LINK). -/
def State.linkBad (s : State) (si : Nat) (p : BitVec 6) (k : Kind) (link : Nat) : Bool :=
  match k with
  | .sem | .glock => (s.mem si).slots.any (fun e => (e.2.kind = .sem || e.2.kind = .glock) && e.2.link.toNat % 4096 == link % 4096) ||
    (s.stn si).retiredRows.contains (2, link % 4096)
  | .foldCounter =>
    let first := link % 2 ^ 15
    let nlg := link / 2 ^ 15
    first % 64 ≠ 0 || nlg = 0 || decide (32768 < first + 64 * nlg) || s.linesTaken si first (64 * nlg)
  | .ring => !(decide (6 ≤ link % 32) && decide (link % 32 ≤ 24))
  | .ticket => tickBv (BitVec.ofNat 24 link) && s.boundBad si p (tickBpon (BitVec.ofNat 24 link))
  | _ => false

/-- No record, lock queue or bound-table entry is left (CODE NORES). -/
def State.noRes (s : State) (si : Nat) (k : Kind) (link : Nat) : Bool :=
  (k = .turnstile && (s.freeTurn si).isNone) || (k = .mlock && (s.freeLockq si).isNone) ||
    (k = .ticket && tickBv (BitVec.ofNat 24 link) && (s.freeBound si).isNone)

/-- LINK as the slot holds it (R37). -/
def State.linkStored (s : State) (si : Nat) (k : Kind) (ctxl : Bool) (link : Nat) : Nat :=
  match k with
  | .counter => if ctxl then link % 2 ^ 16 else 0
  | .sem | .glock => link % 4096
  | .mlock => (s.freeLockq si).getD 0
  | .turnstile => (s.freeTurn si).getD 0
  | .ring => link % 32
  | _ => link

/-! ### Commands -/

/-- Pavilion in SAVED or RESTORING (11 R335). -/
def State.pavBusy (s : State) (p : BitVec 6) : Bool := s.pavState p == 4 || s.pavState p == 6

/-- Write a new object into its slot. -/
def State.newObject (s : State) (si pon : Nat) (k : Kind) (p : BitVec 6) (ctxl : Bool) (link : Nat) : State :=
  let l := s.linkStored si k ctxl link
  let s := s.modSlot si pon (fun _ => { Slot.free with kind := k, pav := p, ctxl := ctxl, link := BitVec.ofNat 24 l })
  match k with
  | .sem => s.modMem si (fun m => { m with sems := tset SemEnt.init m.sems l SemEnt.init })
  | .glock => s.modMem si (fun m => { m with sems := tset SemEnt.init m.sems l { SemEnt.init with lock := true } })
  | .mlock => s.modMem si (fun m => { m with lockqs := tset SemEnt.init m.lockqs l { SemEnt.init with lock := true } })
  | .turnstile => s.modMem si (fun m => { m with turns := tset TurnRec.init m.turns l TurnRec.init })
  | .foldCounter => (s.freshRegion si pon).modHdr si pon (fun _ => FoldHdr.init)
  | .ticket =>
    if tickBv (BitVec.ofNat 24 l) then s.setBound si pon (some (tickBpon (BitVec.ofNat 24 l))) else s
  | .ring => (List.range 3).foldl (fun s i =>
      s.modSlot si (pon + i + 1) (fun _ => { Slot.free with kind := .ringPart, pav := p, link := BitVec.ofNat 24 (i + 1) })) s
  | _ => s

/-- Why ALLOC or ALLOC_AT fails, in the order of R52, or the slot it takes. -/
def State.allocDecide (s : State) (si : Nat) (at' : Option Nat) (kc : Nat) (p : BitVec 6) (ctxl : Bool) (link : Nat) :
    Except Nat (Kind × Nat) :=
  match Kind.ofCode kc with
  | none => .error 3
  | some k =>
    let ring := k = .ring
    let group := fun (x : Nat) => if ring then (List.range 4).map (x + ·) else [x]
    if !k.live ∨ k = .ringPart ∨ (ctxl ∧ k ≠ .counter) then .error 3
    else if s.pavBusy p then .error 5
    else if at'.any (fun x => (group x).any (fun y => (s.slot si y).kind = .retired)) then .error 7
    else if at'.any (fun x => (ring && x % 4 ≠ 0) || (group x).any (fun y => !s.slotFree si y)) then .error 5
    else match at'.or (s.findSlot si ring) with
      | none => .error 1
      | some x =>
        if s.overQuota si p k link then .error 4
        else if s.noRes si k link then .error 2
        else if s.linkBad si p k link then .error 6
        else .ok (k, x)

/-- The slots FREE or RETIRE acts on: a ring's four together (R38). -/
def State.slotGroup (s : State) (si pon : Nat) : List Nat :=
  let k := (s.slot si pon).kind
  if k = .ring ∨ k = .ringPart ∨ (s.mem si).ringMoved.contains (pon - pon % 4) then (List.range 4).map (pon - pon % 4 + ·) else [pon]

/-- FREE is refused with BUSY (R52). -/
def State.slotBusy (s : State) (si pon : Nat) : Bool :=
  let sl := s.slot si pon
  s.watched si pon || sl.frozen || !(s.waitersOf si pon).isEmpty ||
    ((sl.kind = .glock || sl.kind = .mlock) && (s.ent si pon).held) ||
    (sl.kind = .foldCounter && (s.hdr si pon).busy) ||
    (sl.kind = .turnstile && decide (32 ≤ (s.turn si pon).gang.toNat)) ||
    (s.mem si).boundList.any (fun e => e.2 = pon)

/-- Release what a slot holds and zero it. -/
def State.freeSlot (s : State) (si pon : Nat) : State :=
  let sl := s.slot si pon
  let s := match sl.kind with
    | .sem | .glock | .mlock => s.setEnt si pon SemEnt.init
    | .turnstile => s.setTurn si pon TurnRec.init
    | .foldCounter => (s.freshRegion si pon).modHdr si pon (fun _ => FoldHdr.init)
    | _ => s
  (s.setBound si pon none).modMem si (fun m => { m with slots := tset Slot.free m.slots pon Slot.free
                                                        ringMoved := m.ringMoved.filter (· ≠ pon - pon % 4) })

/-- FREE, with the code it fails with. -/
def State.freeCmd (s : State) (si pon : Nat) : Nat × State :=
  let sl := s.slot si pon
  if (sl.kind.live ∨ sl.kind = .moved) ∧ s.pavBusy sl.pav then (5, s)
  else if sl.kind = .retired then (7, s)
  else if sl.kind = .free ∧ !sl.frozen then (0, s)
  else
    let g := s.slotGroup si pon
    if g.any (fun x => s.slotBusy si x) then (5, s)
    else (0, g.foldl (fun s x => s.freeSlot si x) s)

/-- RETIRE. -/
def State.retireCmd (s : State) (si pon : Nat) : Nat × State :=
  let g := s.slotGroup si pon
  let ok := fun (x : Nat) => let sl := s.slot si x; s.slotFree si x || (sl.kind = .moved && !s.pavBusy sl.pav)
  if !g.all ok then (5, s)
  else (0, g.foldl (fun s x => (s.freeSlot si x).modSlot si x (fun _ => { Slot.free with kind := .retired })) s)

/-- UNRETIRE. -/
def State.unretireCmd (s : State) (si pon : Nat) : Nat × State :=
  if (s.slot si pon).kind = .retired then (0, s.modSlot si pon (fun _ => Slot.free)) else (7, s)

/-- OBJ_RES after a command. -/
def State.objRes (s : State) (si pon code : Nat) : State :=
  (((s.put F.OBJ_RES_PON pon si).putB F.OBJ_RES_DONE true si).putB F.OBJ_RES_ERR (code ≠ 0) si).put F.OBJ_RES_CODE code si

/-- OBJ_CMD with GO: `cmd` is its command. An uncorrectable row of the slots it names ends it with CODE FAULT (R52). -/
def State.objGo (s : State) (si cmd : Nat) : State :=
  let pon := s.get F.OBJ_CMD_PON si
  let rd := s.reads si 0 (if cmd = 1 then fun ram _ => ram = 0x01 else s.copyRow si (s.moveGroup si pon).1 (s.moveGroup si pon).2)
  let s := rd.2
  if !rd.1 then s.objRes si pon 8 else
  let p : BitVec 6 := BitVec.ofNat 6 (s.get F.OBJ_CMD_PAV si)
  let ctxl := s.flag F.OBJ_CMD_CTXL si
  let link := s.get F.OBJ_LINK_LINK si
  if cmd = 1 ∨ cmd = 2 then
    match s.allocDecide si (if cmd = 2 then some pon else none) (s.get F.OBJ_CMD_KIND si) p ctxl link with
    | .error c => s.objRes si pon c
    | .ok (k, x) => (s.newObject si x k p ctxl link).objRes si x 0
  else if cmd = 3 then let r := s.freeCmd si pon; r.2.objRes si pon r.1
  else if cmd = 4 then let r := s.retireCmd si pon; r.2.objRes si pon r.1
  else if cmd = 5 then let r := s.unretireCmd si pon; r.2.objRes si pon r.1
  else s.objRes si pon 10

/-- OBJ_CMD. -/
def State.objCmd (s : State) (si : Nat) (w : Word32) : State :=
  let s := s.writeFields 0x08 si 0x050 0 w.toNat
  if wbit w 31 then s.objGo si (s.get F.OBJ_CMD_CMD si) else s

/-- A row's command goes into OBJ_CMD with GO set. -/
def objWord (w : Word32) (cmd : Nat) : Word32 := (w &&& ~~~15#32) ||| BitVec.ofNat 32 (2 ^ 31 + cmd)

/-! ### The handle map (02 R41, R68) -/

/-- A station takes entry `i` of the handle map. -/
def State.hmSet (s : State) (i : Nat) (e : Word32) (si : Nat) : State :=
  s.modMem si (fun m => { m with hmap := tset 0 m.hmap i e })

/-- HM_DATA: the entry goes to all four stations. A station that recovers takes it when its credits return (R46, 13
R371), and until then HM_STAT.BUSY reads 1. -/
def State.hmWrite (s : State) (w : Word32) : State :=
  let i := s.get F.HM_IDX_IDX
  let e : Word32 := w &&& 0x07FFFFFF
  let busy := fun (si : Nat) => s.stopped (.stn (BitVec.ofNat 2 si))
  let t := ((List.range 4).filter (fun si => !busy si)).foldl (fun s si => s.hmSet i e si) s
  let t := if (List.range 4).any busy then t.modJct (fun j => { j with hmWait := some (i, e) }) else t
  if s.flag F.HM_IDX_INC then t.put F.HM_IDX_IDX (i + 1) else t

/-! ### Turnstile masks (04 R131) -/

/-- A staged word of the masks. -/
def State.staged (s : State) (si i : Nat) : Nat := (tget 0 (s.stn si).stage i).toNat

/-- TS_DATA: a write to a reserved word stages nothing (assumption log 86). -/
def State.tsData (s : State) (si : Nat) (w : Word32) : State :=
  let i := s.get F.TS_IDX_WORD si
  if i < 12 then s.modStn si (fun st => { st with stage := tset 0 st.stage i w }) else s

/-- TS_CTL. -/
def State.tsCtl (s : State) (si : Nat) (w : Word32) : State :=
  if !wbit w 0 then s else
    let pon := s.get F.TS_SEL_PON si
    let t := s.turn si pon
    let code := if (s.slot si pon).kind ≠ .turnstile then 1 else if t.cur ≠ 0 ∨ t.nxt ≠ 0 then 2 else if 32 ≤ t.gang.toNat then 3 else 0
    let s := (s.putB F.TS_CTL_ERR (code ≠ 0) si).put F.TS_CTL_CODE code si
    if code ≠ 0 then s else
      let word := fun (n : Nat) (i : Nat) => n + s.staged si i * 2 ^ (32 * i)
      let all := (List.range 12).foldl word 0
      s.setTurn si pon { t with cmask := BitVec.ofNat 256 all, rmask := BitVec.ofNat 128 (all / 2 ^ 256)
                                pkgBase := BitVec.ofNat 7 (s.get F.TS_BASE_PKG_BASE si) }

/-! ### Drift pairs (04 R114, R132) -/

/-- PROD and CONS name COUNTERs of one pavilion and TS a TURNSTILE (R132). -/
def State.driftOk (s : State) (si : Nat) (d : Drift) : Bool :=
  let p := s.slot si d.prod.toNat
  let c := s.slot si d.cons.toNat
  p.kind = .counter && c.kind = .counter && p.pav == c.pav && (s.slot si d.ts.toNat).kind = .turnstile

/-- A write to a register of the selected pair. The reserved MODE 3 is refused as an unsuitable pair is (assumption log
83); K and TS count as written only where they change (log 84); boundaries are counted from the latest change of MODE
(log 85). -/
def State.driftWrite (s : State) (si off : Nat) (w : Word32) : State :=
  let k := s.get F.DRIFT_SEL_PAIR si
  let d := s.drift si k
  let refuse : Drift → Drift := fun d => { d with refused := true }
  if off = 0x0B0 then s.modDrift si k (fun d => if wbit w 5 then { d with refused := false } else d)
  else if off = 0x0A4 then
    s.modDrift si k (fun d => if d.mode = 0 then { d with prod := w.extractLsb' 0 14, cons := w.extractLsb' 16 14 } else refuse d)
  else if off = 0x0AC then s.modDrift si k (fun d => if d.mode = 0 then { d with depth := w } else refuse d)
  else if off = 0x0A8 then
    let m : BitVec 2 := w.extractLsb' 0 2
    let kk : BitVec 16 := w.extractLsb' 2 16
    let ts : BitVec 14 := w.extractLsb' 18 14
    let d1 : Drift := if d.mode = 0 then { d with k := kk, ts := ts } else if kk ≠ d.k ∨ ts ≠ d.ts then refuse d else d
    let ok : Bool := m = 0 || (m ≠ 3 && s.driftOk si d1)
    let d2 : Drift := if ok then { d1 with mode := m } else { refuse d1 with mode := 0 }
    let d3 : Drift := if d.mode = 2 ∧ d2.mode ≠ 2 then { d2 with armed := false } else d2
    let d4 : Drift := if d3.mode ≠ d.mode then { d3 with bounds := 0 } else d3
    s.modDrift si k (fun _ => d4)
  else s

/-! ### Semaphores, lock words, ring bases -/

/-- The slot a semaphore-file entry is linked to, if it is a SEM. -/
def State.semSlot (s : State) (si entry : Nat) : Option Nat :=
  ((s.mem si).slots.find? (fun e => e.2.kind = .sem && e.2.link.toNat % 4096 == entry && !s.moveDest si e.1)).map (·.1)

/-- Forced post (05 R143). -/
def State.semForce (s : State) (si pon n : Nat) : State :=
  let e := s.ent si pon
  let s := s.setEnt si pon { e with count := BitVec.ofNat 32 (min (e.count.toNat + n) (2 ^ 31 - 1)) }
  (s.setSrc si pon (stationSrc si)).semGrants si pon

/-- Remove a waiter and answer it; a lock waiter's answer is its grant word, and BOOST is recomputed. -/
def State.endWaiter (s : State) (si : Nat) (w : Waiter) (st : Status) : State :=
  let k := (s.slot si w.pon).kind
  let lock := k = .glock ∨ k = .mlock
  let s := if lock then s.dropLockWaiter si w.pon w.row else s.dropWaiter si w.row
  s.answer si w.rq st (if lock then
    grantWord st false false false none (BitVec.ofNat 2 w.rq.req.operand.toNat) (s.ent si w.pon).grants else 0)

/-- SEMF_CTL. -/
def State.semfCtl (s : State) (si : Nat) (w : Word32) : State :=
  let s := s.writeFields 0x08 si 0x0D0 0 w.toNat
  if !wbit w 31 then s else
    let act := s.get F.SEMF_CTL_ACT si
    let done := fun (t : State) (err : Bool) => (t.putB F.SEMF_CTL_DONE true si).putB F.SEMF_CTL_ERR err si
    match s.semSlot si (s.get F.SEMF_CTL_ENTRY si) with
    | none => done s true
    | some pon =>
      if act = 1 then done (s.semForce si pon (s.get F.SEMF_N_N si)) false
      else if act = 2 then done ((s.waitersOf si pon).foldl (fun s w => s.endWaiter si w .flushed) s) false
      else done s true

/-- MLOCK_CTL (05 R149). -/
def State.mlockCtl (s : State) (si : Nat) (w : Word32) : State :=
  if !wbit w 0 then s else
    let pon := s.get F.MLOCK_PON_PON si
    let code := if (s.slot si pon).kind ≠ .mlock then 1
      else if (s.ent si pon).held ∨ !(s.waitersOf si pon).isEmpty then 2 else 0
    let s := (s.putB F.MLOCK_CTL_ERR (code ≠ 0) si).put F.MLOCK_CTL_CODE code si
    if code ≠ 0 then s
    else (s.setVal si pon (BitVec.ofNat 64 (s.get64 F.MLOCK_ADDR_LO_ADDR F.MLOCK_ADDR_HI_ADDR si))).mlockWrite si pon

/-- RING_CTL (07 R217). -/
def State.ringCtl (s : State) (si : Nat) (w : Word32) : State :=
  if !wbit w 0 then s else
    let pon := s.get F.RING_PON_PON si
    let code := if (s.slot si pon).kind ≠ .ring then 1
      else if s.ringR si pon ≠ s.ringL si pon ∨ (List.range 4).any (fun i => !(s.waitersOf si (pon + i)).isEmpty) then 2 else 0
    let s := (s.putB F.RING_CTL_ERR (code ≠ 0) si).put F.RING_CTL_CODE code si
    if code ≠ 0 then s
    else s.setVal si (pon + 3) (BitVec.ofNat 64 (s.get64 F.RING_BASE_LO_ADDR F.RING_BASE_HI_ADDR si))

/-- FR_STAT: its flags are cleared in the header of the slot FR_SEL names (06 R191). -/
def State.frStat (s : State) (si : Nat) (w : Word32) : State :=
  let pon := s.get F.FR_SEL_PON si
  if (s.slot si pon).kind = .foldCounter then
    s.modHdr si pon (fun h => { h with flags := h.flags &&& ~~~(w.extractLsb' 10 6) })
  else s

/-! ### The orphan command (05 R157) -/

/-- Held locks of a station that match, by slot: each lock once. -/
def State.heldLocks (s : State) (si holder pav : Nat) (any : Bool) : List Nat :=
  ((s.mem si).slots.filter (fun e => (e.2.kind = .glock || e.2.kind = .mlock) && !s.moveDest si e.1 &&
    (let x := s.ent si e.1; x.held && x.hpav.toNat == pav && (any || x.holder.toNat == holder)))).map (·.1)

/-- Orphan every match in all four stations; how many. -/
def State.orphanAll (s : State) (holder pav : Nat) (any : Bool) : Nat × State :=
  let l := (List.range 4).flatMap (fun si => (s.heldLocks si holder pav any).map (fun p => (si, p)))
  (l.length, l.foldl (fun s e => s.orphanLock e.1 e.2) s)

/-- ORPH_CTL. -/
def State.orphCtl (s : State) (w : Word32) : State :=
  if !wbit w 0 then s else
    let r := s.orphanAll (s.get F.ORPH_ID_HOLDER) (s.get F.ORPH_ID_PAV) (s.flag F.ORPH_ID_ANY)
    r.2.put F.ORPH_CTL_COUNT r.1

/-! ### Meanings -/

/-- Station core page. -/
def corePage (x : BitVec 2) : Nat := 0x08 + x.toNat

/-- ALLOC (R51). -/
def execAlloc (x : BitVec 2) (w : Word32) (s : State) : Host.Outcome State Fault Refusal :=
  .next (s.keep (s.quiet.cfgAccess (corePage x) 0x050 (fun s => s.objCmd x.toNat (objWord w 1))))
/-- ALLOC_AT. -/
def execAllocAt (x : BitVec 2) (w : Word32) (s : State) : Host.Outcome State Fault Refusal :=
  .next (s.keep (s.quiet.cfgAccess (corePage x) 0x050 (fun s => s.objCmd x.toNat (objWord w 2))))
/-- FREE. -/
def execFree (x : BitVec 2) (w : Word32) (s : State) : Host.Outcome State Fault Refusal :=
  .next (s.keep (s.quiet.cfgAccess (corePage x) 0x050 (fun s => s.objCmd x.toNat (objWord w 3))))
/-- RETIRE. -/
def execRetire (x : BitVec 2) (w : Word32) (s : State) : Host.Outcome State Fault Refusal :=
  .next (s.keep (s.quiet.cfgAccess (corePage x) 0x050 (fun s => s.objCmd x.toNat (objWord w 4))))
/-- UNRETIRE. -/
def execUnretire (x : BitVec 2) (w : Word32) (s : State) : Host.Outcome State Fault Refusal :=
  .next (s.keep (s.quiet.cfgAccess (corePage x) 0x050 (fun s => s.objCmd x.toNat (objWord w 5))))
/-- HANDLE_MAP_WRITE (R68). -/
def execHandleMapWrite (w : Word32) (s : State) : Host.Outcome State Fault Refusal :=
  .next (s.keep (s.quiet.cfgAccess 0x03 0x0D4 (fun s => s.hmWrite w)))
/-- TURNSTILE_APPLY (04 R131). -/
def execTurnstileApply (x : BitVec 2) (w : Word32) (s : State) : Host.Outcome State Fault Refusal :=
  .next (s.keep (s.quiet.cfgAccess (corePage x) 0x090 (fun s => s.tsCtl x.toNat (withBit w 0))))
/-- DRIFT_CONFIG_WRITE (04 R132). -/
def execDriftConfigWrite (x : BitVec 2) (off : BitVec 12) (w : Word32) (s : State) : Host.Outcome State Fault Refusal :=
  .next (s.keep (
    if off.toNat ∈ [0x0A4, 0x0A8, 0x0AC, 0x0B0] then s.quiet.cfgAccess (corePage x) off.toNat (fun s => s.driftWrite x.toNat off.toNat w)
    else s.quiet))
/-- The ACT field of a semaphore command's row, with GO set. -/
def semfWord (w : Word32) (act : Nat) : Word32 := (w &&& ~~~0x3000#32) ||| BitVec.ofNat 32 (2 ^ 31 + act * 2 ^ 12)
/-- SEM_FORCED_POST (05 R143). -/
def execSemForcedPost (x : BitVec 2) (w : Word32) (s : State) : Host.Outcome State Fault Refusal :=
  .next (s.keep (s.quiet.cfgAccess (corePage x) 0x0D0 (fun s => s.semfCtl x.toNat (semfWord w 1))))
/-- SEM_FLUSH. -/
def execSemFlush (x : BitVec 2) (w : Word32) (s : State) : Host.Outcome State Fault Refusal :=
  .next (s.keep (s.quiet.cfgAccess (corePage x) 0x0D0 (fun s => s.semfCtl x.toNat (semfWord w 2))))
/-- MLOCK_SET (05 R149). -/
def execMlockSet (x : BitVec 2) (w : Word32) (s : State) : Host.Outcome State Fault Refusal :=
  .next (s.keep (s.quiet.cfgAccess (corePage x) 0x0CC (fun s => s.mlockCtl x.toNat (withBit w 0))))
/-- ORPHAN_COMMAND (05 R157). -/
def execOrphanCommand (w : Word32) (s : State) : Host.Outcome State Fault Refusal :=
  .next (s.keep (s.quiet.cfgAccess 0x03 0x11C (fun s => s.orphCtl (withBit w 0))))
/-- RING_BASE_SET (07 R217). -/
def execRingBaseSet (x : BitVec 2) (w : Word32) (s : State) : Host.Outcome State Fault Refusal :=
  .next (s.keep (s.quiet.cfgAccess (corePage x) 0x0EC (fun s => s.ringCtl x.toNat (withBit w 0))))
/-- FOLD_APPLY (06 R191). -/
def execFoldApply (x : BitVec 2) (w : Word32) (s : State) : Host.Outcome State Fault Refusal :=
  .next (s.keep (s.quiet.cfgAccess (0x0C + x.toNat) 0x058 (fun s => if wbit (withBit w 0) 0 then s.foldApply x.toNat else s)))
/-- WATCH_CLR_HIGH (03 R104). -/
def execWatchClrHigh (x : BitVec 2) (w : Word32) (s : State) : Host.Outcome State Fault Refusal :=
  .next (s.keep (s.quiet.cfgAccess (corePage x) 0x060 (fun s => s.watchStatWrite x.toNat (withBit w 28))))

end Sys2Proof.Machine
end

