-- ==== Sys2Proof/Machine/Run.lean ====
section
/-! DEFINITION. Runs (02 R53 to R56): RUN_OPEN and RUN_CLOSE, and the release of what a pavilion has under
way, which pavilion reset, save and eviction share (11 R322, R328, R331). -/

namespace Sys2Proof.Machine

/-- Every thread of a box and every halt script. -/
def allThreads : List ThreadId :=
  (List.range 5).flatMap (fun b => (List.range 16).map (fun i => boxThread b i)) ++
    (List.range 16).map (fun h => .script (BitVec.ofNat 4 h))

/-- Threads and scripts of a pavilion. -/
def State.threadsOf (s : State) (p : BitVec 6) : List ThreadId :=
  allThreads.filter (fun t => !(s.th t).idle && (s.entryOf t).pav == p)

/-- Gangs of a pavilion that are not OFF. -/
def State.gangsOf (s : State) (p : BitVec 6) : List Nat :=
  (List.range 32).filter (fun g => decide (s.gangState g ≠ 0) && s.get F.GANG_CFG_PAV 0 g == p.toNat)

/-- Every (station, slot) of a pavilion's live objects. -/
def State.objectsOf (s : State) (p : BitVec 6) : List (Nat × Nat) :=
  (List.range 4).flatMap (fun si => (s.slotsOf si p).map (fun e => (si, e.1)))

def State.setPavState (s : State) (p : BitVec 6) (st : Nat) : State := s.put F.PAV_STAT_STATE st 0 p.toNat

/-! ### Work under way -/

/-- A station holds work for the pavilion, or a thread of it waits (R56, 08 R242). -/
def State.hasWork (s : State) (p : BitVec 6) : Bool :=
  (List.range 4).any (fun si =>
    (s.mem si).watches.any (fun w => w.pav == p) || (s.mem si).waiters.any (fun w => w.rq.req.pav == p) ||
    (s.mem si).slots.any (fun e => e.2.pav == p && e.2.frozen)) ||
  (s.objectsOf p).any (fun o =>
    ((s.slot o.1 o.2).kind = .foldCounter && (s.hdr o.1 o.2).busy) ||
    ((s.slot o.1 o.2).kind = .turnstile && (s.turn o.1 o.2).cur ≠ 0)) ||
  (s.threadsOf p).any (fun t => (s.th t).state = .armed || (s.th t).state = .waiting || (s.th t).state = .held)

/-- MOVEs under way of the pavilion's slots complete (R56). -/
def State.finishMoves (s : State) (p : BitVec 6) : State :=
  let mine := fun (m : InFlight) => match m.msg, m.dst with
    | .moveAck a _ _, .stn x => (s.slot x.toNat (aPon a)).pav == p
    | _, _ => false
  let ms := s.net.filter mine
  ms.foldl (fun s m => match m.msg, m.dst with
    | .moveAck a d rq, .stn x => s.moveFinish x.toNat a d rq
    | _, _ => s) { s with net := s.net.filter (fun m => !mine m) }

/-- Waiter records that `q` picks end with `st`, every one of them, before what they held back may be granted. -/
def State.endWaiters (s : State) (si : Nat) (q : Waiter → Bool) (st : Status) (grants : Bool) : State :=
  let ws := (s.mem si).waiters.filter q
  let s := ws.foldl (fun s w => s.endWaiter si w st) s
  if grants then ((ws.map (·.pon)).eraseDups).foldl (fun s pon => s.waiterGone si pon) s else s

/-- Every watch entry of an object ends with `st` and is freed. -/
def State.endWatches (s : State) (o : Nat × Nat) (st : Status) : State := s.notifyIf o.1 o.2 (fun _ => true) (fun _ => st) 0

/-- Waits of the pavilion for which no station of this die holds a watch entry: refused and retried, on their way or held
for a freeze, or on another die. They end with FLUSHED too (03 R80). -/
def State.flushLoose (s : State) (p : BitVec 6) : State :=
  let held := fun (h : Nat) (a : GAddr) =>
    let d := s.resolve a moveFuel
    s.onDie a && (s.mem (aStn d).toNat).watches.any (fun w => w.pon = aPon d && w.sub.toNat = h)
  let coming := fun (m : InFlight) => match m.msg with | .reg _ _ q => q == p | _ => false
  let s := { s with net := s.net.filter (fun m => !coming m) }
  (List.range 16).foldl (fun s h =>
    (((s.halt h).waits.filter (fun e => waitsOn e.2.addr e.2 && e.2.pav == p && !held h e.2.addr)).map (·.1)).foldl
      (fun s i => s.dropWait h i .flushed) s) s

/-- Home proxy entries on objects of a pavilion end with NTF carrying `st` (11 R322, R328); the station's watch goes, or
stays for what still waits. -/
def State.endHome (s : State) (p : BitVec 6) (st : Status) : State :=
  let mine := fun (e : Proxy) => !e.far && (s.slot (aStn e.loc).toNat (aPon e.loc)).pav == p
  (s.jct.proxies.filter mine).foldl (fun s e => (s.tx e.peer 1 1 [recNtf e.addr 0 st false]).homeReg e.loc)
    (s.modJct (fun j => { j with proxies := j.proxies.filter (fun e => !mine e) }))

/-- RUN_CLOSE with FORCE in the stations, boxes, gangs and the junction (R56, 06 R185, 08 R242, 04 R129). -/
def State.flushPav (s : State) (p : BitVec 6) : State :=
  let s := (s.finishMoves p).flushLoose p
  let s := (s.objectsOf p).foldl (fun s o => s.endWatches o .flushed) s
  let s := (List.range 4).foldl (fun s si => s.endWaiters si (fun w => w.rq.req.pav == p) .flushed true) s
  let s := (s.objectsOf p).foldl (fun s o => if (s.slot o.1 o.2).kind = .foldCounter then s.flushRegion o.1 o.2 else s) s
  let s := (s.threadsOf p).foldl (fun s t => s.trap t 6 Status.flushed.code) s
  ((s.gangsOf p).foldl (fun s g => s.gangOff g .flushed true) s).endHome p .flushed

/-! ### Requests held on halt wires (11 R323) -/

/-- Requests of a pavilion held at a halt. -/
def State.heldOf (s : State) (h : Nat) (p : BitVec 6) : List Req := (s.halt h).heldQ.filter (fun r => r.pav == p)

/-- The held requests of a pavilion leave their holds, oldest first, to `f`. -/
def State.releaseHeld (s : State) (p : BitVec 6) (f : State → Nat → Req → State) : State :=
  (List.range 16).foldl (fun s h =>
    let l := s.heldOf h p
    l.foldl (fun s r => f s h r) (s.modHalt h (fun ht => { ht with heldQ := ht.heldQ.filter (fun r => r.pav != p) }))) s

/-- A request that was held is met as if it had just been presented. -/
def State.presentAgain (s : State) (r : Req) : State :=
  s.present r.op ⟨r.core, r.qtag, r.pav, r.gen, r.handle, r.follows, r.ret, r.operand⟩

/-- The records parked for a pavilion are forwarded in arrival order (11 R326). -/
def State.forwardPark (s : State) (p : BitVec 6) : State :=
  let mine := s.jct.parked.filter (fun r => r.pav == p)
  mine.foldl (fun s r => s.forwardParked r)
    (s.modJct (fun j => { j with parked := j.parked.filter (fun r => r.pav != p) }))

/-! ### RUN_OPEN (R55) -/

/-- RUN_OPEN at the pavilion's combining entries: RND and COUNT return to 0 (09 R286). -/
def State.openCombs (s : State) (p : BitVec 6) : State :=
  ((List.range 64).filter (fun e => s.get F.JF_CFG_PAV 0 e == p.toNat)).foldl
    (fun s e => s.modComb e (fun c => { c with rnd := 0, count := 0, early := 0, lanes := [], members := [] })) s

/-- RUN_OPEN at one slot. Its zeroing of a counter is no change that a drift pair compares (assumption log 87). -/
def State.openSlot (s : State) (si pon : Nat) : State :=
  let sl := s.slot si pon
  let part := sl.link.toNat % 4
  let zero := fun (s : State) => s.setVal si pon 0
  let s := match sl.kind with
    | .counter | .ticket => zero s
    | .turnstile => let s := zero s; s.setTurn si pon { s.turn si pon with cur := 0, nxt := 0 }
    | .foldCounter => zero (s.openRegion si pon)
    | .ring => ((zero s).setSkip si pon none).modStn si (fun st => { st with marked := st.marked.filter (· ≠ pon) })
    | .ringPart => if part = 3 then s else zero s
    | .sem | .glock | .mlock =>
      let s := s.modMem si (fun m => { m with waiters := m.waiters.filter (fun w => w.pon ≠ pon) })
      let s := s.setEnt si pon { SemEnt.init with lock := (s.ent si pon).lock }
      if sl.kind = Kind.mlock then s.mlockWrite si pon else s
    | _ => s
  s.modSlot si pon (fun sl => { sl with orphan := false, lastSrc := 0 })

/-- Every slot with the pavilion's PAV in all four stations (R55): its live objects, and its MOVED slots. -/
def State.allSlotsOf (s : State) (p : BitVec 6) : List (Nat × Nat) :=
  (List.range 4).flatMap (fun si => ((s.mem si).slots.filter (fun e => e.2.pav == p)).map (fun e => (si, e.1)))

/-- RUN_OPEN completes in every station. -/
def State.runOpened (s : State) (p : BitVec 6) : State :=
  let s := ((s.allSlotsOf p).foldl (fun s o => s.openSlot o.1 o.2) s).openCombs p
  let s := (List.range 4).foldl (fun s k => s.ledgerNote k 2 p.toNat) s
  ((s.put F.RUN_STAT_RUN (s.get F.RUN_STAT_RUN 0 p.toNat + 1) 0 p.toNat).putB F.RUN_STAT_OPEN true 0 p.toNat).setPavState p 1

/-! ### RUN_CLOSE (R56) -/

/-- The run ends with FORCE: requests held at the halts and parked in the junction then fail at step 1 of R44. -/
def State.runForced (s : State) (p : BitVec 6) : State :=
  ((s.flushPav p).releaseHeld p (fun s _ r => s.presentAgain r)).forwardPark p

/-- A run command failed (11 R310, R336). -/
def State.runFail (s : State) (p : BitVec 6) (code : Nat) : State :=
  ((s.putB F.RUN_STAT_ERR true 0 p.toNat).put F.RUN_STAT_CODE code 0 p.toNat).evt 3 1
def State.runOk (s : State) (p : BitVec 6) : State := (s.putB F.RUN_STAT_ERR false 0 p.toNat).put F.RUN_STAT_CODE 0 0 p.toNat

/-- Without FORCE the run is open again if a station holds work; if not, the pavilion's gangs are disabled (04 R129). -/
def State.runChecked (s : State) (p : BitVec 6) : State :=
  if s.hasWork p then ((s.putB F.RUN_STAT_OPEN true 0 p.toNat).setPavState p 1).runFail p 2
  else (s.gangsOf p).foldl (fun s g => s.gangOff g .flushed true) s

/-- The stations' part of a run command: 0 open, 1 close, 2 close with FORCE. -/
def State.runDo (s : State) (p : BitVec 6) (what : Nat) : State :=
  if what = 0 then s.runOpened p else if what = 1 then s.runChecked p else s.runForced p

/-- A scan of every station's slots (12 R345); false if a row of one is uncorrectable. -/
def State.scanSlots (s : State) (q : Nat → Bool) : Bool × State :=
  (List.range 4).foldl (fun (acc : Bool × State) si =>
    let r := acc.2.reads si 3 (fun ram _ => q ram)
    (acc.1 && r.1, r.2)) (true, s)

/-- A run command waits for the end of a recovery (11 R322), that of a station whose slots it could not read among them. -/
def State.runGo (s : State) (p : BitVec 6) (what : Nat) : State :=
  let rd := s.scanSlots (fun ram => ram = 0x01)
  let s := rd.2
  if s.recovering ∨ !rd.1 then s.newJob 4 p 0 [what] else s.runDo p what

/-- RUN_CMD. -/
def State.runCmd (s : State) (w : Word32) : State :=
  if (s.job 4).isSome then s
  else
    let s := s.writeFields 0x03 0 0x0E0 0 w.toNat
    let p : BitVec 6 := w.extractLsb' 0 6
    let st := s.pavState p
    let isOpen := decide (1 ≤ st ∧ st ≤ 4)
    let force := wbit w 10
    if wbit w 8 ∧ wbit w 9 then s.runFail p 2
    else if wbit w 8 then
      if isOpen then s.runFail p 1 else if st ≠ 0 then s.runFail p 2 else (s.runOk p).runGo p 0
    else if wbit w 9 then
      if !isOpen then s.runFail p 3
      else if !force ∧ st ≠ 1 then s.runFail p 2
      else (((s.runOk p).putB F.RUN_STAT_OPEN false 0 p.toNat).setPavState p 0).runGo p (if force then 2 else 1)
    else s

/-- RUN_OPEN (R55). -/
def execRunOpen (w : Word32) (s : State) : Host.Outcome State Fault Refusal :=
  .next (s.keep (s.quiet.cfgAccess 0x03 0x0E0 (fun s => s.runCmd (withBit w 8))))
/-- RUN_CLOSE (R56). -/
def execRunClose (w : Word32) (s : State) : Host.Outcome State Fault Refusal :=
  .next (s.keep (s.quiet.cfgAccess 0x03 0x0E0 (fun s => s.runCmd (withBit w 9))))

end Sys2Proof.Machine
end

