-- ==== Sys2Proof/Machine/Context.lean ====
section
/-! DEFINITION. The attribute word (02 R39), and contexts: save, restore and close (02 R58 to R62). -/

namespace Sys2Proof.Machine

/-! ### The attribute word -/

/-- A slot's attribute word, WATCHED aside; `low` stands in [15:14]. -/
def attrOf (sl : Slot) (low : Nat) : Nat :=
  sl.kind.code + sl.pav.toNat * 2 ^ 4 + bnat sl.ctxl * 2 ^ 10 + bnat sl.orphan * 2 ^ 11 + bnat sl.frozen * 2 ^ 12 +
    low * 2 ^ 14 + sl.lastSrc.toNat * 2 ^ 24 + sl.link.toNat * 2 ^ 40

/-- The live attribute word. -/
def State.attrWord (s : State) (si pon : Nat) : Nat := attrOf (s.slot si pon) 0 + bnat (s.watched si pon) * 2 ^ 13

/-- The slot of a saved attribute word: FROZEN and WATCHED are 0. -/
def slotOfAttr (a : Nat) (val : Word64) : Slot :=
  ⟨val, (Kind.ofCode (a % 16)).getD .free, BitVec.ofNat 6 (a / 2 ^ 4), a.testBit 10, a.testBit 11, false,
    BitVec.ofNat 16 (a / 2 ^ 24), BitVec.ofNat 24 (a / 2 ^ 40)⟩

/-! ### The range of a context -/

def State.hmEntry (s : State) (i : Nat) : Word32 := tget 0 (s.mem 0).hmap i
/-- All four copies of a handle-map entry are written. -/
def State.setHm (s : State) (i : Nat) (e : Word32) : State :=
  (List.range 4).foldl (fun s si => s.modMem si (fun m => { m with hmap := tset 0 m.hmap i e })) s

/-- An entry of the handle map, laid out (R41). -/
def hmWord (a : GAddr) (v saved : Bool) : Word32 := BitVec.ofNat 32 (a.toNat + bnat v * 2 ^ 25 + bnat saved * 2 ^ 26)
def hmAddr (e : Word32) : GAddr := e.extractLsb' 0 25
def hmV (e : Word32) : Bool := e.getLsbD 25
def hmSaved (e : Word32) : Bool := e.getLsbD 26

/-- The valid entries of a range, by their place in it. -/
def State.rangeOf (s : State) (off n : Nat) : List (Nat × GAddr) :=
  (List.range n).filterMap (fun i => let e := s.hmEntry (off + i); if hmV e then some (i, hmAddr e) else none)

/-- The save area's address. -/
def State.ctxArea (s : State) : Nat := s.get64 F.CTX_ADDR_LO_ADDR F.CTX_ADDR_HI_ADDR

/-- A context command ends: CODE 0 is success, 8 a fault; any other is a refusal (11 R336). -/
def State.ctxEnd (s : State) (code : Nat) : State :=
  let s := ((s.setJob 1 none).putB F.CTX_GO_ERR (code ≠ 0)).put F.CTX_GO_CODE code
  if code = 0 ∨ code = 8 then s else s.evt 3 1

/-! ### Save (R59, R60) -/

/-- Why a save fails, 0 if it does not. -/
def State.ctxSaveCode (s : State) (off : Nat) (l : List (Nat × GAddr)) : Nat :=
  let here := l.filter (fun e => s.onDie e.2)
  if here.any (fun e => s.watched (aStn e.2).toNat (aPon e.2) || (s.slot (aStn e.2).toNat (aPon e.2)).frozen) then 5
  else if l.any (fun e => !s.onDie e.2 ||
      (let sl := s.slot (aStn e.2).toNat (aPon e.2); !(sl.kind = .counter && sl.ctxl && sl.link.toNat % 2 ^ 16 == off))) then 3
  else 0

/-- The header of a save area. -/
def ctxHeader (count off pav run : Nat) : List Byte :=
  natBytes 2 1 ++ natBytes 2 count ++ natBytes 2 off ++ [BitVec.ofNat 8 pav, 0] ++ natBytes 2 run ++ natBytes 54 0

/-- Freeze or unfreeze the range's objects. -/
def State.freezeRange (s : State) (l : List (Nat × GAddr)) (b : Bool) : State :=
  l.foldl (fun s e => s.modSlot (aStn e.2).toNat (aPon e.2) (fun sl => { sl with frozen := b })) s

/-- A save begins: the objects are frozen and the save area is written, each entry through its home station's
port, and what names no object through the junction's (assumption log 31). -/
def State.ctxSave (s : State) (p : BitVec 6) (off n : Nat) : State :=
  let l := s.rangeOf off n
  let code := s.ctxSaveCode off l
  if code ≠ 0 then s.ctxEnd code
  else
    let at' := s.ctxArea
    let ent := fun (i : Nat) => match l.find? (fun e => e.1 = i) with
      | some e =>
        let si := (aStn e.2).toNat
        (si, at' + 64 + 16 * i, natBytes 8 (s.slot si (aPon e.2)).val.toNat ++ natBytes 8 (attrOf { s.slot si (aPon e.2) with frozen := true } si))
      | none => (4, at' + 64 + 16 * i, natBytes 16 0)
    let ws := (4, at', ctxHeader n off p.toNat (s.get F.RUN_STAT_RUN 0 p.toNat)) :: (List.range n).map ent
    ((s.freezeRange l true).newJob 1 p 1 [off, n]).jobWrites 1 ws

/-- The save area has been written. The range's entries are read from the map as it now stands: the spec is silent on a
map write during the save (assumption log 78). -/
def State.ctxSaved (s : State) (j : Job) : State :=
  let off := j.args.getD 0 0
  let n := j.args.getD 1 0
  let l := s.rangeOf off n
  let s := s.freezeRange l false
  let s := if j.bad then s else
    l.foldl (fun s e => (s.freeSlot (aStn e.2).toNat (aPon e.2)).setHm (off + e.1) (hmWord e.2 false true)) s
  let s := l.foldl (fun s e => s.drainFrozen (aStn e.2).toNat (aPon e.2) e.2) s
  s.ctxEnd (if j.bad then 8 else 0)

/-! ### Restore (R61) -/

/-- One saved object goes back; none if the die has no free slot. -/
def State.ctxPlace (s : State) (off i : Nat) (val attr : Nat) : Option State :=
  let saved := attr / 2 ^ 14 % 4
  let fits := fun (si : Nat) => (s.findSlot si false).isSome
  match (if fits saved then some saved else (List.range 4).find? fits) with
  | none => none
  | some si =>
    let pon := (s.findSlot si false).getD 0
    let sl := slotOfAttr attr (BitVec.ofNat 64 val)
    let link := sl.link.toNat / 2 ^ 16 * 2 ^ 16 + off
    some ((s.modSlot si pon (fun _ => { sl with link := BitVec.ofNat 24 link })).setHm (off + i) (hmWord (s.addrOf si pon) true false))

/-- The whole of a save area's objects. -/
def State.ctxPlaceAll (s : State) (off : Nat) : List (Nat × Nat × Nat) → Option State
  | [] => some s
  | (i, v, a) :: l => match s.ctxPlace off i v a with
    | none => none
    | some s => s.ctxPlaceAll off l

/-- The save area has been read. -/
def State.ctxRestored (s : State) (j : Job) : State :=
  let b := j.bytes
  let off := j.args.getD 0 0
  let n := j.args.getD 1 0
  let ents := ((List.range n).map (fun i => (i, numAt b (64 + 16 * i) 8, numAt b (72 + 16 * i) 8))).filter (fun e => e.2.2 ≠ 0)
  if j.bad then s.ctxEnd 8
  else match s.ctxPlaceAll off ents with
    | none => s.ctxEnd 1
    | some t =>
      if (List.range 4).any (fun si => decide (s.get F.PQ_OBJ_OBJ 0 j.pav.toNat < t.objUse si j.pav) && decide (s.objUse si j.pav < t.objUse si j.pav))
      then s.ctxEnd 4 else t.ctxEnd 0

/-- The header has been read (R61): the checks on it, then the entries are read. -/
def State.ctxHeaderRead (s : State) (j : Job) : State :=
  let b := j.bytes
  let n := j.args.getD 1 0
  if j.bad then s.ctxEnd 8
  else if numAt b 8 2 ≠ s.get F.RUN_STAT_RUN 0 j.pav.toNat ∨ numAt b 6 1 ≠ j.pav.toNat then s.ctxEnd 9
  else if numAt b 2 2 ≠ n then s.ctxEnd 6
  else if n = 0 then s.ctxEnd 0
  else (s.setJob 1 (some { j with phase := 3 })).jobReads 1 4 (j.args.getD 2 0) 1 ((16 * n + 63) / 64)

/-! ### Close (R62) -/

/-- Orphan one object, wherever a MOVE has taken it, and release its waiters. -/
def State.ctxOrphan (s : State) (a : GAddr) : State :=
  let a := s.resolve a moveFuel
  let o := ((aStn a).toNat, aPon a)
  (s.modSlot o.1 o.2 (fun sl => { sl with orphan := true })).endWatches o .orphan

def State.ctxClose (s : State) (off n : Nat) : State :=
  ((((s.rangeOf off n).filter (fun e => s.onDie e.2)).map (·.2)).foldl (fun s a => s.ctxOrphan a) s).ctxEnd 0

/-! ### CTX_GO -/

/-- A save or a close works through its range. -/
def State.ctxScan (s : State) (p : BitVec 6) (off n : Nat) (save : Bool) : State :=
  if save then s.ctxSave p off n else s.ctxClose off n

/-- CTX_GO; ignored while a command is in progress, or with more than one command. -/
def State.ctxGo (s : State) (w : Word32) : State :=
  let n := bnat (wbit w 0) + bnat (wbit w 1) + bnat (wbit w 2)
  if (s.job 1).isSome ∨ n ≠ 1 then s
  else
    let p : BitVec 6 := BitVec.ofNat 6 (s.get F.CTX_PAV_PAV)
    let off := s.get F.CTX_RANGE_MAP_OFF
    let count := s.get F.CTX_RANGE_COUNT
    if s.pavState p ≠ 1 then s.ctxEnd 5
    else if wbit w 1 then (s.newJob 1 p 2 [off, count, s.ctxArea]).jobReads 1 4 s.ctxArea 0 1
    else if s.recovering then s.newJob 1 p (if wbit w 0 then 9 else 10) [off, count]
    else s.ctxScan p off count (wbit w 0)

/-- CTX_PAV, CTX_RANGE, CTX_ADDR_LO and CTX_ADDR_HI. -/
def State.ctxReg (s : State) (off : Nat) (w : Word32) : State :=
  if (s.job 1).isSome then s else s.writeFields 0x03 0 off 0 w.toNat

/-- A context job's accesses have all completed: phase 1 a save's writes, 2 a restore's header, 3 its entries. Phases 9
and 10 are a save and a close that waited for a recovery: the map and the slots return with it. -/
def State.ctxJobDone (s : State) (j : Job) : State :=
  if 9 ≤ j.phase then
    if j.bad then s.ctxEnd 8 else (s.setJob 1 none).ctxScan j.pav (j.args.getD 0 0) (j.args.getD 1 0) (j.phase = 9)
  else if j.phase = 1 then s.ctxSaved j else if j.phase = 2 then s.ctxHeaderRead j else s.ctxRestored j

/-- CONTEXT_SAVE (R59). -/
def execContextSave (w : Word32) (s : State) : Host.Outcome State Fault Refusal :=
  .next (s.keep (s.quiet.cfgAccess 0x03 0x0FC (fun s => s.ctxGo (withBit w 0))))
/-- CONTEXT_RESTORE (R61). -/
def execContextRestore (w : Word32) (s : State) : Host.Outcome State Fault Refusal :=
  .next (s.keep (s.quiet.cfgAccess 0x03 0x0FC (fun s => s.ctxGo (withBit w 1))))
/-- CONTEXT_CLOSE (R62). -/
def execContextClose (w : Word32) (s : State) : Host.Outcome State Fault Refusal :=
  .next (s.keep (s.quiet.cfgAccess 0x03 0x0FC (fun s => s.ctxGo (withBit w 2))))

end Sys2Proof.Machine
end

