-- ==== Sys2Proof/Machine/Image.lean ====
section
/-! DEFINITION. The pavilion image (11 R329, R330): its sections as bytes, and the objects read from one. -/

namespace Sys2Proof.Machine

/-! ### Records (R330) -/

/-- A lock record (R330); `addr` is the address of an MLOCK's word. -/
def lockRecord (e : SemEnt) (group addr : Nat) : List Byte :=
  natBytes 4 e.count.toNat ++
  natBytes 4 (e.holder.toNat + bnat e.held * 2 ^ 24 + bnat e.orphan * 2 ^ 25 + e.hprio.toNat * 2 ^ 26 + bnat e.lock * 2 ^ 31) ++
  natBytes 1 e.hpav.toNat ++ natBytes 2 e.grants.toNat ++ natBytes 1 group ++ natBytes 4 0 ++ natBytes 8 addr ++ natBytes 8 0

/-- A turnstile record. -/
def turnRecord (t : TurnRec) : List Byte :=
  natBytes 32 t.cmask.toNat ++ natBytes 16 t.rmask.toNat ++ natBytes 48 t.cur.toNat ++ natBytes 48 t.nxt.toNat ++
    natBytes 1 t.pkgBase.toNat ++ natBytes 15 0

/-- A region's header line (06 R192), its FR_STAT by 06 R191. -/
def hdrLine (h : FoldHdr) : List Byte :=
  natBytes 4 (h.cfg.toNat + bnat h.v * 2 ^ 31) ++ natBytes 4 h.lanes ++ natBytes 4 h.target.toNat ++
  natBytes 4 (h.r % 256 + bnat h.v * 2 ^ 8 + bnat h.rel * 2 ^ 9 + h.flags.toNat * 2 ^ 10 + (h.fr % 256) * 2 ^ 16 + h.faultN.toNat * 2 ^ 24) ++
  natBytes 8 h.resAddr.toNat ++ natBytes 4 h.folded ++ natBytes 4 h.foldedNx ++ natBytes 4 h.ann.toNat ++
  natBytes 4 h.annNx.toNat ++ natBytes 4 h.beats.toNat ++ natBytes 4 h.beatsNx.toNat ++ natBytes 8 h.result.toNat ++
  natBytes 1 (bnat h.second) ++ natBytes 7 0

/-- The header that a saved header line stands for, of an object with value `val`: rounds are counted from
the value, to which ROUND is congruent modulo 256 (06 R171). -/
def hdrOfLine (l : List Byte) (val : Nat) : FoldHdr :=
  let target := numAt l 8 4
  let st := numAt l 12 4
  let round := st % 256
  let r := if target = 0 then round else val / target
  let r := r + (round + 256 - r % 256) % 256
  { cfg := BitVec.ofNat 14 (numAt l 0 4), v := (numAt l 0 4).testBit 31, lanes := numAt l 4 4, target := BitVec.ofNat 32 target
    resAddr := BitVec.ofNat 64 (numAt l 16 8), r := r, second := (numAt l 56 1).testBit 0, rel := st.testBit 9
    flags := BitVec.ofNat 6 (st / 2 ^ 10), fr := r - (r + 256 - (st / 2 ^ 16 % 256)) % 256, faultN := BitVec.ofNat 2 (st / 2 ^ 24)
    arr := BitVec.ofNat 32 (numAt l 24 4), arrNx := BitVec.ofNat 32 (numAt l 28 4), ann := BitVec.ofNat 32 (numAt l 32 4)
    annNx := BitVec.ofNat 32 (numAt l 36 4), beats := BitVec.ofNat 32 (numAt l 40 4), beatsNx := BitVec.ofNat 32 (numAt l 44 4)
    result := BitVec.ofNat 64 (numAt l 48 8), pend := 0, left := 0 }

/-- The lines a region's image holds: its header alone, or all of them. -/
def State.savedLines (s : State) (o : Nat × Nat) : Nat :=
  let sl := s.slot o.1 o.2
  if sl.kind ≠ .foldCounter then 0 else if (s.hdr o.1 o.2).busy then 64 * foldNlg sl else 1

def State.regionBytes (s : State) (o : Nat × Nat) : List Byte :=
  let sl := s.slot o.1 o.2
  let h := s.hdr o.1 o.2
  hdrLine h ++ (List.range (s.savedLines o - 1)).flatMap (fun i =>
    natBytes 64 (lineOf (s.mem o.1).lanes (cfgOp h.cfg.toNat) (foldFirst sl + 1 + i)))

/-- The semaphore-file group of a slot, 0 for an MLOCK. -/
def semGroup (sl : Slot) : Nat := if sl.kind = .mlock then 0 else sl.link.toNat / 64 % 64

/-- The lock record of a slot. -/
def State.lockRec (s : State) (o : Nat × Nat) : List Byte :=
  let sl := s.slot o.1 o.2
  lockRecord (s.ent o.1 o.2) (semGroup sl) (if sl.kind = .mlock then sl.val.toNat else 0)

/-- An object record. -/
def State.objRec (s : State) (o : Nat × Nat) (idx : Nat) : List Byte :=
  let sl := s.slot o.1 o.2
  natBytes 4 (s.addrOf o.1 o.2).toNat ++ natBytes 4 idx ++ natBytes 8 sl.val.toNat ++
    natBytes 8 (attrOf { sl with frozen := false } o.1) ++ natBytes 4 (s.savedLines o) ++ natBytes 4 0

/-! ### The image (R329) -/

def align64 (n : Nat) : Nat := (n + 63) / 64 * 64

/-- Offsets of the settings, map, object, turnstile, lock and fold sections, and the length. -/
def imageOffsets (g nObj nTs nLk nLines : Nat) : List Nat × Nat :=
  let obj := 320 + 256 * g
  let ts := align64 (obj + 32 * nObj)
  let lk := align64 (ts + 160 * nTs)
  let fold := align64 (lk + 32 * nLk)
  ([64, 320, obj, ts, lk, fold], fold + 64 * nLines)

def isLock (k : Kind) : Bool := k = .sem || k = .glock || k = .mlock

/-- Bytes with their port and offset, in order: what SAVE writes (R328 steps 3 and 4). -/
def State.imageParts (s : State) (p : BitVec 6) : List (Nat × Nat × List Byte) × Nat :=
  let i := p.toNat
  let objs := s.objectsOf p
  let kind := fun (o : Nat × Nat) => (s.slot o.1 o.2).kind
  let ts := objs.filter (fun o => kind o = .turnstile)
  let lk := objs.filter (fun o => isLock (kind o))
  let fd := objs.filter (fun o => kind o = .foldCounter)
  let lines := fd.foldl (fun n o => n + s.savedLines o) 0
  let g := s.get F.HM_WIN_SIZE_G 0 i
  let base := s.get F.HM_WIN_BASE_G 0 i
  let pw := s.get F.HM_PW_PW 0 i
  let (offs, len) := imageOffsets g objs.length ts.length lk.length lines
  let off := fun (n : Nat) => offs.getD n 0
  let head1 := natBytes 2 0x0101 ++ natBytes 1 i ++ natBytes 1 (s.gen p).toNat ++ natBytes 2 (s.get F.RUN_STAT_RUN 0 i) ++
    natBytes 1 s.su.die.toNat ++ natBytes 1 s.su.pkg.toNat ++ natBytes 4 len
  let head2 := natBytes 4 (base + g * 2 ^ 10) ++ natBytes 4 pw ++ natBytes 4 objs.length ++ natBytes 4 ts.length ++
    natBytes 4 lk.length ++ natBytes 4 lines ++ offs.flatMap (natBytes 4)
  let rights := (List.range 4).flatMap (fun si => (List.range 32).map (fun b =>
    (BitVec.ofNat 8 ((s.rightsOf si (2 * b) p).toNat + (s.rightsOf si (2 * b + 1) p).toNat * 16) : Byte)))
  let settings := rights ++ natBytes 4 (s.get F.WAIT_CFG_LUISK 0 i + s.get F.WAIT_CFG_LIMIT 0 i * 2 ^ 10) ++
    natBytes 4 (s.get F.LOCK_CFG_INH 0 i + s.get F.LOCK_CFG_LIMIT 0 i * 2 ^ 10) ++ natBytes 4 (s.watchShare p) ++
    natBytes 4 (s.proxyShare p) ++ natBytes 4 (s.get F.PQ_OBJ_OBJ 0 i) ++ natBytes 4 (s.get F.PQ_FOLD_LINES 0 i) ++
    natBytes 4 (s.get F.PQ_RES_TS 0 i + s.get F.PQ_RES_MLQ 0 i * 2 ^ 7 + s.get F.PQ_RES_GANG 0 i * 2 ^ 18) ++ natBytes 100 0
  let map := (List.range (64 * g)).flatMap (fun n =>
    let e := s.hmEntry (64 * base + n)
    let e := if hmV e ∧ s.onDie (hmAddr e) then hmWord (s.resolve (hmAddr e) moveFuel) true (hmSaved e) else e
    natBytes 4 e.toNat)
  let foldAt := fun (o : Nat × Nat) => (fd.takeWhile (fun x => decide (x ≠ o))).foldl (fun n x => n + s.savedLines x) 0
  let idx := fun (o : Nat × Nat) =>
    if kind o = .turnstile then ts.findIdx (fun x => decide (x = o))
    else if isLock (kind o) then lk.findIdx (fun x => decide (x = o))
    else if kind o = .foldCounter then foldAt o
    else 0xFFFFFFFF
  let pad := fun (a b : Nat) => if a < b then [(4, a, natBytes (b - a) 0)] else []
  let parts := [(4, 0, head1), (4, 16, head2), (4, off 0, settings), (4, off 1, map)] ++
    objs.zipIdx.map (fun e => (e.1.1, off 2 + 32 * e.2, s.objRec e.1 (idx e.1))) ++ pad (off 2 + 32 * objs.length) (off 3) ++
    ts.zipIdx.map (fun e => (e.1.1, off 3 + 160 * e.2, turnRecord (s.turn e.1.1 e.1.2))) ++ pad (off 3 + 160 * ts.length) (off 4) ++
    lk.zipIdx.map (fun e => (e.1.1, off 4 + 32 * e.2, s.lockRec e.1)) ++ pad (off 4 + 32 * lk.length) (off 5) ++
    fd.map (fun o => (o.1, off 5 + 64 * foldAt o, s.regionBytes o))
  (parts, len)

/-- The CRC of an image: over its bytes from 16 to the end, which its parts give in order. -/
def imageCrc (parts : List (Nat × Nat × List Byte)) : Nat := crc32 ((parts.filter (fun p => 16 ≤ p.2.1)).flatMap (·.2.2))

/-! ### Restoring objects (R333) -/

/-- What the placement of an image's objects needs: the image, the target pavilion, Δ, whether holders are
kept, and the offsets of the turnstile, lock and fold sections. -/
structure Restore where
  b : List Byte
  pav : BitVec 6
  delta : Nat
  keep : Bool
  ts : Nat
  lk : Nat
  fold : Nat
  deriving DecidableEq, Repr

/-- The lowest free run of `n` fold lines at a multiple of 64. -/
def State.findLines (s : State) (si n : Nat) : Option Nat :=
  (lowestFrom (fun k => decide (64 * k + n ≤ 32768) && !s.linesTaken si (64 * k) n) 0 512).map (64 * ·)

/-- The lowest free semaphore-file entry of a group. -/
def State.findSem (s : State) (si group : Nat) : Option Nat :=
  let out := ((s.stn si).retiredRows.filter (fun e => e.1 = 2)).map (·.2)
  (lowestFrom (fun k => !(s.mem si).slots.any (fun e => (e.2.kind = .sem || e.2.kind = .glock) && e.2.link.toNat % 4096 == 64 * group + k) &&
    !out.contains (64 * group + k)) 0 64).map (64 * group + ·)

/-- An object record of an image: old address, index, saved slot, saved station, lines saved. -/
def Restore.objAt (r : Restore) (at' : Nat) : Nat × Nat × Slot × Nat × Nat :=
  let a := numAt r.b (at' + 16) 8
  (numAt r.b at' 4, numAt r.b (at' + 4) 4, slotOfAttr a (BitVec.ofNat 64 (numAt r.b (at' + 8) 8)), a / 2 ^ 14 % 4, numAt r.b (at' + 24) 4)

/-- Group of a lock record. -/
def Restore.group (r : Restore) (idx : Nat) : Nat := numAt r.b (r.lk + 32 * idx + 11) 1 % 64

/-- A station has room for the object: a slot or a group of four, and its record, queue, entry or lines. -/
def State.restoreFits (s : State) (r : Restore) (idx : Nat) (sl : Slot) (si : Nat) : Bool :=
  (s.findSlot si (sl.kind = .ring)).isSome &&
    match sl.kind with
    | .turnstile => (s.freeTurn si).isSome
    | .mlock => (s.freeLockq si).isSome
    | .sem | .glock => (s.findSem si (r.group idx)).isSome
    | .foldCounter => (s.findLines si (64 * foldNlg sl)).isSome
    | _ => true

/-- Lock state of a lock record. -/
def Restore.lock (r : Restore) (idx : Nat) : SemEnt :=
  let a := r.lk + 32 * idx
  let w := numAt r.b (a + 4) 4
  { SemEnt.init with count := BitVec.ofNat 32 (numAt r.b a 4), lock := w.testBit 31, held := w.testBit 24, holder := BitVec.ofNat 24 w
                     hpav := BitVec.ofNat 6 (numAt r.b (a + 8) 1), hprio := BitVec.ofNat 2 (w / 2 ^ 26), orphan := w.testBit 25
                     grants := BitVec.ofNat 16 (numAt r.b (a + 9) 2) }

/-- Turnstile record of the turnstile section. -/
def Restore.turn (r : Restore) (idx : Nat) : TurnRec :=
  let a := r.ts + 160 * idx
  ⟨BitVec.ofNat 256 (numAt r.b a 32), BitVec.ofNat 128 (numAt r.b (a + 32) 16), BitVec.ofNat 7 (numAt r.b (a + 144) 1),
    BitVec.ofNat 384 (numAt r.b (a + 48) 48), BitVec.ofNat 384 (numAt r.b (a + 96) 48), 0⟩

/-- Place one object (of a ring, its first slot) at `si`, `pon`. The marker of a skip region in an image counts as
acknowledged (assumption log 92). -/
def State.restoreAt (s : State) (r : Restore) (idx lines : Nat) (sl : Slot) (si pon : Nat) : State :=
  let put := fun (link : Nat) => s.modSlot si pon (fun _ => { sl with pav := r.pav, link := BitVec.ofNat 24 link })
  match sl.kind with
  | .turnstile =>
    let n := (s.freeTurn si).getD 0
    (put n).setTurn si pon (r.turn idx)
  | .sem | .glock =>
    let n := (s.findSem si (r.group idx)).getD 0
    let s := (put n).setEnt si pon (r.lock idx)
    if (r.lock idx).held ∧ !r.keep then s.orphanLock si pon else s
  | .mlock =>
    let n := (s.freeLockq si).getD 0
    let s := (put n).setEnt si pon (r.lock idx)
    if (r.lock idx).held ∧ !r.keep then s.orphanLock si pon else s.mlockWrite si pon
  | .foldCounter =>
    let first := (s.findLines si (64 * foldNlg sl)).getD 0
    let s := put (first + foldNlg sl * 2 ^ 15)
    let at' := r.fold + 64 * idx
    let s := (s.freshRegion si pon).modHdr si pon (fun _ => hdrOfLine ((r.b.drop at').take 64) sl.val.toNat)
    let s := s.wakeBanks si ((List.range (lines - 1)).foldl (fun m i => m ||| 2 ^ ((first + 1 + i) / 2048)) 0)
    s.modMem si (fun m => { m with lanes := (List.range (lines - 1)).foldl (fun ls i =>
      tset none ls (first + 1 + i) (some (BitVec.ofNat 512 (numAt r.b (at' + 64 * (i + 1)) 64)))) m.lanes })
  | .counter => put (if sl.ctxl then sl.link.toNat / 2 ^ 16 * 2 ^ 16 + (sl.link.toNat + r.delta) % 2 ^ 16 else sl.link.toNat)
  | .ring => (put sl.link.toNat).modStn si (fun st => { st with marked := st.marked.filter (· ≠ pon) ++ [pon] })
  | _ => put sl.link.toNat

/-- Place `n` objects from record `i` on; the pairs of old and new address, in image order. -/
def State.restoreAll (s : State) (r : Restore) (obj : Nat) : Nat → Nat → List (Nat × GAddr) → Option (State × List (Nat × GAddr))
  | 0, _, done => some (s, done)
  | n + 1, i, done =>
    let (old, idx, sl, saved, lines) := r.objAt (obj + 32 * i)
    if sl.kind = .ringPart then
      -- the ring of the preceding record took its group of four
      let pon := (done.getLast?.map (fun e => aPon e.2)).getD 0 + 1
      let si := (done.getLast?.map (fun e => (aStn e.2).toNat)).getD 0
      (s.restoreAt r idx lines sl si pon).restoreAll r obj n (i + 1) (done ++ [(old, s.addrOf si pon)])
    else
      let fits := fun (si : Nat) => s.restoreFits r idx sl si
      match (if fits saved then some saved else (List.range 4).find? fits) with
      | none => none
      | some si =>
        let pon := (s.findSlot si (sl.kind = .ring)).getD 0
        (s.restoreAt r idx lines sl si pon).restoreAll r obj n (i + 1) (done ++ [(old, s.addrOf si pon)])

/-- A bounded TICKET's bound object follows it, if it went to the same station (assumption log 32). -/
def State.restoreBound (s : State) (pairs : List (Nat × GAddr)) (e : Nat × GAddr) : State :=
  let si := (aStn e.2).toNat
  let sl := s.slot si (aPon e.2)
  if sl.kind ≠ .ticket ∨ !tickBv sl.link then s
  else
    let old := e.1 / 2 ^ 14 * 2 ^ 14 + tickBpon sl.link
    match pairs.find? (fun x => x.1 = old ∧ (aStn x.2).toNat = si) with
    | some x => (s.modSlot si (aPon e.2) (fun sl => { sl with link := BitVec.ofNat 24 (sl.link.toNat % 1024 + aPon x.2 * 1024) })).setBound si (aPon e.2) (some (aPon x.2))
    | none => s.modSlot si (aPon e.2) (fun sl => { sl with link := BitVec.ofNat 24 (sl.link.toNat % 512) })

end Sys2Proof.Machine
end

