-- ==== Sys2Proof/Machine/Pavilion.lean ====
section
/-! DEFINITION. Pavilion commands (11 R309 to R335): reset, freeze and drain, thaw, save, evict, restore. -/

namespace Sys2Proof.Machine

/-! ### Waits released at the halts (11 R320, R322, R328) -/

/-- An answer to what a wait register holds can still arrive: not a fence, not a gang wait, not a wait that a
cancel ends, and not a TICKET still in a batch record (R320). -/
def State.answerDue (s : State) (h i : Nat) : Bool :=
  let w := s.wait h i
  let batched := (s.halt h).batches.any (fun b => !b.2.sent && b.2.members.any (fun m => waitIdx m.1 m.2.1 = i))
  w.op ≠ 0 && w.gang.isNone && !waitsOn w.addr w && !batched

/-- The waiter record a TICKET of a wait register, or the batch whose first member it is, may hold on this die is
withdrawn (07 R196). -/
def State.cancelTicket (s : State) (h i : Nat) : State :=
  let w := s.wait h i
  let core := qCore h i
  if w.op = 0x14 ∧ w.addrV ∧ s.onDie w.addr then
    let op : BitVec 6 := if (s.batchOf h core (qTag i) false).isSome then 0x15 else 0x14
    s.emit (.halt (BitVec.ofNat 4 h)) (.stn (aStn w.addr)) (.cancel w.addr (some ⟨⟨op, w.pav, w.gen, 0, core, qTag i, false, w.ret, false, 0, 0⟩,
      w.addr, .queue (BitVec.ofNat 4 h) core (qTag i), false, none, false, none⟩))
  else s

/-- Every wait register and siding of a pavilion at a halt is released with `st`. -/
def State.releaseWaits (s : State) (h : Nat) (p : BitVec 6) (st : Status) : State :=
  let is := ((s.halt h).waits.filter (fun e => e.2.v && e.2.pav == p)).map (·.1)
  let s := is.foldl (fun s i =>
    let due := s.answerDue h i
    let s := (if due then s.cancelTicket h i else s).dropWait h i st
    if due then s.modWait h i (fun w => { w with stale := true }) else s) s
  s.modHalt h (fun ht => { ht with batches := ht.batches.filter (fun b => b.2.sent || b.2.pav != p) })

/-! ### PAV_CMD -/

def State.pavRefuse (s : State) (p : BitVec 6) (code : Nat) : State :=
  ((s.putB F.PAV_STAT_ERR true 0 p.toNat).put F.PAV_STAT_CODE code 0 p.toNat).evt 3 1
def State.pavOk (s : State) (p : BitVec 6) : State := (s.putB F.PAV_STAT_ERR false 0 p.toNat).put F.PAV_STAT_CODE 0 0 p.toNat
/-- A command ends in error after it began. -/
def State.pavFail (s : State) (p : BitVec 6) (code : Nat) : State :=
  (((s.setJob 0 none).putB F.PAV_STAT_ERR true 0 p.toNat).put F.PAV_STAT_CODE code 0 p.toNat)

/-! ### Reset (R322) -/

/-- Phase 5: combining entries, park and records held for commit end with FLUSHED. -/
def State.flushJunction (s : State) (p : BitVec 6) : State :=
  let mine := fun (e : Nat) => s.get F.JF_CFG_PAV 0 e == p.toNat
  let s := ((List.range 64).filter mine).foldl (fun s e =>
    let c := s.comb e
    let s := s.modComb e (fun c => { c with count := 0, early := 0, lanes := [], members := [], outMembers := [] })
    (c.outMembers.map (·.2) ++ c.members).foldl (fun s rq => s.answerFrom .jct rq .flushed 0) s) s
  let parked := s.jct.parked.filter (fun r => r.pav == p)
  let s := parked.foldl (fun s r => s.refuseParked r .flushed)
    (s.modJct (fun j => { j with parked := j.parked.filter (fun r => r.pav != p) }))
  let of := fun (s : State) (h : HeldFrame) (r : BitVec 128) => recBits r 124 4 = 1 && s.importPav h.src (recBits r 103 6) == some p
  let held := s.jct.held
  let s' := s.modJct (fun j => { j with held := held.map (fun h => { h with recs := h.recs.filter (fun r => !of s h r) }) })
  held.foldl (fun t h => (h.recs.filter (fun r => of s h r)).foldl (fun t r => t.refuseRec h.src r .flushed) t) s'

/-- Phases 3 to 6. -/
def State.resetRest (s : State) (p : BitVec 6) : State :=
  let s := (s.orphanAll 0 p.toNat true).2
  let s := (s.flushPav p).flushJunction p
  ((s.setJob 0 none).setPavState p 0).evt 3 0

/-- RESET. -/
def State.pavReset (s : State) (p : BitVec 6) : State :=
  let last := tget 0 s.jct.lastReset p.toNat
  if s.pavState p = 5 ∨ s.pavState p = 6 then s.pavRefuse p 1
  else if last ≠ 0 ∧ s.fclk + 1 < last + 2 ^ 21 then s.pavRefuse p 2
  else
    let s := ((s.pavOk p).setPavState p 5).putB F.RUN_STAT_OPEN false 0 p.toNat
    let s := s.put F.PAV_STAT_GEN ((s.gen p).toNat + 1) 0 p.toNat
    let s := s.modJct (fun j => { j with lastReset := tset 0 j.lastReset p.toNat (s.fclk + 1) })
    let s := (List.range 16).foldl (fun s h => s.releaseWaits h p .flushed) s
    let s := s.releaseHeld p (fun s h r => (s.acc r.core r.qtag).endAtHalt h r.core r.qtag (opPosted r.op r.ret) .flushed)
    if s.recovering then s.newJob 0 p 9 [] else s.resetRest p

/-! ### Freeze, drain and thaw (R323 to R326) -/

/-- FREEZE: the combining entries of the pavilion send what they hold (R324). -/
def State.pavFreeze (s : State) (p : BitVec 6) : State :=
  if s.pavState p ≠ 1 then s.pavRefuse p 1
  else
    let s := (s.pavOk p).setPavState p 2
    ((List.range 64).filter (fun e => s.flag F.JF_CFG_V 0 e && s.get F.JF_CFG_PAV 0 e == p.toNat && (s.comb e).count ≠ 0)).foldl
      (fun s e => s.sendPartial e true) s

/-- A message in the mesh carries a request of the pavilion, or the answer to one (R325). -/
def State.msgOfPav (s : State) (p : BitVec 6) : Msg → Bool
  | .ack rq _ => rq.req.pav == p
  | .compl rq _ _ _ _ => rq.req.pav == p
  | .batch rq => rq.req.pav == p
  | .reg _ _ pav => pav == p
  | .moveAck _ _ rq => rq.req.pav == p
  | .kind a _ _ _ _ => a.addr.extractLsb' 24 6 == p
  | .remoteAnswer core q false _ _ _ _ =>
    match tagThread core q with
    | some t => (s.entryOf t).pav == p
    | none => (s.wait (core.toNat / 16) (waitIdx core q)).pav == p
  | _ => false

/-- A frame of a beat or partial that is not yet whole is of the pavilion. -/
def State.rxOfPav (s : State) (p : BitVec 6) (e : Nat × List (BitVec 128)) : Bool :=
  let d := e.2.getD 1 0
  s.importPav (BitVec.ofNat 9 e.1) (if e.2.head? = some 4 then recBits d 50 6 else recBits d 43 6) == some p

/-- What a wait register holds has become a registered wait, a queued waiter record or a gang wait; what the
object of another die has made of a blocking request is not known here, and the event tells it. -/
def State.waitSettled (s : State) (h i : Nat) (w : WaitReg) : Bool :=
  let core := qCore h i
  let q := if w.sided then w.homeQ else qTag i
  w.gang.isSome || waitsOn w.addr w || w.op = 0 ||
    (w.addrV && aSrc w.addr ≠ s.dieSrc && w.op ≠ 0x04) ||
    (List.range 4).any (fun si => (s.mem si).waiters.any (fun x => match x.rq.who with
      | .queue _ c t => c = core && t = q && x.rq.req.op = w.op
      | _ => false))

/-- The conditions of R325. -/
def State.pavIsDrained (s : State) (p : BitVec 6) : Bool :=
  (List.range 16).all (fun h => tget 0 (s.halt h).unackedPav p.toNat = 0 &&
    (s.halt h).waits.all (fun e => !(e.2.v && e.2.pav == p) || s.waitSettled h e.1 e.2) &&
    (s.halt h).batches.all (fun b => b.2.members.isEmpty || b.2.pav != p) && (s.halt h).ssHeld.all (fun m => !s.msgOfPav p m.msg)) &&
  allThreads.all (fun t => (s.th t).unacked = 0 || (s.entryOf t).pav != p) &&
  (List.range 4).all (fun si => (s.mem si).freezeQ.all (fun r => r.2.req.pav != p) && (s.stn si).backlog.all (fun r => r.2.req.pav != p) &&
    (s.stn si).beats.all (fun b => b.pav != p)) &&
  s.net.all (fun m => !s.msgOfPav p m.msg) &&
  s.jct.respWait.all (fun r => r.2.req.pav != p) && s.jct.remoteHeld.all (fun r => r.req.pav != p) &&
  s.jct.retWait.all (fun r => r.req.pav != p) && s.jct.beatWait.all (fun b => b.pav != p) && s.jct.rxPart.all (fun e => !s.rxOfPav p e) &&
  s.jct.held.all (fun h => h.recs.all (fun r => s.importPav h.src (recBits r 103 6) != some p)) &&
  (List.range 64).all (fun e => s.get F.JF_CFG_PAV 0 e != p.toNat || ((s.comb e).count = 0 && (s.comb e).outMembers.isEmpty)) &&
  (s.objectsOf p).all (fun o => (s.slot o.1 o.2).kind ≠ .foldCounter || !(s.hdr o.1 o.2).rel)

/-- THAW. -/
def State.pavThaw (s : State) (p : BitVec 6) : State :=
  if !s.pavFrozen p then s.pavRefuse p 1
  else
    let s := (s.pavOk p).setPavState p 1
    let s := s.releaseHeld p (fun s _ r => s.presentAgain r)
    let s := s.forwardPark p
    (s.threadsOf p).foldl (fun s t => if (s.th t).state = .held then s.modTh t (fun th => { th with state := .running }) else s) s

/-! ### Save and evict (R327 to R331) -/

/-- Why a SAVE is refused, but for want of space. -/
def State.saveCode (s : State) (p : BitVec 6) : Nat :=
  let base := 64 * s.get F.HM_WIN_BASE_G 0 p.toNat
  if s.pavState p ≠ 3 then 1
  else if !(s.gangsOf p).isEmpty then 4
  else if !(s.threadsOf p).isEmpty then 5
  else if (List.range (64 * s.get F.HM_WIN_SIZE_G 0 p.toNat)).any (fun i => hmSaved (s.hmEntry (base + i))) then 6
  else 0

/-- Every wait of the pavilion is released with FROZEN (R328 step 2). -/
def State.releaseFrozen (s : State) (p : BitVec 6) : State :=
  let s := (List.range 16).foldl (fun s h => s.releaseWaits h p .frozen) s
  let s := (List.range 4).foldl (fun s si =>
    s.endWaiters si (fun w => w.rq.req.pav == p || (s.slot si w.pon).pav == p) .frozen false) s
  s.endHome p .frozen

/-- SAVE. A row that it cannot read resets the station, and ends it with CODE FAULT (R336). -/
def State.pavSave (s : State) (p : BitVec 6) : State :=
  let c := s.saveCode p
  if c ≠ 0 then s.pavRefuse p c
  else
    let rd := s.scanSlots (fun ram => ram < 0x06 || ram = 0x0A)
    let s := rd.2
    if !rd.1 then s.pavFail p 11 else
    let len := s.imageParts p |>.2
    let s := s.put F.PAV_IMG_NEED_LEN len 0 p.toNat
    if s.get F.PAV_IMG_LEN_LEN 0 p.toNat < len then s.pavRefuse p 3
    else
      let s := (s.pavOk p).releaseFrozen p
      let parts := (s.imageParts p).1
      let at' := s.get64 F.PAV_IMG_LO_ADDR F.PAV_IMG_HI_ADDR 0 p.toNat
      (s.newJob 0 p 1 [imageCrc parts, at']).jobWrites 0 (parts.map (fun w => (w.1, at' + w.2.1, w.2.2)))

/-- The image's writes are acknowledged: the CRC is written, and its acknowledgement ends the SAVE. A pavilion that RUN_CLOSE
with FORCE has closed meanwhile stays CLOSED, and the command ends with CODE 1 (R309, R310; assumption log 95). -/
def State.pavSaved (s : State) (j : Job) : State :=
  if j.bad then s.pavFail j.pav 11
  else if s.pavState j.pav ≠ 3 then s.pavFail j.pav 1
  else if j.phase = 1 then (s.setJob 0 (some { j with phase := 2 })).jobWrites 0 [(4, j.args.getD 1 0 + 12, natBytes 4 (j.args.getD 0 0))]
  else ((s.setJob 0 none).setPavState j.pav 4).evt 3 0

/-- Every slot of a pavilion is freed, with what it holds, and its window's entries are cleared. -/
def State.freePav (s : State) (p : BitVec 6) : State :=
  let s := (List.range 4).foldl (fun s si =>
    (((s.mem si).slots.filter (fun e => e.2.pav == p && e.2.kind ≠ .free && e.2.kind ≠ .retired)).map (·.1)).foldl
      (fun s pon => s.freeSlot si pon) s) s
  let base := 64 * s.get F.HM_WIN_BASE_G 0 p.toNat
  (List.range (64 * s.get F.HM_WIN_SIZE_G 0 p.toNat)).foldl (fun s i =>
    let e := s.hmEntry (base + i)
    if hmV e ∨ hmSaved e then s.setHm (base + i) (hmWord (hmAddr e) false false) else s) s

/-- EVICT (R331). -/
def State.pavEvict (s : State) (p : BitVec 6) : State :=
  if s.pavState p ≠ 4 then s.pavRefuse p 1
  else
    let rd := s.scanSlots (fun ram => ram = 0x01)
    let s := rd.2
    if !rd.1 then s.pavFail p 11 else
    let s := ((s.pavOk p).putB F.RUN_STAT_OPEN false 0 p.toNat).setPavState p 0
    let s := (s.flushPav p).freePav p
    ((s.releaseHeld p (fun s _ r => s.presentAgain r)).forwardPark p).evt 3 0

/-! ### Restore (R332 to R334) -/

/-- A slot in any station has the pavilion's PAV. -/
def State.hasSlots (s : State) (p : BitVec 6) : Bool :=
  (List.range 4).any (fun si => (s.mem si).slots.any (fun e => e.2.pav == p && e.2.kind ≠ .free && e.2.kind ≠ .retired))

/-- RESTORE begins with the image's header. -/
def State.pavRestore (s : State) (p : BitVec 6) : State :=
  if s.pavState p ≠ 0 ∨ s.hasSlots p then s.pavRefuse p 1
  else
    let rd := s.scanSlots (fun ram => ram = 0x01)
    let s := rd.2
    if !rd.1 then s.pavFail p 11 else
    let at' := s.get64 F.PAV_IMG_LO_ADDR F.PAV_IMG_HI_ADDR 0 p.toNat
    ((s.pavOk p).newJob 0 p 3 [at', bnat (s.flag F.PAV_CMD_KEEP_HOLDERS)]).jobReads 0 4 at' 0 1

/-- A refusal of the check pass. -/
def State.restoreRefuse (s : State) (p : BitVec 6) (code : Nat) : State := (s.pavFail p code).evt 3 1

/-- The header is an image's, and its offsets and length are those of its counts. -/
def headerOk (b : List Byte) : Bool :=
  let r := imageOffsets (numAt b 16 4 / 2 ^ 10 % 2 ^ 11) (numAt b 24 4) (numAt b 28 4) (numAt b 32 4) (numAt b 36 4)
  numAt b 0 2 = 0x0101 && decide ((List.range 6).map (fun i => numAt b (40 + 4 * i) 4) = r.1) && numAt b 8 4 = r.2

/-- The header has been read. -/
def State.pavHeaderRead (s : State) (j : Job) : State :=
  let b := j.bytes
  if j.bad then s.restoreRefuse j.pav 11
  else if !headerOk b then s.restoreRefuse j.pav 7
  else (s.setJob 0 (some { j with phase := 4 })).jobReads 0 4 (j.args.getD 0 0) 1 (numAt b 8 4 / 64 - 1)

/-- A quota of R311 is exceeded by what a pavilion holds. -/
def State.quotaBroken (s : State) (p : BitVec 6) : Bool :=
  let i := p.toNat
  (List.range 4).any (fun si => decide (s.get F.PQ_OBJ_OBJ 0 i < s.objUse si p) || decide (s.get F.PQ_FOLD_LINES 0 i < s.lineUse si p) ||
    decide (s.get F.PQ_RES_TS 0 i < s.kindUse si p .turnstile) || decide (s.get F.PQ_RES_MLQ 0 i < s.kindUse si p .mlock))

/-- The window of a restored pavilion (R333 Map). -/
def State.restoreMap (s : State) (b : List Byte) (g base : Nat) (pairs : List (Nat × GAddr)) : State :=
  (List.range (64 * g)).foldl (fun s i =>
    let e : Word32 := BitVec.ofNat 32 (numAt b (320 + 4 * i) 4)
    let e := match if hmV e then pairs.find? (fun x => x.1 = (hmAddr e).toNat) else none with
      | some x => hmWord x.2 true (hmSaved e)
      | none => e
    s.setHm (64 * base + i) e) s

/-- The whole image has been read: the checks of R332, then R333 and R334. -/
def State.pavImageRead (s : State) (j : Job) : State :=
  let b := j.bytes
  let p := j.pav
  let i := p.toNat
  let g := numAt b 16 4 / 2 ^ 10 % 2 ^ 11
  let offs := (imageOffsets g (numAt b 24 4) (numAt b 28 4) (numAt b 32 4) (numAt b 36 4)).1
  let base := s.get F.HM_WIN_BASE_G 0 i
  let delta := (64 * base + 2 ^ 16 - 64 * (numAt b 16 4 % 2 ^ 10)) % 2 ^ 16
  let same := numAt b 6 1 = s.su.die.toNat ∧ numAt b 7 1 = s.su.pkg.toNat
  let r : Restore := ⟨b, p, delta, j.args.getD 1 0 = 1 && decide same, offs.getD 3 0, offs.getD 4 0, offs.getD 5 0⟩
  if j.bad then s.restoreRefuse p 11
  else if s.pavState p ≠ 0 ∨ s.hasSlots p then s.restoreRefuse p 1
  else if crc32 ((b.take (numAt b 8 4)).drop 16) ≠ numAt b 12 4 then s.restoreRefuse p 7
  else if s.get F.HM_WIN_SIZE_G 0 i < g ∨ s.get F.HM_PW_PW 0 i ≠ numAt b 20 4 then s.restoreRefuse p 8
  else match s.restoreAll r (offs.getD 2 0) (numAt b 24 4) 0 [] with
    | none => s.restoreRefuse p 9
    | some (t, pairs) =>
      if t.quotaBroken p then s.restoreRefuse p 10
      else
        let t := (pairs.foldl (fun t e => t.restoreBound pairs e) t).restoreMap b g base pairs
        let wait := numAt b (64 + 128) 4
        let lock := numAt b (64 + 132) 4
        let t := ((t.put F.WAIT_CFG_LUISK wait 0 i).put F.WAIT_CFG_LIMIT (wait / 2 ^ 10) 0 i)
        let t := ((t.put F.LOCK_CFG_INH lock 0 i).put F.LOCK_CFG_LIMIT (lock / 2 ^ 10) 0 i)
        let t := (t.put F.RUN_STAT_RUN (numAt b 4 2) 0 i).setPavState p 6
        let t := (t.put F.PAV_REMAP_N_N pairs.length 0 i).put F.PAV_CTXL_DELTA_DELTA delta 0 i
        let list := pairs.flatMap (fun e => natBytes 4 e.1 ++ natBytes 4 e.2.toNat)
        let at' := t.get64 F.PAV_REMAP_LO_ADDR F.PAV_REMAP_HI_ADDR 0 i
        let t := (t.setJob 0 (some { j with phase := 5, lines := [] })).jobWrites 0 [(4, at', list)]
        if pairs.isEmpty then (((t.setJob 0 none).setPavState p 3).putB F.RUN_STAT_OPEN true 0 i).evt 3 0 else t

/-- The remap list is written; what was restored is freed again if it could not be. -/
def State.pavRestored (s : State) (j : Job) : State :=
  if j.bad then ((s.freePav j.pav).setPavState j.pav 0).pavFail j.pav 11
  else (((s.setJob 0 none).setPavState j.pav 3).putB F.RUN_STAT_OPEN true 0 j.pav.toNat).evt 3 0

/-- A pavilion job's accesses have all completed: phases 1 and 2 SAVE, 3 to 5 RESTORE. -/
def State.pavJobDone (s : State) (j : Job) : State :=
  if j.phase ≤ 2 then s.pavSaved j
  else if j.phase = 3 then s.pavHeaderRead j
  else if j.phase = 4 then s.pavImageRead j
  else s.pavRestored j

/-! ### The register and its rows -/

/-- PAV_CMD (R310). -/
def State.pavCmd (s : State) (w : Word32) : State :=
  if (s.job 0).isSome then s
  else
    let s := s.writeFields 0x03 0 0x044 0 w.toNat
    let p : BitVec 6 := BitVec.ofNat 6 (s.get F.PAV_SEL_PAV)
    let cmds := (List.range 6).filter (fun i => wbit w i)
    match cmds with
    | [] => s
    | [0] => s.pavFreeze p
    | [1] => s.pavThaw p
    | [2] => s.pavSave p
    | [3] => s.pavRestore p
    | [4] => s.pavReset p
    | [5] => s.pavEvict p
    | _ => s.pavRefuse p 12

/-- PAV_FREEZE (R323). -/
def execPavFreeze (w : Word32) (s : State) : Host.Outcome State Fault Refusal :=
  .next (s.keep (s.quiet.cfgAccess 0x03 0x044 (fun s => s.pavCmd (withBit w 0))))
/-- PAV_THAW (R326). -/
def execPavThaw (w : Word32) (s : State) : Host.Outcome State Fault Refusal :=
  .next (s.keep (s.quiet.cfgAccess 0x03 0x044 (fun s => s.pavCmd (withBit w 1))))
/-- PAV_SAVE (R327, R328). -/
def execPavSave (w : Word32) (s : State) : Host.Outcome State Fault Refusal :=
  .next (s.keep (s.quiet.cfgAccess 0x03 0x044 (fun s => s.pavCmd (withBit w 2))))
/-- PAV_RESTORE (R332, R333). -/
def execPavRestore (w : Word32) (s : State) : Host.Outcome State Fault Refusal :=
  .next (s.keep (s.quiet.cfgAccess 0x03 0x044 (fun s => s.pavCmd (withBit w 3))))
/-- PAV_RESET (R322). -/
def execPavReset (w : Word32) (s : State) : Host.Outcome State Fault Refusal :=
  .next (s.keep (s.quiet.cfgAccess 0x03 0x044 (fun s => s.pavCmd (withBit w 4))))
/-- PAV_EVICT (R331). -/
def execPavEvict (w : Word32) (s : State) : Host.Outcome State Fault Refusal :=
  .next (s.keep (s.quiet.cfgAccess 0x03 0x044 (fun s => s.pavCmd (withBit w 5))))

/-- PAV_DRAINED: the pavilion's work has drained, no station being in recovery (R322, R325). -/
def execPavDrained (p : BitVec 6) (s : State) : Host.Outcome State Fault Refusal :=
  .next (s.keep (
    let s := s.quiet
    if s.pavState p = 2 ∧ s.pavIsDrained p ∧ !s.recovering then (s.setPavState p 3).evt 3 0 else s))

/-- PAV_DRAIN_SLOW: PAV_DRAIN_LIMIT fclk have passed since FREEZE (R325). -/
def execPavDrainSlow (p : BitVec 6) (s : State) : Host.Outcome State Fault Refusal :=
  .next (s.keep (
    let s := s.quiet
    if s.pavState p = 2 then (s.putB F.PAV_STAT_SLOW true 0 p.toNat).evt 3 5 else s))

end Sys2Proof.Machine
end

