-- ==== Sys2Proof/Machine/TwoParty.lean ====
section
/-! DEFINITION. Two-party changes (11 R313 to R315, R337) and mailboxes (11 R316, R317). -/

namespace Sys2Proof.Machine

/-! ### Staging -/

/-- The selector that a write to an RW2 register captures; none of a register that is not RW2 (R313). -/
def State.stageSel (s : State) (page off : Nat) : Option Nat :=
  if page = 0x03 ∧ (off = 0x0C4 ∨ off = 0x0C8) then some (s.get F.HM_WIN_SEL_PAV)
  else if page = 0x03 ∧ off = 0x114 then
    some (s.get F.SEMR_SEL_STN + s.get F.SEMR_SEL_GROUP * 2 ^ 2 + s.get F.SEMR_SEL_PAV * 2 ^ 8)
  else if page = 0x01 ∧ off = 0x04C then some (s.get F.JL_IMP_SEL_IDX)
  else if page = 0x03 ∧ (off = 0x080 ∨ off = 0x084 ∨ off = 0x088) then some (s.get F.PAV_SEL_PAV)
  else if page = 0x03 ∧ off = 0x12C then some 0
  else none

/-- A proposal is pending. -/
def State.proposed (s : State) : Bool := s.get F.TP_STAT_STATE == 1

/-- A write to an RW2 register. -/
def State.stageWrite (s : State) (page off : Nat) (w : Word32) : State :=
  match s.stageSel page off with
  | none => s
  | some sel =>
    let same := fun (e : Staged) => e.page = page && e.off = off && e.sel = sel
    let dup := s.jct.staged.any same
    if s.proposed ∨ (!dup ∧ 32 ≤ s.jct.staged.length) then s.putB F.TP_STAT_FULL true
    else
      let l := s.jct.staged
      let l' : List Staged := if dup then List.map (fun e => if same e then { e with data := w } else e) l else l ++ [⟨page, off, sel, w⟩]
      s.modJct (fun j => { j with staged := l' })

/-! ### Application -/

/-- One staged change acts on the entry its selector names. -/
def State.applyStaged (s : State) (e : Staged) : State :=
  if e.page = 0x03 ∧ e.off = 0x114 then
    s.modMem (e.sel % 4) (fun m => { m with rights := tset 0 m.rights (e.sel / 4 % 64 * 64 + e.sel / 256 % 64) (e.data.extractLsb' 0 4) })
  else (fieldsAt e.page e.off).foldl (fun s f => s.put f (bitsOf e.data.toNat f.lo f.len) 0 e.sel) s

/-- A proposal or the list ends with RESULT `r`. -/
def State.endProposal (s : State) (r : Nat) : State :=
  ((s.modJct (fun j => { j with staged := [] })).put F.TP_STAT_STATE 0).put F.TP_STAT_RESULT r

/-- TP_PROPOSE (R314, R315). -/
def State.tpPropose (s : State) (w : Word32) : State :=
  let s := s.writeFields 0x03 0 0x120 0 w.toNat
  if wbit w 17 then s.endProposal 4
  else if !wbit w 16 ∨ s.proposed then s
  else if s.get F.TP_PROPOSE_SEQ ≠ (s.get F.TP_STAT_LAST_SEQ + 1) % 2 ^ 16 ∨ s.jct.staged.isEmpty then s.put F.TP_STAT_RESULT 5
  else (s.put F.TP_STAT_STATE 1).modJct (fun j => { j with proposedAt := s.fclk })

/-- The window has run out (R315). -/
def State.tpExpired (s : State) : State := (s.endProposal 3).evt 3 3

/-- TP_CONFIRM; `sec` is the secure-requester indication (16 R442). -/
def State.tpConfirm (s : State) (sec : Bool) (w : Word32) : State :=
  let seq := w.toNat % 2 ^ 16
  if !sec then (s.putB F.TP_STAT_FORGED true).evt 3 4
  else if !s.proposed then s
  else if s.get F.TP_WINDOW_FCLK ≤ s.fclk - s.jct.proposedAt then s.tpExpired
  else if seq ≠ (s.get F.TP_STAT_LAST_SEQ + 1) % 2 ^ 16 then (s.endProposal 2).evt 3 3
  else ((((s.jct.staged.foldl (fun s e => s.applyStaged e) s).endProposal 1).put F.TP_STAT_LAST_SEQ seq).evt 3 2)

/-! ### Mailboxes (R316) -/

/-- A doorbell word: of the manager at 0x040 to 0x07C, of the tenant at 0x080 to 0x0BC. -/
def State.mailWrite (s : State) (p off : Nat) (w : Word32) : State :=
  let n := off / 4 % 16
  if 0x040 ≤ off ∧ off < 0x080 then (s.put F.M2T_DB_WORD w.toNat p n).evt (0x40 + p) n
  else if 0x080 ≤ off ∧ off < 0x0C0 then (s.put F.T2M_DB_WORD w.toNat p n).evt (0x40 + p) (16 + n)
  else s

/-! ### Meanings -/

/-- RW2_STAGING_WRITE (R313). -/
def execRw2StagingWrite (page : BitVec 7) (off : BitVec 12) (w : Word32) (s : State) : Host.Outcome State Fault Refusal :=
  .next (s.keep (
    if (s.stageSel page.toNat off.toNat).isSome then s.quiet.cfgAccess page.toNat off.toNat (fun s => s.stageWrite page.toNat off.toNat w)
    else s.quiet))
/-- TP_PROPOSE (R314). -/
def execTpPropose (w : Word32) (s : State) : Host.Outcome State Fault Refusal :=
  .next (s.keep (s.quiet.cfgAccess 0x03 0x120 (fun s => s.tpPropose (withBit w 16))))
/-- TP_ABORT (R315). -/
def execTpAbort (w : Word32) (s : State) : Host.Outcome State Fault Refusal :=
  .next (s.keep (s.quiet.cfgAccess 0x03 0x120 (fun s => s.tpPropose (withBit w 17))))
/-- TP_CONFIRM (R315). -/
def execTpConfirm (sec : Bool) (w : Word32) (s : State) : Host.Outcome State Fault Refusal :=
  .next (s.keep (s.quiet.cfgAccess 0x03 0x124 (fun s => s.tpConfirm sec w)))
/-- TP_WINDOW_EXPIRY: the window's fclk have been counted (R315). -/
def execTpWindowExpiry (s : State) : Host.Outcome State Fault Refusal :=
  .next (s.keep (
    let s := s.quiet
    if s.proposed then s.tpExpired else s))
/-- MAILBOX_DOORBELL_WRITE (R316). -/
def execMailboxDoorbellWrite (p : BitVec 6) (off : BitVec 12) (w : Word32) (s : State) : Host.Outcome State Fault Refusal :=
  .next (s.keep (s.quiet.cfgAccess (0x40 + p.toNat) off.toNat (fun s => s.mailWrite p.toNat off.toNat w)))

end Sys2Proof.Machine
end

