-- ==== Sys2Proof/Machine/Timetable.lean ====
section
/-! DEFINITION. Timetables and epoch boundaries (10). -/

namespace Sys2Proof.Machine

/-! ### The epoch counter (R289 to R291) -/

def State.epoch (s : State) : Nat := s.get64 F.TT_EPOCH_LO_VALUE F.TT_EPOCH_HI_VALUE
def State.setEpoch (s : State) (v : Nat) : State := (s.put F.TT_EPOCH_LO_VALUE v).put F.TT_EPOCH_HI_VALUE (v / 2 ^ 32)
def State.swapAt (s : State) : Nat := s.get64 F.TT_SWAP_AT_LO_AT F.TT_SWAP_AT_HI_AT

def State.ttErr (s : State) (code : Nat) : State := (s.putB F.TT_STAT_ERR (code ≠ 0)).put F.TT_STAT_CODE code

/-- The binding ends, and its watch is cancelled unless something else waits on the object. -/
def State.unbind (s : State) : State :=
  match s.jct.ttBound with
  | none => s
  | some a =>
    let s := (s.modJct (fun j => { j with ttBound := none, ttPav := 0 })).putB F.TT_STAT_BOUND false
    if (s.homeLowest a).isNone then s.homeReg a else s

/-- The slot may be bound. -/
def State.bindOk (s : State) (a : GAddr) : Bool :=
  let sl := s.slot (aStn a).toNat (aPon a)
  s.onDie a && sl.kind = .counter && !sl.ctxl

/-! ### Boundaries and swaps (R294 to R299) -/

/-- A station counts a boundary for its drift pairs (04 R116). -/
def State.driftBoundary (s : State) (si : Nat) : State :=
  s.modMem si (fun m => { m with drift := m.drift.map (fun e =>
    let d := e.2
    if d.mode ≠ 2 ∨ d.k = 0 then e
    else if d.bounds + 1 = d.k then (e.1, { d with bounds := 0, armed := true })
    else (e.1, { d with bounds := d.bounds + 1 })) })

/-- What a thread does when its entry is replaced by `new` (08 R245). -/
def State.threadSwap (s : State) (t : ThreadId) (old new : Entry) : State :=
  let th := s.th t
  match th.state with
  | .running | .waiting | .held => s.modTh t (fun th => { th with run := some (th.run.getD old) })
  | .armed =>
    let s := s.cancelWait t
    if new.v ∧ new.trigV then s.thRearm t else s.modTh t (fun th => { th with state := .off })
  | .off | .stopped => s

/-- A box exchanges its banks. -/
def State.boxSwap (s : State) (b : Nat) : State :=
  let x := s.box (boxPart b)
  let s := s.modBox (boxPart b) (fun x => { x with active := x.shadow, shadow := x.active })
  (List.range 16).foldl (fun s i => s.threadSwap (boxThread b i) (tget Entry.init x.active i) (tget Entry.init x.shadow i)) s

/-- The shares of a pavilion exchange their banks: the active bank's selector is 64 higher (R306). -/
def State.shareSwap (s : State) (p : Nat) : State :=
  let w := s.get F.SH_WATCH_SHARE 0 p
  let x := s.get F.SH_PROXY_SHARE 0 p
  let s := (s.put F.SH_WATCH_SHARE (s.get F.SH_WATCH_SHARE 0 (p + 64)) 0 p).put F.SH_WATCH_SHARE w 0 (p + 64)
  (s.put F.SH_PROXY_SHARE (s.get F.SH_PROXY_SHARE 0 (p + 64)) 0 p).put F.SH_PROXY_SHARE x 0 (p + 64)

/-- The acknowledgement SIG of a boundary (R297). -/
def State.ttAck (s : State) : State :=
  let a : GAddr := BitVec.ofNat 25 (s.get F.TT_ACK_OBJ_ADDR)
  if !s.flag F.TT_ACK_OBJ_V ∨ !s.onDie a then s
  else
    let pav := (s.slot (aStn a).toNat (aPon a)).pav
    let (q, s) := s.stamp .jct
    let rq : HReq := ⟨⟨0x01, pav, s.gen pav, 0, 0, 0, false, false, false, q, 1⟩, a, .timetable, true, none, false, none⟩
    (s.retainReq .jct rq).route rq

/-- A boundary is delivered, with or without SWAP, in every station and the junction on one fclk (R294). -/
def State.deliver (s : State) (swap : Bool) : State :=
  let s := s.put F.TT_BOUNDS_COUNT (s.get F.TT_BOUNDS_COUNT + 1)
  let s := (List.range 4).foldl (fun s si => s.driftBoundary si) s
  let s := if swap then
      let s := (List.range 64).foldl (fun s p => s.shareSwap p) s
      let s := (List.range 5).foldl (fun s b => (s.boxSwap b).ledgerNote b 3 0) s
      let s := ((s.putB F.TT_STAT_COMMITTED false).putB F.TT_STAT_ARMED false).putB F.TT_STAT_HOLD_EXPIRED false
      (s.bump F.TT_SWAPS_COUNT).evt 2 0
    else s
  s.ttAck

/-- A boundary that was due to swap finds no commit, and is delivered without (R299). -/
def State.ttMiss (s : State) : State := ((s.bump F.TT_MISSES_COUNT).evt 2 1).deliver false

/-- The decision of a boundary (R296, R299). -/
def State.decideBoundary (s : State) : State :=
  if !s.flag F.TT_STAT_ARMED ∨ s.epoch < s.swapAt then s.deliver false
  else if s.flag F.TT_STAT_COMMITTED then s.deliver true
  else if s.flag F.TT_POLICY_MISS ∧ s.get F.TT_HOLD_LIMIT_LIMIT ≠ 0 ∧ !s.flag F.TT_STAT_HOLD_EXPIRED then s.putB F.TT_STAT_HOLDING true
  else s.ttMiss

/-- A boundary becomes ready: it merges with a held one, is held for a recovery (R303), or is decided. -/
def State.boundary (s : State) : State :=
  if s.flag F.TT_STAT_HOLDING then s.bump F.TT_MERGED_COUNT
  else if s.recovering then (s.modJct (fun j => { j with ttRecover := true })).putB F.TT_STAT_HOLDING true
  else s.decideBoundary

/-- A boundary held by policy is released, with SWAP or as a miss, or waits on for a recovery. -/
def State.releaseHold (s : State) (swap : Bool) : State :=
  if s.recovering then s.modJct (fun j => { j with ttRecover := true, ttSwap := swap })
  else
    let s := s.putB F.TT_STAT_HOLDING false
    if swap then s.deliver true else s.ttMiss

/-- The last recovery has ended: a boundary held for it is delivered, whatever the policy (R303), unless the epoch is lost
(R291). -/
def State.recoveryBoundary (s : State) : State :=
  if s.jct.ttRecover ∧ !s.recovering ∧ s.jct.ttBound.isSome then
    let swap := s.jct.ttSwap
    let s := (s.modJct (fun j => { j with ttRecover := false, ttSwap := false })).putB F.TT_STAT_HOLDING false
    if swap then s.deliver true
    else if !s.flag F.TT_STAT_ARMED ∨ s.epoch < s.swapAt then s.deliver false
    else if s.flag F.TT_STAT_COMMITTED then s.deliver true
    else s.ttMiss
  else s

/-! ### TT_CTL -/

/-- BIND. -/
def State.ttBind (s : State) : State :=
  let a : GAddr := BitVec.ofNat 25 (s.get F.TT_EPOCH_OBJ_ADDR)
  if !s.bindOk a then s.ttErr 1
  else
    let s := s.ttErr 0
    let s := if s.flag F.TT_STAT_HOLDING then
        ((s.modJct (fun j => { j with ttRecover := false, ttSwap := false })).putB F.TT_STAT_HOLDING false).ttMiss
      else s
    let s := s.unbind
    let sl := s.slot (aStn a).toNat (aPon a)
    let s := s.setEpoch sl.val.toNat
    ((s.modJct (fun j => { j with ttBound := some a, ttPav := sl.pav })).putB F.TT_STAT_BOUND true).homeReg a

/-- COMMIT (R295): a boundary held by policy is released with SWAP (R299), whatever has been written since (R304). -/
def State.ttCommit (s : State) : State :=
  let s := s.ttErr 0
  if s.flag F.TT_STAT_COMMITTED then s
  else
    let s := s.putB F.TT_STAT_COMMITTED true
    if s.flag F.TT_STAT_HOLDING ∧ !s.jct.ttRecover ∧ s.jct.ttBound.isSome then s.releaseHold true else s

/-- COPY (R298). -/
def State.ttCopy (s : State) : State :=
  if s.flag F.TT_STAT_COMMITTED then s.ttErr 2
  else
    let s := s.ttErr 0
    let s := (List.range 5).foldl (fun s b => s.modBox (boxPart b) (fun x => { x with shadow := x.active })) s
    (List.range 64).foldl (fun s p =>
      (s.put F.SH_WATCH_SHARE (s.get F.SH_WATCH_SHARE 0 (p + 64)) 0 p).put F.SH_PROXY_SHARE (s.get F.SH_PROXY_SHARE 0 (p + 64)) 0 p) s

/-- TT_CTL: its commands in bit order. -/
def State.ttCtl (s : State) (w : Word32) : State :=
  let s := if wbit w 0 then s.ttBind else s
  let s := if wbit w 1 then s.ttCommit else s
  let s := if wbit w 2 then (s.ttErr 0).putB F.TT_STAT_COMMITTED false else s
  let s := if wbit w 3 then (s.ttErr 0).putB F.TT_STAT_ARMED true else s
  let s := if wbit w 4 then (s.ttErr 0).putB F.TT_STAT_ARMED false else s
  if wbit w 5 then s.ttCopy else s

/-! ### Shadow writes (R300, R306) -/

/-- SH_WATCH and SH_PROXY. -/
def State.shareWrite (s : State) (off : Nat) (w : Word32) : State :=
  if s.flag F.SH_SEL_BANK then s.ttDeny 2 off 0
  else if s.flag F.TT_STAT_COMMITTED then s.ttDeny 2 off 1
  else s.writeFields 0x02 0 off (s.get F.SH_SEL_PAV) w.toNat

/-- TT_DENY. -/
def State.ttDenyWrite (s : State) (w : Word32) : State := if wbit w 31 then s.put F.TT_DENY_COUNT 0 else s

/-- Box of a box page. -/
def pageBox (p : Nat) : Option Nat := if 0x10 ≤ p ∧ p ≤ 0x13 then some (p - 0x10) else if p = 0x28 then some 4 else none

/-! ### Meanings -/

/-- TIMETABLE_SHADOW_WRITE: a thread entry (08 R249) or a share (R306). -/
def execTimetableShadowWrite (page : BitVec 7) (off : BitVec 12) (w : Word32) (s : State) : Host.Outcome State Fault Refusal :=
  .next (s.keep (
    let o := off.toNat
    match pageBox page.toNat with
    | some b => if o ∈ [0x0C4, 0x0C8, 0x0CC, 0x0D0] then s.quiet.cfgAccess page.toNat o (fun s => s.entWrite b o w) else s.quiet
    | none => if page.toNat = 0x02 ∧ (o = 0x0C4 ∨ o = 0x0C8) then s.quiet.cfgAccess 0x02 o (fun s => s.shareWrite o w) else s.quiet))

/-- EPOCH_BIND (R289). -/
def execEpochBind (w : Word32) (s : State) : Host.Outcome State Fault Refusal :=
  .next (s.keep (s.quiet.cfgAccess 0x02 0x060 (fun s => s.ttCtl (withBit w 0))))
/-- TT_COMMIT (R295). -/
def execTtCommit (w : Word32) (s : State) : Host.Outcome State Fault Refusal :=
  .next (s.keep (s.quiet.cfgAccess 0x02 0x060 (fun s => s.ttCtl (withBit w 1))))
/-- TT_UNCOMMIT. -/
def execTtUncommit (w : Word32) (s : State) : Host.Outcome State Fault Refusal :=
  .next (s.keep (s.quiet.cfgAccess 0x02 0x060 (fun s => s.ttCtl (withBit w 2))))
/-- TT_ARM (R296). -/
def execTtArm (w : Word32) (s : State) : Host.Outcome State Fault Refusal :=
  .next (s.keep (s.quiet.cfgAccess 0x02 0x060 (fun s => s.ttCtl (withBit w 3))))
/-- TT_DISARM. -/
def execTtDisarm (w : Word32) (s : State) : Host.Outcome State Fault Refusal :=
  .next (s.keep (s.quiet.cfgAccess 0x02 0x060 (fun s => s.ttCtl (withBit w 4))))
/-- TT_COPY (R298). -/
def execTtCopy (w : Word32) (s : State) : Host.Outcome State Fault Refusal :=
  .next (s.keep (s.quiet.cfgAccess 0x02 0x060 (fun s => s.ttCtl (withBit w 5))))
/-- TT_DENY_CLR (R305). -/
def execTtDenyClr (w : Word32) (s : State) : Host.Outcome State Fault Refusal :=
  .next (s.keep (s.quiet.cfgAccess 0x02 0x080 (fun s => s.ttDenyWrite (withBit w 31))))

/-- EPOCH_BOUNDARY: a DONE notification of the bound epoch watch (R290). -/
def execEpochBoundary (src dst : Part) (s : State) : Host.Outcome State Fault Refusal :=
  .next (s.keep (s.quiet.onHead src dst (fun s m =>
    match m, dst with
    | .notify a v st word, .jct =>
      if s.epochOf a v st ∧ st = .done then some (((s.setEpoch v.toNat).homeNotified a v st word).boundary) else none
    | _, _ => none)))

/-- EPOCH_LOST: the bound watch ends with another status (R291). -/
def execEpochLost (src dst : Part) (s : State) : Host.Outcome State Fault Refusal :=
  .next (s.keep (s.quiet.onHead src dst (fun s m =>
    match m, dst with
    | .notify a v st word, .jct =>
      if s.epochOf a v st ∧ st ≠ .done then
        let s := (s.modJct (fun j => { j with ttBound := none, ttPav := 0 })).putB F.TT_STAT_BOUND false
        some (((s.homeNotified a v st word).putB F.TT_STAT_EPOCH_LOST true).evt 2 4)
      else none
    | _, _ => none)))

/-- TT_HOLD_EXPIRY: TT_HOLD_LIMIT fclk of holding have passed (R299). -/
def execTtHoldExpiry (s : State) : Host.Outcome State Fault Refusal :=
  .next (s.keep (
    let s := s.quiet
    if s.flag F.TT_STAT_HOLDING ∧ !s.jct.ttRecover ∧ s.jct.ttBound.isSome then
      ((s.evt 2 3).putB F.TT_STAT_HOLD_EXPIRED true).releaseHold false
    else s))

end Sys2Proof.Machine
end

