-- ==== Sys2Proof/Machine/Startup.lean ====
section
/-! DEFINITION. Reset and start-up: roll call and identity (01 R19 to R25), gang and swap-line calibration
(04 R121, 10 R293), the steps of 14 R397, and link bring-up (16 R440). -/

namespace Sys2Proof.Machine

def State.modSu (s : State) (f : StartUp → StartUp) : State := { s with su := f s.su }

/-- Start-up stops (14 R399). -/
def State.startFail (s : State) (code : BitVec 4) : State :=
  (s.modSu (fun u => { u with step := 15, err := true, code := code, frame := none, ready := false })).evt 0x2A 0

/-- Every part's protection instance: stations 0 to 3, the junction 0x80. -/
def protInsts : List Nat := [0, 1, 2, 3, 0x80]

/-- A fill of a part's RAMs begins, and ends (12 R342, R355). `halts`: the halts keep their rows (13 R373). -/
def State.fillBegin (s : State) (i : Nat) (halts : Bool := false) : State :=
  ((s.putB F.SP_SWEEP_DONE false i).putB F.SP_SWEEP_RUNNING true i).modProt i (fun p => { p with
    lapAt := s.fclk, pos := [], bad := if halts then p.bad.filter (fun e => isHaltRam e.1) else [] })
def State.fillEnd (s : State) (i : Nat) : State :=
  let s := ((s.putB F.SP_SWEEP_DONE true i).putB F.SP_SWEEP_RUNNING false i).put F.SP_SWEEP_TIME ((s.fclk - (s.prot i).lapAt) / 16) i
  s.modProt i (fun p => { p with lapAt := s.fclk })

/-! ### Frames of the chain (01 R19) -/

/-- XOR of the seven nibbles [27:0]. -/
def frameCheck (f : Word32) : BitVec 4 :=
  (List.range 7).foldl (fun x i => x ^^^ f.extractLsb' (4 * i) 4) 0
def frameSeal (f : Word32) : Word32 := (f &&& 0x0FFFFFFF) ||| ((frameCheck f).zeroExtend 32 <<< 28)
def frameOk (f : Word32) : Bool := f.extractLsb' 28 4 = frameCheck f
/-- A frame from its fields. -/
def mkFrame (kind die halt stn members pkg : Nat) : Word32 :=
  frameSeal (BitVec.ofNat 32 (kind + die * 2 ^ 4 + halt * 2 ^ 6 + stn * 2 ^ 10 + members * 2 ^ 12 + pkg * 2 ^ 17))
def frField (f : Word32) (lo len : Nat) : Nat := bitsOf f.toNat lo len

/-- Member of the chain at a position: a station, or a halt. -/
def chainMember (pos : Nat) : Part :=
  if pos % 5 = 0 then .stn (BitVec.ofNat 2 (pos / 5)) else .halt (BitVec.ofNat 4 (4 * (pos / 5) + pos % 5 - 1))

/-- The frame a member forwards: MEMBERS and, of a ROLL frame, its counter have risen. -/
def forwarded (pos : Nat) (f : Word32) : Word32 :=
  let roll := frField f 0 4 = 5
  let stn := match chainMember pos with | .stn _ => roll | _ => false
  let halt := roll ∧ !stn
  mkFrame (frField f 0 4) (frField f 4 2) ((frField f 6 4 + bnat (decide halt)) % 16)
    ((frField f 10 2 + bnat stn) % 4) ((frField f 12 5 + 1) % 32) (frField f 17 7)

/-- What a member latches (R20, R25). -/
def State.latch (s : State) (pos : Nat) (f : Word32) : State :=
  match chainMember pos with
  | .stn x =>
    if frField f 0 4 = 5 then
      s.modSu (fun u => { u with stnIds := tmod StnId.init u.stnIds x.toNat (fun i =>
        { i with stn := f.extractLsb' 10 2, die := f.extractLsb' 4 2, valid := true }) })
    else
      s.modSu (fun u => { u with stnIds := tmod StnId.init u.stnIds x.toNat (fun i =>
        { i with pkg := f.extractLsb' 17 7, pkgValid := true }) })
  | .halt h =>
    if frField f 0 4 = 5 then
      s.modSu (fun u => { u with haltIds := tmod HaltId.init u.haltIds h.toNat (fun i =>
        { i with halt := f.extractLsb' 6 4, stn := f.extractLsb' 8 2, valid := true }) })
    else s
  | .jct => s

/-- The next member receives the frame, its bits disturbed by `err`. DESIGN CHOICE: a frame of a reserved KIND with a
correct CHECK, of which 01 R19 and R20 say nothing, is forwarded unchanged and nothing is latched from it (assumption
log 75). -/
def State.memberFrame (s : State) (err : Word32) : State :=
  match s.su.frame with
  | some f0 =>
    let pos := s.su.chainPos
    let f := f0 ^^^ err
    let known := frField f 0 4 = 5 ∨ frField f 0 4 = 10
    if 20 ≤ pos then s
    else if !frameOk f ∨ !known then s.modSu (fun u => { u with frame := some f, chainPos := pos + 1 })
    else (s.latch pos f).modSu (fun u => { u with frame := some (forwarded pos f), chainPos := pos + 1 })
  | none => s

/-- A ROLL attempt begins (R21). -/
def State.sendRoll (s : State) : State :=
  s.modSu (fun u => { u with rcState := 1, rcAttempts := u.rcAttempts + 1,
                             frame := some (mkFrame 5 u.die.toNat 0 0 0 0), chainPos := 0 })
/-- An IDENT frame leaves (R25). -/
def State.sendIdent (s : State) : State :=
  s.modSu (fun u => { u with identTries := u.identTries + 1,
                             frame := some (mkFrame 10 u.die.toNat 0 0 0 u.pkg.toNat), chainPos := 0 })

/-- Roll call has failed. -/
def State.rollFailed (s : State) : State := ((s.modSu (fun u => { u with rcState := 3 })).evt 0x2B 0).startFail 1

/-- An attempt has failed: the next one, of three (R21, R25). -/
def State.attemptFailed (s : State) : State :=
  if s.su.rcState = 1 then if s.su.rcAttempts.toNat < 3 then s.sendRoll else s.rollFailed
  else if s.su.identTries < 3 then s.sendIdent else s.rollFailed

/-- RC_STAT of a frame that has returned. -/
def State.returned (s : State) (f : Word32) (badCount : Bool) : State :=
  s.modSu (fun u => { u with rcMembers := f.extractLsb' 12 5, rcNoReturn := false, rcBadCheck := !frameOk f, rcBadCount := badCount })

/-- The chain carries a ROLL attempt, or an IDENT frame. -/
def State.rolling (s : State) : Bool := s.su.rcState = 1 && s.su.frame.isSome && s.su.step = 2
/-- Gang calibration is under way in the slot of halt `h`. -/
def State.calibrating (s : State) (h : BitVec 4) : Bool := s.su.calState = 1 && s.su.calHalt = h && s.su.step = 3
def State.identing (s : State) : Bool := s.su.rcState = 2 && s.su.frame.isSome && s.su.step ≠ 15

/-! ### Calibration (04 R121, 10 R293) -/

/-- A round trip that is even or outside 3 to 9. -/
def badRt (r : Nat) : Bool := r % 2 = 0 || decide (r < 3) || decide (9 < r)
/-- Two round trips of a branch differ. -/
def disagree (l : List Nat) : Bool := l.any (fun r => r ≠ l.headD 0)
/-- d of a branch, from its round trips. -/
def branchD (l : List Nat) : Nat := (l.headD 0 - 1) / 2

def State.calFailed (s : State) (bad dis : Bool) : State :=
  (s.modSu (fun u => { u with calState := 3, calBadRt := bad, calDisagree := dis })).startFail 3

def State.lineFailed (s : State) (bad dis : Bool) : State :=
  ((s.modSu (fun u => { u with lineState := 3, lineBadRt := bad, lineDisagree := dis })).evt 2 5).startFail 2

/-! ### The steps (14 R397) -/

/-- Step 6 ends, and BLOCK_READY rises (14 R398); RESYNC goes to every die (09 R276). -/
def State.becomeReady (s : State) : State :=
  (s.sendResyncs.evt 0x2A 1).modSu (fun u => { u with step := 7, ready := true, everReady := true })

/-- Step 6 begins. -/
def State.enterLink (s : State) : State :=
  let s := s.modSu (fun u => { u with step := 6 })
  if s.su.up ∧ s.su.pkgDone then s.becomeReady else s

/-- Step 4: a GO already latched ends it, unless a self-test has been run (16 R448). -/
def State.tryGo (s : State) : State :=
  if s.su.step = 4 ∧ s.su.goLatched ∧ !s.su.mbistHold then
    if s.flag F.PW_START_RELOAD then s.modSu (fun u => { u with step := 5 }) else s.enterLink
  else s

/-- PW_START: RELOAD may change until step 4 has ended. -/
def State.startWrite (s : State) (w : Word32) : State :=
  if 4 < s.su.step.toNat then s
  else
    let s := s.putB F.PW_START_RELOAD (wbit w 5)
    if wbit w 4 then (s.modSu (fun u => { u with goLatched := true })).tryGo else s

/-- JG_PKG (01 R25, R30). DESIGN CHOICE: once start-up has stopped (14 R399) no IDENT frame is sent, and one under
way is gone; R25 names no such case (assumption log 76). -/
def State.pkgWrite (s : State) (w : Word32) : State :=
  let pkg := w.extractLsb' 0 7
  if s.su.pkgValid then
    s.modSu (fun u => { u with pkgRefused := if pkg ≠ u.pkg then true else if wbit w 10 then false else u.pkgRefused })
  else
    let s := s.modSu (fun u => { u with pkg := pkg, pkgRefused := if wbit w 10 then false else u.pkgRefused })
    if wbit w 8 then
      let s := s.modSu (fun u => { u with pkgValid := true })
      if s.su.rcState = 2 ∧ s.su.step ≠ 15 then s.sendIdent else s
    else s

/-! ### Meanings -/

/-- The state after reset; what waits to be commanded, the count of free values and host memory are none of
the block's. -/
def State.resetNow (s : State) : State :=
  { State.reset with pending := s.pending, freeCtr := s.freeCtr, parkImg := s.parkImg }

/-- RESET_ASSERT (14 R395). The wrapper's instruction has a reset of its own (16 R446). -/
def execResetAssert (s : State) : Host.Outcome State Fault Refusal :=
  .next (s.resetNow.modSu (fun u => { u with wInstr := s.su.wInstr }))

/-- SUPPLY_REMOVED (16 R443). -/
def execSupplyRemoved (s : State) : Host.Outcome State Fault Refusal := .next s.resetNow

/-- RESET_GLITCH (14 R395); during RESET_FILTER it is not counted (14 R414). -/
def execResetGlitch (s : State) : Host.Outcome State Fault Refusal :=
  .next (s.keepQ (if s.su.step = 0 then s.quiet else (s.quiet.bump F.PW_GLITCH_COUNT).evt 0x2A 6))

/-- RESET_RELEASE: DIE_POS is sampled (01 R23), and the RAM sweep and the swap-line measurement begin. -/
def execResetRelease (pos : BitVec 2) (s : State) : Host.Outcome State Fault Refusal :=
  .next (s.keepQ (
    let s := s.quiet
    if s.su.step = 0 then
      protInsts.foldl (fun s i => s.fillBegin i) (s.modSu (fun u => { u with step := 1, die := pos, lineState := 1, lineStn := 0 }))
    else s))

/-- RAM_FILL_DONE (12 R342): roll call starts (01 R22). -/
def execRamFillDone (s : State) : Host.Outcome State Fault Refusal :=
  .next (s.keepQ (
    let s := s.quiet
    if s.su.step ≠ 0 ∧ !s.su.swept then
      let s := protInsts.foldl (fun s i => s.fillEnd i) (s.modSu (fun u => { u with swept := true }))
      if s.su.step = 1 then (s.modSu (fun u => { u with step := 2 })).sendRoll else s
    else s))

/-- ROLL_FRAME (01 R20). -/
def execRollFrame (err : Word32) (s : State) : Host.Outcome State Fault Refusal :=
  .next (s.keepQ (if s.rolling then s.quiet.memberFrame err else s.quiet))

/-- IDENT_FRAME (01 R25). -/
def execIdentFrame (err : Word32) (s : State) : Host.Outcome State Fault Refusal :=
  .next (s.keepQ (if s.identing then s.quiet.memberFrame err else s.quiet))

/-- ROLL_FRAME_RETURN (01 R21). -/
def execRollFrameReturn (err : Word32) (s : State) : Host.Outcome State Fault Refusal :=
  .next (s.keepQ (
    let s := s.quiet
    if s.rolling ∧ s.su.chainPos = 20 then
      let f := (s.su.frame.getD 0) ^^^ err
      let badCount := frField f 12 5 ≠ 20 ∨ frField f 10 2 ≠ 0 ∨ frField f 6 4 ≠ 0
      let s := s.returned f (decide badCount)
      if frameOk f ∧ ¬ badCount then
        let s := s.modSu (fun u => { u with rcState := 2, step := 3, calState := 1, calHalt := 0, frame := none })
        if s.su.pkgValid then s.sendIdent else s
      else s.attemptFailed
    else s))

/-- IDENT_FRAME_RETURN (01 R25). -/
def execIdentFrameReturn (err : Word32) (s : State) : Host.Outcome State Fault Refusal :=
  .next (s.keepQ (
    let s := s.quiet
    if s.identing ∧ s.su.chainPos = 20 then
      let f := (s.su.frame.getD 0) ^^^ err
      let badCount := decide (frField f 12 5 ≠ 20)
      let s := s.returned f badCount
      if frameOk f ∧ !badCount then
        let s := s.modSu (fun u => { u with pkgDone := true, frame := none })
        if s.su.step = 6 ∧ s.su.up then s.becomeReady else s
      else s.attemptFailed
    else s))

/-- ROLL_CALL_TIMEOUT: a frame has not returned within 4,096 cclk (01 R21, R25). -/
def execRollCallTimeout (s : State) : Host.Outcome State Fault Refusal :=
  .next (s.keepQ (
    let s := s.quiet
    if s.rolling ∨ s.identing then (s.modSu (fun u => { u with rcNoReturn := true })).attemptFailed else s))

/-- PKG_VALID (01 R30). -/
def execPkgValid (w : Word32) (s : State) : Host.Outcome State Fault Refusal :=
  .next (s.keepQ (s.quiet.cfgAccess 0x00 0x044 (fun s => s.pkgWrite (withBit w 8))))

/-- GANG_CAL_PING: a ping of the slot under way reaches its halt (04 R121). -/
def execGangCalPing (h : BitVec 4) (s : State) : Host.Outcome State Fault Refusal :=
  .next (s.keepQ (
    let s := s.quiet
    if s.calibrating h ∧ s.su.calPings = s.su.calRts.length then
      s.modSu (fun u => { u with calPings := u.calPings + 1 })
    else s))

/-- GANG_CAL_ECHO: after the 16th, the halt latches EQ_H, or calibration fails (04 R121). -/
def execGangCalEcho (h : BitVec 4) (rtt : BitVec 5) (s : State) : Host.Outcome State Fault Refusal :=
  .next (s.keepQ (
    let s := s.quiet
    if s.calibrating h ∧ s.su.calPings = s.su.calRts.length + 1 then
      let l := s.su.calRts ++ [rtt.toNat]
      if l.length < 16 then s.modSu (fun u => { u with calRts := l })
      else if l.any badRt ∨ disagree l then s.calFailed (l.any badRt) (disagree l)
      else
        let s := s.modSu (fun u => { u with calPings := 0, calRts := [], haltIds := tmod HaltId.init u.haltIds h.toNat (fun i =>
          { i with d := BitVec.ofNat 3 (branchD l), eq := BitVec.ofNat 3 (4 - branchD l), calOk := true }) })
        if h = 15 then (s.modSu (fun u => { u with calState := 2, step := 4 })).tryGo
        else s.modSu (fun u => { u with calHalt := h + 1 })
    else s))

/-- GANG_CAL_ECHO_MISSING (04 R121). -/
def execGangCalEchoMissing (h : BitVec 4) (s : State) : Host.Outcome State Fault Refusal :=
  .next (s.keepQ (
    let s := s.quiet
    if s.calibrating h ∧ s.su.calPings = s.su.calRts.length + 1 then s.calFailed true (disagree s.su.calRts) else s))

/-- SWAP_LINE_PING (10 R293). -/
def execSwapLinePing (x : BitVec 2) (s : State) : Host.Outcome State Fault Refusal :=
  .next (s.keepQ (
    let s := s.quiet
    if s.su.lineState = 1 ∧ s.su.lineStn = x ∧ tget 0 s.su.linePings x.toNat = (tget [] s.su.lineRts x.toNat).length then
      s.modSu (fun u => { u with linePings := tmod 0 u.linePings x.toNat (· + 1) })
    else s))

/-- SWAP_LINE_ECHO (10 R293). -/
def execSwapLineEcho (x : BitVec 2) (rtt : BitVec 5) (s : State) : Host.Outcome State Fault Refusal :=
  .next (s.keepQ (
    let s := s.quiet
    let rts := tget [] s.su.lineRts x.toNat
    if s.su.lineState = 1 ∧ s.su.lineStn = x ∧ tget 0 s.su.linePings x.toNat = rts.length + 1 then
      let l := rts ++ [rtt.toNat]
      if l.length < 16 then s.modSu (fun u => { u with lineRts := tset [] u.lineRts x.toNat l })
      else if l.any badRt ∨ disagree l then s.lineFailed (l.any badRt) (disagree l)
      else
        let s := s.modSu (fun u => { u with
          lineRts := tset [] u.lineRts x.toNat l
          lineD := tset 0 u.lineD x.toNat (branchD l)
          stnIds := tmod StnId.init u.stnIds x.toNat (fun i => { i with eq := BitVec.ofNat 3 (4 - branchD l) }) })
        if x = 3 then s.modSu (fun u => { u with lineState := 2 }) else s.modSu (fun u => { u with lineStn := x + 1 })
    else s))

/-- SWAP_LINE_ECHO_MISSING (10 R293). -/
def execSwapLineEchoMissing (x : BitVec 2) (s : State) : Host.Outcome State Fault Refusal :=
  .next (s.keepQ (
    let s := s.quiet
    let rts := tget [] s.su.lineRts x.toNat
    if s.su.lineState = 1 ∧ s.su.lineStn = x ∧ tget 0 s.su.linePings x.toNat = rts.length + 1 then s.lineFailed true (disagree rts) else s))

/-- START_GO (14 R397). -/
def execStartGo (w : Word32) (s : State) : Host.Outcome State Fault Refusal :=
  .next (s.keepQ (s.quiet.cfgAccess 0x2A 0x040 (fun s => s.startWrite (withBit w 4))))

/-- LINK_UP: bring-up, which waits for JG_PKG.DONE, has completed (01 R24, 16 R440). -/
def execLinkUp (s : State) : Host.Outcome State Fault Refusal :=
  .next (s.keepQ (
    let s := s.quiet
    if s.su.pkgDone ∧ !s.su.dup then
      let s := s.modSu (fun u => { u with up := true })
      if s.su.step = 6 then s.becomeReady else s
    else s))

/-- LINK_DUP: bring-up stops (01 R25, 16 R440). -/
def execLinkDup (s : State) : Host.Outcome State Fault Refusal :=
  .next (s.keepQ (s.quiet.modSu (fun u => { u with dup := true })))

end Sys2Proof.Machine
end

