-- ==== Sys2Proof/Machine/Ledger.lean ====
section
/-! DEFINITION. The ledger (13 R359 to R366): windows, snapshots, durability, and what its failure does. -/

namespace Sys2Proof.Machine

/-- Key and LG_STAT instance of a part's ledger; a halt's rows are in none. -/
def ledgerKey : Part → Option Nat
  | .stn x => some x.toNat
  | .jct => some 4
  | .halt _ => none
def keyInst (k : Nat) : Nat := if k < 4 then k else 0x80

/-! ### Layout (R359) -/

def State.ledgerArea (s : State) (k : Nat) : Nat :=
  s.get F.LG_BASE_HI_ADDR * 2 ^ 32 + s.get F.LG_BASE_LO_ADDR * 2 ^ 21 + k * 0x0E00000
/-- Snapshot A or B, by number; the delta ring and its size. -/
def snapOffset (no : Nat) : Nat := 0x100000 + no % 2 * 0x100000
def ringOffset : Nat := 0x300000
def ringSize (k : Nat) : Nat := if k < 4 then 0xB00000 else 0x500000

/-! ### Row images (R360, 12 R338)

Fields that the spec lists without places are laid from bit 0 in the order of its table (assumption log 33). -/

/-- Fields, each with its width, laid from bit 0. -/
def pack (l : List (Nat × Nat)) : Nat := l.foldr (fun e n => e.2 % 2 ^ e.1 + n * 2 ^ e.1) 0

/-- Row and number of the waiters of the objects that `q` picks (R135 HEAD, WAITERS). -/
def queueOf (m : StnMem) (q : Slot → Bool) : Nat × Nat :=
  let l := m.waiters.filter (fun w => q (tget Slot.free m.slots w.pon))
  ((l.head?.map (·.row)).getD 0, l.length)

def semRow (e : SemEnt) (w : Nat × Nat) : Nat :=
  pack [(32, e.count.toNat), (1, bnat e.lock), (1, bnat e.held), (24, e.holder.toNat), (6, e.hpav.toNat), (2, e.hprio.toNat),
    (2, e.boost.toNat), (1, bnat e.boosted), (1, bnat e.orphan), (13, w.1), (13, w.2), (16, e.grants.toNat)]

/-- NEXT of a waiter: the next record of its object, or itself. -/
def nextRow (l : List Waiter) (w : Waiter) : Nat :=
  match (l.filter (fun x => x.pon = w.pon)).dropWhile (fun x => x.row ≠ w.row) with
  | _ :: n :: _ => n.row
  | _ => w.row

/-- PRIO and TXID of a waiter record (05 R144). -/
def waiterPrio (rq : HReq) : Nat := if rq.req.op = 0x0C then rq.req.operand.toNat % 4 else 0
def waiterTxid (rq : HReq) : Nat :=
  if rq.req.op = 0x1D ∨ rq.req.op = 0x1E then rq.req.operand.toNat / 2 ^ 32 % 2 ^ 24 else (rq.load.map (·.toNat)).getD 0

def State.waiterRow (s : State) (l : List Waiter) (w : Waiter) : Nat :=
  pack [(32, waiterN w.rq), (24, (s.identOf w.rq.who).toNat), (2, waiterPrio w.rq), (6, w.rq.req.pav.toNat), (1, bnat w.rq.load.isSome),
    (28, waiterTxid w.rq), (22, w.age.toNat), (13, nextRow l w)]

/-- RAMs whose rows the spec lays out: identifier, rows, bytes, and the image of a row. -/
def ramRows : List (Nat × Nat × Nat) :=
  [(0, 16384, 8), (1, 16384, 8), (5, 65536, 4), (2, 4096, 16), (3, 1024, 16), (4, 64, 160), (6, 8192, 16), (7, 512, 64), (8, 4096, 4)]
def ramBytes (ram : Nat) : Nat := ((ramRows.find? (fun r => r.1 = ram)).map (·.2.2)).getD 0

/-- The image of row `row`; of FOLD, of line 64 × `row`. -/
def State.rowImage (s : State) (m : StnMem) (ram row : Nat) : Nat :=
  match ram with
  | 0 => (tget Slot.free m.slots row).val.toNat
  | 1 => attrOf (tget Slot.free m.slots row) 0 + bnat (m.watches.any (fun w => w.pon = row)) * 2 ^ 13
  | 2 => semRow (tget SemEnt.init m.sems row)
      (queueOf m (fun sl => (sl.kind = .sem || sl.kind = .glock) && decide (sl.link.toNat % 4096 = row)))
  | 3 => semRow (tget SemEnt.init m.lockqs row) (queueOf m (fun sl => sl.kind = .mlock && decide (sl.link.toNat % 1024 = row)))
  | 4 =>
    let t := tget TurnRec.init m.turns row
    pack [(256, t.cmask.toNat), (128, t.rmask.toNat), (7, t.pkgBase.toNat), (384, t.cur.toNat), (384, t.nxt.toNat), (6, t.gang.toNat)]
  | 5 => (tget 0 m.hmap row).toNat
  | 6 => ((m.waiters.find? (fun w => w.row = row)).map (s.waiterRow m.waiters)).getD 0
  | 7 => bytesNat (hdrLine (tget FoldHdr.init m.hdrs (64 * row)))
  | 8 => (tget 0 m.box.store row).toNat
  | _ => 0

/-- Rows of a RAM that may differ from zero. -/
def rowKeys (m : StnMem) (ram : Nat) : List Nat :=
  match ram with
  | 0 => m.slots.map (·.1)
  | 1 => m.slots.map (·.1)
  | 2 => m.sems.map (·.1) ++ m.waiters.map (fun w => (tget Slot.free m.slots w.pon).link.toNat % 4096)
  | 3 => m.lockqs.map (·.1) ++ m.waiters.map (fun w => (tget Slot.free m.slots w.pon).link.toNat % 1024)
  | 4 => m.turns.map (·.1)
  | 5 => m.hmap.map (·.1)
  | 6 => m.waiters.map (·.row)
  | 7 => m.hdrs.map (fun e => e.1 / 64)
  | 8 => m.box.store.map (·.1)
  | _ => []

/-- Rows of a RAM whose image has changed, in the order first met. -/
def State.dirtyRows (s : State) (old new : StnMem) (ram : Nat) : List Nat :=
  (rowKeys old ram ++ rowKeys new ram).eraseDups.filter (fun r => s.rowImage old ram r ≠ s.rowImage new ram r)

/-- What a window records of an image: watch entries, lane lines and thread registers are not (R360). -/
def recorded (m : StnMem) : StnMem := { m with watches := [], lanes := [], box := { m.box with threads := [] } }

/-- The image of a part's RAMs now. -/
def State.ledgerImage (s : State) (k : Nat) : StnMem :=
  if k < 4 then s.mem k else { StnMem.init with box := s.jct.box }

/-- Streams whose entry has changed since the last window (R367). -/
def State.ledgerStreams (s : State) (k : Nat) : List (BitVec 15 × BitVec 8) := if k < 4 then (s.stn k).streams else []

/-- Some row is dirty. -/
def State.ledgerDirty (s : State) (k : Nat) : Bool :=
  decide (recorded (s.ledgerImage k) ≠ recorded (s.ledger k).clean) || !(s.ledgerStreams k).isEmpty || !(s.ledger k).notes.isEmpty

/-! ### Blocks (R361) -/

def recTag (kind ram row len : Nat) : List Byte := natBytes 8 (pack [(4, kind), (5, ram), (16, row), (7, 0), (16, len)])
def pad8 (l : List Byte) : List Byte := l ++ natBytes ((8 - l.length % 8) % 8) 0

/-- An ORIG record's entry: with DROP if the table no longer holds the stream (R367). -/
def origEntry (m : StnMem) (e : BitVec 15 × BitVec 8) : Nat :=
  e.1.toNat + (if tget 0 m.origins e.1.toNat = 0 then 2 ^ 15 else 0) + e.2.toNat * 2 ^ 32

/-- The records of a window, with their number. -/
def State.windowRecords (s : State) (k : Nat) : List Byte × Nat :=
  let new := s.ledgerImage k
  let old := (s.ledger k).clean
  let rows := ramRows.flatMap (fun r => (s.dirtyRows old new r.1).map (fun row => (r.1, row)))
  let ram := fun (n : Nat) => if k < 4 then n else 0x1B
  let notes := (s.ledger k).notes.flatMap (fun e => recTag e.1 0 e.2 0)
  let data := rows.flatMap (fun e => recTag 1 (ram e.1) (if e.1 = 7 then 64 * e.2 else e.2) (ramBytes e.1) ++
    pad8 (natBytes (ramBytes e.1) (s.rowImage new e.1 e.2)))
  let st := s.ledgerStreams k
  let orig := if st.isEmpty then [] else recTag 4 0 0 (8 * st.length) ++ st.flatMap (fun e => natBytes 8 (origEntry new e))
  (notes ++ data ++ orig, (s.ledger k).notes.length + rows.length + bnat (!st.isEmpty))

/-- The block of window `num`: its header line and the rest. -/
def windowBlock (num : Nat) (r : List Byte × Nat) : List Byte × List Byte :=
  let gap := (64 - r.1.length % 64) % 64
  let body := r.1 ++ (if gap = 0 then [] else recTag 0xF 0 0 (gap - 8) ++ natBytes (gap - 8) 0)
  (natBytes 8 num ++ natBytes 4 (64 + body.length) ++ natBytes 4 r.2 ++ natBytes 4 (crc32 (natBytes 44 0 ++ body)) ++ natBytes 44 0, body)

def lineNat (l : List Byte) : Line := BitVec.ofNat 512 (bytesNat l)

/-- Windows are held (R365, R366): after a failure until the snapshot of RESUME is complete, at 8 MiB of deltas, or
with a full originator table. -/
def State.ledgerHeld (s : State) (k : Nat) : Bool :=
  s.flag F.LG_STAT_FAIL (keyInst k) || s.flag F.LG_STAT_HELD (keyInst k) || decide (0x800000 ≤ (s.ledger k).bytes) ||
    (decide (k < 4) && decide (2048 ≤ (s.mem k).origins.length))

/-- A window closes: all of its block but the header is written. -/
def State.windowClose (s : State) (k : Nat) : State :=
  let l := s.ledger k
  let blk := windowBlock l.next (s.windowRecords k)
  let len := 64 + blk.2.length
  let pos := if ringSize k < l.pos + len then 0 else l.pos
  let at' := s.ledgerArea k + ringOffset + pos
  let w : Window := ⟨l.next, s.ledgerImage k, blk.2.length / 64, s.ledgerStreams k, s.fclk, len,
    some (BitVec.ofNat 58 (at' / 64), lineNat blk.1)⟩
  let snap := l.snap.map (fun x => { x with bytes := x.bytes + len, ringAt := if x.win = l.next then pos else x.ringAt })
  let s := s.modLedger k (fun l => { l with next := l.next + 1, pos := pos + len, clean := w.image, windows := l.windows ++ [w],
                                            bytes := l.bytes + len, snap := snap, notes := [] })
  let s := if k < 4 then s.modStn k (fun st => { st with streams := [] }) else s
  s.memWriteBytes k (at' + 64) blk.2 (fun _ => .window k w.num)

/-! ### Snapshots (R362) -/

/-- Free bytes: sections whose content the spec does not lay out. -/
def State.freeBytes (s : State) (n : Nat) : List Byte × State :=
  ((List.range (n / 8)).flatMap (fun i => natBytes 8 (Config.freeWord (s.freeCtr + i)).toNat), { s with freeCtr := s.freeCtr + n / 8 })

/-- A section: the rows of a RAM, to `size` bytes. -/
def State.sectionBytes (s : State) (m : StnMem) (ram rows width size : Nat) : List Byte :=
  (List.range rows).flatMap (fun r => natBytes width (s.rowImage m ram r)) ++ natBytes (size - rows * width) 0

/-- The data of a snapshot. -/
def State.snapBytes (s : State) (k : Nat) : List Byte × State :=
  let m := s.ledgerImage k
  if k < 4 then
    let a := ramRows.flatMap (fun r => s.sectionBytes m r.1 r.2.1 r.2.2 (if r.1 = 4 then 0x4000 else r.2.1 * r.2.2))
    let (b, s) := s.freeBytes 0xC000
    (a ++ b, s)
  else
    let (a, s) := s.freeBytes 0x4000
    let (b, s) := s.freeBytes 0x3000
    (a ++ s.sectionBytes m 8 4096 4 0x4000 ++ b, s)

/-- A snapshot overwrites the area that a park's record names: that state is no longer in memory. -/
def State.spoilPark (s : State) (k : Nat) : State :=
  match s.parkImg with
  | some p =>
    if p.base = s.ledgerArea 0 ∧ ((p.recs.getD k []).getD 8 0).toNat = (s.ledger k).snapNo % 2 then { s with parkImg := none } else s
  | none => s

/-- A snapshot begins, unless a row it reads is uncorrectable (12 R345, R347). -/
def State.snapStart (s : State) (k : Nat) : State :=
  let rd := s.reads k 3 snapRow
  if (s.ledger k).snap.isSome then s
  else if !rd.1 then rd.2
  else
    let s := rd.2
    let l := s.ledger k
    let (b, s) := s.snapBytes k
    let s := s.modLedger k (fun l => { l with snap := some ⟨s.ledgerImage k, l.next, l.pos, 0, b.length / 64, b.length, crc32 b, false⟩ })
    let s := (s.spoilPark k).putB F.LG_STAT_SNAP_BUSY true (keyInst k)
    s.memWriteBytes k (s.ledgerArea k + snapOffset l.snapNo) b (fun _ => .snapshot k)

/-- The descriptor of a snapshot. -/
def descriptor (no : Nat) (x : Snap) : List Byte :=
  natBytes 8 no ++ natBytes 8 x.win ++ natBytes 4 x.ringAt ++ natBytes 4 x.len ++ natBytes 4 x.crc ++ natBytes 1 1 ++ natBytes 35 0

/-! ### Durability (R363) -/

/-- The part of this die that a stream's reports go to; streams of other dies go through the junction. -/
def State.streamPart (s : State) (st : BitVec 15) : Part :=
  let p := (st.extractLsb' 9 5).toNat
  if st.extractLsb' 0 9 ≠ s.dieSrc then .jct
  else if p < 16 then .halt (BitVec.ofNat 4 p) else if p < 20 then .stn (BitVec.ofNat 2 (p - 16)) else .jct

/-- Durability reports for streams. -/
def State.report (s : State) (k : Nat) (l : List (BitVec 15 × BitVec 8)) : State :=
  l.foldl (fun s e => s.emit (ledgerPart k) (s.streamPart e.1) (.dur e.1 e.2 (aHome (s.addrOf k 0)))) s

/-- Windows written whole become durable in number order. -/
def State.makeDurable (s : State) (k : Nat) : Nat → State
  | 0 => s
  | n + 1 =>
    match (s.ledger k).windows with
    | w :: rest =>
      if w.left = 0 ∧ w.header.isNone then
        let lag := min ((s.fclk - w.closedAt) / 16) 0xFFFF
        let s := s.modLedger k (fun l => { l with windows := rest, durable := w.image })
        let s := ((s.put F.LG_WIN_WIN w.num (keyInst k)).put F.LG_LAG_LAST lag (keyInst k)).put F.LG_LAG_HIGH
          (max lag (s.get F.LG_LAG_HIGH (keyInst k))) (keyInst k)
        (s.report k w.streams).makeDurable k n
      else s
    | [] => s

/-- A write of a window's block is acknowledged; the header follows the last of the rest. -/
def State.windowAck (s : State) (k num : Nat) : State :=
  match (s.ledger k).windows.find? (fun w => w.num = num) with
  | none => s
  | some w =>
    let upd := fun (s : State) (x : Window) => s.modLedger k (fun l => { l with windows := l.windows.map (fun y => if y.num = num then x else y) })
    if 1 < w.left then upd s { w with left := w.left - 1 }
    else match w.header with
      | some h => (upd s { w with left := 1, header := none }).memWriteLine k h.1 h.2 (.window k num)
      | none => (upd s { w with left := 0 }).makeDurable k (s.ledger k).windows.length

/-- A write of a snapshot is acknowledged; the descriptor follows the last. -/
def State.snapAck (s : State) (k : Nat) : State :=
  match (s.ledger k).snap with
  | none => s
  | some x =>
    if 1 < x.left then s.modLedger k (fun l => { l with snap := some { x with left := x.left - 1 } })
    else
      let no := (s.ledger k).snapNo
      let s := s.modLedger k (fun l => { l with snap := some { x with left := 0, desc := true } })
      s.memWriteLine k (BitVec.ofNat 58 ((s.ledgerArea k + no % 2 * 64) / 64)) (lineNat (descriptor no x)) (.descriptor k)

/-- The descriptor is written: the snapshot is complete, and windows resume. A snapshot that no later window has
made older is what a reload rebuilds. -/
def State.snapDone (s : State) (k : Nat) : State :=
  match (s.ledger k).snap with
  | none => s
  | some x =>
    let l := s.ledger k
    let later := decide (x.win < l.next) && l.windows.all (fun w => x.win < w.num)
    let s := s.modLedger k (fun l => { l with snap := none, snapNo := l.snapNo + 1, bytes := x.bytes, durable := if later then l.durable else x.image })
    let s := ((s.putB F.LG_STAT_SNAP_BUSY false (keyInst k)).putB F.LG_STAT_SNAP_VALID true (keyInst k)).put F.LG_SNAPNO_NUM l.snapNo (keyInst k)
    s.putB F.LG_STAT_HELD false (keyInst k)

/-! ### Failure (R366) -/

/-- Requests of the ledger that the ports hold lose their purpose. -/
def State.dropLedgerWrites (s : State) (k : Nat) : State :=
  let mine := fun (r : MemReq) => match r.why with
    | .window j _ | .snapshot j | .descriptor j => j == k
    | _ => false
  s.modPort k (fun p => { queue := p.queue.filter (fun r => !mine r), taken := p.taken.map (fun r => if mine r then { r with why := .dropped } else r) })

/-- Windows and snapshot under way are given up: their rows are dirty again, their streams unreported. -/
def State.ledgerAbandon (s : State) (k : Nat) : State :=
  let st := (s.ledger k).windows.flatMap (·.streams)
  let s := s.modLedger k (fun l => { l with windows := [], snap := none, clean := l.durable })
  let s := if k < 4 then s.modStn k (fun x => { x with streams := st.filter (fun e => !x.streams.any (fun y => y.1 = e.1)) ++ x.streams }) else s
  (s.dropLedgerWrites k).putB F.LG_STAT_SNAP_BUSY false (keyInst k)

/-- A ledger write still fails after three retries. `what`: 0 window, 1 snapshot; `line` its address. -/
def State.ledgerFail (s : State) (k what : Nat) (line : BitVec 58) : State :=
  let s := ((s.fault 5 (partCode (ledgerPart k)) (what + line.toNat * 64 % 2 ^ 32 / 2 ^ 8 * 2 ^ 8)).evt 0x29 4).ledgerAbandon k
  (s.putB F.LG_STAT_FAIL true (keyInst k)).putB F.LG_STAT_HELD true (keyInst k)

/-- The part goes on without a ledger: what it has applied is covered. -/
def State.ledgerOff (s : State) (k : Nat) : State :=
  let s := s.ledgerAbandon k
  let st := s.ledgerStreams k
  let s := if k < 4 then s.modStn k (fun x => { x with streams := [] }) else s
  ((s.report k st).modLedger k (fun l => { l with notes := [], bytes := 0 })).putB F.LG_STAT_HELD false (keyInst k)

/-! ### LG_CTL (R366, R388) -/

/-- The ledger comes into use in a part: its rows are those of the snapshot that starts. -/
def State.ledgerOn (s : State) (k : Nat) : State :=
  let s := ((s.putB F.LG_STAT_UNPROT false (keyInst k)).putB F.LG_STAT_FAIL false (keyInst k)).putB F.LG_STAT_HELD false (keyInst k)
  (s.modLedger k (fun l => { l with clean := s.ledgerImage k })).snapStart k

def ledgerKeys : List Nat := [0, 1, 2, 3, 4]

/-- LG_CTL: EN first, then its commands in bit order. -/
def State.ledgerCtl (s : State) (w : Word32) : State :=
  let on := s.flag F.LG_CTL_EN
  let s := s.putB F.LG_CTL_EN (wbit w 0)
  let s := if wbit w 0 ∧ !on then ledgerKeys.foldl (fun s k => s.ledgerOn k) s
    else if !wbit w 0 ∧ on then ledgerKeys.foldl (fun s k => s.ledgerOff k) s else s
  let s := if wbit w 1 then ledgerKeys.foldl (fun s k =>
      if s.flag F.LG_STAT_FAIL (keyInst k) then (s.putB F.LG_STAT_FAIL false (keyInst k)).snapStart k else s) s else s
  let s := if wbit w 2 then ledgerKeys.foldl (fun s k =>
      if s.flag F.LG_STAT_FAIL (keyInst k) then ((s.putB F.LG_STAT_FAIL false (keyInst k)).putB F.LG_STAT_UNPROT true (keyInst k)).ledgerOff k else s) s else s
  if wbit w 3 then ledgerKeys.foldl (fun s k => if s.unprot (ledgerPart k) then s else s.snapStart k) s else s

/-- LG_BASE_LO and LG_BASE_HI. -/
def State.ledgerBaseWrite (s : State) (off : Nat) (w : Word32) : State :=
  if s.flag F.LG_CTL_EN then s else s.writeFields 0x00 0 off 0 w.toNat

/-! ### Meanings -/

/-- A part is in a recovery, or FAILED. -/
def State.partDown (s : State) (k : Nat) : Bool :=
  if k < 4 then s.get F.REC_STAT_PHASE k ≠ 0 || s.flag F.REC_STAT_FAILED k else s.get F.FD_JREC_PHASE ≠ 0 || s.flag F.FD_JREC_FAILED

/-- LEDGER_WINDOW_CLOSE (R360, R365). -/
def execLedgerWindowClose (part : Part) (s : State) : Host.Outcome State Fault Refusal :=
  .next (s.keep (
    let s := s.quiet
    match ledgerKey part with
    | some k =>
      if s.unprot part ∨ s.partDown k ∨ s.parked ∨ !s.ledgerDirty k then s
      else if s.ledgerHeld k then s.putB F.LG_STAT_HELD true (keyInst k)
      else s.windowClose k
    | none => s))

/-- SNAPSHOT_START (R362). -/
def execSnapshotStart (part : Part) (s : State) : Host.Outcome State Fault Refusal :=
  .next (s.keep (
    let s := s.quiet
    match ledgerKey part with
    | some k => if s.unprot part ∨ s.partDown k ∨ s.parked ∨ s.flag F.LG_STAT_FAIL (keyInst k) then s else s.snapStart k
    | none => s))

/-- LEDGER_ENABLE. -/
def execLedgerEnable (w : Word32) (s : State) : Host.Outcome State Fault Refusal :=
  .next (s.keep (s.quiet.cfgAccess 0x00 0x068 (fun s => s.ledgerCtl (withBit w 0))))
/-- LEDGER_RESUME. -/
def execLedgerResume (w : Word32) (s : State) : Host.Outcome State Fault Refusal :=
  .next (s.keep (s.quiet.cfgAccess 0x00 0x068 (fun s => s.ledgerCtl (withBit w 1))))
/-- LEDGER_UNPROTECT. -/
def execLedgerUnprotect (w : Word32) (s : State) : Host.Outcome State Fault Refusal :=
  .next (s.keep (s.quiet.cfgAccess 0x00 0x068 (fun s => s.ledgerCtl (withBit w 2))))
/-- LEDGER_SNAP. -/
def execLedgerSnap (w : Word32) (s : State) : Host.Outcome State Fault Refusal :=
  .next (s.keep (s.quiet.cfgAccess 0x00 0x068 (fun s => s.ledgerCtl (withBit w 3))))

/-- LG_LAG: a write of any value clears HIGH (17 R461). -/
def execLgLagClear (part : Part) (w : Word32) (s : State) : Host.Outcome State Fault Refusal :=
  .next (s.keep (
    let s := s.quiet
    match part with
    | .stn x => s.cfgAccess (0x08 + x.toNat) 0x114 (fun s => s.writeFields 0x08 x.toNat 0x114 0 w.toNat)
    | .jct => s.cfgAccess 0x29 0x06C (fun s => s.writeFields 0x08 0x80 0x114 0 w.toNat)
    | .halt _ => s))

end Sys2Proof.Machine
end

