-- ==== Sys2Proof/Machine/Debug.lean ====
section
/-! DEFINITION. Post-mortem: the census of all waits, the per-object debug view, the Sceop dump and the fault log
(13 R382 to R387, R390). -/

namespace Sys2Proof.Machine

/-! ### Census of every wait (R382) -/

/-- Operations that a halt times (03 R92): their waits are those of its registers and sidings. -/
def State.censusHalt (s : State) (h : Nat) : State :=
  let regs := ((s.halt h).waits.filter (fun e => e.2.v && agedByHalt e.2.op)).map (·.1)
  let s := regs.foldl (fun s i => s.censusWait h i .done) s
  if (s.halt h).script.state = .waiting then s.censusScript h .done else s

/-- Pending waits of a box's threads on WAIT and READ. -/
def State.censusBox (s : State) (b : Nat) : State :=
  (List.range 16).foldl (fun s i =>
    let t := boxThread b i
    let th := s.th t
    match th.state, th.wait with
    | .waiting, some rq =>
      if rq.req.op = 0x02 ∨ rq.req.op = 0x04 then
        let val := if b < 4 ∧ aSrc rq.addr = s.dieSrc then some (s.slot b (aPon (s.resolve rq.addr moveFuel))).val else none
        s.census b .done (if b < 4 then 5 else 6) rq.req (s.censusIdent rq.who) rq.addr th.age.toNat rq.req.operand val
      else s
    | _, _ => s) s

/-- SC_CTL. -/
def State.censusCtl (s : State) (w : Word32) : State :=
  if !wbit w 0 then s
  else
    let s := (List.range 16).foldl (fun s h => s.censusHalt h) s
    let s := (List.range 4).foldl (fun s si => (s.mem si).waiters.foldl (fun s x => s.censusWaiter si x .done) s) s
    (List.range 5).foldl (fun s b => s.censusBox b) s

/-! ### Sections of the dump (R386)

Each section is a list of records with the memory port that writes them. `q` picks objects, by station and slot,
and `a` addresses. -/

/-- Slots that hold anything but FREE, in order. -/
def State.dumpSlots (s : State) (q : Nat → Nat → Bool) : List (Nat × Nat) :=
  (List.range 4).flatMap (fun si => ((s.mem si).slots.filter (fun e => e.2.kind ≠ .free && q si e.1)).map (fun e => (si, e.1)))

def State.secObjects (s : State) (q : Nat → Nat → Bool) : List (Nat × List Byte) :=
  (s.dumpSlots q).map (fun o =>
    let w := ((s.mem o.1).watches.filter (fun x => x.pon = o.2)).length
    let r := (s.waitersOf o.1 o.2).length
    (o.1, s.objRec o (w + r * 2 ^ 16)))

/-- NEXT of a watch entry: the next of its object, or itself. -/
def nextWatch (l : List Watch) (w : Watch) : Nat :=
  match (l.filter (fun x => x.pon = w.pon)).dropWhile (fun x => x.row ≠ w.row) with
  | _ :: n :: _ => n.row
  | _ => w.row

def State.secWatches (s : State) (q : Nat → Nat → Bool) : List (Nat × List Byte) :=
  (List.range 4).flatMap (fun si => ((s.mem si).watches.filter (fun w => q si w.pon)).map (fun w =>
    (si, natBytes 16 (pack [(64, w.exp.toNat), (14, w.pon), (5, w.sub.toNat), (13, nextWatch (s.mem si).watches w), (1, 1)]))))

def State.secWaiters (s : State) (q : Nat → Nat → Bool) : List (Nat × List Byte) :=
  (List.range 4).flatMap (fun si => ((s.mem si).waiters.filter (fun w => q si w.pon)).map (fun w =>
    (si, natBytes 4 (waiterN w.rq) ++ natBytes 3 (s.identOf w.rq.who).toNat ++
      natBytes 1 (waiterPrio w.rq + bnat w.rq.load.isSome * 2 ^ 7) ++ natBytes 1 w.rq.req.pav.toNat ++ natBytes 3 w.age.toNat ++
      natBytes 4 (s.addrOf si w.pon).toNat ++ natBytes 16 (waiterTxid w.rq))))

/-- Records of the slots of some kinds. -/
def State.secKind (s : State) (q : Nat → Nat → Bool) (k : Kind → Bool) (f : Nat × Nat → List Byte) : List (Nat × List Byte) :=
  ((s.dumpSlots q).filter (fun o => k (s.slot o.1 o.2).kind)).map (fun o => (o.1, f o))

def State.secWaits (s : State) (a : GAddr → Bool) : List (Nat × List Byte) :=
  (List.range 16).flatMap (fun h => ((s.halt h).waits.filter (fun e => (e.2.v || e.2.stale) && a e.2.addr)).map (fun e =>
    let w := e.2
    (h / 4, natBytes 18 (pack [(64, w.exp.toNat), (25, w.addr.toNat), (6, w.pav.toNat), (8, w.gen.toNat), (6, w.op.toNat), (1, bnat w.v),
      (1, bnat w.sided), (1, bnat w.ret), (22, w.age.toNat), (5, w.homeQ.toNat), (1, bnat w.stale)]) ++
      natBytes 1 h ++ natBytes 1 0 ++ natBytes 2 e.1 ++ natBytes 2 0)))

/-- NEXT of a proxy entry. -/
def nextProxy (l : List Proxy) (p : Proxy) : Nat :=
  match (l.filter (fun x => x.addr = p.addr && x.far == p.far)).dropWhile (fun x => x.row ≠ p.row) with
  | _ :: n :: _ => n.row
  | _ => p.row

/-- SENT stands in the head entry of a far chain. -/
def State.proxySent (s : State) (p : Proxy) : Nat :=
  if p.far ∧ (s.jct.proxies.find? (fun x => x.far && x.addr = p.addr)).any (fun x => x.row = p.row) then
    ((s.jct.farHeads.find? (fun h => h.addr = p.addr)).map (·.sent.toNat)).getD 0
  else 0

def State.secProxies (s : State) (a : GAddr → Bool) : List (Nat × List Byte) :=
  (s.jct.proxies.filter (fun p => a p.addr)).map (fun p =>
    (4, natBytes 32 (pack [(25, p.addr.toNat), (1, bnat !p.far), (9, p.peer.toNat), (64, p.exp.toNat), (64, s.proxySent p),
      (14, nextProxy s.jct.proxies p), (1, 1)])))

/-- Thread states (08 R221). -/
def ThState.code : ThState → Nat
  | .off => 0 | .armed => 1 | .running => 2 | .waiting => 3 | .held => 4 | .stopped => 5

def State.secThreads (s : State) : List (Nat × List Byte) :=
  let one := fun (part num : Nat) (t : ThreadId) =>
    let th := s.th t
    ((if part < 4 then part else 4 : Nat), natBytes 1 part ++ natBytes 1 num ++ natBytes 1 th.state.code ++ natBytes 1 th.cause.toNat ++ natBytes 1 th.tcode.toNat ++
      natBytes 1 th.status.code ++ natBytes 2 th.pc.toNat ++ (List.range 8).flatMap (fun i => natBytes 8 (tget 0 th.regs i).toNat) ++ natBytes 24 0)
  (List.range 5).flatMap (fun b => (List.range 16).map (fun i => one (if b < 4 then b else 20) i (boxThread b i))) ++
    (List.range 16).map (fun h => one (4 + h) 0 (.script (BitVec.ofNat 4 h)))

/-- Part of a part code. -/
def codePart (c : Nat) : Part := if c < 4 then .stn (BitVec.ofNat 2 c) else if c < 20 then .halt (BitVec.ofNat 4 (c - 4)) else .jct

/-- State of a part: 0 serving, 1 recovering, 2 FAILED; and its recoveries. -/
def State.partState (s : State) : Part → Nat × Nat
  | .stn x => (if s.flag F.REC_STAT_FAILED x.toNat then 2 else bnat (s.get F.REC_STAT_PHASE x.toNat ≠ 0), s.get F.REC_STAT_STN_RECS x.toNat)
  | .halt h => (bnat ((s.halt h.toNat).phase ≠ 0), (s.halt h.toNat).recs)
  | .jct => (if s.flag F.FD_JREC_FAILED then 2 else bnat (s.get F.FD_JREC_PHASE ≠ 0), s.get F.FD_JREC_COUNT)

def State.secParts (s : State) : List (Nat × List Byte) :=
  (List.range 21).map (fun c =>
    let x := s.partState (codePart c)
    (4, natBytes 4 c ++ natBytes 4 x.1 ++ natBytes 4 x.2 ++ natBytes 4 (tget 0 s.jct.lastFault c)))

/-- A register as it reads, from its fields. -/
def State.regWord (s : State) (base off inst sel : Nat) : Nat :=
  (fieldsAt base off).foldl (fun n f => n + s.get f inst sel * 2 ^ f.lo) 0

/-- PAV_STAT.STALE: a halt holds a STALE register of the pavilion (11 R336). -/
def State.staleOf (s : State) (p : Nat) : Bool :=
  (List.range 16).any (fun h => (s.halt h).waits.any (fun e => e.2.stale && e.2.pav.toNat == p))

def State.secPavs (s : State) : List (Nat × List Byte) :=
  (List.range 64).map (fun p => (4, natBytes 4 (s.regWord 0x03 0x048 0 p + bnat (s.staleOf p) * 2 ^ 17) ++
    [F.RUN_STAT_RUN, F.WAIT_CFG_LIMIT, F.LOCK_CFG_LIMIT, F.HM_WIN_BASE_G, F.HM_PW_PW, F.PAV_LATE_COUNT].flatMap
      (fun f => natBytes 4 (s.regWord f.page f.off 0 p)) ++ natBytes 4 0))

/-- Entry `i` of the fault log, 0 the newest (R390). -/
def State.logWords (s : State) (i : Nat) : Nat × Nat :=
  match s.jct.faults.reverse[i]? with
  | some e => (e.cls.toNat + e.part.toNat * 2 ^ 4 + e.num.toNat * 2 ^ 9 + 2 ^ 25, e.detail.toNat)
  | none => (0, 0)

def State.secFaults (s : State) : List (Nat × List Byte) :=
  (List.range 32).map (fun i => (4, natBytes 4 (s.logWords i).1 ++ natBytes 4 (s.logWords i).2 ++ natBytes 8 0))

/-- Sections 2 to 9. -/
def State.objectSecs (s : State) (q : Nat → Nat → Bool) (a : GAddr → Bool) : List (List (Nat × List Byte)) :=
  [s.secObjects q, s.secWatches q, s.secWaiters q, s.secKind q isLock s.lockRec,
   s.secKind q (fun k => k = .turnstile) (fun o => turnRecord (s.turn o.1 o.2)),
   s.secKind q (fun k => k = .foldCounter) (fun o => hdrLine (s.hdr o.1 o.2)), s.secWaits a, s.secProxies a]

/-- Records laid from `at'` on, with the place after them; each section begins on a 64-byte boundary. -/
def layRecords (at' : Nat) (l : List (Nat × List Byte)) : List (Nat × Nat × List Byte) × Nat :=
  l.foldl (fun (acc : List (Nat × Nat × List Byte) × Nat) r => (acc.1 ++ [(r.1, acc.2, r.2)], acc.2 + r.2.length)) ([], at')
def laySections (at' : Nat) (l : List (List (Nat × List Byte))) : List (Nat × Nat × List Byte) × List (Nat × Nat) × Nat :=
  l.foldl (fun (acc : List (Nat × Nat × List Byte) × List (Nat × Nat) × Nat) sec =>
    let (ps, e) := layRecords acc.2.2 sec
    let pad := if e % 64 = 0 then [] else [(4, e, natBytes (64 - e % 64) 0)]
    (acc.1 ++ ps ++ pad, acc.2.1 ++ [(acc.2.2, sec.length)], align64 e)) ([], [], at')

/-- Bytes 0 to 15 of the dump's header. -/
def State.dumpHead (s : State) (len crc : Nat) : List Byte :=
  natBytes 2 0x0201 ++ natBytes 1 s.su.die.toNat ++ natBytes 1 s.su.pkg.toNat ++ natBytes 4 len ++ natBytes 4 crc ++
    natBytes 2 (s.get F.DU_NUM_NUM) ++ natBytes 2 0

def piecesBytes (l : List (Nat × Nat × List Byte)) : List Byte := l.flatMap (·.2.2)

/-! ### Dump (R385) -/

def State.dumpEnd (s : State) (code : Nat) : State :=
  (((s.setJob 2 none).putB F.DU_CTL_ERR (code ≠ 0)).put F.DU_CTL_CODE code).evt 0x29 7

/-- The dump is taken: everything but the first header line is written first. -/
def State.dumpGo (s : State) : State :=
  let secs := [s.secParts, s.secPavs] ++ s.objectSecs (fun _ _ => true) (fun _ => true) ++ [s.secThreads, s.secFaults]
  let (ps, table, len) := laySections 256 secs
  let tail := natBytes 48 0 ++ (table.flatMap (fun e => natBytes 4 e.1 ++ natBytes 4 e.2)) ++ natBytes (8 * (16 - table.length)) 0 ++ natBytes 64 0
  let s := s.put F.DU_NEED_LEN len
  if s.get F.DU_LEN_LEN < len then s.dumpEnd 1
  else
    let head := s.dumpHead len (crc32 (tail ++ piecesBytes ps))
    let at' := s.get F.DU_ADDR_HI_ADDR * 2 ^ 32 + s.get F.DU_ADDR_LO_ADDR * 2 ^ 6
    let s := s.newJob 2 0 1 [at', bytesNat (head ++ tail.take 48)]
    s.jobWrites 2 ((4, at' + 64, tail.drop 48) :: ps.map (fun p => (p.1, at' + p.2.1, p.2.2)))

/-- The dump's writes have completed: the header's first line, then the end. -/
def State.dumpJobDone (s : State) (j : Job) : State :=
  if j.bad then s.dumpEnd 2
  else if j.phase = 1 then
    (s.setJob 2 (some { j with phase := 2 })).jobWrites 2 [(4, j.args.getD 0 0, natBytes 64 (j.args.getD 1 0))]
  else (s.put F.DU_NUM_NUM (s.get F.DU_NUM_NUM + 1)).dumpEnd 0

/-- DU_CTL: a dump waits for a recovery to end (R387). -/
def State.dumpCtl (s : State) (w : Word32) : State :=
  if (s.job 2).isSome ∨ !wbit w 0 then s else if s.anyRecovery then s.newJob 2 0 9 [] else s.dumpGo

/-! ### View (R384) -/

def State.viewEnd (s : State) (code : Nat) : State :=
  (((s.setJob 3 none).putB F.DV_CTL_ERR (code ≠ 0)).put F.DV_CTL_CODE code).evt 0x29 7

/-- The record of an object: a 64-byte header, then sections 2 to 9 restricted to it. -/
def State.viewRecord (s : State) (a : GAddr) : List Byte :=
  let si := (aStn a).toNat
  let (ps, _, len) := laySections 64 (s.objectSecs (fun x p => x = si && p = aPon a) (fun x => x = a))
  let rest := natBytes 48 0 ++ piecesBytes ps
  s.dumpHead len (crc32 rest) ++ rest

/-- The view is taken. -/
def State.viewGo (s : State) : State :=
  let a : GAddr := BitVec.ofNat 25 (s.get F.DV_ADDR_ADDR)
  let si := (aStn a).toNat
  let k := (s.slot si (aPon a)).kind
  if !s.onDie a then s.viewEnd 1
  else if s.flag F.REC_STAT_FAILED si then s.viewEnd 3
  else if k = .free ∨ k = .retired then s.viewEnd 2
  else
    let v := (s.slot si (aPon a)).val.toNat
    let w := s.attrWord si (aPon a)
    let s := (s.put F.DV_VAL_LO_VAL v).put F.DV_VAL_HI_VAL (v / 2 ^ 32)
    let s := (s.put F.DV_ATTR_LO_ATTR w).put F.DV_ATTR_HI_ATTR (w / 2 ^ 32)
    let s := s.put F.DV_WAIT_WATCH ((s.mem si).watches.filter (fun x => x.pon = aPon a)).length
    let s := s.put F.DV_WAIT_WAITERS (s.waitersOf si (aPon a)).length
    let s := s.putB F.DV_WAIT_HOME (s.jct.proxies.any (fun p => !p.far && p.loc = a))
    if s.flag F.DV_CTL_MEM then
      let at' := s.get F.DV_MEM_HI_ADDR * 2 ^ 32 + s.get F.DV_MEM_LO_ADDR * 2 ^ 6
      (s.newJob 3 0 1 []).jobWrites 3 [(4, at', s.viewRecord a)]
    else s.viewEnd 0

def State.viewJobDone (s : State) (j : Job) : State := s.viewEnd (if j.bad then 3 else 0)

/-- The station of the object a view is to show recovers, or the junction does, which fills the view (R384, R387). -/
def State.viewWaits (s : State) : Bool :=
  let a : GAddr := BitVec.ofNat 25 (s.get F.DV_ADDR_ADDR)
  s.onDie a && (s.get F.REC_STAT_PHASE (aStn a).toNat ≠ 0 || s.get F.FD_JREC_PHASE ≠ 0)

/-- A recovery has ended: a dump or view that waited for it is taken (R387). -/
def State.resumeObs (s : State) : State :=
  let s := match s.job 2 with
    | some j => if j.phase = 9 ∧ !s.anyRecovery then (s.setJob 2 none).dumpGo else s
    | none => s
  match s.job 3 with
  | some j => if j.phase = 9 ∧ !s.viewWaits then (s.setJob 3 none).viewGo else s
  | none => s

/-- DV_CTL: a view waits for its object's station to recover. -/
def State.viewCtl (s : State) (w : Word32) : State :=
  if (s.job 3).isSome then s
  else
    let s := s.putB F.DV_CTL_MEM (wbit w 1)
    if !wbit w 0 then s
    else if s.viewWaits then s.newJob 3 0 9 []
    else s.viewGo

/-- FD_LOG_CTL. -/
def State.logCtl (s : State) (w : Word32) : State := if wbit w 0 then { s with jct := { s.jct with faults := [] } } else s

/-! ### Meanings -/

/-- CENSUS_ALL. -/
def execCensusAll (w : Word32) (s : State) : Host.Outcome State Fault Refusal :=
  .next (s.keep (s.quiet.cfgAccess 0x29 0x09C (fun s => s.censusCtl (withBit w 0))))
/-- DEBUG_VIEW. -/
def execDebugView (w : Word32) (s : State) : Host.Outcome State Fault Refusal :=
  .next (s.keep (s.quiet.cfgAccess 0x29 0x0C4 (fun s => s.viewCtl (withBit w 0))))
/-- DUMP. -/
def execDump (w : Word32) (s : State) : Host.Outcome State Fault Refusal :=
  .next (s.keep (s.quiet.cfgAccess 0x29 0x110 (fun s => s.dumpCtl (withBit w 0))))
/-- FAULT_LOG_CLEAR. -/
def execFaultLogClear (w : Word32) (s : State) : Host.Outcome State Fault Refusal :=
  .next (s.keep (s.quiet.cfgAccess 0x29 0x04C (fun s => s.logCtl (withBit w 0))))

end Sys2Proof.Machine
end

