-- ==== Sys2Proof/Machine/Recovery.lean ====
section
/-! DEFINITION. Recovery of a station, a halt and the junction (13 R371 to R380). -/

namespace Sys2Proof.Machine

/-! ### What a recovery held (R322, R387) -/

/-- Jobs whose accesses have completed end; a pavilion's image or a context's area may have been spoiled. -/
def State.endJobs (s : State) : State :=
  let s := match s.job 0 with
    | some j => if j.phase = 9 then s.resetRest j.pav else if j.left = 0 then s.pavJobDone j else s
    | none => s
  let s := match s.job 1 with
    | some j => if j.left = 0 then s.ctxJobDone j else s
    | none => s
  match s.job 4 with
  | some j => (s.setJob 4 none).runDo j.pav (j.args.getD 0 0)
  | none => s

/-- After the last recovery under way, what waited for it goes on. -/
def State.afterRecovery (s : State) : State := (if s.recovering then s else s.endJobs.recoveryBoundary).resumeObs

/-- Pavilion and context commands that a station's reset spoils end with FAULT after it (11 R336). -/
def State.spoilJobs (s : State) : State :=
  [0, 1].foldl (fun s k => s.setJob k ((s.job k).map (fun j => if 9 ≤ j.phase then j else { j with bad := true }))) s

/-! ### Station recovery: phase 1 (R371) -/

/-- A MOVE whose destination has not yet acknowledged has no effect (02 R65): the slots of both stations, now
and in the image a reload rebuilds, are as before. -/
def State.abortMove (s : State) (a d : GAddr) (rq : HReq) : State :=
  let src := (aStn a).toNat
  let dst := (aStn d).toNat
  let n := (s.moveGroup src (aPon a)).2
  let ps := (List.range n).map (fun i => aPon a + i)
  let qs := (List.range n).map (fun i => aPon d + i)
  let thaw := fun (m : StnMem) => { m with slots := ps.foldl (fun t p => tmod Slot.free t p (fun sl => { sl with frozen := false })) m.slots }
  let clear := fun (m : StnMem) => { m with slots := qs.foldl (fun t q => tset Slot.free t q Slot.free) m.slots }
  let s := qs.foldl (fun s q =>
    if (s.slot dst q).kind = .turnstile ∧ dst ≠ src then s.setTurn dst q TurnRec.init
    else if (s.slot dst q).kind = .mlock ∧ dst ≠ src then s.setEnt dst q SemEnt.init else s) s
  let s := (s.modMem src thaw).modMem dst clear
  let s := (s.modLedger src (fun l => { l with durable := thaw l.durable })).modLedger dst (fun l => { l with durable := clear l.durable })
  let s := s.unretain rq.who.part rq.req.seq
  (s.drainGroup src (aPon a) n a).answer src rq .fault 0

def State.abortMoves (s : State) (si : Nat) : State :=
  let mine := fun (m : InFlight) => match m.msg with
    | .moveAck a d _ => decide ((aStn a).toNat = si) || decide ((aStn d).toNat = si)
    | _ => false
  (s.net.filter mine).foldl (fun s m => match m.msg with
    | .moveAck a d rq => s.abortMove a d rq
    | _ => s) { s with net := s.net.filter (fun m => !mine m) }

/-- Memory requests of a station's own work: those not yet taken go, and census records among them are lost. -/
def State.dropPort (s : State) (si : Nat) : State :=
  let own := fun (r : MemReq) => match r.why with
    | .job _ _ => false
    | _ => true
  let lost := ((s.port si).queue.filter (fun r => r.why = .census si)).length
  let s := s.modPort si (fun p => ⟨p.queue.filter (fun r => !own r),
    p.taken.map (fun r => if own r then { r with why := .dropped } else r)⟩)
  if lost = 0 then s else (s.bump F.SC_LOST_COUNT 0 si lost).evt 0x29 6

/-- A region with a write in the wake queue counts as having a fold in progress (14 R414): so it stands in the image. -/
def State.markBusy (s : State) (si pon : Nat) : State :=
  let mark := fun (m : StnMem) =>
    let n := foldFirst (tget Slot.free m.slots pon)
    { m with hdrs := tmod FoldHdr.init m.hdrs n (fun h => if h.busy then h else { h with rel := true }) }
  s.modLedger si (fun l => { l with durable := mark l.durable })

/-- A reset leaves each region the round it stood in (06 R187; assumption log 90): of a region that a reload rebuilds
with its configuration, the round, the counts and the value are those of the reset, so that released rounds stay released
and a fold in progress at the reset is aborted. -/
def State.keepRounds (s : State) (si : Nat) : State :=
  let live := s.mem si
  let keep := fun (m : StnMem) => (live.slots.filter (fun e => e.2.kind = .foldCounter)).foldl (fun m e =>
    let d := tget Slot.free m.slots e.1
    let n := foldFirst e.2
    let h := tget FoldHdr.init live.hdrs n
    if d.kind = .foldCounter ∧ d.link = e.2.link ∧ (tget FoldHdr.init m.hdrs n).v then
      { m with
        slots := tmod Slot.free m.slots e.1 (fun x => { x with val := e.2.val })
        hdrs := tmod FoldHdr.init m.hdrs n (fun x => { h with
          cfg := x.cfg, v := x.v, lanes := x.lanes, target := x.target, resAddr := x.resAddr }) }
    else m) m
  s.modLedger si (fun l => { l with durable := keep l.durable })

/-- Requests that a freeze or a waiter record held wait again at the station's door: their originators send them again
once it has reloaded (R371), or it answers them as FAILED (R366). -/
def State.takeHeld (s : State) (si : Nat) : State :=
  let m := s.mem si
  let held := m.freezeQ.filter (fun e => !(e.2.load.isSome && e.2.req.op = 0x04)) ++ m.waiters.map (fun w => (w.pon, w.rq))
  (s.modMem si (fun m => { m with freezeQ := [], waiters := [] })).modStn si (fun st => { st with backlog := held ++ st.backlog })

/-- Phase 1: the station stops serving. Signal-space READs it holds and writes in its wake queue are answered. -/
def State.stationStop (s : State) (si : Nat) : State :=
  let s := ((s.abortMoves si).spoilJobs).keepRounds si
  let loads := (s.mem si).freezeQ.filter (fun e => e.2.load.isSome && e.2.req.op = 0x04)
  let s := s.takeHeld si
  let s := loads.foldl (fun s e => s.answer si e.2 .fault 0) s
  let q := (s.stn si).wakeQ
  let s := ((s.ledgerAbandon si).modStn si (fun st => { st with wakeQ := [], streams := [], marked := [] })).dropPort si
  q.foldl (fun s e => match e with
    | .fold pon rq => (s.markBusy si pon).answer si rq .fault 0
    | .beat b => (s.markBusy si (aPon b.addr)).answerBeat si b .fault) s

/-- Objects on which a halt waits. -/
def State.haltObjects (s : State) (h : Nat) : List GAddr :=
  let ht := s.halt h
  ((ht.waits.filter (fun e => waitsOn e.2.addr e.2)).map (·.2.addr) ++ (ht.script.cmp.map (·.1)).toList).eraseDups

/-- Objects of this die that subscriber 16 watches. -/
def State.homeObjects (s : State) : List GAddr :=
  ((s.jct.proxies.filter (fun e => !e.far)).map (·.loc) ++ s.jct.box.threads.filterMap (fun e => e.2.cmp.map (·.1)) ++ s.jct.ttBound.toList).eraseDups

/-- A halt of a FAILED station ends with FAULT what it has outstanding (R366): posted requests, waits, fences, open
batches and its script's wait. -/
def State.haltFailed (s : State) (h : Nat) : State :=
  let s := (List.range 384).foldl (fun s i =>
    let s := (List.range (tget 0 (s.halt h).unacked i)).foldl (fun s _ => s.postedFail h (qCore h i) (qTag i) .fault) s
    s.modHalt h (fun ht => { ht with unacked := tset 0 ht.unacked i 0 })) s
  let s := s.modHalt h (fun ht => { ht with unackedPav := [], batches := [] })
  let s := (List.range 384).foldl (fun s i =>
    let w := s.wait h i
    if !w.v then s else if w.op = 0 then s.fenceDone h i else s.dropWait h i .fault) s
  let sc := (s.halt h).script
  match sc.state with
  | .armed | .waiting => s.scriptWake h ((sc.cmp.map (·.1)).getD 0) .fault 0
  | _ => s

/-- A FAILED station ends every registration at it with FAULT (R366): those of halts, and of the junction. -/
def State.watchesFailed (s : State) (si : Nat) : State :=
  let me : Part := .stn (BitVec.ofNat 2 si)
  let there := fun (a : GAddr) => s.onDie a && decide ((aStn (s.resolve a moveFuel)).toNat = si)
  let tell := fun (s : State) (p : Part) (as : List GAddr) => (as.filter there).foldl (fun s a => s.emit me p (.notify a 0 .fault none)) s
  let s := s.modMem si (fun m => { m with watches := [] })
  let s := (List.range 16).foldl (fun s h => tell s (.halt (BitVec.ofNat 4 h)) (s.haltObjects h)) s
  tell s .jct s.homeObjects

/-- A handle-map write that waited for the station reaches it; HM_STAT.BUSY falls with the last such station (02 R46). -/
def State.hmLand (s : State) (si : Nat) : State :=
  match s.jct.hmWait with
  | none => s
  | some (i, e) =>
    let s := s.hmSet i e si
    if (List.range 4).any (fun x => s.stopped (.stn (BitVec.ofNat 2 x))) then s else s.modJct (fun j => { j with hmWait := none })

/-- The station becomes FAILED (R366): it answers what waits for it with FAULT. -/
def State.stationFailed (s : State) (si detail : Nat) : State :=
  let s := (((s.fault 6 si detail).evt 0x29 4).evt 0x29 15).putB F.REC_STAT_FAILED true si
  let s := (s.put F.REC_STAT_PHASE 0 si).hmLand si
  let s := (List.range 4).foldl (fun s k => s.haltFailed (4 * si + k)) s
  ((s.watchesFailed si).drainAll si).afterRecovery

/-- An uncorrectable row resets the station (R371, R374). `detail` by R391. -/
def State.stationReset (s : State) (si detail : Nat) : State :=
  if s.flag F.REC_STAT_FAILED si then s
  else if s.get F.REC_STAT_PHASE si ≠ 0 then
    ((s.fault 0xB si 1).modStn si (fun st => { st with recAt := s.fclk, due := [] })).put F.REC_STAT_PHASE 1 si
  else
    let s := (s.fault 1 si detail).bump F.REC_STAT_STN_RECS si
    let s := (s.put F.REC_REPLAY_APPLIED 0 si).put F.REC_REPLAY_DISCARDED 0 si
    let s := (s.stationStop si).modStn si (fun st => { st with recAt := s.fclk, due := [] })
    if s.unprot (.stn (BitVec.ofNat 2 si)) then s.stationFailed si 1 else s.put F.REC_STAT_PHASE 1 si

/-! ### Phases 2 to 5 -/

/-- Phase 2: the RAMs are filled. Threads' states stand outside them (08 R243); a box's retention is lost. -/
def State.stationFill (s : State) (si : Nat) : State :=
  (s.fillBegin si true).modStn si (fun st => { st with
    mem := { StnMem.init with rights := st.mem.rights, box := { SBox.init with threads := st.mem.box.threads } }
    boxOrig := { Origin.init with seq := st.boxOrig.seq } })

/-- Threads with the registers their latest arming or END recorded. -/
def threadsFrom (snap : Tbl (Tbl Word64)) (ts : Tbl Thread) : Tbl Thread := ts.map (fun e => (e.1, { e.2 with regs := tget [] snap e.1 }))

/-- Phases 3 and 4: the rows are those of the last durable window, but the rights masks as they were last applied (05
R137). Watch entries are registered again, what a freeze
held is replayed. -/
def State.stationLoad (s : State) (si : Nat) : State :=
  let d := (s.ledger si).durable
  s.modMem si (fun m => { d with
    watches := [], lanes := [], freezeQ := [], rights := m.rights
    slots := d.slots.map (fun e => (e.1, { e.2 with frozen := false }))
    waiters := d.waiters.map (fun w => { w with age := 0 })
    box := { d.box with threads := threadsFrom d.box.snap m.box.threads } })

/-- A box thread after its part's recovery (08 R243). -/
def State.settleThread (s : State) (t : ThreadId) : State :=
  match (s.th t).state with
  | .running | .waiting | .held =>
    let e := s.entryOf t
    if e.retryV then (s.cancelWait t).modTh t (fun th => { th with status := .fault, state := .running, pc := e.retry, unacked := 0 })
    else (s.trap t 4 Status.fault.code).modTh t (fun th => { th with unacked := 0 })
  | _ => s

/-- Phase 5. -/
def State.stationRebuild (s : State) (si : Nat) : State :=
  let slots := (s.mem si).slots
  let s := slots.foldl (fun s e =>
    match e.2.kind with
    | .foldCounter => s.abortRegion si e.1
    | .mlock => s.mlockWrite si e.1
    | .ring => match s.ringSkip si e.1 with
      | some x => s.writeMarker si e.1 (8 * x) (s.ringZ si e.1 - 8 * x)
      | none => s
    | _ => s) s
  (List.range 16).foldl (fun s i => s.settleThread (boxThread si i)) s

/-- RESYNC to every die; the sequence numbers for each return to 0, and frames retained for it are sent again (09 R276,
R372). -/
def State.resyncAll (s : State) : State :=
  s.modJct (fun j => { j with
    txSeq := [], rxSeq := [], uncredited := [], creditsDue := [], acks := [], rxPart := []
    pool := j.pool.map (fun f => { f with credits := 0 })
    held := j.held.map (fun h => { h with credits := 0 })
    retained := []
    txq := j.txq.filter (fun t => t.seq.isNone) ++ s.routes.map (fun d => ⟨d, 3, 6, [], false, none, [], false⟩) ++
      j.retained.map (fun t => { t with seq := none, acked := false }) })

/-- Phase 6 begins: credits are restored and RELOADED goes to every originator. Requests that waited at the withheld
credits and that their originators send again are not taken twice. -/
def State.stationReloaded (s : State) (si : Nat) : State :=
  let me : Part := .stn (BitVec.ofNat 2 si)
  let s := s.modStn si (fun st => { st with due := allParts, backlog := st.backlog.filter (fun e => e.2.load.isSome && e.2.req.op = 0x04) })
  let s := allParts.foldl (fun s p => s.emit me p (.reloaded (BitVec.ofNat 2 si))) (s.hmLand si)
  s.resyncAll.drainAll si

/-! ### Phases 6 and 7: originators -/

/-- READs of lever threads on objects that `q` picks are issued again; cancelled ones are answered no more. -/
def State.reissueThreads (s : State) (ts : List ThreadId) (q : GAddr → Bool) : State :=
  ts.foldl (fun s t =>
    let s := s.modTh t (fun th => { th with cancelled := th.cancelled.filter (fun w => !q w.addr) })
    match (s.th t).state, (s.th t).wait with
    | .waiting, some rq => if rq.req.op = 0x04 ∧ q rq.addr then s.route rq else s
    | _, _ => s) s

/-- A part replays what it retains for a station, and registers its waits there again (R371). -/
def State.replayTo (s : State) (p : Part) (si : Nat) : State :=
  let there := fun (a : GAddr) => s.onDie a && decide ((aStn a).toNat = si)
  let s := s.replayAll p (fun e => there e.rq.addr)
  match p with
  | .halt h =>
    let s := ((s.haltObjects h.toNat).filter there).foldl (fun s a => s.haltReg h.toNat a false) s
    let s := if (s.halt h.toNat).script.state = .armed ∧ (s.halt h.toNat).script.wait.isNone then s.thTrigger (.script h) else s
    (s.reissueReads h.toNat there).reissueThreads [.script h] there
  | .stn x =>
    let ts := (List.range 16).map (fun i => boxThread x.toNat i)
    let s := if x.toNat = si then ts.foldl (fun s t => if (s.th t).state = .armed then s.thTrigger t else s) s else s
    s.reissueThreads ts there
  | .jct =>
    let s := (s.homeObjects.filter there).foldl (fun s a => s.homeReg a) s
    s.reissueThreads ((List.range 16).map (fun i => boxThread 4 i)) there

/-- The recovery ends. -/
def State.stationRecovered (s : State) (si : Nat) : State :=
  let s := (s.put F.REC_STAT_PHASE 0 si).put F.REC_TIME_TIME ((s.fclk - (s.stn si).recAt) / 16) si
  let s := s.evt 0x29 1
  let s := if s.unprot (.stn (BitVec.ofNat 2 si)) then s else s.snapStart si
  s.afterRecovery

/-- A phase of a station's recovery ends. Phase 1 waits for the memory port, phase 2 ends with the halts' rows read (12
R342), phase 5 for a junction's recovery
(R374); phases 6 and 7 end with the originators' reports. -/
def State.stationPhaseEnd (s : State) (si : Nat) : State :=
  let next := fun (s : State) (n : Nat) => s.put F.REC_STAT_PHASE n si
  match s.get F.REC_STAT_PHASE si with
  | 1 => if (s.port si).taken.isEmpty then next (s.stationFill si) 2 else s
  | 2 => next ((s.fillEnd si).reads si 0 (fun ram _ => isHaltRam ram)).2 3
  | 3 => if s.flag F.LG_STAT_SNAP_VALID si then next s 4 else s.stationFailed si 1
  | 4 => next (s.stationLoad si) 5
  | 5 => if s.stopped .jct then s else (next (s.stationRebuild si) 6).stationReloaded si
  | 6 => next s 7
  | _ => s

/-! ### Halt recovery (R376) -/

/-- A gang with a core of a recovering part derails. -/
def State.derailForced (s : State) (g : Nat) : State :=
  if s.gangState g = 0 then s
  else
    let s := if s.gangState g = 2 then ((s.driveWires g).cutHold g).driveAbort g else s
    ((s.endGangWaits g .derailed).putB F.GANG_STAT_DR_FORCED true 0 g).put F.GANG_STAT_STATE 3 0 g

/-- Queues with a blocking request on another die, marked stale (R378), each with its pavilion. -/
def State.markStale (s : State) (h : Nat) : State :=
  let mine := s.jct.remoteOut.filter (fun k => k / 32 / 16 = h)
  let old := s.jct.remoteStale
  s.modJct (fun j => { j with
    remoteOut := j.remoteOut.filter (fun k => k / 32 / 16 ≠ h)
    remoteStale := old ++ (mine.filter (fun k => !old.any (fun e => e.1 = k))).map
      (fun k => (k, (s.wait h (24 * (k / 32 % 16) + k % 32)).pav.toNat)) })

/-- Phase 1: every queue of every core is released with FAULT, both sidings are woken with it, and the gangs with a
core of the halt are derailed. -/
def State.haltStop (s : State) (h : Nat) : State :=
  let s := (List.range 384).foldl (fun s i =>
    let s := s.drive (.release (qCore h i) (qTag i) .fault 0)
    if i % 24 < 22 then s
    else
      let w := s.wait h i
      s.drive (.note .wake (qCore h i) w.homeQ (BitVec.ofNat 96 (i % 2 + Status.fault.code * 2 + bnat w.ret * 32)))) s
  let s := (s.markStale h).modHalt h (fun ht => { ht with waits := [] })
  ((List.range 32).filter (fun g => (s.gangHalts g).contains h)).foldl (fun s g => s.derailForced g) s

/-- An uncorrectable row of a halt (R374, R376). -/
def State.haltReset (s : State) (h detail : Nat) : State :=
  let si := h / 4
  let s := if (s.halt h).phase ≠ 0 then s.fault 0xB (4 + h) 2 else s.fault 2 (4 + h) detail
  let lost := if s.get F.REC_STAT_PHASE si ≠ 0 then
      ((s.halt h).orig.ret.filter (fun e => s.onDie e.rq.addr && decide ((aStn e.rq.addr).toNat = si))).length else 0
  let s := (s.bump F.REC_LOST_LOST si 0 lost).bump F.REC_STAT_HALT_RECS si
  (s.haltStop h).modHalt h (fun ht => { ht with phase := 1, purges := [], recs := ht.recs + 1 })

/-- Phase 2: the halt's rows are filled; its SEQ counter is kept, and its page is writable again (17 R458). -/
def State.haltFill (s : State) (h : Nat) : State :=
  let s := (List.range 16).foldl (fun s c => s.put F.HALT_SUPV_MASK 0 h c) s
  let s := [F.HS_ENT_ENTRY, F.HS_ENT_RETRY, F.HS_ENT_RETRY_V, F.HS_ENT_PAV, F.HS_ENT_TRIG_V, F.HS_TRIG_HANDLE, F.HS_STEP_STEP].foldl (fun s f => s.put f 0 h) s
  let s := s.putB F.PAGE_LOCK_LOCK false (0x18 + h)
  let s := s.modProt (h / 4) (fun p => { p with bad := p.bad.filter (fun e => e.1 ≠ 0x10 + h % 4) })
  s.modHalt h (fun ht => { Halt.init with orig := { Origin.init with seq := ht.orig.seq }, lostPosted := List.range 384, phase := 2, recs := ht.recs })

/-- The parts that a recovering halt purges. -/
def purgeParts : List Part := (List.range 4).map (fun x => .stn (BitVec.ofNat 2 x)) ++ [.jct]

/-- A station or the junction purges what it holds for a halt. -/
def State.purge (s : State) (p : Part) (h : Nat) : State :=
  match p with
  | .stn x =>
    let si := x.toNat
    let s := s.modMem si (fun m => { m with watches := m.watches.filter (fun w => w.sub.toNat ≠ h) })
    let mine := (s.mem si).waiters.filter (fun w => match w.rq.who with | .queue _ core _ => core.toNat / 16 = h | _ => false)
    mine.foldl (fun s w =>
      let k := (s.slot si w.pon).kind
      (if k = .glock ∨ k = .mlock then s.dropLockWaiter si w.pon w.row else s.dropWaiter si w.row).waiterGone si w.pon) s
  | .jct =>
    let addrs := ((s.jct.proxies.filter (fun e => e.far && decide (e.peer.toNat = h))).map (·.addr)).eraseDups
    addrs.foldl (fun s a => s.farCancel (BitVec.ofNat 5 h) a) s
  | .halt _ => s

/-- A phase of a halt's recovery ends: phase 3 with the last acknowledgement of its purge. -/
def State.haltPhaseEnd (s : State) (h : Nat) : State :=
  let me : Part := .halt (BitVec.ofNat 4 h)
  match (s.halt h).phase.toNat with
  | 1 => s.haltFill h
  | 2 =>
    let s := s.modHalt h (fun ht => { ht with phase := 3, purges := purgeParts })
    purgeParts.foldl (fun s p => s.emit me p (.purge (BitVec.ofNat 4 h))) s
  | 3 =>
    if (s.halt h).purges.isEmpty then
      let s := s.modHalt h (fun ht => { ht with phase := 4, asking := List.range 384 })
      (List.range 384).foldl (fun s i => s.drive (.cbAsk (qCore h i) (qTag i))) s
    else s
  | 4 => ((s.modHalt h (fun ht => { ht with phase := 0 })).evt 0x29 3).resumeObs
  | _ => s

/-! ### Junction recovery (R379) -/

/-- Manager commands under way end with FAULT; RUN_STAT has no code for it, so its CODE is free. -/
def State.abortJobs (s : State) : State :=
  let s := match s.job 0 with
    | some j => if j.phase = 9 then s.pavFail j.pav 11 else s.pavJobDone { j with bad := true }
    | none => s
  let s := match s.job 1 with
    | some j => s.ctxJobDone { j with bad := true }
    | none => s
  let s := match s.job 4 with
    | some j =>
      let (v, s) := s.fresh
      (s.setJob 4 none).runFail j.pav v.toNat
    | none => s
  if s.proposed then s.endProposal 4 else s

/-- Phase 1. Accesses that wait for a response entry, and are not retained, wait on. -/
def State.junctionStop (s : State) : State :=
  let rs := s.jct.resps.filterMap (·.2)
  let s := s.modJct (fun j => { j with resps := [], respWait := j.respWait.filter (fun e => e.2.req.op = 0x04) })
  let s := rs.foldl (fun s r => match r with
    | .load p l => s.answerLoad p l .fault 0
    | .beat (.port p _ _ rtn tx _) => s.drive (.err (.stn p) rtn tx .fault)
    | .beat (.die ..) => s) s
  ((List.range 32).foldl (fun s g => s.derailForced g) s).abortJobs

/-- The junction becomes FAILED (R366). -/
def State.junctionFailed (s : State) (detail : Nat) : State :=
  ((((s.fault 6 20 detail).evt 0x29 4).evt 0x29 15).putB F.FD_JREC_FAILED true |>.put F.FD_JREC_PHASE 0).resumeObs

/-- An uncorrectable row of the junction. -/
def State.junctionReset (s : State) (detail : Nat) : State :=
  if s.flag F.FD_JREC_FAILED then s
  else if s.get F.FD_JREC_PHASE ≠ 0 then
    ((s.fault 0xB 20 3).modJct (fun j => { j with recAt := s.fclk })).put F.FD_JREC_PHASE 1
  else
    let s := (s.fault 3 20 detail).bump F.FD_JREC_COUNT
    let s := (s.junctionStop.ledgerAbandon 4).modJct (fun j => { j with recAt := s.fclk })
    if s.unprot .jct then s.junctionFailed 1 else s.put F.FD_JREC_PHASE 1

/-- Phase 2: what R379 lists as lost is lost, a combining entry's image among it, but not its round (09 R273); every station frees its watch entries of subscriber 16. -/
def State.junctionFill (s : State) : State :=
  let s := s.modJct (fun j => { j with
    combs := (j.combs.map (fun c => (c.1, { Comb.init with rnd := c.2.rnd, early := c.2.early, last := c.2.last }))).filter (fun c => c.2 ≠ Comb.init)
    proxies := [], farHeads := [], txq := [], retained := [], held := [], rxPart := [], parked := [], remoteHeld := []
    pool := [], retWait := j.retWait.filter (fun rq => rq.load.isSome && rq.req.op = 0x04), homeRefused := []
    acks := [], creditsDue := [], uncredited := [], orig := { Origin.init with seq := j.orig.seq }
    box := { SBox.init with threads := j.box.threads } })
  let s := (List.range 4).foldl (fun s si => s.modMem si (fun m => { m with watches := m.watches.filter (fun w => w.sub ≠ 16) })) s
  s.fillBegin 0x80

/-- Phase 3: the box returns from the ledger. -/
def State.junctionLoad (s : State) : State :=
  let d := (s.ledger 4).durable.box
  s.modJct (fun j => { j with box := { d with threads := threadsFrom d.snap j.box.threads } })

/-- Phase 5: replay, re-registration and READs for other dies; the box's threads settle, and the epoch watch is
registered again (10 R303). -/
def State.junctionRejoin (s : State) : State :=
  let away := fun (a : GAddr) => !s.onDie a
  let s := (s.jct.respWait.map (·.2)).foldl (fun s rq => s.sendReq rq) (s.modJct (fun j => { j with respWait := [] }))
  let s := allParts.foldl (fun s p => s.replayAll p (fun e => away e.rq.addr)) s
  let s := (List.range 16).foldl (fun s h =>
    let s := ((s.haltObjects h).filter away).foldl (fun s a => s.haltReg h a false) s
    s.reissueReads h away) s
  let s := s.reissueThreads ((List.range 4).flatMap (fun b => (List.range 16).map (fun i => boxThread b i)) ++
    (List.range 16).map (fun h => .script (BitVec.ofNat 4 h))) away
  let s := (List.range 16).foldl (fun s i => s.settleThread (boxThread 4 i)) s
  let s := (List.range 16).foldl (fun s i => if (s.th (boxThread 4 i)).state = .armed then s.thTrigger (boxThread 4 i) else s) s
  s.homeObjects.foldl (fun s a => s.homeReg a) s

/-- A phase of the junction's recovery ends. -/
def State.junctionPhaseEnd (s : State) : State :=
  match s.get F.FD_JREC_PHASE with
  | 1 => s.junctionFill.put F.FD_JREC_PHASE 2
  | 2 => if s.flag F.LG_STAT_SNAP_VALID 0x80 then (s.fillEnd 0x80).put F.FD_JREC_PHASE 3 else (s.fillEnd 0x80).junctionFailed 1
  | 3 => (s.junctionLoad.put F.FD_JREC_PHASE 4).resyncAll
  | 4 => (s.put F.FD_JREC_PHASE 5).junctionRejoin
  | 5 =>
    let s := (s.put F.FD_JREC_PHASE 0).put F.FD_JREC_TIME_TIME ((s.fclk - s.jct.recAt) / 16)
    let s := s.evt 0x29 2
    (if s.unprot .jct then s else s.snapStart 4).resumeObs
  | _ => s

/-! ### Meanings -/

/-- STATION_RECOVERY_PHASE_END. -/
def execStationRecoveryPhaseEnd (x : BitVec 2) (s : State) : Host.Outcome State Fault Refusal :=
  .next (s.keepPark (s.quiet.stationPhaseEnd x.toNat))
/-- HALT_RECOVERY_PHASE_END. -/
def execHaltRecoveryPhaseEnd (h : BitVec 4) (s : State) : Host.Outcome State Fault Refusal :=
  .next (s.keepPark (s.quiet.haltPhaseEnd h.toNat))
/-- JUNCTION_RECOVERY_PHASE_END. -/
def execJunctionRecoveryPhaseEnd (s : State) : Host.Outcome State Fault Refusal :=
  .next (s.keepPark s.quiet.junctionPhaseEnd)

/-- RELOADED: an originator replays, registers again and reports. -/
def execReloaded (src dst : Part) (s : State) : Host.Outcome State Fault Refusal :=
  .next (s.keepPark (s.quiet.onHead src dst (fun s m =>
    match m, src with
    | .reloaded x, .stn y => if x = y then some ((s.replayTo dst x.toNat).emit dst src (.replayDone x)) else none
    | _, _ => none)))

/-- REPLAY_DONE: the last report ends the recovery. -/
def execReplayDone (src dst : Part) (s : State) : Host.Outcome State Fault Refusal :=
  .next (s.keepPark (s.quiet.onHead src dst (fun s m =>
    match m, dst with
    | .replayDone _, .stn x =>
      let due := (s.stn x.toNat).due
      let s := s.modStn x.toNat (fun st => { st with due := st.due.erase src })
      some (if due = [src] ∧ 6 ≤ s.get F.REC_STAT_PHASE x.toNat then s.stationRecovered x.toNat else s)
    | _, _ => none)))

/-- HALT_PURGE: a part purges and acknowledges; the halt takes the acknowledgement. -/
def execHaltPurge (src dst : Part) (s : State) : Host.Outcome State Fault Refusal :=
  .next (s.keepPark (s.quiet.onHead src dst (fun s m =>
    match m, dst with
    | .purge _, .halt _ => none
    | .purge h, p => some ((s.purge p h.toNat).emit p src (.purgeAck h))
    | .purgeAck _, .halt h => some (s.modHalt h.toNat (fun ht => { ht with purges := ht.purges.erase src }))
    | _, _ => none)))

end Sys2Proof.Machine
end

