-- ==== Sys2Proof/Machine/Park.lean ====
section
/-! DEFINITION. Fold bank power (14 R401 to R405), parking (14 R406 to R410) and reload (14 R411, R412). -/

namespace Sys2Proof.Machine

/-! ### Fold bank power -/

def State.gated (s : State) (si bank : Nat) : Bool := (s.get F.PW_FB_STAT_GATED 0 si).testBit bank
def State.waking (s : State) (si bank : Nat) : Bool := (s.get F.PW_FB_STAT_WAKING 0 si).testBit bank
/-- Set or clear a bank's bit. -/
def setBit (x bank : Nat) (b : Bool) : Nat := if b then x ||| 2 ^ bank else x &&& (2 ^ 16 - 1 - 2 ^ bank)
def State.setGated (s : State) (si bank : Nat) (b : Bool) : State := s.put F.PW_FB_STAT_GATED (setBit (s.get F.PW_FB_STAT_GATED 0 si) bank b) 0 si
def State.setWaking (s : State) (si bank : Nat) (b : Bool) : State := s.put F.PW_FB_STAT_WAKING (setBit (s.get F.PW_FB_STAT_WAKING 0 si) bank b) 0 si

/-- A slot's region has a line in the bank. -/
def inBank (bank : Nat) (sl : Slot) : Bool :=
  sl.kind = .foldCounter && decide (2048 * bank < foldFirst sl + 64 * foldNlg sl) && decide (foldFirst sl < 2048 * (bank + 1))

/-- A held write may go to the bank. -/
def State.wakeFor (s : State) (si bank : Nat) (e : WakeEnt) : Bool :=
  let sl := s.slot si (match e with | .fold pon _ => pon | .beat b => aPon b.addr)
  sl.kind ≠ .foldCounter || inBank bank sl

/-- Cold (R402). -/
def State.bankCold (s : State) (si bank : Nat) : Bool :=
  (s.mem si).slots.all (fun e => !inBank bank e.2 || !(s.hdr si e.1).busy) && !(s.stn si).wakeQ.any (s.wakeFor si bank)

/-- Saved (R402). -/
def State.bankSaved (s : State) (si bank : Nat) : Bool :=
  let own := fun (l : Nat) => l / 2048 = bank
  (s.mem si).lanes.all (fun e => !own e.1) &&
    (!s.flag F.LG_CTL_EN || decide ((s.mem si).hdrs.filter (fun e => own e.1) = (s.ledger si).durable.hdrs.filter (fun e => own e.1)))

/-- The station and bank of PW_FB_SEL. -/
def State.fbStn (s : State) : Nat := s.get F.PW_FB_SEL_STN
def State.fbBank (s : State) : Nat := s.get F.PW_FB_SEL_BANK
def State.fbRes (s : State) (code : Nat) : State := (s.putB F.PW_FB_CTL_ERR (code ≠ 0)).put F.PW_FB_CTL_CODE code

/-- GATE (R403, R414). -/
def State.bankGate (s : State) (si bank : Nat) : State :=
  if (s.stn si).retiredBanks.contains bank then s.fbRes 3
  else if s.waking si bank then s.fbRes 4
  else if !s.bankCold si bank then s.fbRes 1
  else if !s.bankSaved si bank then s.fbRes 2
  else (s.fbRes 0).setGated si bank true

/-- WAKE (R404, R414): a bank already powered or waking is left alone. -/
def State.bankWake (s : State) (si bank : Nat) : State :=
  if (s.stn si).retiredBanks.contains bank then s.fbRes 3
  else if s.gated si bank then (((s.fbRes 0).setGated si bank false).setWaking si bank true).bump F.PW_FB_WAKES_COUNT
  else s.fbRes 0

/-- PW_FB_CTL: AUTO, then its commands in bit order. -/
def State.fbCtl (s : State) (w : Word32) : State :=
  let s := s.putB F.PW_FB_CTL_AUTO (wbit w 2) 0 s.fbStn
  let s := if wbit w 0 then s.bankGate s.fbStn s.fbBank else s
  if wbit w 1 then s.bankWake s.fbStn s.fbBank else s

/-- PW_FB_WQ. -/
def State.fbWqWrite (s : State) (w : Word32) : State := if wbit w 4 then s.put F.PW_FB_WQ_HIGH 0 0 s.fbStn else s

/-! ### Parking: checks (R406, R407) -/

/-- Bytes a park writes, and its cost in µJ. -/
def parkBytes : Nat := 4 * 0xD0000 + 0xB000 + 640
def parkCost (fixed perMib : Nat) : Nat := min (fixed + (parkBytes * perMib + 2 ^ 20 - 1) / 2 ^ 20) 0xFFFF
def State.parkCost (s : State) : Nat := Sys2Proof.Machine.parkCost (s.get F.PW_NV_COST_FIXED) (s.get F.PW_NV_COST_PER_MIB)

/-- Why a park is refused, 0 none: the first case of R406; with FORCE only the last three cases count (R409). -/
def State.parkCode (s : State) (force : Bool) : Nat :=
  if !force ∧ (List.range 64).any (fun p => s.pavState (BitVec.ofNat 6 p) ∈ [1, 2, 5, 6]) then 1
  else if !force ∧ (List.range 32).any (fun g => s.gangState g ≠ 0) then 2
  else if !force ∧ allThreads.any (fun t => (s.th t).state = .running || (s.th t).state = .waiting || (s.th t).state = .held) then 3
  else if !s.flag F.LG_CTL_EN ∨ ledgerKeys.any (fun k => s.flag F.LG_STAT_FAIL (keyInst k)) then 4
  else if s.flag F.PW_PARK_CTL_NV ∧ (!s.flag F.PW_HOLDUP_V ∨ s.get F.PW_HOLDUP_ENERGY < s.parkCost) then 5
  else if s.anyRecovery ∨ !s.serving then 7
  else 0

/-- A park is refused or ends unfinished (R414, 16 R443). -/
def State.parkErr (s : State) (code : Nat) : State :=
  (((s.putB F.PW_PARK_CTL_ERR true).put F.PW_PARK_CTL_CODE code).evt 0x2A 5).drive .parkRefused

/-! ### QUIESCE (R408, R409) -/

/-- The steps of a park with FORCE before it quiesces. -/
def State.parkForce (s : State) : State :=
  let s := ((List.range 64).filter (fun p => s.pavState (BitVec.ofNat 6 p) = 1)).foldl (fun s p => s.pavFreeze (BitVec.ofNat 6 p)) s
  let s := (List.range 32).foldl (fun s g => s.gangOff g .derailed true) s
  (allThreads.filter (fun t => (s.th t).state = .running || (s.th t).state = .waiting || (s.th t).state = .held)).foldl
    (fun s t => s.trap t 10 0) s

/-- Every wait, siding and waiter record is released with FROZEN; far chains send CAN, home entries NTF. -/
def State.releaseAll (s : State) : State :=
  let s := (List.range 16).foldl (fun s h => (List.range 64).foldl (fun s p => s.releaseWaits h (BitVec.ofNat 6 p) .frozen) s) s
  let s := (List.range 4).foldl (fun s si => s.endWaiters si (fun _ => true) .frozen false) s
  let far := s.jct.proxies.filter (·.far)
  let s := far.foldl (fun s e => s.farCancel (BitVec.ofNat 5 e.peer.toNat) e.addr) s
  let home := s.jct.proxies.filter (fun e => !e.far)
  let s := s.modJct (fun j => { j with proxies := [] })
  home.foldl (fun s e => (s.tx e.peer 1 1 [recNtf e.addr 0 .frozen false]).homeReg e.loc) s

/-- A park starts: the registers, BLOCK_READY falls, and QUIESCE begins. Job 5 holds FORCE, INCOMPLETE and how far
each part has written. -/
def State.parkBegin (s : State) (force pc : Bool) : State :=
  let s := ((s.putB F.PW_PARK_CTL_ERR false).put F.PW_PARK_CTL_CODE 0).putB F.PW_PARK_CTL_BUSY true
  let s := ((s.put F.PW_PARK_CTL_STATE 2).putB F.PW_PARK_CTL_PC_REQ pc).newJob 5 0 2 [bnat force, 0, 0, 0, 0, 0, 0]
  (if force then s.parkForce else s).releaseAll

/-- A park request: of the manager, or of the power controller (R406, R407). -/
def State.parkGo (s : State) (force pc : Bool) : State :=
  let s := if s.flag F.PW_PARK_CTL_NV then (s.put F.PW_PARK_COST_COST s.parkCost).put F.PW_PARK_COST_KIB ((parkBytes + 1023) / 1024) else s
  let c := s.parkCode force
  if c ≠ 0 then s.parkErr c else s.parkBegin force pc

/-- PW_PARK_CTL. -/
def State.parkCtl (s : State) (w : Word32) : State :=
  if s.flag F.PW_PARK_CTL_BUSY then s
  else
    let s := (s.putB F.PW_PARK_CTL_FORCE (wbit w 1)).putB F.PW_PARK_CTL_NV (wbit w 2)
    if wbit w 0 then (if wbit w 1 then s.drive .parkAck else s).parkGo (wbit w 1) false else s

/-- Nothing is retained, unacknowledged or queued in the block (R408). -/
def State.quiesced (s : State) : Bool :=
  s.net.isEmpty &&
  (List.range 16).all (fun h => (s.halt h).orig.ret.isEmpty && (s.halt h).ssHeld.isEmpty && (s.halt h).batches.all (fun b => b.2.members.isEmpty)) &&
  (List.range 4).all (fun si => (s.stn si).boxOrig.ret.isEmpty && (s.stn si).backlog.isEmpty && (s.stn si).beats.isEmpty &&
    (s.stn si).wakeQ.isEmpty && (s.mem si).freezeQ.isEmpty) &&
  s.jct.orig.ret.isEmpty && s.jct.txq.isEmpty && s.jct.retained.isEmpty && s.jct.held.isEmpty && s.jct.parked.isEmpty &&
  s.jct.respWait.isEmpty && s.jct.beatWait.isEmpty && s.jct.retWait.isEmpty && s.jct.pool.isEmpty && s.jct.combs.all (fun e => e.2.members.isEmpty && e.2.outMembers.isEmpty)

/-- Requests that a forced park loses at its limit: those retained, those queued that no retention holds, and those
on halt wires. -/
def State.parkLoses (s : State) : Nat :=
  let own := fun (l : List (Nat × HReq)) => (l.filter (fun e => !opRetained e.2.req.op)).length
  (List.range 16).foldl (fun n h => n + (s.halt h).orig.ret.length + (s.halt h).heldQ.length + (s.halt h).ssHeld.length) 0 +
  (List.range 4).foldl (fun n si => n + (s.stn si).boxOrig.ret.length + own (s.stn si).backlog + own (s.mem si).freezeQ + (s.stn si).beats.length) 0 +
  s.jct.orig.ret.length + s.jct.remoteHeld.length + s.jct.respWait.length + s.jct.beatWait.length + s.jct.retWait.length

/-! ### WRITE (R408, R410) -/

/-- Part `k`'s park record. -/
def State.parkRecord (s : State) (k : Nat) (forced inc : Bool) : List Byte :=
  let l := s.ledger k
  let no := l.snapNo - 1
  let b := natBytes 2 0x0301 ++ natBytes 1 k ++ natBytes 1 s.su.die.toNat ++ natBytes 1 s.su.pkg.toNat ++
    natBytes 1 (bnat inc + bnat (s.flag F.PW_PARK_CTL_NV) * 2 + bnat forced * 4) ++ natBytes 2 (s.get F.PW_PARK_NUM_NUM) ++
    natBytes 1 (no % 2) ++ natBytes 7 0 ++ natBytes 8 no ++ natBytes 4 ((l.park.map (·.len)).getD 0) ++
    natBytes 4 ((l.park.map (·.crc)).getD 0) ++ natBytes 28 0
  b ++ natBytes 4 (crc32 b)

/-- How far part `k` is: 0 its snapshot not begun, 1 being written, 2 its record being written, 3 acknowledged. -/
def Job.parkAt (j : Job) (k : Nat) : Nat := j.args.getD (k + 2) 0
def State.setParkAt (s : State) (k v : Nat) : State := s.setJob 5 ((s.job 5).map (fun j => { j with args := j.args.set (k + 2) v }))

/-- The junction's snapshot follows the stations' snapshots, and its record their records. -/
def State.parkPart (s : State) (k : Nat) : State :=
  match s.job 5 with
  | none => s
  | some j =>
    let stns := fun (n : Nat) => (List.range 4).all (fun i => decide (n ≤ j.parkAt i))
    let idle := (s.ledger k).snap.isNone
    if j.parkAt k = 0 ∧ idle ∧ (k < 4 ∨ stns 2) then
      let s := s.snapStart k
      (s.modLedger k (fun l => { l with park := l.snap })).setParkAt k 1
    else if j.parkAt k = 1 ∧ idle ∧ (k < 4 ∨ stns 3) then
      (s.setParkAt k 2).memWriteLine k (BitVec.ofNat 58 ((s.ledgerArea k + 0x080) / 64))
        (lineNat (s.parkRecord k (j.args.getD 0 0 = 1) (j.args.getD 1 0 = 1))) (.job 5 k)
    else s

/-- What a park's writes wait for has come. -/
def State.parkNext (s : State) : State :=
  if s.get F.PW_PARK_CTL_STATE = 3 then ledgerKeys.foldl (fun s k => s.parkPart k) s else s

/-- WRITE begins. -/
def State.parkWrite (s : State) (inc : Bool) : State :=
  ((s.put F.PW_PARK_CTL_STATE 3).setJob 5 ((s.job 5).map (fun j => { j with phase := 3, args := j.args.set 1 (bnat inc) }))).parkNext

/-- What the park has left in memory. -/
def State.parkImage (s : State) (j : Job) : ParkImage :=
  let img := fun (k : Nat) => ((s.ledger k).park.map (·.image)).getD StnMem.init
  { base := s.ledgerArea 0
    recs := ledgerKeys.map (fun k => s.parkRecord k (j.args.getD 0 0 = 1) (j.args.getD 1 0 = 1))
    mems := (List.range 4).map img
    outs := (List.range 4).map (fun i => ((s.stn i).retiredRows, (s.stn i).retiredBanks))
    box := (img 4).box
    regs := s.regs
    bound := s.jct.ttBound }

/-- PARKED: the junction's record is acknowledged. -/
def State.parkDone (s : State) (j : Job) : State :=
  let s := { s with parkImg := some (s.parkImage j) }
  let s := ((s.setJob 5 none).put F.PW_PARK_CTL_STATE 4).putB F.PW_PARK_CTL_BUSY false
  (s.put F.PW_PARK_NUM_NUM (s.get F.PW_PARK_NUM_NUM + 1)).evt 0x2A 4

/-- A record is acknowledged. -/
def State.parkAcked (s : State) (k : Nat) : State :=
  let s := s.setParkAt k 3
  if k = 4 then (match s.job 5 with | some j => s.parkDone j | none => s) else s.parkNext

/-- A park under way ends unfinished (R414). -/
def State.parkEnd (s : State) (code : Nat) : State :=
  if (s.job 5).isNone then s
  else
    (((s.setJob 5 none).put F.PW_PARK_CTL_STATE 0).putB F.PW_PARK_CTL_BUSY false).parkErr code

/-! ### Reload (R411, R412) -/

/-- A park record is accepted by itself. -/
def State.recordOk (s : State) (k : Nat) (b : List Byte) : Bool :=
  numAt b 0 2 = 0x0301 && numAt b 2 1 = k && crc32 (b.take 60) = numAt b 60 4 && numAt b 3 1 = s.su.die.toNat && numAt b 4 1 = s.su.pkg.toNat

/-- Registers that a reload gives back: gang, import and address tables, timetable and pavilion tables, bank power,
rows out of use (R412). -/
def keptReg (key : Nat) : Bool :=
  let page := key / 2 ^ 33
  let off := key / 2 ^ 21 % 4096
  (page = 0x00 && (off = 0x104 || off = 0x108)) || (page = 0x01 && off = 0x04C) ||
  (page = 0x02 && ((decide (0x040 ≤ off) && decide (off ≤ 0x064)) || (decide (0x0C0 ≤ off) && decide (off ≤ 0x0C8)))) ||
  (page = 0x03 && ((decide (0x040 ≤ off) && decide (off < 0x120)) || off = 0x12C)) ||
  (page = 0x28 && off = 0x064) || (page = 0x2A && off = 0x058) || (decide (0x14 ≤ page) && decide (page ≤ 0x17) && off = 0x098)

/-- A station's rows after reload: no waits, watches or lanes; gangs are OFF. -/
def parkedMem (d : StnMem) : StnMem :=
  { d with
    watches := [], waiters := [], lanes := [], freezeQ := []
    slots := d.slots.map (fun e => (e.1, { e.2 with frozen := false }))
    turns := d.turns.map (fun e => (e.1, { e.2 with gang := 0 }))
    box := { d.box with threads := (threadsFrom d.box.snap d.box.threads).map (fun e => (e.1, { e.2 with cmp := none, wait := none, run := none })) } }

/-- Row `e` in its place of a table. -/
def tput {α : Type} (t : Tbl α) (e : Nat × α) : Tbl α := t.filter (fun x => x.1 < e.1) ++ [e] ++ t.filter (fun x => e.1 < x.1)

/-- The registers, with those that a reload gives back. -/
def State.parkedRegs (s : State) (r : Tbl Nat) : State :=
  { s with regs := (r.filter (fun e => keptReg e.1)).foldl tput (s.regs.filter (fun e => !keptReg e.1)) }

/-- The records are accepted: each part loads, rebuilds and arms, and begins a new snapshot. -/
def State.reloadFrom (s : State) (p : ParkImage) : State :=
  let s := s.parkedRegs p.regs
  let s := (List.range 4).foldl (fun s i => s.modStn i (fun st => { st with
    mem := parkedMem (p.mems.getD i StnMem.init), retiredRows := (p.outs.getD i ([], [])).1, retiredBanks := (p.outs.getD i ([], [])).2 })) s
  let box := (parkedMem { StnMem.init with box := p.box }).box
  let s := s.modJct (fun j => { j with box := box, ttBound := p.bound, ttPav := (p.bound.map (fun a => (s.slot (aStn a).toNat (aPon a)).pav)).getD 0 })
  let s := (List.range 4).foldl (fun s i => s.stationRebuild i) s
  let s := (List.range 16).foldl (fun s i => s.settleThread (boxThread 4 i)) s
  let ts := (List.range 5).flatMap (fun b => (List.range 16).map (fun i => boxThread b i))
  let s := (ts.filter (fun t => (s.th t).state = .armed)).foldl (fun s t => s.thTrigger t) s
  let s := s.homeObjects.foldl (fun s a => s.homeReg a) s
  let s := ledgerKeys.foldl (fun s k => s.snapStart k) s
  (s.setJob 6 (some ⟨0, 1, 0, [], [], false⟩)).evt 0x2A 7

/-- The five records have been read. Of records refused, job 6 keeps the code in `left` with phase 9. -/
def State.reloadRead (s : State) (j : Job) : State :=
  let recs := ledgerKeys.map (fun k => natBytes 64 (tget 0 j.lines k).toNat)
  let refuse := fun (c : Nat) => s.setJob 6 (some { j with phase := 9, left := c })
  if j.bad then refuse 6
  else if (List.range 5).all (fun k => s.recordOk k (recs.getD k [])) ∧ (recs.map (fun b => numAt b 6 2)).eraseDups.length = 1 then
    match s.parkImg with
    | some p => if p.recs = recs ∧ p.base = s.ledgerArea 0 then s.reloadFrom p else refuse 5
    | none => refuse 5
  else refuse 5

/-- After a reload: when the five new snapshots are complete, the park records are overwritten with zero. -/
def State.reloadNext (s : State) : State :=
  match s.job 6 with
  | some j =>
    if j.phase = 1 ∧ ledgerKeys.all (fun k => (s.ledger k).snap.isNone) then
      ledgerKeys.foldl (fun s k => s.memWriteLine 4 (BitVec.ofNat 58 ((s.ledgerArea k + 0x080) / 64)) 0 (.job 6 k))
        (s.setJob 6 (some { j with phase := 2, left := 5 }))
    else s
  | none => s

/-- An access of a reload has completed: a record read, or overwritten. -/
def State.reloadDone (s : State) (j : Job) : State :=
  if j.phase = 0 then (if j.left = 0 then s.reloadRead j else s)
  else
    let s := { s with parkImg := none }
    if j.left = 0 then s.setJob 6 none else s

/-- Step 5 ends with the records' fate (R411, R399). -/
def State.reloadEnd (s : State) : State :=
  match s.job 6 with
  | some j =>
    if s.su.step ≠ 5 then s
    else if j.phase = 1 then s.enterLink
    else if j.phase = 9 then (s.setJob 6 none).startFail (BitVec.ofNat 4 j.left)
    else s
  | none => s

/-! ### Meanings -/

/-- FOLD_BANK_GATE. -/
def execFoldBankGate (w : Word32) (s : State) : Host.Outcome State Fault Refusal :=
  .next (s.keep (s.quiet.cfgAccess 0x2A 0x054 (fun s => s.fbCtl (withBit w 0))))
/-- FOLD_BANK_WAKE. -/
def execFoldBankWake (w : Word32) (s : State) : Host.Outcome State Fault Refusal :=
  .next (s.keep (s.quiet.cfgAccess 0x2A 0x054 (fun s => s.fbCtl (withBit w 1))))
/-- PW_FB_WQ_CLR_HIGH. -/
def execPwFbWqClrHigh (w : Word32) (s : State) : Host.Outcome State Fault Refusal :=
  .next (s.keep (s.quiet.cfgAccess 0x2A 0x064 (fun s => s.fbWqWrite (withBit w 4))))

/-- FOLD_BANK_AUTO_GATE: a bank has stayed cold and saved for PW_FB_IDLE fclk (R403). -/
def execFoldBankAutoGate (x : BitVec 2) (bank : BitVec 4) (s : State) : Host.Outcome State Fault Refusal :=
  .next (s.keep (
    let s := s.quiet
    let si := x.toNat
    let b := bank.toNat
    if s.flag F.PW_FB_CTL_AUTO 0 si ∧ !s.waking si b ∧ s.bankCold si b ∧ s.bankSaved si b then s.setGated si b true else s))

/-- PARK. -/
def execPark (w : Word32) (s : State) : Host.Outcome State Fault Refusal :=
  .next (s.keepPark (s.quiet.cfgAccess 0x2A 0x080 (fun s => s.parkCtl (withBit w 0))))

/-- PARK_REQUEST: PC_PARK_REQ has passed its filter (R396, R409); a park under way takes FORCE (R414). -/
def execParkRequest (s : State) : Host.Outcome State Fault Refusal :=
  .next (s.keepPark (
    let s := s.quiet
    if s.parked then s
    else
      let s := s.drive .parkAck
      match s.job 5 with
      | none => s.parkGo true true
      | some j =>
        let s := (s.putB F.PW_PARK_CTL_PC_REQ true).putB F.PW_PARK_CTL_FORCE true
        if j.args.getD 0 0 = 1 then s
        else (s.setJob 5 (some { j with args := j.args.set 0 1 })).parkForce))

/-- HOLDUP_WORD (R396). -/
def execHoldupWord (w : BitVec 16) (s : State) : Host.Outcome State Fault Refusal :=
  .next (s.keep ((s.quiet.put F.PW_HOLDUP_ENERGY w.toNat).putB F.PW_HOLDUP_V true))

/-- PARK_DRAINED (R408). -/
def execParkDrained (s : State) : Host.Outcome State Fault Refusal :=
  .next (s.keepPark (
    let s := s.quiet
    if s.get F.PW_PARK_CTL_STATE = 2 ∧ s.quiesced then s.parkWrite false else s))

/-- PARK_DRAIN_LIMIT: a forced park has quiesced for PW_PARK_DRAIN fclk (R409). -/
def execParkDrainLimit (s : State) : Host.Outcome State Fault Refusal :=
  .next (s.keepPark (
    let s := s.quiet
    match s.job 5 with
    | some j =>
      if s.get F.PW_PARK_CTL_STATE = 2 ∧ j.args.getD 0 0 = 1 ∧ !s.quiesced then
        (s.bump F.PW_PARK_LOST_COUNT 0 0 s.parkLoses).parkWrite true
      else s
    | none => s))

/-- RELOAD: step 5 reads the five park records (R411). -/
def execReload (s : State) : Host.Outcome State Fault Refusal :=
  .next (s.keepQ (
    let s := s.quiet
    if s.su.step = 5 ∧ s.su.pkgDone ∧ (s.job 6).isNone then
      ledgerKeys.foldl (fun s k => s.memRead k (BitVec.ofNat 58 ((s.ledgerArea k + 0x080) / 64)) (.job 6 k))
        (s.setJob 6 (some ⟨0, 0, 5, [], [], false⟩))
    else s))

end Sys2Proof.Machine
end

