-- ==== Sys2Proof/Machine/Protect.lean ====
section
/-! DEFINITION. Protection of the RAMs (12): the resets that uncorrectable rows call for, scrub, passes, retirement and
injection. -/

namespace Sys2Proof.Machine

/-- SP_LOG_CTL. -/
def State.spLogCtl (s : State) (i : Nat) (w : Word32) : State :=
  let s := if wbit w 0 then s.logClear i (s.get F.SP_LOG_IDX_IDX i) else s
  if wbit w 1 then s.modProt i (fun p => { p with log := [], recent := [] }) else s

/-! ### Reactions (R347) -/

/-- A part is reset. -/
def State.resetPart (s : State) (part : Part) (detail : Nat) : State :=
  match part with
  | .stn x => s.stationReset x.toNat detail
  | .halt h => s.haltReset h.toNat detail
  | .jct => s.junctionReset detail

/-- The resets that are due begin (R347): before READY was first reached start-up stops (14 R399), in a park the park ends
first (14 R414). -/
def State.settleDue (s : State) (i : Nat) : State :=
  (s.prot i).due.foldl (fun s e =>
    if !s.su.everReady then (if s.su.step = 15 then s else s.startFail (if s.su.step = 5 then 6 else 4))
    else (s.parkEnd 6).resetPart e.1 e.2) (s.modProt i (fun p => { p with due := [] }))

/-- A row that the scrub, a pass or a bank's wake reads: what it calls for begins at once. -/
def State.scanRow (s : State) (i ram row : Nat) (syn : List (Nat × Byte)) (src : Nat) : State :=
  (s.readRow i ram row syn src).2.settleDue i

/-- Rows of a gated, waking or retired fold bank are skipped (R344, 14 R401). -/
def State.rowSkipped (s : State) (i ram row : Nat) : Bool := ram = 0x07 && s.bankOff i row

/-! ### Passes (R346) -/

/-- Why a GO is refused: 2 RAM, 1 RANGE. -/
def State.passCode (s : State) (i : Nat) : Nat :=
  let ram := s.get F.SP_PASS_RAM_RAM i
  let first := s.get F.SP_PASS_FIRST_ROW i
  let n := s.get F.SP_PASS_N_N i
  if !ramOf i ram then 2
  else if n = 0 ∨ !rowOk ram first ∨ !rowOk ram (first + n - 1) ∨ (isHaltRam ram ∧ (List.range n).any (fun k => !rowOk ram (first + k))) then 1
  else 0

/-- SP_PASS_CTL.GO. -/
def State.passGo (s : State) (i : Nat) : State :=
  if s.flag F.SP_PASS_CTL_BUSY i then s
  else
    let c := s.passCode i
    let s := (s.putB F.SP_PASS_CTL_ERR (c ≠ 0) i).put F.SP_PASS_CTL_CODE c i
    if c ≠ 0 then s
    else
      let s := (s.putB F.SP_PASS_CTL_BUSY true i).putB F.SP_PASS_CTL_ABORTED false i
      ((s.put F.SP_PASS_SUM_CORR 0 i).put F.SP_PASS_SUM_UNCORR 0 i).put F.SP_PASS_ERR_FIRST 0 i |>.put F.SP_PASS_ERR_LAST 0 i

/-- A row that the pass finds in error is counted. -/
def State.passNote (s : State) (i row : Nat) (f : Fld) : State :=
  let first := s.get F.SP_PASS_SUM_CORR i + s.get F.SP_PASS_SUM_UNCORR i = 0
  ((if first then s.put F.SP_PASS_ERR_FIRST row i else s).put F.SP_PASS_ERR_LAST row i).bump f i

/-- The pass reads rows in ascending order, until one resets the station or the junction. -/
def State.passRows (s : State) (i ram : Nat) : List Nat → State
  | [] => s
  | row :: rest =>
    if s.rowSkipped i ram row then s.passRows i ram rest
    else
      let c := classify (s.syndromes i ram row [])
      let note := if c = .clean then s else s.passNote i row (if c = .corr then F.SP_PASS_SUM_CORR else F.SP_PASS_SUM_UNCORR)
      let stop := c ≠ .clean ∧ c ≠ .corr ∧ s.uncorrOf i ram row c = .reset ∧ !isHaltRam ram
      let s := note.scanRow i ram row [] 2
      if stop then s.putB F.SP_PASS_CTL_ABORTED true i else s.passRows i ram rest

/-- Rows of the pass that an injection has left in error, in ascending order; every other row is clean. -/
def State.passBad (s : State) (i ram first n : Nat) : List Nat :=
  let l := ((s.prot i).bad.filter (fun e => e.1 = ram && decide (first ≤ e.2.1) && decide (e.2.1 < first + n))).map (·.2.1)
  l.foldl (fun acc r => acc.filter (· < r) ++ [r] ++ acc.filter (r < ·)) []

/-- The pass ends. -/
def State.passEnd (s : State) (i : Nat) : State :=
  if !s.flag F.SP_PASS_CTL_BUSY i then s
  else
    let ram := s.get F.SP_PASS_RAM_RAM i
    let s := s.passRows i ram (s.passBad i ram (s.get F.SP_PASS_FIRST_ROW i) (s.get F.SP_PASS_N_N i))
    (s.putB F.SP_PASS_CTL_BUSY false i).evtProt i 5

/-! ### Retirement (R351, R352) -/

/-- Rows of a retirable RAM that are in use; of FOLD, banks. -/
def State.rowUsed (s : State) (i ram row : Nat) : Bool :=
  let m := s.mem i
  let linked := fun (q : Kind → Bool) (n : Nat) => m.slots.any (fun e => q e.2.kind && decide (e.2.link.toNat % n = row))
  match ram with
  | 0x02 => linked (fun k => k = .sem || k = .glock) 4096
  | 0x03 => linked (· = .mlock) 1024
  | 0x04 => linked (· = .turnstile) 64
  | 0x06 => m.rowsUsed.contains row
  | 0x0A => (tget none m.bounds row).isSome
  | 0x07 => m.slots.any (fun e => inBank row e.2)
  | _ => false

/-- Rows, or banks, of a retirable RAM. -/
def retirable (ram : Nat) : Option Nat :=
  match ram with
  | 0x02 => some 4096 | 0x03 => some 1024 | 0x04 => some 64 | 0x06 => some 8192 | 0x0A => some 1024 | 0x07 => some 16 | _ => none

/-- The row or bank is retired. -/
def State.rowRetired (s : State) (i ram row : Nat) : Bool :=
  if ram = 0x07 then (s.stn i).retiredBanks.contains row else (s.stn i).retiredRows.contains (ram, row)

/-- SP_RET_N follows. -/
def State.retN (s : State) (i : Nat) : State :=
  let rows := ((s.stn i).retiredRows.filter (fun e => e.1 < 0x20)).length
  (s.put F.SP_RET_N_ROWS rows i).put F.SP_RET_N_BANKS ((s.stn i).retiredBanks.foldl (fun n b => n ||| 2 ^ b) 0) i

/-- Why a command is refused, 0 none. -/
def State.retCode (s : State) (i ram row : Nat) (retire : Bool) : Nat :=
  match if i < 4 then retirable ram else none with
  | none => 1
  | some n =>
    if n ≤ row ∨ s.rowRetired i ram row = retire then 3
    else if retire ∧ s.rowUsed i ram row then 2
    else 0

/-- RETIRE. A WATCH row refused with BUSY is reserved, under RAM 0x26. -/
def State.rowRetire (s : State) (i ram row : Nat) : State :=
  if ram = 0x07 then
    let s := s.modStn i (fun st => { st with retiredBanks := st.retiredBanks ++ [row] })
    let s := s.modMem i (fun m => { m with lanes := freshen m.lanes (2048 * row) 2048 })
    (s.setGated i row true).setWaking i row false
  else s.modStn i (fun st => { st with retiredRows := st.retiredRows.filter (fun e => e ≠ (ram + 0x20, row)) ++ [(ram, row)] })

def State.retGo (s : State) (i : Nat) (retire : Bool) : State :=
  let ram := s.get F.SP_RET_SEL_RAM i
  let row := s.get F.SP_RET_SEL_ROW i
  let c := s.retCode i ram row retire
  let s := (s.putB F.SP_RET_CTL_ERR (c ≠ 0) i).put F.SP_RET_CTL_CODE c i
  if c = 0 then
    (if retire then s.rowRetire i ram row
     else s.modStn i (fun st => { st with
       retiredBanks := if ram = 0x07 then st.retiredBanks.filter (· ≠ row) else st.retiredBanks
       retiredRows := st.retiredRows.filter (fun e => e ≠ (ram, row)) })).retN i
  else if c = 2 ∧ ram = 0x06 then
    s.modStn i (fun st => { st with retiredRows := st.retiredRows.filter (fun e => e ≠ (0x26, row)) ++ [(0x26, row)] })
  else s

/-- SP_RET_CTL: its commands in bit order. -/
def State.spRetCtl (s : State) (i : Nat) (w : Word32) : State :=
  let s := if wbit w 0 then s.retGo i true else s
  if wbit w 1 then s.retGo i false else s

/-! ### Registers (R354, R355) -/

/-- SP_INJ. -/
def State.spInj (s : State) (i : Nat) (w : Word32) : State :=
  let s := s.writeFields 0x14 i 0x400 0 w.toNat
  if wbit w 26 ∧ s.get F.SP_INJ_MASK i ≠ 0 then s.modProt i (fun p => { p with armed := true }) else s

/-- SP_PASS_CTL. -/
def State.spPassCtl (s : State) (i : Nat) (w : Word32) : State := if wbit w 0 then s.passGo i else s

/-- A write of a protection register, by instance and offset of R355. -/
def State.spWrite (s : State) (i off : Nat) (w : Word32) : State :=
  if off = 0x070 then s.spPassCtl i w
  else if off = 0x08C then s.spLogCtl i w
  else if off = 0x094 then s.spRetCtl i w
  else if off = 0x400 then s.spInj i w
  else if (off = 0x064 ∨ off = 0x068 ∨ off = 0x06C) ∧ s.flag F.SP_PASS_CTL_BUSY i then s
  else s.writeFields 0x14 i off 0 w.toNat

/-- An access to a protection register of a part: a halt has none of its own. -/
def State.spAccess (s : State) (part : Part) (off : Nat) (w : Word32) : State :=
  match part with
  | .stn x => s.cfgAccess (0x14 + x.toNat) off (fun s => s.spWrite x.toNat off w)
  | .jct => s.cfgAccess 0x29 (if off = 0x400 then 0x4C0 else off + 0x2C0) (fun s => s.spWrite 0x80 off w)
  | .halt _ => s

/-! ### Meanings -/

/-- After a row has been read: before READY was first reached only start-up can end (14 R399). -/
def State.keepRead (s t : State) : State := if s.su.everReady then s.keepPark t else s.keepQ t

/-- The scrub reads the rows in error of a list in order; it stops where one resets the part. False if it has stopped. -/
def State.scrubBad (s : State) (i ram : Nat) : List Nat → Bool × State
  | [] => (true, s)
  | row :: rest =>
    if s.rowSkipped i ram row then s.scrubBad i ram rest
    else
      let r := s.readRow i ram row [] 1
      if r.1 then r.2.scrubBad i ram rest
      else (false, (r.2.modProt i (fun p => { p with pos := tset 0 p.pos ram (row + 1) })).settleDue i)

/-- The scrub of a RAM goes on, in ascending row order, to row `n` (R344). -/
def State.scrubTo (s : State) (i ram n : Nat) : Bool × State :=
  let at' := tget 0 (s.prot i).pos ram
  let r := s.scrubBad i ram (s.passBad i ram at' (n - at'))
  if r.1 then (true, r.2.modProt i (fun p => { p with pos := tset 0 p.pos ram n })) else r

/-- SCRUB_READ (R341, R344): the scrub comes to the row, in which the bytes of `syn` are in error with their syndromes. A row
that the lap has read already is no event. -/
def execScrubRead (part : Part) (ram : BitVec 5) (row : BitVec 20) (syn : List (Nat × Byte)) (s : State) : Host.Outcome State Fault Refusal :=
  let i := protOf part
  let n := row.toNat
  if s.flag F.SP_SWEEP_DONE i ∧ !s.parked ∧ ramIs part ram.toNat ∧ rowOk ram.toNat n ∧ !s.rowSkipped i ram.toNat n ∧
      tget 0 (s.prot i).pos ram.toNat ≤ n then
    let r := s.quiet.scrubTo i ram.toNat n
    .next (s.keepRead (if r.1 then (r.2.modProt i (fun p => { p with pos := tset 0 p.pos ram.toNat (n + 1) })).scanRow i ram.toNat n syn 1 else r.2))
  else .next (s.keep s.quiet)

/-- RAMs of an instance, with their rows. -/
def ramsOf (i : Nat) : List (Nat × Nat) :=
  (List.range 32).filterMap (fun r => if ramOf i r then (ramShape r).map (fun x => (r, x.1)) else none)

/-- SCRUB_LAP_END (R344): every RAM has read every row once; a station's lap is its halts' as well. A row that resets the
part ends no lap. -/
def execScrubLapEnd (part : Part) (s : State) : Host.Outcome State Fault Refusal :=
  let i := protOf part
  match part with
  | .halt _ => .next (s.keep s.quiet)
  | _ =>
    if !s.flag F.SP_SWEEP_DONE i ∨ s.parked then .next (s.keep s.quiet)
    else
      let r := (ramsOf i).foldl (fun (acc : Bool × State) x => if acc.1 then acc.2.scrubTo i x.1 x.2 else acc) (true, s.quiet)
      let s' := r.2
      .next (s.keepRead (if !r.1 then s' else
        let t := (s'.put F.SP_LAP_LAP_NO (s'.get F.SP_LAP_LAP_NO i + 1) i).put F.SP_LAP_LAST_TIME (min ((s.fclk - (s.prot i).lapAt) / 1024) (2 ^ 32 - 1)) i
        (t.putB F.SP_LAP_FLOOR (s.get F.SP_LAP_LIMIT_LIMIT i = 0) i).modProt i (fun p => { p with lapAt := s.fclk, pos := [] })))

/-- SCRUB_FLOOR_ENGAGE (R345): the lap has run for SP_LAP_LIMIT × 65,536 fclk. -/
def execScrubFloorEngage (part : Part) (s : State) : Host.Outcome State Fault Refusal :=
  .next (s.keep (
    let s := s.quiet
    let i := protOf part
    match part with
    | .halt _ => s
    | _ => if s.flag F.SP_SWEEP_DONE i ∧ !s.flag F.SP_LAP_FLOOR i then (s.putB F.SP_LAP_FLOOR true i).evtProt i 4 else s))

/-- PROTECTION_PASS. -/
def execProtectionPass (part : Part) (w : Word32) (s : State) : Host.Outcome State Fault Refusal :=
  .next (s.keep (s.quiet.spAccess part 0x070 (withBit w 0)))
/-- PROTECTION_PASS_END. -/
def execProtectionPassEnd (part : Part) (s : State) : Host.Outcome State Fault Refusal :=
  match part with
  | .halt _ => .next (s.keep s.quiet)
  | p => if s.parked then .next (s.keep s.quiet) else .next (s.keepRead (s.quiet.passEnd (protOf p)))
/-- SP_LOG_CLR. -/
def execSpLogClr (part : Part) (w : Word32) (s : State) : Host.Outcome State Fault Refusal :=
  .next (s.keep (s.quiet.spAccess part 0x08C (withBit w 0)))
/-- SP_LOG_CLR_ALL. -/
def execSpLogClrAll (part : Part) (w : Word32) (s : State) : Host.Outcome State Fault Refusal :=
  .next (s.keep (s.quiet.spAccess part 0x08C (withBit w 1)))
/-- ROW_RETIRE. -/
def execRowRetire (part : Part) (w : Word32) (s : State) : Host.Outcome State Fault Refusal :=
  .next (s.keep (s.quiet.spAccess part 0x094 (withBit w 0)))
/-- ROW_UNRETIRE. -/
def execRowUnretire (part : Part) (w : Word32) (s : State) : Host.Outcome State Fault Refusal :=
  .next (s.keep (s.quiet.spAccess part 0x094 (withBit w 1)))
/-- INJECTION_ARM. -/
def execInjectionArm (part : Part) (w : Word32) (s : State) : Host.Outcome State Fault Refusal :=
  .next (s.keep (s.quiet.spAccess part 0x400 (withBit w 26)))

/-- FOLD_BANK_WAKE_DONE: the header lines are read once and corrected, and the held writes are applied
(14 R404). -/
def execFoldBankWakeDone (x : BitVec 2) (bank : BitVec 4) (s : State) : Host.Outcome State Fault Refusal :=
  let si := x.toNat
  let b := bank.toNat
  if s.waking si b then
    let t := (s.quiet.setWaking si b false).evt 0x2A 2
    let bad := (t.passBad si 0x07 (2048 * b) 2048).filter (fun r => r % 64 = 0)
    let t := bad.foldl (fun t r => t.scanRow si 0x07 r [] 0) t
    .next (s.keepRead { t.bankAwake si b with su := t.su })
  else .next (s.keep s.quiet)

end Sys2Proof.Machine
end

