-- ==== Sys2Proof/Machine/MemPort.lean ====
section
/-! DEFINITION. The memory ports: requests taken and completions (16 R437), and writes that fail (13 R366, R381). -/

namespace Sys2Proof.Machine

/-! ### Requests -/

/-- The lowest tag free in a direction; [6] is 1 for a read. -/
def Port.freeTag (p : Port) (wr : Bool) : Option Nat :=
  let base := if wr then 0 else 64
  (lowestFrom (fun n => !p.taken.any (fun r => r.tag.toNat = base + n)) 0 64).map (base + ·)

/-- A lock's write is not presented while an earlier write of the same lock is outstanding: they reach memory in the
order of the changes (05 R148). -/
def Port.blocked (p : Port) (r : MemReq) : Bool :=
  match r.why with
  | .mlock _ _ => p.taken.any (fun x => x.why = r.why)
  | _ => false

/-- The request that the port presents. -/
def Port.presented (p : Port) : Option MemReq := p.queue.find? (fun r => !p.blocked r)

/-- The host takes the request presented. -/
def State.memTake (s : State) (p : Nat) : State :=
  match (s.port p).presented with
  | none => s
  | some x =>
    match (s.port p).freeTag x.wr with
    | none => s
    | some t =>
      let r := { x with tag := BitVec.ofNat 7 t }
      (s.modPort p (fun q => { queue := q.queue.erase x, taken := q.taken ++ [r] })).drive
        (.memory (BitVec.ofNat 3 p) r.wr r.line r.tag (if r.wr then r.be else 0) (if r.wr then r.data else 0))

/-! ### Writes that fail -/

/-- Code of a write in the detail of LEDGER_WR and MEM_WR (13 R391), if the spec retries it. -/
def MemTag.write : MemTag → Option Nat
  | .window _ _ => some 0
  | .snapshot _ | .descriptor _ => some 1
  | .mlock _ _ => some 2
  | .skip _ _ => some 3
  | .foldResult _ _ => some 4
  | .census _ => some 5
  | .job 2 _ | .job 3 _ => some 6
  | .job 0 _ => some 7
  | .job 1 _ => some 8
  | .job _ _ => some 1
  | .dropped => none

/-- A write is presented again, behind the one that stands presented, and before every later write of the same lock
(05 R148). -/
def State.memRetry (s : State) (p : Nat) (r : MemReq) : State :=
  s.modPort p (fun q =>
    let i := match r.why with
      | .mlock _ _ => (q.queue.findIdx? (fun x => x.why = r.why)).getD 1
      | _ => 1
    { q with queue := q.queue.take i ++ [{ r with tries := r.tries + 1 }] ++ q.queue.drop i })

/-- One access of a job has completed. -/
def State.jobAccess (s : State) (k line : Nat) (wr : Bool) (bad : Bool) (data : Line) : State :=
  match s.job k with
  | none => s
  | some j =>
    let j := { j with left := j.left - 1, bad := j.bad || bad, lines := if wr ∨ bad then j.lines else tput j.lines (line, data) }
    let s := s.setJob k (some j)
    match k with
    | 0 => if j.left = 0 ∧ !s.recovering then s.pavJobDone j else s
    | 1 => if j.left = 0 ∧ !s.recovering then s.ctxJobDone j else s
    | 2 => if j.left = 0 then s.dumpJobDone j else s
    | 3 => if j.left = 0 then s.viewJobDone j else s
    | 5 => s.parkAcked line
    | 6 => s.reloadDone j
    | _ => s

/-- Raise MEM_WR (13 R357). -/
def State.memFault (s : State) (p what : Nat) (line : BitVec 58) : State :=
  s.fault 7 (if p < 4 then p else 20) (what + line.toNat * 64 % 2 ^ 32 / 2 ^ 8 * 2 ^ 8)

/-- A ledger write fails: a park that writes ends with it. -/
def State.ledgerWriteFailed (s : State) (k what : Nat) (line : BitVec 58) : State :=
  let s := s.ledgerFail k what line
  if s.get F.PW_PARK_CTL_STATE = 3 then s.parkEnd 6 else s

/-- A write has failed for the last time (R366, R381). -/
def State.memFailed (s : State) (p : Nat) (r : MemReq) : State :=
  match r.why with
  | .window k _ => s.ledgerWriteFailed k 0 r.line
  | .snapshot k => s.ledgerWriteFailed k 1 r.line
  | .descriptor k => s.ledgerWriteFailed k 1 r.line
  | .job 5 k => s.ledgerWriteFailed k 1 r.line
  | .job 6 _ => s.ledgerWriteFailed 4 1 r.line
  | .mlock _ _ => s.memFault p 2 r.line
  | .skip _ _ => s.memFault p 3 r.line
  | .foldResult si pon => (s.memFault p 4 r.line).abortRegion si pon
  | .census _ => s.memFault p 5 r.line
  | .job k l => (s.memFault p ((MemTag.job k l).write.getD 0) r.line).jobAccess k l true true 0
  | .dropped => s

/-! ### Completions -/

/-- What a completed access was for goes on. -/
def State.memDone (s : State) (r : MemReq) (bad : Bool) (data : Line) : State :=
  match r.why with
  | .mlock _ _ => s
  | .skip si pon => let d := s.resolve (s.addrOf si pon) moveFuel; s.markerAcked (aStn d).toNat (aPon d)
  | .foldResult si pon => s.resultAcked si pon
  | .census _ => s
  | .window k num => s.windowAck k num
  | .snapshot k => s.snapAck k
  | .descriptor k => ((s.snapDone k).parkNext).reloadNext
  | .job k l => s.jobAccess k l r.wr bad data
  | .dropped => s

/-- A completion: a failed write is retried up to three times. -/
def State.memCompletion (s : State) (p : Nat) (tag : BitVec 7) (err : Bool) (data : Line) : State :=
  match (s.port p).taken.find? (fun r => r.tag = tag) with
  | none => s
  | some r =>
    let s := s.modPort p (fun q => { q with taken := q.taken.filter (fun x => x.tag ≠ tag) })
    if r.wr ∧ err then (if r.tries < 3 ∧ r.why.write.isSome then s.memRetry p r else s.memFailed p r)
    else s.memDone r err data

/-! ### Meanings -/

/-- MEMORY_REQUEST_TAKEN. -/
def execMemoryRequestTaken (port : BitVec 3) (s : State) : Host.Outcome State Fault Refusal :=
  .next (s.keep (s.quiet.memTake port.toNat))

/-- MEMORY_COMPLETION. -/
def execMemoryCompletion (port : BitVec 3) (tag : BitVec 7) (err : Bool) (data : Line) (s : State) : Host.Outcome State Fault Refusal :=
  let t := s.quiet.memCompletion port.toNat tag err data
  if s.su.step = 5 then .next (s.keepQ ({ t with su := s.su }.reloadEnd)) else .next (s.keepPark t)

end Sys2Proof.Machine
end

