-- ==== Sys2Proof/Machine/Observe.lean ====
section
/-! DEFINITION. Performance counters (15 R422 to R424), tracing (16 R444, R445), mesh credits and discarded
transfers (16 R433, R435), and test access (16 R446 to R448). -/

namespace Sys2Proof.Machine

/-! ### Performance counters (15 R422) -/

/-- Counter `n` and the latch of its high half. -/
def State.perfZero (s : State) (n : Nat) : State := { s with perf := tset 0 s.perf n 0 }

/-- PC_CTL. -/
def State.perfCtl (s : State) (w : Word32) : State :=
  let s := s.writeFields 0x2D 0 0x040 0 w.toNat
  if wbit w 1 then (List.range 8).foldl (fun s n => (s.perfZero n).putB F.PC_CFG_OVF false 0 n) s else s

/-- PC_CFGn. -/
def State.perfCfg (s : State) (n : Nat) (w : Word32) : State :=
  let s := s.writeFields 0x2D 0 0x080 n w.toNat
  if wbit w 15 then s.perfZero n else s

/-- A read of PC_CNTn_LO. -/
def State.perfRead (s : State) (n : Nat) : State :=
  let v := tget 0 s.perf n
  (s.put F.PC_CNT_HI_COUNT (v / 2 ^ 32) 0 n).drive (.cfRsp (BitVec.ofNat 32 v))

/-! ### Tracing (16 R444) -/

/-- OB_CTL: setting EN clears the buffer and the tclk count. -/
def State.obCtl (s : State) (w : Word32) : State :=
  let on := wbit w 0 && !s.flag F.OB_CTL_EN
  let s := s.putB F.OB_CTL_EN (wbit w 0)
  if on then { s with trace := [], traceAt := s.fclk } else s

/-- Codes of R423 that are not reserved. -/
def eventCodes : List Nat :=
  [0x01, 0x10, 0x11, 0x12, 0x13, 0x14, 0x15, 0x20, 0x21, 0x22, 0x23, 0x24, 0x25, 0x26, 0x27, 0x28, 0x29, 0x2A, 0x2B, 0x2C, 0x2D,
   0x30, 0x31, 0x32, 0x33, 0x34, 0x35, 0x36, 0x37]
/-- Codes whose occurrences are timing that the model leaves out; of these the command is the occurrences. -/
def timingCodes : List Nat := [0x11, 0x21]

/-- Selector `n` has counted 2^DIV occurrences. -/
def State.traceDue (s : State) (n : Nat) : Bool :=
  let c := s.get F.OB_SEL_EVENT 0 n
  s.flag F.OB_CTL_EN && s.flag F.OB_SEL_EN 0 n && eventCodes.contains c &&
    (timingCodes.contains c || decide (2 ^ s.get F.OB_SEL_DIV 0 n ≤ tget 0 s.occ n))

/-- The word of selector `n`: event, part, selector, and the tclk count since EN was set. -/
def State.traceWord (s : State) (n : Nat) : Word32 :=
  BitVec.ofNat 32 (s.get F.OB_SEL_EVENT 0 n + s.get F.OB_SEL_PART 0 n * 2 ^ 8 + n * 2 ^ 13 + (s.fclk - s.traceAt) / 16 % 2 ^ 16 * 2 ^ 16)

/-- A word is stored, or finds the buffer full. -/
def State.traceStore (s : State) (n : Nat) : State :=
  let w := s.traceWord n
  let s := { s with occ := tmod 0 s.occ n (· - 2 ^ s.get F.OB_SEL_DIV 0 n) }
  if s.trace.length < 64 then { s with trace := s.trace ++ [w] } else (s.bump F.OB_LOST_COUNT).evt 0x2C 0

/-- The observation port sends the oldest word. -/
def State.traceSend (s : State) : State :=
  match s.trace with
  | [] => s
  | w :: rest => { s with trace := rest }.drive (.trace w)

/-! ### Mesh ports (16 R433 to R435) -/

/-- A mesh port. -/
def meshPort (p : Nat) : Bool := decide (p < 25)

/-- Credits of one port, one per set bit of MI_CRD; the block counts at most 255 of a class. -/
def State.meshCredit (s : State) (p : Nat) (mask : BitVec 3) : State :=
  (List.range 3).foldl (fun (s : State) c =>
    if mask.getLsbD c then { s with crd := tmod 0 s.crd (3 * p + c) (fun v => min (v + 1) 255) } else s) s

/-- A transfer of the kind can be one that the port discards: of MSG, one whose sender uses a station's other
port. -/
def discarded (p kind : Nat) : Bool :=
  match kind with
  | 0 => decide (16 ≤ p) && decide (p < 24)
  | 1 | 2 => decide (16 ≤ p)
  | 3 => decide (p < 16) || decide (p = 24)
  | 5 | 6 => decide (16 ≤ p) && decide (p < 20)
  | _ => true

/-- A transfer is discarded. -/
def State.badMesh (s : State) : State := (s.bump F.OB_BADMESH_COUNT).evt 0x2C 1

/-! ### Test access (16 R446 to R448) -/

def State.wrapper (s : State) (i : WInstr) : State := s.modSu (fun u => { u with wInstr := i })

/-- Codes of the wrapper instruction register that are reserved. -/
def reservedInstr (c : Nat) : Bool := c = 6 || c = 7 || decide (11 ≤ c)

/-- Part of a segment: the junction, then the members of the roll-call chain. -/
def segPart (seg : Nat) : Part := if seg = 0 then .jct else chainMember (seg - 1)

def State.mbist (s : State) (seg : Nat) : Mbist := tget Mbist.init s.su.mbist seg
def State.setMbist (s : State) (seg : Nat) (m : Mbist) : State :=
  s.modSu (fun u => { u with mbist := tset Mbist.init u.mbist seg m })

/-- A RAM of `n` rows that hold free values, each made of `k` of them; rows at their reset value are not listed. -/
def freeTbl {α : Type} [DecidableEq α] (n k ctr : Nat) (d : α) (f : (Nat → Word64) → α) : Tbl α :=
  ((List.range n).map (fun i => (i, f (fun j => Config.freeWord (ctr + k * i + j))))).filter (fun e => e.2 ≠ d)
def freeRows (n ctr : Nat) (w : Nat) : Tbl (BitVec w) := freeTbl n 1 ctr 0 (fun x => (x 0).setWidth w)

/-- The first `n` free words as one number. -/
def wordsNat (n : Nat) (x : Nat → Word64) : Nat := (List.range n).foldl (fun a j => a + (x j).toNat * 2 ^ (64 * j)) 0

def semOfRow (a : Nat) : SemEnt :=
  ⟨BitVec.ofNat 32 a, a.testBit 32, a.testBit 33, BitVec.ofNat 24 (a / 2 ^ 34), BitVec.ofNat 6 (a / 2 ^ 58), BitVec.ofNat 2 (a / 2 ^ 64),
    BitVec.ofNat 2 (a / 2 ^ 66), a.testBit 68, a.testBit 69, BitVec.ofNat 16 (a / 2 ^ 96)⟩
def turnOfRow (a : Nat) : TurnRec :=
  ⟨BitVec.ofNat 256 a, BitVec.ofNat 128 (a / 2 ^ 256), BitVec.ofNat 7 (a / 2 ^ 384), BitVec.ofNat 384 (a / 2 ^ 391),
    BitVec.ofNat 384 (a / 2 ^ 775), BitVec.ofNat 6 (a / 2 ^ 1159)⟩
def entryOfRow (a : Nat) : Entry :=
  ⟨BitVec.ofNat 6 a, BitVec.ofNat 12 (a / 2 ^ 6), BitVec.ofNat 13 (a / 2 ^ 18), a.testBit 31, BitVec.ofNat 12 (a / 2 ^ 32),
    BitVec.ofNat 12 (a / 2 ^ 44), a.testBit 56, BitVec.ofNat 20 (a / 2 ^ 57), a.testBit 77, BitVec.ofNat 32 (a / 2 ^ 78)⟩
def driftOfRow (a : Nat) : Drift :=
  ⟨BitVec.ofNat 14 a, BitVec.ofNat 14 (a / 2 ^ 14), BitVec.ofNat 2 (a / 2 ^ 28), BitVec.ofNat 16 (a / 2 ^ 30), BitVec.ofNat 14 (a / 2 ^ 46),
    BitVec.ofNat 32 (a / 2 ^ 60), BitVec.ofNat 4 (a / 2 ^ 92), a.testBit 96, a.testBit 97, BitVec.ofNat 16 (a / 2 ^ 98),
    BitVec.ofNat 64 (a / 2 ^ 114), BitVec.ofNat 16 (a / 2 ^ 178)⟩
def waitOfRow (a : Nat) : WaitReg :=
  { WaitReg.init with
    exp := BitVec.ofNat 64 a, addr := BitVec.ofNat 25 (a / 2 ^ 64), pav := BitVec.ofNat 6 (a / 2 ^ 89), gen := BitVec.ofNat 8 (a / 2 ^ 95)
    op := BitVec.ofNat 6 (a / 2 ^ 103), v := a.testBit 109, sided := a.testBit 110, ret := a.testBit 111, age := BitVec.ofNat 22 (a / 2 ^ 112)
    homeQ := BitVec.ofNat 5 (a / 2 ^ 134), stale := a.testBit 139 }

/-- Box state (12 R338): entries, doorbells and the threads' registers. -/
def freeBox (b : SBox) (c : Nat) : SBox :=
  { b with
    active := freeTbl 16 2 c Entry.init (fun x => entryOfRow (wordsNat 2 x))
    shadow := freeTbl 16 2 (c + 32) Entry.init (fun x => entryOfRow (wordsNat 2 x))
    doorbells := freeTbl 64 2 (c + 64) Doorbell.init (fun x => ⟨x 0, (x 1).setWidth 6, (x 1).getLsbD 6⟩)
    threads := (List.range 16).foldl (fun t i => tmod Thread.init t i (fun th => { th with regs := freeTbl 8 1 (c + 192 + 8 * i) 0 (fun x => x 0) })) b.threads }

/-- A run destroys its RAM: its rows are free (assumption log 35). -/
def StnMem.destroy (m : StnMem) (ram c : Nat) : StnMem :=
  match ram with
  | 0x00 => { m with slots := ((List.range 16384).map (fun i => (i, { tget Slot.free m.slots i with val := Config.freeWord (c + i) }))).filter (fun e => e.2 ≠ Slot.free) }
  | 0x01 => { m with slots := ((List.range 16384).map (fun i =>
      let a := (Config.freeWord (c + i)).toNat
      (i, { slotOfAttr a (tget Slot.free m.slots i).val with frozen := a.testBit 12 }))).filter (fun e => e.2 ≠ Slot.free) }
  | 0x02 => { m with sems := freeTbl 4096 2 c SemEnt.init (fun x => semOfRow (wordsNat 2 x)) }
  | 0x03 => { m with lockqs := freeTbl 1024 2 c SemEnt.init (fun x => semOfRow (wordsNat 2 x)) }
  | 0x04 => { m with turns := freeTbl 64 20 c TurnRec.init (fun x => turnOfRow (wordsNat 20 x)) }
  | 0x05 => { m with hmap := freeRows 65536 c 32 }
  | 0x07 => { m with
      lanes := freeTbl 32768 9 c none (fun x => if (x 8).getLsbD 0 then none else some (BitVec.ofNat 512 (wordsNat 8 x)))
      hdrs := m.hdrs.map (fun e => (e.1, hdrOfLine (natBytes 64 (wordsNat 8 (fun j => Config.freeWord (c + 9 * e.1 + j)))) e.2.r)) }
  | 0x08 => { m with box := { m.box with store := freeRows 4096 c 32 } }
  | 0x09 => { m with box := freeBox m.box c }
  | 0x0A => { m with bounds := freeTbl 1024 1 c none (fun x => if (x 0).getLsbD 28 then some (bitsOf (x 0).toNat 0 14, bitsOf (x 0).toNat 14 14) else none) }
  | 0x0B => { m with
      drift := freeTbl 64 4 c Drift.init (fun x => driftOfRow (wordsNat 4 x))
      rights := freeRows 4096 (c + 256) 4
      origins := (List.range 2048).foldl (fun t i =>
        let w := (Config.freeWord (c + 4352 + i)).toNat
        tset 0 t (w % 2 ^ 15) (if w.testBit 23 then w / 2 ^ 15 % 2 ^ 8 + 1 else 0)) [] }
  | _ => m

def State.destroyRam (s : State) (part : Part) (ram : Nat) : State :=
  let t := { s with freeCtr := s.freeCtr + 2 ^ 19 }
  let c := s.freeCtr
  match part with
  | .stn x => t.modMem x.toNat (fun m => m.destroy ram c)
  | .halt h =>
    let t := (List.range 16).foldl (fun t i => t.put F.HALT_SUPV_MASK (Config.freeWord (c + i)).toNat h.toNat i) t
    t.modHalt h.toNat (fun x => { x with
      bases := freeRows 384 (c + 16) 32
      scriptStore := freeRows 16 (c + 400) 32
      waits := freeTbl 384 3 (c + 416) WaitReg.init (fun x => waitOfRow (wordsNat 3 x)) })
  | .jct =>
    match ram with
    | 0x1B => t.modJct (fun j => { j with box := { j.box with store := freeRows 4096 c 32 } })
    | 0x1C => t.modJct (fun j => { j with box := freeBox j.box c })
    | _ => s

/-- GO of a segment's instrument: a run begins in step 4 or 15 alone. -/
def State.mbistGo (s : State) (seg : Nat) (ram : BitVec 5) (algo : BitVec 2) : State :=
  let m := s.mbist seg
  if m.busy then s
  else if (s.su.step ≠ 4 ∧ s.su.step ≠ 15) ∨ !ramIs (segPart seg) ram.toNat then
    s.setMbist seg { m with ram := ram, algo := algo, done := true, fail := true }
  else
    let s := s.setMbist seg { ram := ram, algo := algo, busy := true, done := false, fail := false, row := 0 }
    let s := if s.su.step = 4 then s.modSu (fun u => { u with mbistHold := true }) else s
    s.destroyRam (segPart seg) ram.toNat

/-! ### Meanings -/

/-- PERF_CLEAR_ALL. -/
def execPerfClearAll (w : Word32) (s : State) : Host.Outcome State Fault Refusal :=
  .next (s.keep (s.quiet.cfgAccess 0x2D 0x040 (fun s => s.perfCtl (withBit w 1))))
/-- PERF_CLEAR. -/
def execPerfClear (n : BitVec 3) (w : Word32) (s : State) : Host.Outcome State Fault Refusal :=
  .next (s.keep (s.quiet.cfgAccess 0x2D (0x080 + 16 * n.toNat) (fun s => s.perfCfg n.toNat (withBit w 15))))
/-- PERF_COUNTER_READ; every read of a parked block reads zero (14 R408). -/
def execPerfCounterRead (n : BitVec 3) (s : State) : Host.Outcome State Fault Refusal :=
  .next (s.keep (if s.parked then s.quiet.drive (.cfRsp 0) else s.quiet.perfRead n.toNat))
/-- OBSERVATION_ENABLE. -/
def execObservationEnable (w : Word32) (s : State) : Host.Outcome State Fault Refusal :=
  .next (s.keepOb (s.quiet.cfgAccess 0x2C 0x040 (fun s => s.obCtl (withBit w 0))))
/-- TRACE_SELECTOR_COUNT. -/
def execTraceSelectorCount (sel : BitVec 2) (s : State) : Host.Outcome State Fault Refusal :=
  .next (s.keepOb (if s.traceDue sel.toNat then s.quiet.traceStore sel.toNat else s.quiet))
/-- TRACE_WORD. -/
def execTraceWord (s : State) : Host.Outcome State Fault Refusal := .next (s.keepOb s.quiet.traceSend)

/-- MESH_CREDIT: the host grants at any time after reset release. -/
def execMeshCredit (port : BitVec 5) (mask : BitVec 3) (s : State) : Host.Outcome State Fault Refusal :=
  .next (s.keep (if meshPort port.toNat ∧ s.su.step ≠ 0 then s.quiet.meshCredit port.toNat mask else s.quiet))
/-- MESH_TRANSFER_DISCARD. -/
def execMeshTransferDiscard (port : BitVec 5) (kind : BitVec 3) (s : State) : Host.Outcome State Fault Refusal :=
  .next (s.keep (if meshPort port.toNat ∧ s.su.step ≠ 0 ∧ discarded port.toNat kind.toNat then s.quiet.badMesh else s.quiet))

/-- WRAPPER_RESET. -/
def execWrapperReset (s : State) : Host.Outcome State Fault Refusal := .next (s.keepQ (s.quiet.wrapper .bypass))
/-- WS_BYPASS. -/
def execWsBypass (s : State) : Host.Outcome State Fault Refusal := .next (s.keepQ (s.quiet.wrapper .bypass))
/-- WS_EXTEST. -/
def execWsExtest (s : State) : Host.Outcome State Fault Refusal := .next (s.keepQ (s.quiet.wrapper .extest))
/-- WS_PRELOAD. -/
def execWsPreload (s : State) : Host.Outcome State Fault Refusal := .next (s.keepQ (s.quiet.wrapper .preload))
/-- WS_INTEST. -/
def execWsIntest (s : State) : Host.Outcome State Fault Refusal := .next (s.keepQ (s.quiet.wrapper .intest))
/-- WS_CLAMP. -/
def execWsClamp (s : State) : Host.Outcome State Fault Refusal := .next (s.keepQ (s.quiet.wrapper .clamp))
/-- WS_SAFE. -/
def execWsSafe (s : State) : Host.Outcome State Fault Refusal := .next (s.keepQ (s.quiet.wrapper .safe))
/-- WS_IDCODE. -/
def execWsIdcode (s : State) : Host.Outcome State Fault Refusal := .next (s.keepQ (s.quiet.wrapper .idcode))
/-- WS_IJTAG. -/
def execWsIjtag (s : State) : Host.Outcome State Fault Refusal := .next (s.keepQ (s.quiet.wrapper .ijtag))
/-- WP_SCAN. -/
def execWpScan (s : State) : Host.Outcome State Fault Refusal := .next (s.keepQ (s.quiet.wrapper .scan))
/-- WS_RESERVED_INSTRUCTION: service is unchanged. -/
def execWsReservedInstruction (code : BitVec 4) (s : State) : Host.Outcome State Fault Refusal :=
  .next (s.keepQ (if reservedInstr code.toNat then s.quiet.wrapper .reserved else s.quiet))

/-- MBIST_GO: the instruments are reached under WS_IJTAG. -/
def execMbistGo (seg : BitVec 5) (ram : BitVec 5) (algo : BitVec 2) (s : State) : Host.Outcome State Fault Refusal :=
  .next (s.keepQ (if s.su.wInstr = .ijtag ∧ seg.toNat < 21 then s.quiet.mbistGo seg.toNat ram algo else s.quiet))
/-- MBIST_DONE. -/
def execMbistDone (seg : BitVec 5) (fail : Bool) (failRow : BitVec 16) (s : State) : Host.Outcome State Fault Refusal :=
  .next (s.keepQ (
    let s := s.quiet
    let m := s.mbist seg.toNat
    if m.busy then s.setMbist seg.toNat { m with busy := false, done := true, fail := fail, row := if fail then failRow else 0 } else s))

end Sys2Proof.Machine
end

