-- ==== Sys2Proof/Machine/ConfigWrite.lean ====
section
/-! DEFINITION. CONFIG_WRITE: what a configuration write does at each register (17 R460 to R463), and the rows
that only clear a count. -/

namespace Sys2Proof.Machine

/-! ### Registers with small behaviours -/

/-- HALT_TICK (07 R203). -/
def State.haltTickWrite (s : State) (h : Nat) (w : Word32) : State :=
  let s := s.writeFields 0x18 h 0x068 0 w.toNat
  if wbit w 31 then
    ((s.put F.HALT_TICK_BATCHES 0 h).put F.HALT_TICK_LOST 0 h).put F.HALT_TICK_MEMB_MEMBERS 0 h
  else s

/-- JL_PROXY and JL_RET (09 R285). -/
def State.jlProxyWrite (s : State) (w : Word32) : State :=
  if wbit w 30 then s.put F.JL_PROXY_HIGH s.jct.proxies.length else s
def State.jlRetWrite (s : State) (w : Word32) : State :=
  if wbit w 22 then s.put F.JL_RET_HIGH s.jct.retained.length else s

/-- The configuration of a combining entry keeps to 09 R270. -/
def jfOk (op fmt lanes n : Nat) : Bool :=
  (if op ≤ 3 then decide (fmt ≤ 4) else if op ≤ 5 then fmt = 8 else decide (9 ≤ fmt) && decide (fmt ≤ 12)) &&
    decide (1 ≤ lanes) && decide (lanes ≤ 4) && decide (1 ≤ n) && decide (n ≤ 64) && decide (lanes * fmtWidth fmt ≤ 4)

/-- JF_ADDR and JF_CFG (09 R286). -/
def State.jfWrite (s : State) (off : Nat) (w : Word32) : State :=
  let e := s.get F.JF_SEL_IDX
  let c := s.comb e
  if c.count ≠ 0 ∨ !c.outMembers.isEmpty then s.putB F.JF_STAT_REFUSED true 0 e
  else
    let s := s.writeFields 0x01 0 off e w.toNat
    if off = 0x104 then s
    else
      let s := s.modComb e (fun c => { c with rnd := w.extractLsb' 23 8 })
      let ok := jfOk (s.get F.JF_CFG_OP 0 e) (s.get F.JF_CFG_IN_FMT 0 e) (s.get F.JF_CFG_LANES 0 e) (s.get F.JF_CFG_N 0 e)
      if wbit w 31 ∧ !ok then (s.putB F.JF_CFG_V false 0 e).putB F.JF_STAT_REFUSED true 0 e else s

/-! ### The pages -/

/-- The page header (17 R454); EVT_STAT, EVT_EN and EVT_SET are in every page. -/
def State.headerWrite (s : State) (p off : Nat) (w : Word32) : State :=
  match off with
  | 0x00C => s.pageCtl p w
  | 0x010 => s.pageStat p w
  | 0x014 => s.evtClear p w
  | 0x018 => s.evtEnable p w
  | 0x01C => s.evtSet p w
  | 0x024 => s.pageLock p w
  | _ => s

/-- Junction page 0x00. -/
def State.page00Write (s : State) (off : Nat) (w : Word32) : State :=
  match off with
  | 0x044 => s.pkgWrite w
  | 0x060 | 0x064 => s.ledgerBaseWrite off w
  | 0x068 => s.ledgerCtl w
  | 0x080 => s.cfgerrWrite w
  | 0x104 | 0x108 => s.gangCfg off w
  | 0x10C => s.gangCmd w
  | 0x110 => s.writeFields 0x00 0 0x110 (s.get F.GANG_SEL_GANG) w.toNat
  | _ => s.writeFields 0x00 0 off 0 w.toNat

/-- Junction link page 0x01. -/
def State.page01Write (s : State) (off : Nat) (w : Word32) : State :=
  match off with
  | 0x04C => s.stageWrite 0x01 off w
  | 0x050 => s.jlProxyWrite w
  | 0x058 => s.jlRetWrite w
  | 0x104 | 0x108 => s.jfWrite off w
  | 0x10C => s.writeFields 0x01 0 0x10C (s.get F.JF_SEL_IDX) w.toNat
  | _ => s.writeFields 0x01 0 off 0 w.toNat

/-- Timetable page 0x02. -/
def State.page02Write (s : State) (off : Nat) (w : Word32) : State :=
  match off with
  | 0x060 => s.ttCtl w
  | 0x080 => s.ttDenyWrite w
  | 0x0C4 | 0x0C8 => s.shareWrite off w
  | _ => s.writeFields 0x02 0 off 0 w.toNat

/-- Pavilion page 0x03. -/
def State.page03Write (s : State) (off : Nat) (w : Word32) : State :=
  match off with
  | 0x044 => s.pavCmd w
  | 0x080 | 0x084 | 0x088 | 0x0C4 | 0x0C8 | 0x114 | 0x12C => s.stageWrite 0x03 off w
  | 0x0D4 => s.hmWrite w
  | 0x0E0 => s.runCmd w
  | 0x0EC | 0x0F0 | 0x0F4 | 0x0F8 => s.ctxReg off w
  | 0x0FC => s.ctxGo w
  | 0x11C => s.orphCtl w
  | 0x120 => s.tpPropose w
  | 0x124 => s.tpConfirm false w
  | 0x104 | 0x108 => s.writeFields 0x03 0 off (s.get F.WAIT_SEL_PAV) w.toNat
  | _ => s.writeFields 0x03 0 off (if 0x048 ≤ off ∧ off ≤ 0x06C then s.get F.PAV_SEL_PAV else 0) w.toNat

/-- Station pages 0x08 to 0x0B, and the junction's ledger registers. -/
def State.page08Write (s : State) (si off : Nat) (w : Word32) : State :=
  match off with
  | 0x050 => s.objCmd si w
  | 0x060 => s.watchStatWrite si w
  | 0x088 => s.tsData si w
  | 0x090 => s.tsCtl si w
  | 0x0A4 | 0x0A8 | 0x0AC | 0x0B0 => s.driftWrite si off w
  | 0x0CC => s.mlockCtl si w
  | 0x0D0 => s.semfCtl si w
  | 0x0EC => s.ringCtl si w
  | _ => s.writeFields 0x08 si off 0 w.toNat

/-- Fold pages 0x0C to 0x0F. -/
def State.page0CWrite (s : State) (si off : Nat) (w : Word32) : State :=
  match off with
  | 0x058 => if wbit w 0 then s.foldApply si else s
  | 0x05C => s.frStat si w
  | _ => s.writeFields 0x0C si off 0 w.toNat

/-- Signal box pages 0x10 to 0x13 and 0x28, by box. -/
def State.boxWrite (s : State) (b off : Nat) (w : Word32) : State :=
  match off with
  | 0x044 => s.pwWrite b w
  | 0x048 => s.pwRefWrite b w
  | 0x054 | 0x058 | 0x05C => s.doorbellWrite b off w
  | 0x064 => s.atWrite b w
  | 0x084 => s.thrCtl b w
  | 0x094 => s.thrReg b false w
  | 0x098 => s.thrReg b true w
  | 0x0C4 | 0x0C8 | 0x0CC | 0x0D0 => s.entWrite b off w
  | _ => s.writeFields 0x10 (boxInst b) off 0 w.toNat

/-- Halt pages 0x18 to 0x27. -/
def State.page18Write (s : State) (h off : Nat) (w : Word32) : State :=
  match off with
  | 0x04C => s.writeFields 0x18 h 0x04C (s.get F.HALT_SUPV_SEL_CORE h) (w.toNat % 2 ^ 22)
  | 0x050 => s.haltRejWrite h w
  | 0x054 => s.haltPerrWrite h w
  | 0x060 => s.haltGangWrite h w
  | 0x068 => s.haltTickWrite h w
  | 0x084 | 0x088 | 0x08C | 0x090 | 0x09C | 0x0A0 => s.scriptWrite h off w
  | 0x094 => s.hsCtl h w
  | _ => s.writeFields 0x18 h off 0 w.toNat

/-- Fault and dump page 0x29. -/
def State.page29Write (s : State) (off : Nat) (w : Word32) : State :=
  match off with
  | 0x04C => s.logCtl w
  | 0x09C => s.censusCtl w
  | 0x0C4 => s.viewCtl w
  | 0x110 => s.dumpCtl w
  | _ => s.writeFields 0x29 0 off (if 0x084 ≤ off ∧ off ≤ 0x098 then s.get F.SC_SEL_RING else 0) w.toNat

/-- Power page 0x2A. -/
def State.page2AWrite (s : State) (off : Nat) (w : Word32) : State :=
  match off with
  | 0x040 => s.startWrite w
  | 0x054 => s.fbCtl w
  | 0x064 => s.fbWqWrite w
  | 0x080 => s.parkCtl w
  | _ => s.writeFields 0x2A 0 off 0 w.toNat

/-- Observation page 0x2C. -/
def State.page2CWrite (s : State) (off : Nat) (w : Word32) : State :=
  if off = 0x040 then s.obCtl w
  else if 0x080 ≤ off ∧ off < 0x090 ∧ off % 4 = 0 then s.writeFields 0x2C 0 0x080 ((off - 0x080) / 4) w.toNat
  else s

/-- Performance counter page 0x2D. -/
def State.page2DWrite (s : State) (off : Nat) (w : Word32) : State :=
  if off = 0x040 then s.perfCtl w
  else if 0x080 ≤ off ∧ off < 0x100 ∧ off % 16 = 0 then s.perfCfg ((off - 0x080) / 16) w
  else s

/-- What a write that is let through does at page `p`, offset `off`. -/
def State.cfgStore (s : State) (p off : Nat) (w : Word32) : State :=
  let (base, i, o) := canon p off
  if off < 0x040 then s.headerWrite p off w
  else match base with
  | 0x00 => s.page00Write o w
  | 0x01 => s.page01Write o w
  | 0x02 => s.page02Write o w
  | 0x03 => s.page03Write o w
  | 0x08 => s.page08Write i o w
  | 0x0C => s.page0CWrite i o w
  | 0x10 => s.boxWrite (min i 4) o w
  | 0x14 => s.spWrite i o w
  | 0x18 => s.page18Write i o w
  | 0x29 => s.page29Write o w
  | 0x2A => s.page2AWrite o w
  | 0x2C => s.page2CWrite o w
  | 0x2D => s.page2DWrite o w
  | 0x40 => s.mailWrite i o w
  | _ => s

/-! ### Meanings -/

/-- CONFIG_WRITE. The port carries words: bits [1:0] of the offset are none of the address. A write to a page that
holds no part (01 R35) is answered and changes nothing (assumption log 77). -/
def execConfigWrite (page : BitVec 7) (off : BitVec 12) (w : Word32) (s : State) : Host.Outcome State Fault Refusal :=
  let o := off.toNat / 4 * 4
  let t := s.quiet.pageAccess page.toNat o (fun s p => s.cfgStore p o w)
  if (page = 0x00 ∧ o = 0x044) ∨ (page = 0x2A ∧ o = 0x040) then .next (s.keepQ t)
  else if page = 0x2C then .next (s.keepOb t)
  else .next (s.keepPark t)

/-- JG_CFGERR_CLR (17 R465). -/
def execJgCfgerrClr (w : Word32) (s : State) : Host.Outcome State Fault Refusal :=
  .next (s.keep (s.quiet.cfgAccess 0x00 0x080 (fun s => s.cfgerrWrite (withBit w 31))))
/-- HALT_REJ_CLEAR (03 R101). -/
def execHaltRejClear (h : BitVec 4) (w : Word32) (s : State) : Host.Outcome State Fault Refusal :=
  .next (s.keep (s.quiet.cfgAccess (0x18 + h.toNat) 0x050 (fun s => s.haltRejWrite h.toNat w)))
/-- HALT_PERR_CLR (03 R102). -/
def execHaltPerrClr (h : BitVec 4) (w : Word32) (s : State) : Host.Outcome State Fault Refusal :=
  .next (s.keep (s.quiet.cfgAccess (0x18 + h.toNat) 0x054 (fun s => s.haltPerrWrite h.toNat (withBit w 29))))
/-- HALT_TICK_CLR (07 R203). -/
def execHaltTickClr (h : BitVec 4) (w : Word32) (s : State) : Host.Outcome State Fault Refusal :=
  .next (s.keep (s.quiet.cfgAccess (0x18 + h.toNat) 0x068 (fun s => s.haltTickWrite h.toNat (withBit w 31))))
/-- JL_PROXY_CLR_HIGH (09 R285). -/
def execJlProxyClrHigh (w : Word32) (s : State) : Host.Outcome State Fault Refusal :=
  .next (s.keep (s.quiet.cfgAccess 0x01 0x050 (fun s => s.jlProxyWrite (withBit w 30))))
/-- JL_RET_CLR_HIGH (09 R285). -/
def execJlRetClrHigh (w : Word32) (s : State) : Host.Outcome State Fault Refusal :=
  .next (s.keep (s.quiet.cfgAccess 0x01 0x058 (fun s => s.jlRetWrite (withBit w 22))))

end Sys2Proof.Machine
end

