-- ==== Sys2Proof/Machine/Tick.lean ====
section
/-! DEFINITION. One fclk that passes while no command waits (assumption log 2): the counters of cycles. -/

namespace Sys2Proof.Machine

/-- Every part of the block. -/
def blockParts : List Part :=
  (List.range 4).map (fun x => .stn (BitVec.ofNat 2 x)) ++ (List.range 16).map (fun h => .halt (BitVec.ofNat 4 h)) ++ [.jct]

/-- The ledgers that hold their windows (13 R365). -/
def State.tickLedger (s : State) (k : Nat) : State :=
  if s.flag F.LG_STAT_HELD (keyInst k) then
    (s.bump F.LG_HOLD_COUNT (keyInst k)).occur (if k < 4 then .stn (BitVec.ofNat 2 k) else .jct) 0x29 1
  else s

/-- The message is a notification. -/
def Msg.isNotify : Msg → Bool
  | .notify _ _ _ _ => true
  | _ => false

/-- Credits a station withholds: for waiting beats (06 R189), a full freeze queue (02 R45), a full wake queue
(14 R405). -/
def State.tickStn (s : State) (x : Nat) : State :=
  let part : Part := .stn (BitVec.ofNat 2 x)
  let s := if (s.stn x).beats.isEmpty then s else (s.bump F.FOLD_STALL_COUNT x).occur part 0x26 1
  let s := if 16 ≤ (s.mem x).freezeQ.length then s.occur part 0x27 1 else s
  let s := if 8 < (s.stn x).wakeQ.length then (s.bump F.PW_FB_WQ_STALL_COUNT).occur part 0x28 1 else s
  if s.net.any (fun m => m.src == part && m.msg.isNotify && s.credits (sendPort part m.dst) 0 == 0) then s.occur part 0x24 1 else s

/-- A request of the halt waits for retention or SEQ room, on its wires or of signal space: event 0x12 (15 R423). -/
def State.tickRoom (s : State) (h : Nat) : State :=
  let p := Part.halt (BitVec.ofNat 4 h)
  if s.room p then (if (s.halt h).retHeld then s.modHalt h (fun ht => { ht with retHeld := false }) else s)
  else if (s.halt h).retHeld ∨ !(s.halt h).ssHeld.isEmpty then s.occur p 0x12 1
  else s

/-- Signal-space loads that wait for a retention entry take one that has become free (03 R96). -/
def State.tickHalts (s : State) : State :=
  (List.range 16).foldl (fun s h => (s.ssDrainPart (.halt (BitVec.ofNat 4 h))).tickRoom h) s

/-- Gang wires carry what the slips of the fclk have called for (04 R125, R127). -/
def State.tickGangs (s : State) : State := (s.jct.wires.map (·.1)).foldl (fun s g => s.driveWires g) s

/-- The lclk ends: both handover slots carried a frame, both acceptance slots took one (15 R423). -/
def State.tickSlots (s : State) : State :=
  let s := if 2 ≤ s.jct.txNow then s.occur .jct 0x35 1 else s
  let s := if 2 ≤ s.jct.rxNow then s.occur .jct 0x36 1 else s
  s.modJct (fun j => { j with txNow := 0, rxNow := 0 })

/-- The junction's cycle counters: fclk with mesh credits withheld for retention, and on an lclk those with link credits
withheld, or with a frame that waits for credit (09 R277 to R279). What has been forwarded leaves its pool, and what waits for a
retention entry takes one. -/
def State.tickLink (s : State) : State :=
  let s := if s.retFull then (s.bump F.JL_RET_FULL_COUNT).occur .jct 0x34 1 else s
  let lclk := s.fclk % 2 = 0
  let s := if lclk ∧ (List.range 8).any (fun v => !s.rxReady (BitVec.ofNat 3 v)) then (s.bump F.JL_CRED_HELD_COUNT).occur .jct 0x32 1 else s
  let s := if lclk ∧ s.jct.txq.any (fun t => !s.hasCredit t) then (s.bump F.JL_CRED_WAIT_COUNT).occur .jct 0x33 1 else s
  (if lclk then s.tickSlots else s).poolSettle.retFree

/-- Resets that are due begin (12 R347). -/
def State.tickDue (s : State) : State :=
  if (List.range 5).all (fun i => (s.prot i).due.isEmpty) then s else s.keepRead (protInsts.foldl (fun s i => s.settleDue i) s)

/-- The fclk that an engaged scrub floor takes from the second port, one in 1,024 (12 R345). -/
def State.tickScrub (s : State) : State :=
  if s.fclk % 1024 ≠ 0 then s
  else protInsts.foldl (fun s i => if s.flag F.SP_LAP_FLOOR i ∧ !s.parked then s.bump F.SP_STEAL_COUNT i else s) s

/-- Mesh port that a held request or beat came in on. -/
def State.reqPort (si : Nat) (rq : HReq) : Nat := recvPort rq.who.part (.stn (BitVec.ofNat 2 si))
def Beat.port (si : Nat) (b : Beat) : Nat :=
  match b.src with
  | .port p _ _ _ _ portB => if portB then 20 + p.toNat else 16 + p.toNat
  | .die .. => recvPort .jct (.stn (BitVec.ofNat 2 si))
def WakeEnt.port (si : Nat) : WakeEnt → Nat
  | .fold _ rq => State.reqPort si rq
  | .beat b => b.port si

/-- Credits of a mesh port stay withheld while any reason holds (15 R420): of a station for waiting beats (06 R189), for
requests that its freeze queue or recovery keeps waiting (02 R45, 13 R372), for writes beyond its wake queue (14 R405); of the
junction for retention and its recovery (09 R277, 13 R379); of every part while the block is parked. -/
def State.portHeld (s : State) (port : Nat) : Bool :=
  s.parked ||
    if port = 24 then s.retFull || s.stopped .jct
    else if port < 16 then s.haltStalled port
    else
      let x := port % 4
      s.stopped (.stn (BitVec.ofNat 2 x)) || (s.stn x).beats.any (fun b => b.port x == port) ||
        (s.stn x).backlog.any (fun e => State.reqPort x e.2 == port) || ((s.stn x).wakeQ.drop 8).any (fun e => e.port x == port)

/-- Credits that the block grants or returns on one port: the first grant of 16 BLK, 8 ACC and 8 WR, one per fclk, then one
for each transfer freed (16 R435). -/
def State.creditClass (s : State) (port cls : Nat) : Bool × State :=
  let k := 3 * port + cls
  if tget 0 s.granted k < (if cls = 0 then 16 else 8) then (true, { s with granted := tmod 0 s.granted k (· + 1) })
  else if 0 < tget 0 s.freed k ∧ !s.portHeld port then (true, { s with freed := tmod 0 s.freed k (· - 1) })
  else (false, s)
def State.tickPort (s : State) (port : Nat) : State :=
  let a := s.creditClass port 0
  let b := a.2.creditClass port 1
  let c := b.2.creditClass port 2
  let m : BitVec 3 := BitVec.ofNat 3 (bnat a.1 + bnat b.1 * 2 + bnat c.1 * 4)
  if m = 0 then s else c.2.drive (.credits (BitVec.ofNat 5 port) m)
def State.tickCredits (s : State) : State := if s.su.step = 0 then s else (List.range 25).foldl (fun s p => s.tickPort p) s

/-- One fclk. -/
def State.tick (s : State) : State :=
  let s := { s.quiet.tickDue.tickScrub.tickGangs with fclk := s.fclk + 1 }
  let s := blockParts.foldl (fun s p => s.occur p 0x01 1) s
  let s := if s.flag F.TT_STAT_HOLDING then s.bump F.TT_HOLD_CYC_COUNT else s
  let s := [0, 1, 2, 3, 4].foldl (fun s k => s.tickLedger k) s
  ((([0, 1, 2, 3].foldl (fun s x => s.tickStn x) s).tickHalts).tickLink).tickCredits

end Sys2Proof.Machine
end

