-- ==== Sys2Proof/Machine/Dispatch.lean ====
section
/-! DEFINITION. The meaning of each command: one arm per constructor. -/

namespace Sys2Proof.Machine

/-- What a command does to everything but the queue. -/
def exec (i : Instr) (s : State) : Host.Outcome State Fault Refusal :=
  match i with
  | .resetAssert => Sys2Proof.Machine.execResetAssert s
  | .resetGlitch => Sys2Proof.Machine.execResetGlitch s
  | .resetRelease pos => Sys2Proof.Machine.execResetRelease pos s
  | .ramFillDone => Sys2Proof.Machine.execRamFillDone s
  | .rollFrame err => Sys2Proof.Machine.execRollFrame err s
  | .rollFrameReturn err => Sys2Proof.Machine.execRollFrameReturn err s
  | .rollCallTimeout => Sys2Proof.Machine.execRollCallTimeout s
  | .identFrame err => Sys2Proof.Machine.execIdentFrame err s
  | .identFrameReturn err => Sys2Proof.Machine.execIdentFrameReturn err s
  | .pkgValid w => Sys2Proof.Machine.execPkgValid w s
  | .gangCalPing h => Sys2Proof.Machine.execGangCalPing h s
  | .gangCalEcho h rtt => Sys2Proof.Machine.execGangCalEcho h rtt s
  | .gangCalEchoMissing h => Sys2Proof.Machine.execGangCalEchoMissing h s
  | .swapLinePing x => Sys2Proof.Machine.execSwapLinePing x s
  | .swapLineEcho x rtt => Sys2Proof.Machine.execSwapLineEcho x rtt s
  | .swapLineEchoMissing x => Sys2Proof.Machine.execSwapLineEchoMissing x s
  | .startGo w => Sys2Proof.Machine.execStartGo w s
  | .reload => Sys2Proof.Machine.execReload s
  | .linkUp => Sys2Proof.Machine.execLinkUp s
  | .linkDup => Sys2Proof.Machine.execLinkDup s
  | .linkReset die => Sys2Proof.Machine.execLinkReset die s
  | .linkNoRoute die => Sys2Proof.Machine.execLinkNoRoute die s
  | .linkCommitConfirm vc pos => Sys2Proof.Machine.execLinkCommitConfirm vc pos s
  | .linkCommitFail vc pos => Sys2Proof.Machine.execLinkCommitFail vc pos s
  | .parkRequest => Sys2Proof.Machine.execParkRequest s
  | .holdupWord w => Sys2Proof.Machine.execHoldupWord w s
  | .meshCredit port mask => Sys2Proof.Machine.execMeshCredit port mask s
  | .memoryCompletion port tag err data => Sys2Proof.Machine.execMemoryCompletion port tag err data s
  | .meshTransferDiscard port kind => Sys2Proof.Machine.execMeshTransferDiscard port kind s
  | .nop r => Sys2Proof.Machine.execNop r s
  | .fence r => Sys2Proof.Machine.execFence r s
  | .syncReservedOp op r => Sys2Proof.Machine.execSyncReservedOp op r s
  | .sig r => Sys2Proof.Machine.execSig r s
  | .waitGe r => Sys2Proof.Machine.execWaitGe r s
  | .read r => Sys2Proof.Machine.execRead r s
  | .semPost r => Sys2Proof.Machine.execSemPost r s
  | .semTake r => Sys2Proof.Machine.execSemTake r s
  | .semDec r => Sys2Proof.Machine.execSemDec r s
  | .lockAcq r => Sys2Proof.Machine.execLockAcq r s
  | .lockRel r => Sys2Proof.Machine.execLockRel r s
  | .lockTry r => Sys2Proof.Machine.execLockTry r s
  | .lockForce r => Sys2Proof.Machine.execLockForce r s
  | .turnArrive r => Sys2Proof.Machine.execTurnArrive r s
  | .turnArriveNw r => Sys2Proof.Machine.execTurnArriveNw r s
  | .ticket r => Sys2Proof.Machine.execTicket r s
  | .ticketBatch src dst => Sys2Proof.Machine.execTicketBatch src dst s
  | .batchLaunch h rec => Sys2Proof.Machine.execBatchLaunch h rec s
  | .fold r => Sys2Proof.Machine.execFold r s
  | .foldBeat b => Sys2Proof.Machine.execFoldBeat b s
  | .ringReserve r => Sys2Proof.Machine.execRingReserve r s
  | .ringCommit r => Sys2Proof.Machine.execRingCommit r s
  | .ringRelease r => Sys2Proof.Machine.execRingRelease r s
  | .move r => Sys2Proof.Machine.execMove r s
  | .moveDestinationAck src dst => Sys2Proof.Machine.execMoveDestinationAck src dst s
  | .signalSpaceLoad a => Sys2Proof.Machine.execSignalSpaceLoad a s
  | .signalSpaceStore a => Sys2Proof.Machine.execSignalSpaceStore a s
  | .signalSpaceKind src dst => Sys2Proof.Machine.execSignalSpaceKind src dst s
  | .contextBaseLoad core q base => Sys2Proof.Machine.execContextBaseLoad core q base s
  | .contextBaseRead core q => Sys2Proof.Machine.execContextBaseRead core q s
  | .contextBaseAnswer core q base => Sys2Proof.Machine.execContextBaseAnswer core q base s
  | .slip core n => Sys2Proof.Machine.execSlip core n s
  | .gangFire gang => Sys2Proof.Machine.execGangFire gang s
  | .watchRegistration src dst => Sys2Proof.Machine.execWatchRegistration src dst s
  | .watchCancel src dst => Sys2Proof.Machine.execWatchCancel src dst s
  | .notification src dst => Sys2Proof.Machine.execNotification src dst s
  | .registrationRefusal src dst => Sys2Proof.Machine.execRegistrationRefusal src dst s
  | .watchRegistrationRetry h addr => Sys2Proof.Machine.execWatchRegistrationRetry h addr s
  | .postedAck src dst => Sys2Proof.Machine.execPostedAck src dst s
  | .completion src dst => Sys2Proof.Machine.execCompletion src dst s
  | .moveNotice src dst => Sys2Proof.Machine.execMoveNotice src dst s
  | .waitSiding h reg => Sys2Proof.Machine.execWaitSiding h reg s
  | .haltAgeTick h => Sys2Proof.Machine.execHaltAgeTick h s
  | .waitTimeout h reg => Sys2Proof.Machine.execWaitTimeout h reg s
  | .stationAgeTick x => Sys2Proof.Machine.execStationAgeTick x s
  | .waiterTimeout x row => Sys2Proof.Machine.execWaiterTimeout x row s
  | .haltStaleExpiry h reg => Sys2Proof.Machine.execHaltStaleExpiry h reg s
  | .junctionStaleExpiry core q => Sys2Proof.Machine.execJunctionStaleExpiry core q s
  | .durabilityReport src dst => Sys2Proof.Machine.execDurabilityReport src dst s
  | .originRelease src dst => Sys2Proof.Machine.execOriginRelease src dst s
  | .reloaded src dst => Sys2Proof.Machine.execReloaded src dst s
  | .replayDone src dst => Sys2Proof.Machine.execReplayDone src dst s
  | .haltPurge src dst => Sys2Proof.Machine.execHaltPurge src dst s
  | .reqRecord f pos => Sys2Proof.Machine.execReqRecord f pos s
  | .cplRecord f => Sys2Proof.Machine.execCplRecord f s
  | .regRecord f => Sys2Proof.Machine.execRegRecord f s
  | .canRecord f => Sys2Proof.Machine.execCanRecord f s
  | .ntfRecord f => Sys2Proof.Machine.execNtfRecord f s
  | .durRecord f => Sys2Proof.Machine.execDurRecord f s
  | .noteRecord f => Sys2Proof.Machine.execNoteRecord f s
  | .rfsRecord f => Sys2Proof.Machine.execRfsRecord f s
  | .proxyRegRetry addr => Sys2Proof.Machine.execProxyRegRetry addr s
  | .rlsRecord f pos => Sys2Proof.Machine.execRlsRecord f pos s
  | .beatFrame f => Sys2Proof.Machine.execBeatFrame f s
  | .partFrame f => Sys2Proof.Machine.execPartFrame f s
  | .ctrlFrame f => Sys2Proof.Machine.execCtrlFrame f s
  | .resync f => Sys2Proof.Machine.execResync f s
  | .frameResendTimeout die vc => Sys2Proof.Machine.execFrameResendTimeout die vc s
  | .ackIdleTimer die => Sys2Proof.Machine.execAckIdleTimer die s
  | .junctionNotification src dst => Sys2Proof.Machine.execJunctionNotification src dst s
  | .epochBoundary src dst => Sys2Proof.Machine.execEpochBoundary src dst s
  | .epochLost src dst => Sys2Proof.Machine.execEpochLost src dst s
  | .ttHoldExpiry => Sys2Proof.Machine.execTtHoldExpiry s
  | .scrubRead part ram row syn => Sys2Proof.Machine.execScrubRead part ram row syn s
  | .scrubLapEnd part => Sys2Proof.Machine.execScrubLapEnd part s
  | .scrubFloorEngage part => Sys2Proof.Machine.execScrubFloorEngage part s
  | .stationRecoveryPhaseEnd x => Sys2Proof.Machine.execStationRecoveryPhaseEnd x s
  | .haltRecoveryPhaseEnd h => Sys2Proof.Machine.execHaltRecoveryPhaseEnd h s
  | .junctionRecoveryPhaseEnd => Sys2Proof.Machine.execJunctionRecoveryPhaseEnd s
  | .ledgerWindowClose part => Sys2Proof.Machine.execLedgerWindowClose part s
  | .snapshotStart part => Sys2Proof.Machine.execSnapshotStart part s
  | .protectionPassEnd part => Sys2Proof.Machine.execProtectionPassEnd part s
  | .foldBankWakeDone x bank => Sys2Proof.Machine.execFoldBankWakeDone x bank s
  | .foldBankAutoGate x bank => Sys2Proof.Machine.execFoldBankAutoGate x bank s
  | .pavDrained p => Sys2Proof.Machine.execPavDrained p s
  | .pavDrainSlow p => Sys2Proof.Machine.execPavDrainSlow p s
  | .tpWindowExpiry => Sys2Proof.Machine.execTpWindowExpiry s
  | .parkDrained => Sys2Proof.Machine.execParkDrained s
  | .parkDrainLimit => Sys2Proof.Machine.execParkDrainLimit s
  | .trigger th => Sys2Proof.Machine.execTrigger th s
  | .leverCompletion th => Sys2Proof.Machine.execLeverCompletion th s
  | .doorbellWriteResponse th err => Sys2Proof.Machine.execDoorbellWriteResponse th err s
  | .spinTrap th => Sys2Proof.Machine.execSpinTrap th s
  | .leverEnd th => Sys2Proof.Machine.execLeverEnd th s
  | .leverStop th => Sys2Proof.Machine.execLeverStop th s
  | .leverWait th => Sys2Proof.Machine.execLeverWait th s
  | .leverRead th => Sys2Proof.Machine.execLeverRead th s
  | .leverSig th => Sys2Proof.Machine.execLeverSig th s
  | .leverPost th => Sys2Proof.Machine.execLeverPost th s
  | .leverDec th => Sys2Proof.Machine.execLeverDec th s
  | .leverArrive th => Sys2Proof.Machine.execLeverArrive th s
  | .leverFold th => Sys2Proof.Machine.execLeverFold th s
  | .leverTick th => Sys2Proof.Machine.execLeverTick th s
  | .leverRsv th => Sys2Proof.Machine.execLeverRsv th s
  | .leverCmt th => Sys2Proof.Machine.execLeverCmt th s
  | .leverRel th => Sys2Proof.Machine.execLeverRel th s
  | .leverKick th => Sys2Proof.Machine.execLeverKick th s
  | .leverKickw th => Sys2Proof.Machine.execLeverKickw th s
  | .leverBeq th => Sys2Proof.Machine.execLeverBeq th s
  | .leverBne th => Sys2Proof.Machine.execLeverBne th s
  | .leverBz th => Sys2Proof.Machine.execLeverBz th s
  | .leverB th => Sys2Proof.Machine.execLeverB th s
  | .leverLoop th => Sys2Proof.Machine.execLeverLoop th s
  | .leverSeti th => Sys2Proof.Machine.execLeverSeti th s
  | .leverAddi th => Sys2Proof.Machine.execLeverAddi th s
  | .leverAluAdd th => Sys2Proof.Machine.execLeverAluAdd th s
  | .leverAluSub th => Sys2Proof.Machine.execLeverAluSub th s
  | .leverAluAnd th => Sys2Proof.Machine.execLeverAluAnd th s
  | .leverAluShl th => Sys2Proof.Machine.execLeverAluShl th s
  | .leverAluShr th => Sys2Proof.Machine.execLeverAluShr th s
  | .leverTrap th => Sys2Proof.Machine.execLeverTrap th s
  | .alloc x w => Sys2Proof.Machine.execAlloc x w s
  | .allocAt x w => Sys2Proof.Machine.execAllocAt x w s
  | .free x w => Sys2Proof.Machine.execFree x w s
  | .retire x w => Sys2Proof.Machine.execRetire x w s
  | .unretire x w => Sys2Proof.Machine.execUnretire x w s
  | .runOpen w => Sys2Proof.Machine.execRunOpen w s
  | .runClose w => Sys2Proof.Machine.execRunClose w s
  | .contextSave w => Sys2Proof.Machine.execContextSave w s
  | .contextRestore w => Sys2Proof.Machine.execContextRestore w s
  | .contextClose w => Sys2Proof.Machine.execContextClose w s
  | .handleMapWrite w => Sys2Proof.Machine.execHandleMapWrite w s
  | .turnstileApply x w => Sys2Proof.Machine.execTurnstileApply x w s
  | .driftConfigWrite x off w => Sys2Proof.Machine.execDriftConfigWrite x off w s
  | .gangEnable w => Sys2Proof.Machine.execGangEnable w s
  | .gangDisable w => Sys2Proof.Machine.execGangDisable w s
  | .gangConfigWrite off w => Sys2Proof.Machine.execGangConfigWrite off w s
  | .semForcedPost x w => Sys2Proof.Machine.execSemForcedPost x w s
  | .semFlush x w => Sys2Proof.Machine.execSemFlush x w s
  | .mlockSet x w => Sys2Proof.Machine.execMlockSet x w s
  | .orphanCommand w => Sys2Proof.Machine.execOrphanCommand w s
  | .ringBaseSet x w => Sys2Proof.Machine.execRingBaseSet x w s
  | .foldApply x w => Sys2Proof.Machine.execFoldApply x w s
  | .programStoreWrite box w => Sys2Proof.Machine.execProgramStoreWrite box w s
  | .threadArm box w => Sys2Proof.Machine.execThreadArm box w s
  | .threadStop box w => Sys2Proof.Machine.execThreadStop box w s
  | .threadClear box w => Sys2Proof.Machine.execThreadClear box w s
  | .threadRegisterWrite box hi w => Sys2Proof.Machine.execThreadRegisterWrite box hi w s
  | .haltScriptWrite h off w => Sys2Proof.Machine.execHaltScriptWrite h off w s
  | .haltScriptArm h w => Sys2Proof.Machine.execHaltScriptArm h w s
  | .haltScriptStop h w => Sys2Proof.Machine.execHaltScriptStop h w s
  | .haltScriptClear h w => Sys2Proof.Machine.execHaltScriptClear h w s
  | .timetableShadowWrite page off w => Sys2Proof.Machine.execTimetableShadowWrite page off w s
  | .epochBind w => Sys2Proof.Machine.execEpochBind w s
  | .ttCommit w => Sys2Proof.Machine.execTtCommit w s
  | .ttUncommit w => Sys2Proof.Machine.execTtUncommit w s
  | .ttArm w => Sys2Proof.Machine.execTtArm w s
  | .ttDisarm w => Sys2Proof.Machine.execTtDisarm w s
  | .ttCopy w => Sys2Proof.Machine.execTtCopy w s
  | .pavFreeze w => Sys2Proof.Machine.execPavFreeze w s
  | .pavThaw w => Sys2Proof.Machine.execPavThaw w s
  | .pavSave w => Sys2Proof.Machine.execPavSave w s
  | .pavRestore w => Sys2Proof.Machine.execPavRestore w s
  | .pavReset w => Sys2Proof.Machine.execPavReset w s
  | .pavEvict w => Sys2Proof.Machine.execPavEvict w s
  | .rw2StagingWrite page off w => Sys2Proof.Machine.execRw2StagingWrite page off w s
  | .tpPropose w => Sys2Proof.Machine.execTpPropose w s
  | .tpAbort w => Sys2Proof.Machine.execTpAbort w s
  | .tpConfirm sec w => Sys2Proof.Machine.execTpConfirm sec w s
  | .mailboxDoorbellWrite p off w => Sys2Proof.Machine.execMailboxDoorbellWrite p off w s
  | .eventClear page w => Sys2Proof.Machine.execEventClear page w s
  | .eventSet page w => Sys2Proof.Machine.execEventSet page w s
  | .pageExpert page w => Sys2Proof.Machine.execPageExpert page w s
  | .pageLock page w => Sys2Proof.Machine.execPageLock page w s
  | .pageNoexp page w => Sys2Proof.Machine.execPageNoexp page w s
  | .pageStatClr page w => Sys2Proof.Machine.execPageStatClr page w s
  | .reservedPageAccess page wr => Sys2Proof.Machine.execReservedPageAccess page wr s
  | .jgCfgerrClr w => Sys2Proof.Machine.execJgCfgerrClr w s
  | .configWrite page off w => Sys2Proof.Machine.execConfigWrite page off w s
  | .haltRejClear h w => Sys2Proof.Machine.execHaltRejClear h w s
  | .haltPerrClr h w => Sys2Proof.Machine.execHaltPerrClr h w s
  | .watchClrHigh x w => Sys2Proof.Machine.execWatchClrHigh x w s
  | .haltGangClr h w => Sys2Proof.Machine.execHaltGangClr h w s
  | .haltTickClr h w => Sys2Proof.Machine.execHaltTickClr h w s
  | .sbPwRefClr box w => Sys2Proof.Machine.execSbPwRefClr box w s
  | .jlProxyClrHigh w => Sys2Proof.Machine.execJlProxyClrHigh w s
  | .jlRetClrHigh w => Sys2Proof.Machine.execJlRetClrHigh w s
  | .ttDenyClr w => Sys2Proof.Machine.execTtDenyClr w s
  | .lgLagClear part w => Sys2Proof.Machine.execLgLagClear part w s
  | .protectionPass part w => Sys2Proof.Machine.execProtectionPass part w s
  | .spLogClr part w => Sys2Proof.Machine.execSpLogClr part w s
  | .spLogClrAll part w => Sys2Proof.Machine.execSpLogClrAll part w s
  | .rowRetire part w => Sys2Proof.Machine.execRowRetire part w s
  | .rowUnretire part w => Sys2Proof.Machine.execRowUnretire part w s
  | .injectionArm part w => Sys2Proof.Machine.execInjectionArm part w s
  | .ledgerEnable w => Sys2Proof.Machine.execLedgerEnable w s
  | .ledgerResume w => Sys2Proof.Machine.execLedgerResume w s
  | .ledgerUnprotect w => Sys2Proof.Machine.execLedgerUnprotect w s
  | .ledgerSnap w => Sys2Proof.Machine.execLedgerSnap w s
  | .censusAll w => Sys2Proof.Machine.execCensusAll w s
  | .debugView w => Sys2Proof.Machine.execDebugView w s
  | .dump w => Sys2Proof.Machine.execDump w s
  | .faultLogClear w => Sys2Proof.Machine.execFaultLogClear w s
  | .foldBankGate w => Sys2Proof.Machine.execFoldBankGate w s
  | .foldBankWake w => Sys2Proof.Machine.execFoldBankWake w s
  | .pwFbWqClrHigh w => Sys2Proof.Machine.execPwFbWqClrHigh w s
  | .park w => Sys2Proof.Machine.execPark w s
  | .perfClearAll w => Sys2Proof.Machine.execPerfClearAll w s
  | .perfClear n w => Sys2Proof.Machine.execPerfClear n w s
  | .perfCounterRead n => Sys2Proof.Machine.execPerfCounterRead n s
  | .observationEnable w => Sys2Proof.Machine.execObservationEnable w s
  | .traceSelectorCount sel => Sys2Proof.Machine.execTraceSelectorCount sel s
  | .traceWord => Sys2Proof.Machine.execTraceWord s
  | .wrapperReset => Sys2Proof.Machine.execWrapperReset s
  | .wsBypass => Sys2Proof.Machine.execWsBypass s
  | .wsExtest => Sys2Proof.Machine.execWsExtest s
  | .wsPreload => Sys2Proof.Machine.execWsPreload s
  | .wsIntest => Sys2Proof.Machine.execWsIntest s
  | .wsClamp => Sys2Proof.Machine.execWsClamp s
  | .wsSafe => Sys2Proof.Machine.execWsSafe s
  | .wsIdcode => Sys2Proof.Machine.execWsIdcode s
  | .wsIjtag => Sys2Proof.Machine.execWsIjtag s
  | .wpScan => Sys2Proof.Machine.execWpScan s
  | .wsReservedInstruction code => Sys2Proof.Machine.execWsReservedInstruction code s
  | .mbistGo seg ram algo => Sys2Proof.Machine.execMbistGo seg ram algo s
  | .mbistDone seg fail failRow => Sys2Proof.Machine.execMbistDone seg fail failRow s
  | .boxAgeTick box => Sys2Proof.Machine.execBoxAgeTick box s
  | .linkTxReady vc => Sys2Proof.Machine.execLinkTxReady vc s
  | .memoryRequestTaken port => Sys2Proof.Machine.execMemoryRequestTaken port s
  | .supplyRemoved => Sys2Proof.Machine.execSupplyRemoved s

end Sys2Proof.Machine
end

