-- ==== Sys2Proof/Safety.lean ====
section
/-! DEFINITION. What the statements call safe: a step that answers a next state, and the consistency of the
start-up state, the identities and the trace buffer. -/

namespace Sys2Proof.Machine

/-- The step answers a next state: no fault and no refusal. -/
def Answers (o : Host.Outcome State Fault Refusal) : Prop := ∃ t, o = .next t

/-- The steps that PW_START.STEP can show (14 R397, R415). -/
def legalStep (n : BitVec 4) : Bool := decide (n.toNat ≤ 9) || n = 15

/-- A configuration write to page `p`, offset `off`, is let through (17 R460). -/
def State.cfgOpen (s : State) (p off : Nat) : Bool :=
  !s.parked && pageOk p && !(pageStn p).any (fun x => decide (1 ≤ s.get F.REC_STAT_PHASE x ∧ s.get F.REC_STAT_PHASE x ≤ 5)) &&
    !(pageHalt p).any (fun h => s.viewHalt h) && !(s.flag F.PAGE_LOCK_LOCK p && decide (off ∉ [0x010, 0x014, 0x018])) &&
    (decide (off < 0x400) || s.flag F.PAGE_CTL_EXPERT p) && !s.portWaits p off

/-- Every register field is as it was, but for those under the keys `ks`. -/
def RegsBut (s t : State) (ks : List Nat) : Prop := ∀ (f : Fld) (i n : Nat), f.key i n ∉ ks → t.get f i n = s.get f i n

/-- Everything outside the registers, the protection of RAM rows, the performance counters and the outputs is as it
was. -/
def PartsKept (s t : State) : Prop :=
  t.su = s.su ∧ t.halts = s.halts ∧ t.stns = s.stns ∧ t.jct = s.jct ∧ t.net = s.net ∧ t.ports = s.ports ∧
    t.ledgers = s.ledgers ∧ t.jobs = s.jobs ∧ t.crd = s.crd ∧ t.granted = s.granted ∧ t.freed = s.freed ∧ t.trace = s.trace

/-- What the frame of a command leaves: the fields under `ks` apart, the registers, and every part. -/
def OnlyRegs (s t : State) (ks : List Nat) : Prop := RegsBut s t ks ∧ PartsKept s t

/-- The configuration port answers one word of zeros: in service, and under test not (16 R440, R447). -/
def CfgAnswered (s t : State) : Prop := s.su.wInstr.underTest = false → t.out = [.cfRsp 0]

/-- No park is under way: READY has not been reached, or it stands. -/
def State.noPark (s : State) : Bool :=
  decide (s.su.step ∉ ([7, 8, 9] : List (BitVec 4))) ||
    (decide (s.su.step = 7) && s.su.ready && decide (s.get F.PW_PARK_CTL_STATE ∉ [2, 3, 4]))

/-- Nothing waits that an fclk would take further: no reset is due (12 R347), no slip is to be answered (04 R125), no frame
keeps a place in the receive pool (09 R279), and nothing waits for a retention entry (03 R96, 09 R277, 13 R364). -/
def State.still (s : State) : Bool :=
  (List.range 5).all (fun i => (s.prot i).due.isEmpty) && s.jct.wires.isEmpty && s.jct.pool.isEmpty && s.jct.retWait.isEmpty &&
    s.jct.beatWait.isEmpty && s.jct.txNow == 0 && s.jct.rxNow == 0 &&
    (List.range 16).all (fun h => (s.halt h).ssHeld.isEmpty && !(s.halt h).retHeld)

/-! ### Sync requests -/

/-- Halt and wait register of the queue that presents `r`; its handle is context-local. -/
def rHalt (r : CoreReq) : Nat := r.core.toNat / 16
def rReg (r : CoreReq) : Nat := waitIdx r.core r.q
def rCtx (r : CoreReq) : Bool := decide (r.handle.toNat / 2 ^ 16 = 0xF)
def rPart (r : CoreReq) : Part := .halt (BitVec.ofNat 4 (rHalt r))
def rWho (r : CoreReq) : Orig := .queue (BitVec.ofNat 4 (rHalt r)) r.core r.q

/-- The halt takes requests of the channel: no five-level view (01 R17), no request of the queue held for a freeze
(11 R323), no context base asked for that the request needs (13 R376). No row that it may read is in error (12 R341, whose
reads have statements of their own). -/
def State.hears (s : State) (r : CoreReq) : Bool :=
  decide (r.q.toNat < 24) && s.rowsGood && !s.haltStalled (rHalt r) &&
    !(s.halt (rHalt r)).heldQ.any (fun x => x.core = r.core && x.qtag = r.q) && !(rCtx r && (s.halt (rHalt r)).asking.contains (rReg r))

/-- The halt accepts the request (03 R73, R78, R88; 11 R318, R320, R323; 13 R364). -/
def State.takes (s : State) (op : BitVec 6) (r : CoreReq) : Bool :=
  s.hears r && decide (r.q.toNat < 22) && !(s.wait (rHalt r) (rReg r)).v && (s.rejectField (rHalt r) op r.core r.q).isNone &&
    decide (r.gen = s.gen r.pav) && (decide (op = 0) || !s.pavFrozen r.pav) && (opPosted op r.ret || !s.staleMark (rHalt r) (rReg r)) &&
    (decide (op = 0) || !s.flag F.REC_STAT_FAILED (rHalt r / 4)) && (!opRetained op || s.room (rPart r))

/-- Its handle names slot `pon` of station `x` of this die, which the serving station's identity is (01 R27, 02 R44). -/
def State.finds (s : State) (r : CoreReq) (x : BitVec 2) (pon : Nat) : Bool :=
  decide (pon < 16384) && decide (s.srcOf (rPart r) = s.dieSrc) &&
    match s.translate (rHalt r / 4) r.pav r.handle (rCtx r) false (tget 0 (s.halt (rHalt r)).bases (rReg r)) with
    | .ok a => decide (a = s.addrOf x.toNat pon)
    | .error _ => false

/-- Rights that operation `op` of `who` needs of a SEM or GLOCK slot: LOCK_REL needs none of the lock's holder (05 R136). -/
def State.needs (s : State) (op : BitVec 6) (who : Option Orig) (x : BitVec 2) (pon : Nat) : Nat :=
  let e := s.ent x.toNat pon
  if op = 0x0D ∧ !(e.held && who.any (fun w => decide (e.holder = s.identOf w))) then 4 else rightNeeded op

/-- The station is in service, with no row in error, and the slot takes operation `op` of pavilion `p` (02 R45, 03 R78, 05
R136). -/
def State.admits (s : State) (op : BitVec 6) (p : BitVec 6) (x : BitVec 2) (pon : Nat) (who : Option Orig := none) : Bool :=
  let sl := s.slot x.toNat pon
  s.rowsGood && !s.flag F.REC_STAT_FAILED x.toNat && !s.withholding x.toNat && decide ((s.stnId x.toNat).pkg = s.su.pkg) &&
    decide ((s.stnId x.toNat).die = s.su.die) && decide ((s.stnId x.toNat).stn = x) && !sl.frozen && kindAccepts sl.kind op.toNat &&
    if sl.kind = .sem ∨ sl.kind = .glock then
      decide (s.needs op who x pon &&& (s.rightsOf x.toNat (sl.link.toNat / 64 % 64) p).toNat = s.needs op who x pon) &&
        (decide (p = sl.pav) || !s.pavFrozen sl.pav)
    else decide (p = sl.pav)

/-- The request is accepted and reaches slot `pon` of station `x`, which takes it. -/
def State.meets (s : State) (op : BitVec 6) (r : CoreReq) (x : BitVec 2) (pon : Nat) : Bool :=
  s.takes op r && s.finds r x pon && s.admits op r.pav x pon (some (rWho r))

/-- No wait of the halt of `r` is pending on the object, and no registration or cancel of one is on its way: the request is
the one that goes to its home (03 R82). -/
def State.firstWait (s : State) (r : CoreReq) (a : GAddr) : Bool :=
  (s.haltLowest (rHalt r) a).isNone && s.net.all (fun m => decide (m.src ≠ rPart r ∨ m.dst ≠ s.homePart a))

/-- The request that `r` presents, as a station meets it. -/
def asked (op : BitVec 6) (r : CoreReq) : HReq := ⟨haltReq op r, 0, rWho r, opPosted op r.ret, none, false, none⟩

/-- The halt has accepted the request, and considers the next port first (03 R99): of a posted one an acknowledgement is
outstanding, of a blocking one the queue's wait register is taken. -/
def AcceptedBy (s t : State) (op : BitVec 6) (r : CoreReq) : Prop :=
  .acc r.core r.q ∈ t.out ∧ (t.halt (rHalt r)).port = r.core.extractLsb' 0 4 + 1 ∧
    if opPosted op r.ret then tget 0 (t.halt (rHalt r)).unacked (rReg r) = tget 0 (s.halt (rHalt r)).unacked (rReg r) + 1
    else (t.wait (rHalt r) (rReg r)).v = true ∧ (t.wait (rHalt r) (rReg r)).op = op

/-- Station `x` has sent the request's acknowledgement, or its completion with a value (03 R75). -/
def Answered (s t : State) (op : BitVec 6) (r : CoreReq) (x : BitVec 2) (st : Status) (val : Word64) : Prop :=
  ∃ l rq m, t.net = s.net ++ l ∧ rq.who = rWho r ∧ rq.req.op = op ∧ (⟨.stn x, rPart r, m⟩ : InFlight) ∈ l ∧
    (opPosted op r.ret = true → m = .ack rq st) ∧ (opPosted op r.ret = false → ∃ aux mods, m = .compl rq st val aux mods)

/-- Every object slot is as it was, but for slots `ps` of station `x`. -/
def SlotsBut (s t : State) (x : BitVec 2) (ps : List Nat) : Prop :=
  ∀ j m, ¬(j = x.toNat ∧ m ∈ ps) → t.slot j m = s.slot j m

/-! ### Lever threads -/

/-- The thread issues the instruction of its program counter, which is a legal one of key `key` (08 R222, R240); no row is in
error. -/
def State.issues (s : State) (th : ThreadId) (key : Nat) : Bool :=
  s.rowsGood && s.thServed th && decide ((s.th th).state = .running) && decide ((s.th th).spin ≠ 65536) && decide (lvKey (s.fetchLever th) = key) &&
    lvLegal th (s.fetchLever th)

/-- A program counter lies in the span of the thread's run. -/
def State.spans (s : State) (th : ThreadId) (n : Nat) : Bool := inSpan (s.entryOf th) n

/-- Threads other than `th` are as they were, and no message or memory request was sent. -/
def OnlyThread (s t : State) (th : ThreadId) : Prop := (∀ u, u ≠ th → t.th u = s.th u) ∧ t.net = s.net ∧ t.ports = s.ports

/-- The thread is STOPPED with its cause and code, and the event of its part is set (08 R239). -/
def Trapped (t : State) (th : ThreadId) (cause code : Nat) : Prop :=
  (t.th th).state = .stopped ∧ (t.th th).cause = BitVec.ofNat 4 cause ∧ (t.th th).tcode = BitVec.ofNat 8 code ∧ (t.th th).wait = none ∧
    (t.get F.EVT_STAT_EVT (thEvt th).1).testBit (thEvt th).2 = true

/-- Address of the object that the word at the thread's program counter names. -/
def State.lvAddr (s : State) (th : ThreadId) : Option GAddr :=
  s.thAddr th (lvImm (s.fetchLever th) % 2 ^ 20) (s.entryOf th).pav

/-- The thread issues the object instruction of key `key` and its request can go: its pavilion is not frozen (11 R323), the
address-table entry a junction thread names is of its pavilion (08 R230), and a retention entry is free if one is needed
(08 R233). -/
def State.sends (s : State) (th : ThreadId) (key : Nat) : Bool :=
  s.issues th key && !s.pavFrozen (s.entryOf th).pav && (match th with | .jct _ => (s.lvAddr th).isSome | _ => true) &&
    !s.thNoRoom th (lvSync key).1 (s.lvAddr th)

/-- The thread waits at its instruction for the answer of operation `op` with `operand` (08 R226, R229). -/
def LeverWaits (s t : State) (th : ThreadId) (op : BitVec 6) (operand : Word64) : Prop :=
  (t.th th).state = .waiting ∧ (t.th th).pc = (s.th th).pc ∧ (t.th th).spin = 0 ∧ (t.th th).regs = (s.th th).regs ∧
    ∃ q, (t.th th).wait = some q ∧ q.req.op = op ∧ q.req.pav = (s.entryOf th).pav ∧ q.posted = false ∧ q.req.ret = true ∧
      q.req.operand = operand ∧ q.addr = (s.lvAddr th).getD 0

/-- The thread has posted its request and goes on; the registers and program counters of the others are as they were. -/
def LeverPosts (s t : State) (th : ThreadId) : Prop :=
  t.th th = { s.th th with spin := 0, unacked := (s.th th).unacked + 1, pc := (s.th th).pc + 1 } ∧
    ∀ u, u ≠ th → (t.th u).pc = (s.th u).pc ∧ (t.th u).regs = (s.th u).regs

/-- The thread has written `v` to the register its word names and goes on at the next word. -/
def LeverSets (s t : State) (th : ThreadId) (v : Word64) : Prop :=
  t.th th = { (s.th th).setReg (lvReg (s.fetchLever th)) v with spin := (s.th th).spin + 1, pc := (s.th th).pc + 1 } ∧
    OnlyThread s t th ∧ t.out = []

/-- The thread has gone to the target of its branch, if `taken`, or to the next word. -/
def LeverGoes (s t : State) (th : ThreadId) (taken : Bool) : Prop :=
  t.th th = { s.th th with spin := (s.th th).spin + 1, pc := if taken then BitVec.ofNat 12 (lvImm (s.fetchLever th)) else (s.th th).pc + 1 } ∧
    OnlyThread s t th ∧ t.out = []

/-! ### Pavilions -/

/-- No thread, script, gang, wait, held request or record of any pavilion's work is under way, and the pavilion has no
FOLD_COUNTER: what a command on it does then is its own effect alone. -/
def State.pavQuiet (s : State) (p : BitVec 6) : Bool :=
  (s.threadsOf p).isEmpty && (s.gangsOf p).isEmpty && s.net.isEmpty && s.jct.parked.isEmpty && s.jct.held.isEmpty && s.jct.proxies.isEmpty &&
    (List.range 4).all (fun k => (s.mem k).waiters.isEmpty && (s.mem k).watches.isEmpty) &&
    (List.range 16).all (fun h => (s.halt h).waits.isEmpty && (s.halt h).batches.isEmpty && (s.halt h).heldQ.isEmpty) &&
    (List.range 64).all (fun e => (s.comb e).count = 0 && (s.comb e).outMembers.isEmpty) &&
    (s.objectsOf p).all (fun o => decide ((s.slot o.1 o.2).kind ≠ .foldCounter))

/-- Every object table is in its canonical form. -/
def State.slotsWf (s : State) : Bool := (List.range 4).all (fun k => twf Slot.free (s.mem k).slots)

/-! ### Protection -/

/-- Page of the protection events of a part's RAMs, and the place of bit `b` of them (12 R355, R356). -/
def protPage (p : Part) : Nat := if protOf p < 4 then 0x14 + protOf p else 0x29
def protBit (p : Part) (b : Nat) : Nat := if protOf p < 4 then b else 8 + b

/-- A write of a protection register of a station or of the junction is let through. -/
def State.spOpen (s : State) (p : Part) (off : Nat) : Bool :=
  match p with
  | .stn x => s.cfgOpen (0x14 + x.toNat) off
  | .jct => s.cfgOpen 0x29 (if off = 0x400 then 0x4C0 else off + 0x2C0)
  | .halt _ => false

/-- The scrub reads the row: the part's RAMs are filled, no park holds, and the row is one of the part's that is not
skipped and that the lap has not yet read (12 R338, R344). -/
def State.scrubs (s : State) (p : Part) (ram : BitVec 5) (row : BitVec 20) : Bool :=
  s.flag F.SP_SWEEP_DONE (protOf p) && !s.parked && ramIs p ram.toNat && rowOk ram.toNat row.toNat &&
    !s.rowSkipped (protOf p) ram.toNat row.toNat && decide (tget 0 (s.prot (protOf p)).pos ram.toNat ≤ row.toNat)

/-- No row of the RAM is in error that the lap has still to read before row `n`; no reset of a part is due. -/
def State.scrubClear (s : State) (p : Part) (ram n : Nat) : Bool :=
  (s.passBad (protOf p) ram (tget 0 (s.prot (protOf p)).pos ram) (n - tget 0 (s.prot (protOf p)).pos ram)).isEmpty &&
    (s.prot (protOf p)).due.isEmpty

/-- Length of the dump that would be taken now (13 R386). -/
def State.dumpLen (s : State) : Nat :=
  (laySections 256 ([s.secParts, s.secPavs] ++ s.objectSecs (fun _ _ => true) (fun _ => true) ++ [s.secThreads, s.secFaults])).2.2

/-- No wait is pending that a census would record, but for what the waiter records of stations hold (13 R382). -/
def State.noWaits (s : State) : Bool :=
  (List.range 16).all (fun h => (s.halt h).waits.isEmpty) && allThreads.all (fun t => decide ((s.th t).state ≠ .waiting))

/-! ### Frames of other dies -/

/-- The junction hears frames: none of its rows is in error, and nothing waits for a retention entry that an
acknowledgement in the frame's trailer might free (09 R277). -/
def State.linkHears (s : State) : Bool :=
  !s.stopped .jct && !s.parked && s.rowsGood && s.jct.retWait.isEmpty && s.jct.beatWait.isEmpty

/-- The frame's check is good. -/
def fGood (f : Line) : Bool := decide (fcrcOf (f.toNat % 2 ^ 480) = (f.extractLsb' 480 32).toNat)

/-- The junction takes the frame as one of row kind `kind`: its channel is ready, it is for this die, has a good check, comes
in order, and is not held for commit (09 R259, R267, R275, R279). -/
def State.takesFrame (s : State) (f : Line) (kind : Nat) : Bool :=
  s.linkHears && decide (fDst f = s.dieSrc) && fGood f && decide (fKind f = some kind) && decide (fVc f ≠ 3) && s.rxReady (fVc f) &&
    decide (fSeq f = tget 0 s.jct.rxSeq (peerVc (fSrc f) (fVc f))) && s.bulkOk f && !(fFol f && decide (4 ≤ (fVc f).toNat))

/-- The frame is accepted: it is counted, acknowledged when a frame next goes to its die, and the next in order is
expected. -/
def FrameTaken (s t : State) (f : Line) : Prop :=
  tget 0 t.jct.rxSeq (peerVc (fSrc f) (fVc f)) = (tget 0 s.jct.rxSeq (peerVc (fSrc f) (fVc f)) + 1) % 65536 ∧
    (fSrc f, fVc f) ∈ t.jct.acks ∧ t.get F.JL_RX_COUNT = (s.get F.JL_RX_COUNT + 1) % 2 ^ 32

/-! ### Start-up and the trace -/

/-- The commands that may change the start-up state: reset and start-up, test access, park and recovery, reads of
protected rows, memory completions, and CONFIG_WRITE, which reaches every register. -/
def touchesStartUp : Instr → Bool
  | .resetAssert | .supplyRemoved | .resetRelease _ | .ramFillDone | .rollFrame _ | .rollFrameReturn _ | .rollCallTimeout
  | .identFrame _ | .identFrameReturn _ | .pkgValid _ | .gangCalPing _ | .gangCalEcho _ _ | .gangCalEchoMissing _
  | .swapLinePing _ | .swapLineEcho _ _ | .swapLineEchoMissing _ | .startGo _ | .linkUp | .linkDup
  | .park _ | .parkRequest | .parkDrained | .parkDrainLimit
  | .stationRecoveryPhaseEnd _ | .haltRecoveryPhaseEnd _ | .junctionRecoveryPhaseEnd | .reloaded _ _ | .replayDone _ _ | .haltPurge _ _
  | .scrubRead _ _ _ _ | .protectionPassEnd _ | .foldBankWakeDone _ _ | .memoryCompletion _ _ _ _ | .configWrite _ _ _
  | .wrapperReset | .wsBypass | .wsExtest | .wsPreload | .wsIntest | .wsClamp | .wsSafe | .wsIdcode | .wsIjtag | .wpScan
  | .wsReservedInstruction _ | .mbistGo _ _ _ | .mbistDone _ _ _ => true
  | _ => false

/-- The commands that may change the trace buffer. -/
def touchesTrace : Instr → Bool
  | .resetAssert | .supplyRemoved | .observationEnable _ | .traceSelectorCount _ | .traceWord | .configWrite _ _ _ => true
  | _ => false

/-- The start-up state is one that the rules allow: a legal step, BLOCK_READY high in step 7 alone (14 R398), ERR in
step 15 alone (14 R399), a frame that has passed at most its 20 members (01 R19), and D_H + EQ_H = 4 in every
calibrated halt (04 R121). -/
def StartUp.wf (u : StartUp) : Bool :=
  legalStep u.step && (u.ready == decide (u.step = 7)) && (u.err == decide (u.step = 15)) && decide (u.chainPos ≤ 20) &&
    u.haltIds.all (fun e => !e.2.calOk || decide (e.2.d.toNat + e.2.eq.toNat = 4))

/-- The invariant of the block: its start-up state is well formed and the trace buffer holds at most 64 words
(16 R444). -/
def Inv (s : State) : Prop := s.su.wf = true ∧ s.trace.length ≤ 64

end Sys2Proof.Machine
end

