-- ==== Sys2Proof/Certificates/Slice0/Obligations.lean ====
section
/-! DEFINITION. The statements for the provers. -/

open Sys2Proof Sys2Proof.Machine

/-- For every command c and state s: a step of s with c in front of its queue is exec of c on s, whose queue is the
rest. The queue is the model's (assumption log 1). -/
def Obligations.StepRunsTheFrontCommand : Prop :=
  ∀ (c : Instr) (s : State), step { s with pending := c :: s.pending } = exec c s

/-- With no command waiting a step answers a next state in which fclk is one more, nothing waits and the trace buffer
is as it was. Where nothing waits that an fclk would take further, the only outputs are mesh credits, and the
start-up state, the halts, the stations, the junction, the mesh, the memory ports, the ledgers and the outbound
credits are as they were. From reset release each inbound class of a mesh port is granted one credit an fclk until
it has 16 of BLK, 8 of ACC and 8 of WR (16 R435). An fclk in which a ledger holds its windows is counted in its
LG_HOLD, and one in which a boundary is held in TT_HOLD_CYC. That time passes on an empty queue is the model's
choice (assumption log 2). -/
def Obligations.IdleStepLetsOneFclkPass : Prop :=
  (∀ s : State, s.pending = [] → ∃ t, step s = .next t ∧ t.fclk = s.fclk + 1 ∧ t.pending = [] ∧ t.trace = s.trace) ∧
  (∀ s : State, s.pending = [] → s.still = true → ∃ t, step s = .next t ∧ (∀ o ∈ t.out, ∃ p m, o = .credits p m) ∧ t.su = s.su ∧
    t.halts = s.halts ∧ t.stns = s.stns ∧ t.jct = s.jct ∧ t.net = s.net ∧ t.ports = s.ports ∧ t.ledgers = s.ledgers ∧ t.crd = s.crd) ∧
  (∀ (s : State) (p c : Nat), s.pending = [] → s.still = true → s.su.step ≠ 0 → p < 25 → c < 3 →
    tget 0 s.granted (3 * p + c) < (if c = 0 then 16 else 8) → ∃ t, step s = .next t ∧
      tget 0 t.granted (3 * p + c) = tget 0 s.granted (3 * p + c) + 1) ∧
  (∀ s : State, s.pending = [] → s.still = true → ∃ t, step s = .next t ∧
    (∀ x : BitVec 2, s.flag F.LG_STAT_HELD x.toNat = true → t.get F.LG_HOLD_COUNT x.toNat = min (s.get F.LG_HOLD_COUNT x.toNat + 1) 0xFFFFFFFF) ∧
    (s.flag F.TT_STAT_HOLDING = true → t.get F.TT_HOLD_CYC_COUNT = min (s.get F.TT_HOLD_CYC_COUNT + 1) 0xFFFFFFFF))

/-- No command of the table faults or is refused, whatever the state and its operands, and none adds to or takes from
the queue of waiting commands: the queue is first in, first out (assumption log 1). -/
def Obligations.EveryCommandAnswersAndKeepsTheQueue : Prop :=
  ∀ (c : Instr) (s : State), ∃ t, exec c s = .next t ∧ t.pending = s.pending

/-- From every state, reachable or not, in which STEP is legal, BLOCK_READY is high in step 7 alone, ERR is set in step
15 alone, the frame has passed at most 20 members, every calibrated halt has D_H + EQ_H = 4 and the trace buffer
holds at most 64 words, every step that answers a next state answers one in which all of this holds again. -/
def Obligations.StepKeepsTheInvariant : Prop :=
  ∀ s t : State, Inv s → step s = .next t → Inv t

/-- The state at reset has a legal start-up state, an empty trace buffer and an empty queue. -/
def Obligations.ResetMeetsTheInvariant : Prop :=
  Inv State.reset ∧ State.reset.pending = []

/-- RESET_ASSERT and SUPPLY_REMOVED answer a next state in which STEP is 0 and BLOCK_READY low, every register field of
the register map holds its reset value, every slot is free with value 0, the mesh, the memory ports, the fault log
and the trace buffer are empty and no credit is held. RESET_ASSERT leaves the wrapper instruction, which has a
reset of its own (assumption log 41). Of the reset values the ones that the spec gives no value for are the model's
(INVENTORY). -/
def Obligations.ResetLeavesTheResetState : Prop :=
  ∀ s : State,
    (∃ t, exec .resetAssert s = .next t ∧ t.su = { StartUp.reset with wInstr := s.su.wInstr } ∧ (∀ f ∈ F.all, ∀ i n, t.get f i n = f.rst) ∧
      (∀ x p, t.slot x p = Slot.free) ∧ t.net = [] ∧ t.ports = [] ∧ t.jct = Jct.init ∧ t.trace = [] ∧ t.crd = [] ∧ t.granted = [] ∧ t.freed = [] ∧ t.ledgers = [] ∧ t.out = []) ∧
    (∃ t, exec .supplyRemoved s = .next t ∧ t.su = StartUp.reset ∧ (∀ f ∈ F.all, ∀ i n, t.get f i n = f.rst) ∧
      (∀ x p, t.slot x p = Slot.free) ∧ t.net = [] ∧ t.ports = [] ∧ t.jct = Jct.init ∧ t.trace = [] ∧ t.crd = [] ∧ t.granted = [] ∧ t.freed = [] ∧ t.ledgers = [] ∧ t.out = [])

/-- Every command but those named (reset and start-up, test access, park, recovery, row reads, memory completions and
configuration writes) leaves STEP, BLOCK_READY, the identities, the calibration, the roll-call chain and the
wrapper instruction as they were. Every command but those of the trace, reset and CONFIG_WRITE leaves the trace
buffer as it was. -/
def Obligations.OnlyNamedCommandsChangeStartUp : Prop :=
  ∀ (c : Instr) (s t : State), exec c s = .next t →
    (touchesStartUp c = false → t.su = s.su) ∧ (touchesTrace c = false → t.trace = s.trace)

/-- RESET_GLITCH outside step 0 counts in PW_GLITCH, saturating, and sets event bit 6, and in step 0 is not counted;
RESET_RELEASE in step 0 samples the die position and begins the sweep and the swap-line measurement; RAM_FILL_DONE
in step 1 ends every sweep and begins roll call in step 2 with the first ROLL frame. -/
def Obligations.ResetFilterAndSweep : Prop :=
  (∀ s : State, s.su.step ≠ 0 → ∃ t, exec .resetGlitch s = .next t ∧ t.su = s.su ∧
      t.get F.PW_GLITCH_COUNT = min (s.get F.PW_GLITCH_COUNT + 1) 0xFFFF ∧ (t.get F.EVT_STAT_EVT 0x2A).testBit 6 = true) ∧
  (∀ s : State, s.su.step = 0 → ∃ t, exec .resetGlitch s = .next t ∧ t.su = s.su ∧ t.regs = s.regs) ∧
  (∀ (pos : BitVec 2) (s : State), s.su.step = 0 → ∃ t, exec (.resetRelease pos) s = .next t ∧ t.su.step = 1 ∧ t.su.die = pos ∧
      t.su.lineState = 1 ∧ t.su.lineStn = 0 ∧ ∀ i ∈ protInsts, t.flag F.SP_SWEEP_RUNNING i = true ∧ t.flag F.SP_SWEEP_DONE i = false) ∧
  (∀ s : State, s.su.step = 1 → s.su.swept = false → ∃ t, exec .ramFillDone s = .next t ∧ t.su.step = 2 ∧ t.su.swept = true ∧
      t.su.rcState = 1 ∧ t.su.frame = some (mkFrame 5 s.su.die.toNat 0 0 0 0) ∧ t.su.chainPos = 0 ∧
      ∀ i ∈ protInsts, t.flag F.SP_SWEEP_DONE i = true ∧ t.flag F.SP_SWEEP_RUNNING i = false)

/-- While a ROLL frame is on the chain, a member that receives it with a good check latches its identity (a halt HALT
and STN, a station STN and DIE) and forwards the frame with MEMBERS and its counter one higher; of an IDENT frame a
station latches PKG. A frame of bad check is passed on unchanged and latched by none. Whatever the frame,
ROLL_FRAME in roll call and IDENT_FRAME after it take it one member further, and no register changes. -/
def Obligations.ChainMembersLatchAndForward : Prop :=
  (∀ (err f0 : Word32) (s : State), s.rolling = true → s.su.frame = some f0 → s.su.chainPos < 20 →
      frameOk (f0 ^^^ err) = true → frField (f0 ^^^ err) 0 4 = 5 → ∃ t, exec (.rollFrame err) s = .next t ∧
        t.su.chainPos = s.su.chainPos + 1 ∧ t.su.frame = some (forwarded s.su.chainPos (f0 ^^^ err)) ∧
        match chainMember s.su.chainPos with
        | .stn x => (t.stnId x.toNat).valid = true ∧ (t.stnId x.toNat).stn = (f0 ^^^ err).extractLsb' 10 2 ∧ (t.stnId x.toNat).die = (f0 ^^^ err).extractLsb' 4 2
        | .halt h => (tget HaltId.init t.su.haltIds h.toNat).valid = true ∧ (tget HaltId.init t.su.haltIds h.toNat).halt = (f0 ^^^ err).extractLsb' 6 4
        | .jct => True) ∧
  (∀ (err f0 : Word32) (s : State), s.identing = true → s.su.frame = some f0 → s.su.chainPos < 20 →
      frameOk (f0 ^^^ err) = true → frField (f0 ^^^ err) 0 4 = 10 → ∃ t, exec (.identFrame err) s = .next t ∧
        t.su.chainPos = s.su.chainPos + 1 ∧ t.su.frame = some (forwarded s.su.chainPos (f0 ^^^ err)) ∧
        match chainMember s.su.chainPos with
        | .stn x => (t.stnId x.toNat).pkgValid = true ∧ (t.stnId x.toNat).pkg = (f0 ^^^ err).extractLsb' 17 7
        | _ => t.su.stnIds = s.su.stnIds) ∧
  (∀ (err f0 : Word32) (s : State), s.rolling = true → s.su.frame = some f0 → s.su.chainPos < 20 → frameOk (f0 ^^^ err) = false →
      ∃ t, exec (.rollFrame err) s = .next t ∧ t.su = { s.su with frame := some (f0 ^^^ err), chainPos := s.su.chainPos + 1 }) ∧
  (∀ (err f0 : Word32) (s : State), s.su.step = 2 → s.su.rcState = 1 → s.su.frame = some f0 → s.su.chainPos < 20 →
      ∃ t, exec (.rollFrame err) s = .next t ∧ t.su.chainPos = s.su.chainPos + 1 ∧ t.su.frame.isSome = true ∧ t.regs = s.regs) ∧
  (∀ (err f0 : Word32) (s : State), s.su.step ≠ 15 → s.su.rcState = 2 → s.su.frame = some f0 → s.su.chainPos < 20 →
      ∃ t, exec (.identFrame err) s = .next t ∧ t.su.chainPos = s.su.chainPos + 1 ∧ t.su.frame.isSome = true ∧ t.regs = s.regs ∧
        t.su.haltIds = s.su.haltIds ∧ (frameOk (f0 ^^^ err) = false → t.su.frame = some (f0 ^^^ err) ∧ t.su.stnIds = s.su.stnIds))

/-- A ROLL frame that returns with a good check, 20 members and its counters at 0 ends roll call and begins
calibration; one that does not begins another attempt, and after the third start-up stops with CODE 1, as after a
time-out. An IDENT frame that returns well sets JG_PKG.DONE and, with the link up in step 6, ends start-up in
READY; one that does not, or does not return, is sent again at most twice, and then start-up stops with CODE 1.
JG_PKG.VALID latches the package number, and a later write of another number is refused. -/
def Obligations.RollCallPassesOrIsTriedAgain : Prop :=
  (∀ (err f0 : Word32) (s : State), s.rolling = true → s.su.chainPos = 20 → s.su.frame = some f0 → frameOk (f0 ^^^ err) = true →
      frField (f0 ^^^ err) 12 5 = 20 → frField (f0 ^^^ err) 10 2 = 0 → frField (f0 ^^^ err) 6 4 = 0 →
      ∃ t, exec (.rollFrameReturn err) s = .next t ∧ t.su.rcState = 2 ∧ t.su.step = 3 ∧ t.su.calState = 1 ∧ t.su.calHalt = 0) ∧
  (∀ (err f0 : Word32) (s : State), s.rolling = true → s.su.chainPos = 20 → s.su.frame = some f0 → frameOk (f0 ^^^ err) = false →
      ∃ t, exec (.rollFrameReturn err) s = .next t ∧ t.su.rcBadCheck = true ∧
        (s.su.rcAttempts.toNat < 3 → t.su.rcState = 1 ∧ t.su.rcAttempts = s.su.rcAttempts + 1 ∧ t.su.chainPos = 0) ∧
        (s.su.rcAttempts = 3 → t.su.rcState = 3 ∧ t.su.step = 15 ∧ t.su.err = true ∧ t.su.code = 1)) ∧
  (∀ (err f0 : Word32) (s : State), s.su.step = 2 → s.su.rcState = 1 → s.su.chainPos = 20 → s.su.frame = some f0 → frameOk (f0 ^^^ err) = true →
      (frField (f0 ^^^ err) 12 5 ≠ 20 ∨ frField (f0 ^^^ err) 10 2 ≠ 0 ∨ frField (f0 ^^^ err) 6 4 ≠ 0) →
      ∃ t, exec (.rollFrameReturn err) s = .next t ∧ t.su.rcBadCheck = false ∧ t.su.rcBadCount = true ∧ t.su.rcMembers = (f0 ^^^ err).extractLsb' 12 5 ∧
        (s.su.rcAttempts.toNat < 3 → t.su.rcState = 1 ∧ t.su.rcAttempts = s.su.rcAttempts + 1 ∧ t.su.chainPos = 0) ∧
        (s.su.rcAttempts = 3 → t.su.rcState = 3 ∧ t.su.step = 15 ∧ t.su.err = true ∧ t.su.code = 1)) ∧
  (∀ s : State, s.rolling = true → ∃ t, exec .rollCallTimeout s = .next t ∧ t.su.rcNoReturn = true ∧
        (s.su.rcAttempts.toNat < 3 → t.su.rcState = 1 ∧ t.su.rcAttempts = s.su.rcAttempts + 1) ∧
        (s.su.rcAttempts = 3 → t.su.rcState = 3 ∧ t.su.step = 15 ∧ t.su.code = 1)) ∧
  (∀ (err f0 : Word32) (s : State), s.identing = true → s.su.chainPos = 20 → s.su.frame = some f0 → frameOk (f0 ^^^ err) = true →
      frField (f0 ^^^ err) 12 5 = 20 → ∃ t, exec (.identFrameReturn err) s = .next t ∧ t.su.pkgDone = true ∧ t.su.frame = none ∧
        (s.su.step ≠ 6 ∨ s.su.up = false → t.su.step = s.su.step) ∧ (s.su.step = 6 → s.su.up = true → t.su.step = 7 ∧ t.su.ready = true)) ∧
  (∀ (err f0 : Word32) (s : State), s.su.step ≠ 15 → s.su.rcState = 2 → s.su.chainPos = 20 → s.su.frame = some f0 →
      (frameOk (f0 ^^^ err) = false ∨ frField (f0 ^^^ err) 12 5 ≠ 20) → ∃ t, exec (.identFrameReturn err) s = .next t ∧
        t.su.pkgDone = s.su.pkgDone ∧ (s.su.identTries < 3 → t.su.frame = some (mkFrame 10 s.su.die.toNat 0 0 0 s.su.pkg.toNat) ∧ t.su.chainPos = 0) ∧
        (3 ≤ s.su.identTries → t.su.rcState = 3 ∧ t.su.step = 15 ∧ t.su.err = true ∧ t.su.code = 1)) ∧
  (∀ (f0 : Word32) (s : State), s.su.step ≠ 15 → s.su.rcState = 2 → s.su.frame = some f0 → ∃ t, exec .rollCallTimeout s = .next t ∧
        t.su.rcNoReturn = true ∧ (s.su.identTries < 3 → t.su.identTries = s.su.identTries + 1 ∧ t.su.chainPos = 0) ∧
        (3 ≤ s.su.identTries → t.su.rcState = 3 ∧ t.su.step = 15 ∧ t.su.code = 1)) ∧
  (∀ (w : Word32) (s : State), s.cfgOpen 0x00 0x044 = true → s.su.pkgValid = false → ∃ t, exec (.pkgValid w) s = .next t ∧
      t.su.pkgValid = true ∧ t.su.pkg = w.extractLsb' 0 7) ∧
  (∀ (w : Word32) (s : State), s.cfgOpen 0x00 0x044 = true → s.su.pkgValid = true → w.extractLsb' 0 7 ≠ s.su.pkg →
      ∃ t, exec (.pkgValid w) s = .next t ∧ t.su.pkg = s.su.pkg ∧ t.su.pkgRefused = true)

/-- In step 3 a ping of the slot under way is counted; when the 16th echo of a halt returns and all round trips equal
one odd number r from 3 to 9, the halt latches D_H = (r - 1) / 2 and EQ_H = 4 - D_H, the next halt is calibrated,
and after halt 15 calibration is done; a missing echo stops start-up with CODE 3. The swap line measures each
station likewise, which latches EQ_S = 4 - d_S, and a missing echo stops start-up with CODE 2. An earlier echo is
recorded; a 16th with round trips that are even, outside 3 to 9 or not equal ends either measurement as a missing
echo does, and latches nothing. -/
def Obligations.CalibrationMeasuresEveryBranch : Prop :=
  (∀ (h : BitVec 4) (s : State), s.calibrating h = true → s.su.calPings = s.su.calRts.length →
      ∃ t, exec (.gangCalPing h) s = .next t ∧ t.su = { s.su with calPings := s.su.calPings + 1 }) ∧
  (∀ (h : BitVec 4) (rtt : BitVec 5) (s : State), s.calibrating h = true → s.su.calPings = s.su.calRts.length + 1 → s.su.calRts.length = 15 →
      (∀ r ∈ s.su.calRts, r = rtt.toNat) → badRt rtt.toNat = false → ∃ t, exec (.gangCalEcho h rtt) s = .next t ∧
        (tget HaltId.init t.su.haltIds h.toNat).calOk = true ∧ (tget HaltId.init t.su.haltIds h.toNat).d.toNat = (rtt.toNat - 1) / 2 ∧
        (tget HaltId.init t.su.haltIds h.toNat).eq.toNat = 4 - (rtt.toNat - 1) / 2 ∧
        (h ≠ 15 → t.su.calHalt = h + 1 ∧ t.su.step = 3) ∧ (h = 15 → t.su.calState = 2 ∧ t.su.step ≠ 3)) ∧
  (∀ (h : BitVec 4) (s : State), s.calibrating h = true → s.su.calPings = s.su.calRts.length + 1 →
      ∃ t, exec (.gangCalEchoMissing h) s = .next t ∧ t.su.calState = 3 ∧ t.su.calBadRt = true ∧ t.su.step = 15 ∧ t.su.code = 3) ∧
  (∀ (x : BitVec 2) (s : State), s.su.lineState = 1 → s.su.lineStn = x → tget 0 s.su.linePings x.toNat = (tget [] s.su.lineRts x.toNat).length →
      ∃ t, exec (.swapLinePing x) s = .next t ∧ tget 0 t.su.linePings x.toNat = tget 0 s.su.linePings x.toNat + 1) ∧
  (∀ (x : BitVec 2) (rtt : BitVec 5) (s : State), s.su.lineState = 1 → s.su.lineStn = x → (tget [] s.su.lineRts x.toNat).length = 15 →
      tget 0 s.su.linePings x.toNat = 16 → (∀ r ∈ tget [] s.su.lineRts x.toNat, r = rtt.toNat) → badRt rtt.toNat = false →
      ∃ t, exec (.swapLineEcho x rtt) s = .next t ∧ tget 0 t.su.lineD x.toNat = (rtt.toNat - 1) / 2 ∧
        (t.stnId x.toNat).eq.toNat = 4 - (rtt.toNat - 1) / 2 ∧ (x ≠ 3 → t.su.lineStn = x + 1 ∧ t.su.lineState = 1) ∧ (x = 3 → t.su.lineState = 2)) ∧
  (∀ (x : BitVec 2) (s : State), s.su.lineState = 1 → s.su.lineStn = x →
      tget 0 s.su.linePings x.toNat = (tget [] s.su.lineRts x.toNat).length + 1 →
      ∃ t, exec (.swapLineEchoMissing x) s = .next t ∧ t.su.lineState = 3 ∧ t.su.lineBadRt = true ∧ t.su.step = 15 ∧ t.su.code = 2) ∧
  (∀ (h : BitVec 4) (rtt : BitVec 5) (s : State), s.calibrating h = true → s.su.calPings = s.su.calRts.length + 1 → s.su.calRts.length < 15 →
      ∃ t, exec (.gangCalEcho h rtt) s = .next t ∧ t.su = { s.su with calRts := s.su.calRts ++ [rtt.toNat] }) ∧
  (∀ (h : BitVec 4) (rtt : BitVec 5) (s : State), s.calibrating h = true → s.su.calPings = s.su.calRts.length + 1 → s.su.calRts.length = 15 →
      (badRt rtt.toNat = true ∨ ∃ r ∈ s.su.calRts, badRt r = true ∨ r ≠ rtt.toNat) → ∃ t, exec (.gangCalEcho h rtt) s = .next t ∧
        t.su.calState = 3 ∧ t.su.haltIds = s.su.haltIds ∧ t.su.step = 15 ∧ t.su.code = 3) ∧
  (∀ (x : BitVec 2) (rtt : BitVec 5) (s : State), s.su.lineState = 1 → s.su.lineStn = x → (tget [] s.su.lineRts x.toNat).length < 15 →
      tget 0 s.su.linePings x.toNat = (tget [] s.su.lineRts x.toNat).length + 1 → ∃ t, exec (.swapLineEcho x rtt) s = .next t ∧
        tget [] t.su.lineRts x.toNat = tget [] s.su.lineRts x.toNat ++ [rtt.toNat] ∧ t.su.lineState = 1 ∧ t.su.stnIds = s.su.stnIds) ∧
  (∀ (x : BitVec 2) (rtt : BitVec 5) (s : State), s.su.lineState = 1 → s.su.lineStn = x → (tget [] s.su.lineRts x.toNat).length = 15 →
      tget 0 s.su.linePings x.toNat = 16 → (badRt rtt.toNat = true ∨ ∃ r ∈ tget [] s.su.lineRts x.toNat, badRt r = true ∨ r ≠ rtt.toNat) →
      ∃ t, exec (.swapLineEcho x rtt) s = .next t ∧ t.su.lineState = 3 ∧ t.su.stnIds = s.su.stnIds ∧ t.su.step = 15 ∧ t.su.code = 2)

/-- PW_START.GO in step 4, with no self-test run, ends it: with RELOAD in step 5; else in step 6, or, with the link up
and JG_PKG.DONE, in step 7 with BLOCK_READY high and event bit 1 set; before step 4 GO is latched. LINK_UP with
JG_PKG.DONE and no DUP sets UP and ends step 6. LINK_DUP latches DUP. RELOAD in step 5 presents one read of the
park record of each part on its memory port. -/
def Obligations.StartUpReachesReady : Prop :=
  (∀ (w : Word32) (s : State), s.cfgOpen 0x2A 0x040 = true → s.su.step = 4 → s.su.mbistHold = false → ∃ t, exec (.startGo w) s = .next t ∧
      (wbit w 5 = true → t.su.step = 5) ∧
      (wbit w 5 = false → (s.su.up && s.su.pkgDone) = false → t.su.step = 6 ∧ t.su.ready = s.su.ready) ∧
      (wbit w 5 = false → (s.su.up && s.su.pkgDone) = true → t.su.step = 7 ∧ t.su.ready = true ∧ (t.get F.EVT_STAT_EVT 0x2A).testBit 1 = true)) ∧
  (∀ (w : Word32) (s : State), s.cfgOpen 0x2A 0x040 = true → s.su.step.toNat < 4 →
      ∃ t, exec (.startGo w) s = .next t ∧ t.su = { s.su with goLatched := true } ∧ t.flag F.PW_START_RELOAD = wbit w 5) ∧
  (∀ s : State, s.su.pkgDone = true → s.su.dup = false → ∃ t, exec .linkUp s = .next t ∧ t.su.up = true ∧
      (s.su.step = 6 → t.su.step = 7 ∧ t.su.ready = true) ∧ (s.su.step ≠ 6 → t.su = { s.su with up := true })) ∧
  (∀ s : State, ∃ t, exec .linkDup s = .next t ∧ t.su = { s.su with dup := true } ∧ t.regs = s.regs) ∧
  (∀ s : State, s.su.step = 5 → s.su.pkgDone = true → s.job 6 = none → ∃ t, exec .reload s = .next t ∧ t.su = s.su ∧
      ∀ k < 5, (t.port k).queue = (s.port k).queue ++ [⟨false, BitVec.ofNat 58 ((s.ledgerArea k + 0x080) / 64), 0, 0, 0, .job 6 k, 0⟩])

/-- A write to a page, which a station or halt page takes for the part whose latched number it matches (01 R35), that
the configuration port lets through is answered, and EVENT_CLEAR clears the event bits written 1, EVENT_SET sets
those that the page's chapter defines, PAGE_EXPERT clears EXPERT, sets it with the key 0xA5 on a page with expert
registers and NOEXP clear, and else counts in REFUSED; PAGE_LOCK sets LOCK and clears EXPERT, PAGE_NOEXP sets
NOEXP, PAGE_STAT_CLR clears REFUSED, and a mailbox page has neither PAGE_CTL nor PAGE_LOCK. Every other register
field and every part are as they were. A write to a page whose number no part holds changes nothing (assumption log
77). An access to a reserved page is counted in JG_CFGERR with its page and direction. -/
def Obligations.PageHeaderCommands : Prop :=
  (∀ (p : BitVec 7) (q : Nat) (w : Word32) (s : State), s.shownPage p.toNat = some q → s.cfgOpen q 0x014 = true → ∃ t, exec (.eventClear p w) s = .next t ∧ CfgAnswered s t ∧
      OnlyRegs s t [F.EVT_STAT_EVT.key q 0] ∧
      ∀ b < 32, (t.get F.EVT_STAT_EVT q).testBit b = ((s.get F.EVT_STAT_EVT q).testBit b && !w.getLsbD b)) ∧
  (∀ (p : BitVec 7) (q : Nat) (w : Word32) (s : State), s.shownPage p.toNat = some q → s.cfgOpen q 0x01C = true → ∃ t, exec (.eventSet p w) s = .next t ∧ CfgAnswered s t ∧
      OnlyRegs s t [F.EVT_STAT_EVT.key q 0] ∧
      ∀ b < 32, (t.get F.EVT_STAT_EVT q).testBit b = ((s.get F.EVT_STAT_EVT q).testBit b || (w.getLsbD b && (evtMask q).testBit b))) ∧
  (∀ (p : BitVec 7) (q : Nat) (w : Word32) (s : State), s.shownPage p.toNat = some q → s.cfgOpen q 0x00C = true → ∃ t, exec (.pageExpert p w) s = .next t ∧ CfgAnswered s t ∧
      OnlyRegs s t [F.PAGE_CTL_EXPERT.key q 0, F.PAGE_STAT_REFUSED.key q 0] ∧
      (0x40 ≤ q → t.regs = s.regs) ∧
      (q < 0x40 → w.getLsbD 0 = false → t.flag F.PAGE_CTL_EXPERT q = false) ∧
      (q < 0x40 → w.getLsbD 0 = true →
        if w.extractLsb' 8 8 = 0xA5 ∧ pageExp q = true ∧ s.flag F.PAGE_LOCK_NOEXP q = false then t.flag F.PAGE_CTL_EXPERT q = true
        else t.flag F.PAGE_CTL_EXPERT q = s.flag F.PAGE_CTL_EXPERT q ∧
          t.get F.PAGE_STAT_REFUSED q = min (s.get F.PAGE_STAT_REFUSED q + 1) 255)) ∧
  (∀ (p : BitVec 7) (q : Nat) (w : Word32) (s : State), s.shownPage p.toNat = some q → s.cfgOpen q 0x024 = true → ∃ t, exec (.pageLock p w) s = .next t ∧ CfgAnswered s t ∧
      OnlyRegs s t [F.PAGE_LOCK_LOCK.key q 0, F.PAGE_LOCK_NOEXP.key q 0, F.PAGE_CTL_EXPERT.key q 0] ∧
      (0x40 ≤ q → t.regs = s.regs) ∧
      (q < 0x40 → t.flag F.PAGE_LOCK_LOCK q = true ∧ t.flag F.PAGE_CTL_EXPERT q = false)) ∧
  (∀ (p : BitVec 7) (q : Nat) (w : Word32) (s : State), s.shownPage p.toNat = some q → s.cfgOpen q 0x024 = true → ∃ t, exec (.pageNoexp p w) s = .next t ∧ CfgAnswered s t ∧
      OnlyRegs s t [F.PAGE_LOCK_LOCK.key q 0, F.PAGE_LOCK_NOEXP.key q 0, F.PAGE_CTL_EXPERT.key q 0] ∧
      (0x40 ≤ q → t.regs = s.regs) ∧ (q < 0x40 → t.flag F.PAGE_LOCK_NOEXP q = true)) ∧
  (∀ (p : BitVec 7) (q : Nat) (w : Word32) (s : State), s.shownPage p.toNat = some q → s.cfgOpen q 0x010 = true → ∃ t, exec (.pageStatClr p w) s = .next t ∧ CfgAnswered s t ∧
      OnlyRegs s t [F.PAGE_STAT_REFUSED.key q 0] ∧ t.get F.PAGE_STAT_REFUSED q = 0) ∧
  (∀ (p : BitVec 7) (w : Word32) (s : State), s.shownPage p.toNat = none → ∀ c ∈ [Instr.eventClear p w, Instr.eventSet p w, Instr.pageExpert p w,
      Instr.pageLock p w, Instr.pageNoexp p w, Instr.pageStatClr p w], ∃ t, exec c s = .next t ∧ CfgAnswered s t ∧ OnlyRegs s t []) ∧
  (∀ (p : BitVec 7) (wr : Bool) (s : State), pageOk p.toNat = false → s.parked = false → ∃ t, exec (.reservedPageAccess p wr) s = .next t ∧
      CfgAnswered s t ∧ OnlyRegs s t [F.JG_CFGERR_COUNT.key 0 0, F.JG_CFGERR_PAGE.key 0 0, F.JG_CFGERR_WR.key 0 0, F.EVT_STAT_EVT.key 0 0] ∧
      t.get F.JG_CFGERR_COUNT = min (s.get F.JG_CFGERR_COUNT + 1) (2 ^ F.JG_CFGERR_COUNT.len - 1) ∧ t.get F.JG_CFGERR_PAGE = p.toNat ∧
      t.flag F.JG_CFGERR_WR = wr ∧ (t.get F.EVT_STAT_EVT 0).testBit 0 = true)

/-- A clear command that the configuration port lets through is answered: JG_CFGERR, HALT_PERR, HALT_GANG, SB_PW_REF,
TT_DENY and LG_LAG clear their counts, HALT_REJ all its four fields whatever the data, HALT_TICK its counts while
it takes WINDOW from the data, and WATCH_STAT, JL_PROXY and JL_RET set HIGH to what is in use. Every other register
field and every part are as they were. -/
def Obligations.CounterClears : Prop :=
  (∀ (w : Word32) (s : State), s.cfgOpen 0x00 0x080 = true → ∃ t, exec (.jgCfgerrClr w) s = .next t ∧ CfgAnswered s t ∧
      OnlyRegs s t [F.JG_CFGERR_COUNT.key 0 0] ∧ t.get F.JG_CFGERR_COUNT = 0) ∧
  (∀ (h : BitVec 4) (w : Word32) (s : State), s.cfgOpen (0x18 + h.toNat) 0x050 = true → ∃ t, exec (.haltRejClear h w) s = .next t ∧ CfgAnswered s t ∧
      OnlyRegs s t [F.HALT_REJ_RSVD_TAG.key h.toNat 0, F.HALT_REJ_RSVD_OP.key h.toNat 0, F.HALT_REJ_SUPV.key h.toNat 0, F.HALT_REJ_BATCH.key h.toNat 0] ∧ t.get F.HALT_REJ_RSVD_TAG h.toNat = 0 ∧ t.get F.HALT_REJ_RSVD_OP h.toNat = 0 ∧
      t.get F.HALT_REJ_SUPV h.toNat = 0 ∧ t.get F.HALT_REJ_BATCH h.toNat = 0) ∧
  (∀ (h : BitVec 4) (w : Word32) (s : State), s.cfgOpen (0x18 + h.toNat) 0x054 = true → ∃ t, exec (.haltPerrClr h w) s = .next t ∧ CfgAnswered s t ∧
      OnlyRegs s t [F.HALT_PERR_COUNT.key h.toNat 0] ∧ t.get F.HALT_PERR_COUNT h.toNat = 0) ∧
  (∀ (x : BitVec 2) (w : Word32) (s : State), s.cfgOpen (0x08 + x.toNat) 0x060 = true → ∃ t, exec (.watchClrHigh x w) s = .next t ∧ CfgAnswered s t ∧
      OnlyRegs s t [F.WATCH_STAT_HIGH.key x.toNat 0] ∧ t.get F.WATCH_STAT_HIGH x.toNat = (s.mem x.toNat).rowsUsed.length % 2 ^ 14) ∧
  (∀ (h : BitVec 4) (w : Word32) (s : State), s.cfgOpen (0x18 + h.toNat) 0x060 = true → ∃ t, exec (.haltGangClr h w) s = .next t ∧ CfgAnswered s t ∧
      OnlyRegs s t [F.HALT_GANG_SLIP_IGN.key h.toNat 0, F.HALT_GANG_SLIP_ZERO.key h.toNat 0] ∧ t.get F.HALT_GANG_SLIP_IGN h.toNat = 0 ∧ t.get F.HALT_GANG_SLIP_ZERO h.toNat = 0) ∧
  (∀ (h : BitVec 4) (w : Word32) (s : State), s.cfgOpen (0x18 + h.toNat) 0x068 = true → ∃ t, exec (.haltTickClr h w) s = .next t ∧ CfgAnswered s t ∧
      OnlyRegs s t [F.HALT_TICK_WINDOW.key h.toNat 0, F.HALT_TICK_BATCHES.key h.toNat 0, F.HALT_TICK_LOST.key h.toNat 0, F.HALT_TICK_MEMB_MEMBERS.key h.toNat 0] ∧ t.get F.HALT_TICK_BATCHES h.toNat = 0 ∧ t.get F.HALT_TICK_LOST h.toNat = 0 ∧
      t.get F.HALT_TICK_MEMB_MEMBERS h.toNat = 0 ∧ t.get F.HALT_TICK_WINDOW h.toNat = (w.extractLsb' 0 4).toNat) ∧
  (∀ (b : BitVec 3) (w : Word32) (s : State), b.toNat < 5 → s.cfgOpen (boxPage b.toNat) 0x048 = true → ∃ t, exec (.sbPwRefClr b w) s = .next t ∧ CfgAnswered s t ∧
      OnlyRegs s t [F.SB_PW_REF_COUNT.key (boxInst b.toNat) 0] ∧ t.get F.SB_PW_REF_COUNT (boxInst b.toNat) = 0) ∧
  (∀ (w : Word32) (s : State), s.cfgOpen 0x01 0x050 = true → ∃ t, exec (.jlProxyClrHigh w) s = .next t ∧ CfgAnswered s t ∧
      OnlyRegs s t [F.JL_PROXY_HIGH.key 0 0] ∧ t.get F.JL_PROXY_HIGH = s.jct.proxies.length % 2 ^ 15) ∧
  (∀ (w : Word32) (s : State), s.cfgOpen 0x01 0x058 = true → ∃ t, exec (.jlRetClrHigh w) s = .next t ∧ CfgAnswered s t ∧
      OnlyRegs s t [F.JL_RET_HIGH.key 0 0] ∧ t.get F.JL_RET_HIGH = s.jct.retained.length % 2 ^ 11) ∧
  (∀ (w : Word32) (s : State), s.cfgOpen 0x02 0x080 = true → ∃ t, exec (.ttDenyClr w) s = .next t ∧ CfgAnswered s t ∧
      OnlyRegs s t [F.TT_DENY_COUNT.key 0 0] ∧ t.get F.TT_DENY_COUNT = 0) ∧
  (∀ (x : BitVec 2) (w : Word32) (s : State), s.cfgOpen (0x08 + x.toNat) 0x114 = true → ∃ t, exec (.lgLagClear (.stn x) w) s = .next t ∧ CfgAnswered s t ∧
      OnlyRegs s t [F.LG_LAG_HIGH.key x.toNat 0] ∧ t.get F.LG_LAG_HIGH x.toNat = 0) ∧
  (∀ (w : Word32) (s : State), s.cfgOpen 0x29 0x06C = true → ∃ t, exec (.lgLagClear .jct w) s = .next t ∧ CfgAnswered s t ∧
      OnlyRegs s t [F.LG_LAG_HIGH.key 0x80 0] ∧ t.get F.LG_LAG_HIGH 0x80 = 0)

/-- PERF_CLEAR_ALL clears all eight counters and their OVF flags, PERF_CLEAR clears one counter and leaves the others,
and a read of PC_CNTn_LO returns the low half and latches the high half. OBSERVATION_ENABLE that turns tracing on
empties the buffer and starts the tclk count. A selector that has counted 2^DIV occurrences stores a word if the
buffer has room and else counts the word as lost; the observation port sends the oldest word. -/
def Obligations.CountersAndTrace : Prop :=
  (∀ (w : Word32) (s : State), s.cfgOpen 0x2D 0x040 = true → ∃ t, exec (.perfClearAll w) s = .next t ∧ CfgAnswered s t ∧ PartsKept s t ∧
      t.flag F.PC_CTL_RUN = w.getLsbD 0 ∧ ∀ n < 8, tget 0 t.perf n = 0 ∧ t.flag F.PC_CFG_OVF 0 n = false) ∧
  (∀ (n : BitVec 3) (w : Word32) (s : State), s.cfgOpen 0x2D (0x080 + 16 * n.toNat) = true → ∃ t, exec (.perfClear n w) s = .next t ∧
      CfgAnswered s t ∧ PartsKept s t ∧ tget 0 t.perf n.toNat = 0 ∧ (∀ m, m ≠ n.toNat → tget 0 t.perf m = tget 0 s.perf m) ∧
      t.get F.PC_CFG_EVENT 0 n.toNat = (w.extractLsb' F.PC_CFG_EVENT.lo F.PC_CFG_EVENT.len).toNat) ∧
  (∀ (n : BitVec 3) (s : State), s.parked = false → ∃ t, exec (.perfCounterRead n) s = .next t ∧
      (s.su.wInstr.underTest = false → t.out = [.cfRsp (BitVec.ofNat 32 (tget 0 s.perf n.toNat))]) ∧
      OnlyRegs s t [F.PC_CNT_HI_COUNT.key 0 n.toNat] ∧ t.get F.PC_CNT_HI_COUNT 0 n.toNat = tget 0 s.perf n.toNat / 2 ^ 32 % 2 ^ 32 ∧ t.perf = s.perf) ∧
  (∀ (w : Word32) (s : State), s.cfgOpen 0x2C 0x040 = true → ∃ t, exec (.observationEnable w) s = .next t ∧ CfgAnswered s t ∧
      RegsBut s t [F.OB_CTL_EN.key 0 0] ∧ t.flag F.OB_CTL_EN = true ∧ t.su = s.su ∧
      (s.flag F.OB_CTL_EN = false → t.trace = [] ∧ t.traceAt = s.fclk) ∧ (s.flag F.OB_CTL_EN = true → t.trace = s.trace ∧ t.traceAt = s.traceAt)) ∧
  (∀ (n : BitVec 2) (s : State), s.traceDue n.toNat = true → ∃ t, exec (.traceSelectorCount n) s = .next t ∧ t.su = s.su ∧
      tget 0 t.occ n.toNat = tget 0 s.occ n.toNat - 2 ^ s.get F.OB_SEL_DIV 0 n.toNat ∧
      (s.trace.length < 64 → t.trace = s.trace ++ [s.traceWord n.toNat] ∧ t.regs = s.regs) ∧
      (64 ≤ s.trace.length → t.trace = s.trace ∧ t.get F.OB_LOST_COUNT = min (s.get F.OB_LOST_COUNT + 1) (2 ^ F.OB_LOST_COUNT.len - 1) ∧
        (t.get F.EVT_STAT_EVT 0x2C).testBit 0 = true)) ∧
  (∀ (w : Word32) (rest : List Word32) (s : State), s.trace = w :: rest → ∃ t, exec .traceWord s = .next t ∧ t.trace = rest ∧ t.regs = s.regs ∧
      t.su = s.su ∧ (s.su.wInstr.underTest = false → t.out = [.trace w])) ∧
  (∀ s : State, s.trace = [] → ∃ t, exec .traceWord s = .next t ∧ t.trace = [] ∧ t.regs = s.regs ∧ t.out = [])

/-- After reset release a credit mask on a mesh port adds one credit, to at most 255, to each class whose bit is set
and to no other; a transfer of a kind that its port cannot carry is counted in OB_BADMESH with its event. -/
def Obligations.MeshCreditsAndDiscards : Prop :=
  (∀ (p : BitVec 5) (m : BitVec 3) (s : State), p.toNat < 25 → s.su.step ≠ 0 → ∃ t, exec (.meshCredit p m) s = .next t ∧ t.regs = s.regs ∧
      t.halts = s.halts ∧ t.stns = s.stns ∧ t.jct = s.jct ∧ t.net = s.net ∧ t.su = s.su ∧ t.out = [] ∧
      (∀ c < 3, t.credits p.toNat c = if m.getLsbD c then min (s.credits p.toNat c + 1) 255 else s.credits p.toNat c) ∧
      ∀ q c, c < 3 → q ≠ p.toNat → t.credits q c = s.credits q c) ∧
  (∀ (p : BitVec 5) (k : BitVec 3) (s : State), p.toNat < 25 → s.su.step ≠ 0 → discarded p.toNat k.toNat = true →
      ∃ t, exec (.meshTransferDiscard p k) s = .next t ∧ t.out = [] ∧ OnlyRegs s t [F.OB_BADMESH_COUNT.key 0 0, F.EVT_STAT_EVT.key 0x2C 0] ∧
      t.get F.OB_BADMESH_COUNT = min (s.get F.OB_BADMESH_COUNT + 1) (2 ^ F.OB_BADMESH_COUNT.len - 1) ∧ (t.get F.EVT_STAT_EVT 0x2C).testBit 1 = true)

/-- Each wrapper instruction is in force once it is loaded and a wrapper reset loads WS_BYPASS; the block serves
nothing while EXTEST, INTEST, CLAMP, SAFE or a scan is in force, and a reserved code leaves service as it is. Under
WS_IJTAG, in step 4 or 15, MBIST_GO starts a self-test of a RAM of the segment's part, which keeps step 4, and
outside those steps it is done at once with FAIL set; MBIST_DONE ends a run with its result. -/
def Obligations.TestAccess : Prop :=
  (∀ s : State, ∃ t, exec .wrapperReset s = .next t ∧ t.su = { s.su with wInstr := .bypass } ∧ t.regs = s.regs ∧ t.halts = s.halts ∧
      t.stns = s.stns ∧ t.jct = s.jct ∧ t.net = s.net ∧ t.serving = s.su.ready) ∧
  (∀ s : State, ∃ t, exec .wsBypass s = .next t ∧ t.su = { s.su with wInstr := .bypass } ∧ t.regs = s.regs ∧ t.halts = s.halts ∧
      t.stns = s.stns ∧ t.jct = s.jct ∧ t.net = s.net ∧ t.serving = s.su.ready) ∧
  (∀ s : State, ∃ t, exec .wsExtest s = .next t ∧ t.su = { s.su with wInstr := .extest } ∧ t.regs = s.regs ∧ t.halts = s.halts ∧
      t.stns = s.stns ∧ t.jct = s.jct ∧ t.net = s.net ∧ t.serving = false) ∧
  (∀ s : State, ∃ t, exec .wsPreload s = .next t ∧ t.su = { s.su with wInstr := .preload } ∧ t.regs = s.regs ∧ t.halts = s.halts ∧
      t.stns = s.stns ∧ t.jct = s.jct ∧ t.net = s.net ∧ t.serving = s.su.ready) ∧
  (∀ s : State, ∃ t, exec .wsIntest s = .next t ∧ t.su = { s.su with wInstr := .intest } ∧ t.regs = s.regs ∧ t.halts = s.halts ∧
      t.stns = s.stns ∧ t.jct = s.jct ∧ t.net = s.net ∧ t.serving = false) ∧
  (∀ s : State, ∃ t, exec .wsClamp s = .next t ∧ t.su = { s.su with wInstr := .clamp } ∧ t.regs = s.regs ∧ t.halts = s.halts ∧
      t.stns = s.stns ∧ t.jct = s.jct ∧ t.net = s.net ∧ t.serving = false) ∧
  (∀ s : State, ∃ t, exec .wsSafe s = .next t ∧ t.su = { s.su with wInstr := .safe } ∧ t.regs = s.regs ∧ t.halts = s.halts ∧
      t.stns = s.stns ∧ t.jct = s.jct ∧ t.net = s.net ∧ t.serving = false) ∧
  (∀ s : State, ∃ t, exec .wsIdcode s = .next t ∧ t.su = { s.su with wInstr := .idcode } ∧ t.regs = s.regs ∧ t.halts = s.halts ∧
      t.stns = s.stns ∧ t.jct = s.jct ∧ t.net = s.net ∧ t.serving = s.su.ready) ∧
  (∀ s : State, ∃ t, exec .wsIjtag s = .next t ∧ t.su = { s.su with wInstr := .ijtag } ∧ t.regs = s.regs ∧ t.halts = s.halts ∧
      t.stns = s.stns ∧ t.jct = s.jct ∧ t.net = s.net ∧ t.serving = s.su.ready) ∧
  (∀ s : State, ∃ t, exec .wpScan s = .next t ∧ t.su = { s.su with wInstr := .scan } ∧ t.regs = s.regs ∧ t.halts = s.halts ∧
      t.stns = s.stns ∧ t.jct = s.jct ∧ t.net = s.net ∧ t.serving = false) ∧
  (∀ (c : BitVec 4) (s : State), reservedInstr c.toNat = true → s.su.wInstr.underTest = false → ∃ t, exec (.wsReservedInstruction c) s = .next t ∧
      t.serving = s.serving ∧ t.su = { s.su with wInstr := .reserved } ∧ t.regs = s.regs) ∧
  (∀ (g ram : BitVec 5) (a : BitVec 2) (s : State), s.su.wInstr = .ijtag → g.toNat < 21 → (s.mbist g.toNat).busy = false →
      (s.su.step = 4 ∨ s.su.step = 15) → ramIs (segPart g.toNat) ram.toNat = true → ∃ t, exec (.mbistGo g ram a) s = .next t ∧
        t.mbist g.toNat = ⟨ram, a, true, false, false, 0⟩ ∧ t.su.step = s.su.step ∧ ((∀ h, segPart g.toNat ≠ .halt h) → t.regs = s.regs) ∧ (s.su.step = 4 → t.su.mbistHold = true)) ∧
  (∀ (g ram : BitVec 5) (a : BitVec 2) (s : State), s.su.wInstr = .ijtag → g.toNat < 21 → (s.mbist g.toNat).busy = false →
      s.su.step ≠ 4 → s.su.step ≠ 15 → ∃ t, exec (.mbistGo g ram a) s = .next t ∧ (t.mbist g.toNat).done = true ∧ (t.mbist g.toNat).fail = true ∧
        (t.mbist g.toNat).busy = false ∧ t.stns = s.stns ∧ t.halts = s.halts ∧ t.jct = s.jct ∧ t.regs = s.regs) ∧
  (∀ (g : BitVec 5) (f : Bool) (r : BitVec 16) (s : State), (s.mbist g.toNat).busy = true → ∃ t, exec (.mbistDone g f r) s = .next t ∧
        t.mbist g.toNat = { s.mbist g.toNat with busy := false, done := true, fail := f, row := if f then r else 0 } ∧
        t.regs = s.regs ∧ t.stns = s.stns ∧ t.su.step = s.su.step)

/-- Whatever its operation, a request that a halt hears on queue tag 22 or 23 completes with DENIED: its queue is
released with DENIED, or, if it is posted, the failure is recorded as that of a posted request; it is counted in
HALT_REJ.RSVD_TAG, no message leaves the halt, and no station changes. A request with a tag of 24 to 31 does not
arrive: it changes nothing. -/
def Obligations.ReservedTagsAreDenied : Prop :=
  (∀ (op : BitVec 6) (r : CoreReq) (s : State), s.hears r = true → (r.q = 22 ∨ r.q = 23) →
      ∃ t, exec (.syncReservedOp op r) s = .next t ∧ t.net = s.net ∧ t.stns = s.stns ∧ t.jct = s.jct ∧
        t.get F.HALT_REJ_RSVD_TAG (rHalt r) = min (s.get F.HALT_REJ_RSVD_TAG (rHalt r) + 1) 255 ∧
        (opPosted op r.ret = false → t.out = [.acc r.core r.q, .release r.core r.q .denied 0]) ∧
        (opPosted op r.ret = true → t.out = [.acc r.core r.q] ∧ t.get F.HALT_PERR_LAST (rHalt r) = Status.denied.code ∧
          t.get F.HALT_PERR_COUNT (rHalt r) = min (s.get F.HALT_PERR_COUNT (rHalt r) + 1) 65535)) ∧
  (∀ (op : BitVec 6) (r : CoreReq) (s : State), 24 ≤ r.q.toNat → ∃ t, exec (.syncReservedOp op r) s = .next t ∧ t.out = [] ∧
      t.regs = s.regs ∧ t.halts = s.halts ∧ t.stns = s.stns ∧ t.jct = s.jct ∧ t.net = s.net)

/-- A NOP is accepted and its queue released with DONE in the same step. A fence with no posted request of its queue
outstanding is released with the first failure among them, which it clears; with some outstanding it takes the wait
register, and its clock-gate wire is driven (03 R89). A reserved operation code is refused with DENIED and counted
in HALT_REJ, whatever RETURN is; LOCK_FORCE and MOVE from a queue that is no supervisor queue are so too. No
message leaves the halt. -/
def Obligations.NopFenceAndReservedCodes : Prop :=
  (∀ (r : CoreReq) (s : State), s.takes 0 { r with ret := false } = true → ∃ t, exec (.nop r) s = .next t ∧
      t.out = [.acc r.core r.q, .release r.core r.q .done 0] ∧ t.net = s.net ∧
      t.halt (rHalt r) = { s.halt (rHalt r) with port := r.core.extractLsb' 0 4 + 1 } ∧ (∀ h, h ≠ rHalt r → t.halt h = s.halt h) ∧ t.stns = s.stns) ∧
  (∀ (r : CoreReq) (s : State), s.takes 0 { r with ret := true } = true → tget 0 (s.halt (rHalt r)).unacked (rReg r) = 0 →
      (s.halt (rHalt r)).lostPosted.contains (rReg r) = false → ∃ t, exec (.fence r) s = .next t ∧ t.net = s.net ∧ t.stns = s.stns ∧
      t.out = [.acc r.core r.q, .release r.core r.q (Status.ofCode (tget 0 (s.halt (rHalt r)).firstFail (rReg r)).toNat) 0] ∧
      tget 0 (t.halt (rHalt r)).firstFail (rReg r) = 0 ∧ (t.wait (rHalt r) (rReg r)).v = false ∧ t.gateWire r.core r.q = false) ∧
  (∀ (r : CoreReq) (s : State), s.takes 0 { r with ret := true } = true → tget 0 (s.halt (rHalt r)).unacked (rReg r) ≠ 0 →
      ∃ t, exec (.fence r) s = .next t ∧ t.net = s.net ∧ t.stns = s.stns ∧ t.out = [.acc r.core r.q] ∧
      (t.wait (rHalt r) (rReg r)).v = true ∧ (t.wait (rHalt r) (rReg r)).op = 0 ∧ t.gateWire r.core r.q = true) ∧
  (∀ (op : BitVec 6) (r : CoreReq) (s : State), s.hears r = true → r.q.toNat < 22 → (s.wait (rHalt r) (rReg r)).v = false → opKnown op = false →
      ∃ t, exec (.syncReservedOp op r) s = .next t ∧ t.net = s.net ∧ t.stns = s.stns ∧
        t.get F.HALT_REJ_RSVD_OP (rHalt r) = min (s.get F.HALT_REJ_RSVD_OP (rHalt r) + 1) 255 ∧
        (r.ret = true → t.out = [.acc r.core r.q, .release r.core r.q .denied 0]) ∧
        (r.ret = false → t.out = [.acc r.core r.q] ∧
          tget 0 (t.halt (rHalt r)).firstFail (rReg r) = (if tget 0 (s.halt (rHalt r)).firstFail (rReg r) = 0 then 6 else tget 0 (s.halt (rHalt r)).firstFail (rReg r)))) ∧
  (∀ (c : Instr) (r : CoreReq) (s : State), c ∈ [Instr.lockForce r, Instr.move r] → s.hears r = true → r.q.toNat < 22 →
      (s.wait (rHalt r) (rReg r)).v = false → s.isSupv (rHalt r) r.core r.q = false → ∃ t, exec c s = .next t ∧ t.net = s.net ∧ t.stns = s.stns ∧
        t.get F.HALT_REJ_SUPV (rHalt r) = min (s.get F.HALT_REJ_SUPV (rHalt r) + 1) 255 ∧ t.out = [.acc r.core r.q, .release r.core r.q .denied 0])

/-- A request of an old generation ends at the halt with FLUSHED; a request of a frozen pavilion is held on its wires,
which gates its queue; one for which the halt has no retention entry or SEQ is not accepted (13 R364); a request
whose handle does not translate completes with the status of the translation; and one that reaches a slot that is
FREE or RETIRED completes with UNMAPPED, of another pavilion or of a kind that does not take the operation with
DENIED, a FROZEN slot's with no answer until it unfreezes. In each case every slot stays as it was. The clauses are
for SIG; the checks are those of every operation. -/
def Obligations.HaltStatusesOfRequests : Prop :=
  (∀ (r : CoreReq) (s : State), s.hears r = true → r.q.toNat < 22 → (s.wait (rHalt r) (rReg r)).v = false → r.ret = true → r.gen ≠ s.gen r.pav →
      ∃ t, exec (.sig r) s = .next t ∧ t.net = s.net ∧ t.stns = s.stns ∧ t.out = [.acc r.core r.q, .release r.core r.q .flushed 0]) ∧
  (∀ (r : CoreReq) (s : State), s.hears r = true → r.q.toNat < 22 → (s.wait (rHalt r) (rReg r)).v = false → r.gen = s.gen r.pav → s.pavFrozen r.pav = true →
      ∃ t, exec (.sig r) s = .next t ∧ t.net = s.net ∧ t.stns = s.stns ∧ t.out = [] ∧
        (t.halt (rHalt r)).heldQ = (s.halt (rHalt r)).heldQ ++ [haltReq 0x01 r] ∧ t.gateWire r.core r.q = true) ∧
  (∀ (r : CoreReq) (s : State), s.hears r = true → r.q.toNat < 22 → (s.wait (rHalt r) (rReg r)).v = false → r.gen = s.gen r.pav → s.pavFrozen r.pav = false →
      (r.ret = true → s.staleMark (rHalt r) (rReg r) = false) → s.flag F.REC_STAT_FAILED (rHalt r / 4) = false → s.room (rPart r) = false →
      ∃ t, exec (.sig r) s = .next t ∧ t.net = s.net ∧ t.stns = s.stns ∧ t.jct = s.jct ∧ t.regs = s.regs ∧ t.out = [] ∧
        t.halt (rHalt r) = { s.halt (rHalt r) with retHeld := true }) ∧
  (∀ (r : CoreReq) (st : Status) (s : State), s.takes 0x01 r = true →
      s.translate (rHalt r / 4) r.pav r.handle (rCtx r) false (tget 0 (s.halt (rHalt r)).bases (rReg r)) = .error st →
      ∃ t, exec (.sig r) s = .next t ∧ AcceptedBy s t 0x01 r ∧ t.stns = s.stns ∧ Answered s t 0x01 r (BitVec.ofNat 2 (rHalt r / 4)) st 0) ∧
  (∀ (r : CoreReq) (x : BitVec 2) (pon : Nat) (s : State), s.takes 0x01 r = true → s.finds r x pon = true →
      s.flag F.REC_STAT_FAILED x.toNat = false → s.withholding x.toNat = false → (s.stnId x.toNat).pkg = s.su.pkg → (s.stnId x.toNat).die = s.su.die → (s.stnId x.toNat).stn = x →
      ∃ t, exec (.sig r) s = .next t ∧ AcceptedBy s t 0x01 r ∧
        (((s.slot x.toNat pon).kind = .free ∨ (s.slot x.toNat pon).kind = .retired) → SlotsBut s t x [] ∧ Answered s t 0x01 r x .unmapped 0) ∧
        ((s.slot x.toNat pon).kind ∉ [.free, .retired, .moved] → (s.slot x.toNat pon).frozen = true →
          SlotsBut s t x [] ∧ ∃ rq, rq.who = rWho r ∧ (t.mem x.toNat).freezeQ = (s.mem x.toNat).freezeQ ++ [(pon, rq)]) ∧
        ((s.slot x.toNat pon).kind ∉ [.free, .retired, .moved, .counter] → (s.slot x.toNat pon).frozen = false →
          SlotsBut s t x [] ∧ Answered s t 0x01 r x .denied 0) ∧
        ((s.slot x.toNat pon).kind = .counter → (s.slot x.toNat pon).frozen = false → (s.slot x.toNat pon).pav ≠ r.pav →
          SlotsBut s t x [] ∧ Answered s t 0x01 r x .denied 0))

/-- A SIG that a COUNTER takes adds its operand, writes LAST_SRC and is answered with the new value; an overflow leaves
the value, sets event bit 1 and is answered with OVERFLOW, and an operand of 0 changes nothing. A WAIT_GE on an
object of which its halt awaits nothing goes to the home: its value reached, it is notified at once and no entry is
kept; else a watch entry is made or set for the halt, or, on an orphaned object, it ends with ORPHAN. One on an
object that the halt waits for already sends nothing, or, with the lowest E, a registration (03 R82). READ returns
the object's word and changes no station. A dispenser that the object bounds may be granted by the SIG, so the
frame names every slot that is not one. -/
def Obligations.CountersAndWaits : Prop :=
  (∀ (r : CoreReq) (x : BitVec 2) (pon : Nat) (s : State), s.meets 0x01 r x pon = true → r.operand ≠ 0 → (s.slot x.toNat pon).val.toNat + r.operand.toNat < 2 ^ 64 → (∀ e ∈ (s.mem x.toNat).boundList, e.1 ≠ pon) →
      ∃ t, exec (.sig r) s = .next t ∧ AcceptedBy s t 0x01 r ∧ (t.slot x.toNat pon).val = (s.slot x.toNat pon).val + r.operand ∧
        (t.slot x.toNat pon).lastSrc = lastSrcOf (rWho r) ∧ Answered s t 0x01 r x .done ((s.slot x.toNat pon).val + r.operand) ∧
        SlotsBut s t x (pon :: (s.mem x.toNat).boundList.map (·.1))) ∧
  (∀ (r : CoreReq) (x : BitVec 2) (pon : Nat) (s : State), s.meets 0x01 r x pon = true → 2 ^ 64 ≤ (s.slot x.toNat pon).val.toNat + r.operand.toNat →
      ∃ t, exec (.sig r) s = .next t ∧ AcceptedBy s t 0x01 r ∧ SlotsBut s t x [] ∧ Answered s t 0x01 r x .overflow 0 ∧
        (t.get F.EVT_STAT_EVT (0x08 + x.toNat)).testBit 1 = true) ∧
  (∀ (r : CoreReq) (x : BitVec 2) (pon : Nat) (s : State), s.meets 0x02 r x pon = true → s.firstWait r (s.addrOf x.toNat pon) = true → (s.slot x.toNat pon).kind = .counter → r.operand.toNat ≤ (s.slot x.toNat pon).val.toNat →
      ∃ t l, exec (.waitGe r) s = .next t ∧ AcceptedBy s t 0x02 r ∧ SlotsBut s t x [] ∧
        (t.mem x.toNat).watches = (s.mem x.toNat).watches.filter (fun w => !(w.pon = pon && w.sub = BitVec.ofNat 5 (rHalt r))) ∧
        t.net = s.net ++ l ∧ ⟨.stn x, rPart r, .notify (s.addrOf x.toNat pon) (s.slot x.toNat pon).val .done none⟩ ∈ l) ∧
  (∀ (r : CoreReq) (x : BitVec 2) (pon : Nat) (s : State), s.meets 0x02 r x pon = true → s.firstWait r (s.addrOf x.toNat pon) = true → (s.slot x.toNat pon).val.toNat < r.operand.toNat → (s.slot x.toNat pon).orphan = false →
      (∀ w ∈ (s.mem x.toNat).watches, w.pon = pon → (s.slot x.toNat pon).val.toNat < w.exp.toNat) → (s.admitRow x.toNat (s.slot x.toNat pon).pav).isSome = true →
      ∃ t, exec (.waitGe r) s = .next t ∧ AcceptedBy s t 0x02 r ∧ SlotsBut s t x [] ∧ t.net = s.net ∧
        (t.wait (rHalt r) (rReg r)).addr = s.addrOf x.toNat pon ∧ (t.wait (rHalt r) (rReg r)).exp = r.operand ∧
        t.gateWire r.core r.q = true ∧
        ∃ w ∈ (t.mem x.toNat).watches, w.pon = pon ∧ w.sub = BitVec.ofNat 5 (rHalt r) ∧ w.exp.toNat ≤ r.operand.toNat) ∧
  (∀ (r : CoreReq) (x : BitVec 2) (pon : Nat) (e : Word64) (s : State), s.takes 0x02 r = true → s.finds r x pon = true →
      s.haltLowest (rHalt r) (s.addrOf x.toNat pon) = some e → ∃ t, exec (.waitGe r) s = .next t ∧ AcceptedBy s t 0x02 r ∧ t.stns = s.stns ∧
        (t.wait (rHalt r) (rReg r)).addr = s.addrOf x.toNat pon ∧ (t.wait (rHalt r) (rReg r)).exp = r.operand ∧ t.gateWire r.core r.q = true ∧
        (e.toNat ≤ r.operand.toNat → t.net = s.net) ∧
        (r.operand.toNat < e.toNat → ∃ p, t.net = s.net ++ [⟨rPart r, .stn x, .reg (s.addrOf x.toNat pon) r.operand p⟩])) ∧
  (∀ (r : CoreReq) (x : BitVec 2) (pon : Nat) (s : State), s.meets 0x02 r x pon = true → s.firstWait r (s.addrOf x.toNat pon) = true → (s.slot x.toNat pon).val.toNat < r.operand.toNat → (s.slot x.toNat pon).orphan = true →
      ∃ t, exec (.waitGe r) s = .next t ∧ AcceptedBy s t 0x02 r ∧ SlotsBut s t x [] ∧ Answered s t 0x02 r x .orphan 0) ∧
  (∀ (r : CoreReq) (x : BitVec 2) (pon : Nat) (s : State), s.meets 0x04 r x pon = true → ∃ t, exec (.read r) s = .next t ∧ AcceptedBy s t 0x04 r ∧ t.stns = s.stns ∧
        Answered s t 0x04 r x .done (s.readWord x.toNat pon))

/-- A SEM_DEC that its semaphore takes, whether or not waiters are queued, subtracts n = OPERAND[31:0] if the count is
at least n and completes with DONE and the count after; else it leaves the count and completes with UNDERFLOW. It
makes no waiter record in either case. -/
def Obligations.SemDecNeverWaits : Prop :=
  ∀ (r : CoreReq) (x : BitVec 2) (pon : Nat) (s : State), s.meets 0x0A r x pon = true → ∃ t, exec (.semDec r) s = .next t ∧ AcceptedBy s t 0x0A r ∧ (t.mem x.toNat).waiters = (s.mem x.toNat).waiters ∧
    SlotsBut s t x [pon] ∧ (t.slot x.toNat pon).val = (s.slot x.toNat pon).val ∧
    if (r.operand.extractLsb' 0 32).toNat ≤ (s.ent x.toNat pon).count.toNat then
      (t.ent x.toNat pon).count = (s.ent x.toNat pon).count - r.operand.extractLsb' 0 32 ∧
        Answered s t 0x0A r x .done (((s.ent x.toNat pon).count - r.operand.extractLsb' 0 32).setWidth 64)
    else t.ent x.toNat pon = s.ent x.toNat pon ∧ Answered s t 0x0A r x .underflow 0

/-- A SEM_POST adds to the count, writes LAST_SRC and is answered with the count after the post; with no SEM_TAKE
queued the count stays so, and a head waiter whose n fits is granted: its record goes. A post past 2^31 - 1 leaves
the count and is answered with OVERFLOW. A SEM_TAKE with nobody queued and enough count subtracts and is answered
with the count after; else its waiter record joins the tail of the queue and the count stays. A SEM_TAKE of more
than 2^31 - 1 is DENIED. -/
def Obligations.SemaphorePostAndTake : Prop :=
  (∀ (r : CoreReq) (x : BitVec 2) (pon : Nat) (s : State), s.meets 0x08 r x pon = true → r.operand.extractLsb' 0 32 ≠ 0 → (s.ent x.toNat pon).count.toNat + (r.operand.extractLsb' 0 32).toNat < 2 ^ 31 →
      ∃ t, exec (.semPost r) s = .next t ∧ AcceptedBy s t 0x08 r ∧ SlotsBut s t x [pon] ∧ (t.slot x.toNat pon).lastSrc = lastSrcOf (rWho r) ∧
        Answered s t 0x08 r x .done (((s.ent x.toNat pon).count + r.operand.extractLsb' 0 32).setWidth 64) ∧
        (s.waitersOf x.toNat pon = [] → t.ent x.toNat pon = { s.ent x.toNat pon with count := (s.ent x.toNat pon).count + r.operand.extractLsb' 0 32 }) ∧
        (∀ w ws, s.waitersOf x.toNat pon = w :: ws → (w.rq.req.operand.extractLsb' 0 32).toNat ≤ (s.ent x.toNat pon).count.toNat + (r.operand.extractLsb' 0 32).toNat →
          ∀ w' ∈ (t.mem x.toNat).waiters, w'.row ≠ w.row)) ∧
  (∀ (r : CoreReq) (x : BitVec 2) (pon : Nat) (s : State), s.meets 0x08 r x pon = true → 2 ^ 31 ≤ (s.ent x.toNat pon).count.toNat + (r.operand.extractLsb' 0 32).toNat → r.operand.extractLsb' 0 32 ≠ 0 →
      ∃ t, exec (.semPost r) s = .next t ∧ AcceptedBy s t 0x08 r ∧ SlotsBut s t x [] ∧ t.ent x.toNat pon = s.ent x.toNat pon ∧
        Answered s t 0x08 r x .overflow 0 ∧ (t.get F.EVT_STAT_EVT (0x08 + x.toNat)).testBit 1 = true) ∧
  (∀ (r : CoreReq) (x : BitVec 2) (pon : Nat) (s : State), s.meets 0x09 r x pon = true → r.operand.extractLsb' 0 32 ≠ 0 → (r.operand.extractLsb' 0 32).toNat < 2 ^ 31 → s.waitersOf x.toNat pon = [] →
      (r.operand.extractLsb' 0 32).toNat ≤ (s.ent x.toNat pon).count.toNat →
      ∃ t, exec (.semTake r) s = .next t ∧ AcceptedBy s t 0x09 r ∧ SlotsBut s t x [pon] ∧
        t.ent x.toNat pon = { s.ent x.toNat pon with count := (s.ent x.toNat pon).count - r.operand.extractLsb' 0 32 } ∧
        Answered s t 0x09 r x .done (((s.ent x.toNat pon).count - r.operand.extractLsb' 0 32).setWidth 64)) ∧
  (∀ (r : CoreReq) (x : BitVec 2) (pon : Nat) (s : State), s.meets 0x09 r x pon = true → r.operand.extractLsb' 0 32 ≠ 0 → (r.operand.extractLsb' 0 32).toNat < 2 ^ 31 →
      (s.waitersOf x.toNat pon ≠ [] ∨ (s.ent x.toNat pon).count.toNat < (r.operand.extractLsb' 0 32).toNat) → (s.admitRow x.toNat r.pav).isSome = true →
      ∃ t, exec (.semTake r) s = .next t ∧ AcceptedBy s t 0x09 r ∧ SlotsBut s t x [pon] ∧ t.ent x.toNat pon = s.ent x.toNat pon ∧
        ∃ w, t.waitersOf x.toNat pon = s.waitersOf x.toNat pon ++ [w] ∧ w.rq.who = rWho r ∧ w.rq.req.operand = r.operand ∧ w.age = 0) ∧
  (∀ (r : CoreReq) (x : BitVec 2) (pon : Nat) (s : State), s.meets 0x09 r x pon = true → 2 ^ 31 ≤ (r.operand.extractLsb' 0 32).toNat → ∃ t, exec (.semTake r) s = .next t ∧ AcceptedBy s t 0x09 r ∧
        SlotsBut s t x [] ∧ t.ent x.toNat pon = s.ent x.toNat pon ∧ Answered s t 0x09 r x .denied 0)

/-- LOCK_ACQ and LOCK_TRY of a free lock make the originator its holder with its pavilion and priority, raise GRANTS,
clear ORPHAN and are answered with the grant word (ORPHAN for an orphaned lock). LOCK_ACQ of a lock held by another
joins the queue and leaves the holder; of a lock held by the originator it is DENIED. LOCK_TRY of a held lock never
waits: RETRY, or DENIED from its holder. LOCK_REL from its holder frees the lock with nobody queued, and else the
head waiter holds it and its record goes; from another it is DENIED. LOCK_FORCE takes a lock from any holder in the
same way. -/
def Obligations.LocksAreHeldQueuedAndReleased : Prop :=
  (∀ (r : CoreReq) (x : BitVec 2) (pon : Nat) (s : State), s.meets 0x0C r x pon = true → (s.ent x.toNat pon).held = false → ∃ t, exec (.lockAcq r) s = .next t ∧ AcceptedBy s t 0x0C r ∧ SlotsBut s t x [pon] ∧
        t.ent x.toNat pon = { s.ent x.toNat pon with held := true, holder := s.identOf (rWho r), hpav := r.pav, hprio := r.operand.extractLsb' 0 2, grants := (s.ent x.toNat pon).grants + 1, orphan := false } ∧
        Answered s t 0x0C r x (if (s.ent x.toNat pon).orphan then .orphan else .done)
          (grantWord (if (s.ent x.toNat pon).orphan then .orphan else .done) true (s.ent x.toNat pon).orphan false none (r.operand.extractLsb' 0 2) ((s.ent x.toNat pon).grants + 1))) ∧
  (∀ (r : CoreReq) (x : BitVec 2) (pon : Nat) (s : State), s.meets 0x0E r x pon = true → (s.ent x.toNat pon).held = false → ∃ t, exec (.lockTry r) s = .next t ∧ AcceptedBy s t 0x0E r ∧ SlotsBut s t x [pon] ∧
        t.ent x.toNat pon = { s.ent x.toNat pon with held := true, holder := s.identOf (rWho r), hpav := r.pav, hprio := r.operand.extractLsb' 0 2, grants := (s.ent x.toNat pon).grants + 1, orphan := false } ∧
        Answered s t 0x0E r x (if (s.ent x.toNat pon).orphan then .orphan else .done)
          (grantWord (if (s.ent x.toNat pon).orphan then .orphan else .done) true (s.ent x.toNat pon).orphan false none (r.operand.extractLsb' 0 2) ((s.ent x.toNat pon).grants + 1))) ∧
  (∀ (r : CoreReq) (x : BitVec 2) (pon : Nat) (s : State), s.meets 0x0C r x pon = true → (s.ent x.toNat pon).held = true → (s.ent x.toNat pon).holder ≠ s.identOf (rWho r) → (s.admitRow x.toNat r.pav).isSome = true →
      ∃ t, exec (.lockAcq r) s = .next t ∧ AcceptedBy s t 0x0C r ∧ SlotsBut s t x [pon] ∧ (t.ent x.toNat pon).held = true ∧
        (t.ent x.toNat pon).holder = (s.ent x.toNat pon).holder ∧ (t.waitersOf x.toNat pon).length = (s.waitersOf x.toNat pon).length + 1 ∧
        ∃ w ∈ t.waitersOf x.toNat pon, w.rq.who = rWho r ∧ w.rq.req.op = 0x0C ∧ w.age = 0) ∧
  (∀ (r : CoreReq) (x : BitVec 2) (pon : Nat) (s : State), s.meets 0x0C r x pon = true → (s.ent x.toNat pon).held = true → (s.ent x.toNat pon).holder = s.identOf (rWho r) → ∃ t, exec (.lockAcq r) s = .next t ∧ AcceptedBy s t 0x0C r ∧
        SlotsBut s t x [] ∧ t.ent x.toNat pon = s.ent x.toNat pon ∧ Answered s t 0x0C r x .denied (grantWord .denied false false false none (r.operand.extractLsb' 0 2) (s.ent x.toNat pon).grants)) ∧
  (∀ (r : CoreReq) (x : BitVec 2) (pon : Nat) (s : State), s.meets 0x0E r x pon = true → (s.ent x.toNat pon).held = true → ∃ t, exec (.lockTry r) s = .next t ∧ AcceptedBy s t 0x0E r ∧ SlotsBut s t x [] ∧
        t.ent x.toNat pon = s.ent x.toNat pon ∧ t.waitersOf x.toNat pon = s.waitersOf x.toNat pon ∧
        ∃ v, Answered s t 0x0E r x (if (s.ent x.toNat pon).holder = s.identOf (rWho r) then .denied else .retry) v) ∧
  (∀ (r : CoreReq) (x : BitVec 2) (pon : Nat) (s : State), s.meets 0x0D r x pon = true → (s.ent x.toNat pon).held = true → (s.ent x.toNat pon).holder = s.identOf (rWho r) → ∃ t v, exec (.lockRel r) s = .next t ∧ AcceptedBy s t 0x0D r ∧
        SlotsBut s t x [pon] ∧ Answered s t 0x0D r x .done v ∧
        (s.waitersOf x.toNat pon = [] → (t.ent x.toNat pon).held = false ∧ (t.ent x.toNat pon).holder = 0) ∧
        (∀ w ws, s.waitersOf x.toNat pon = w :: ws → (t.ent x.toNat pon).held = true ∧ (t.ent x.toNat pon).holder = s.identOf w.rq.who ∧
          (t.ent x.toNat pon).grants = (s.ent x.toNat pon).grants + 1 ∧ ∀ w' ∈ (t.mem x.toNat).waiters, w'.row ≠ w.row)) ∧
  (∀ (r : CoreReq) (x : BitVec 2) (pon : Nat) (s : State), s.meets 0x0D r x pon = true → ((s.ent x.toNat pon).held = false ∨ (s.ent x.toNat pon).holder ≠ s.identOf (rWho r)) → ∃ t v, exec (.lockRel r) s = .next t ∧ AcceptedBy s t 0x0D r ∧
        SlotsBut s t x [] ∧ t.ent x.toNat pon = s.ent x.toNat pon ∧ Answered s t 0x0D r x .denied v) ∧
  (∀ (r : CoreReq) (x : BitVec 2) (pon : Nat) (s : State), s.meets 0x0F r x pon = true → (s.ent x.toNat pon).held = true → ∃ t v, exec (.lockForce r) s = .next t ∧ AcceptedBy s t 0x0F r ∧
        SlotsBut s t x [pon] ∧ Answered s t 0x0F r x .done v ∧ (t.ent x.toNat pon).orphan = false ∧
        (s.waitersOf x.toNat pon = [] → (t.ent x.toNat pon).held = false ∧ (t.ent x.toNat pon).holder = 0) ∧
        (∀ w ws, s.waitersOf x.toNat pon = w :: ws → (t.ent x.toNat pon).held = true ∧ (t.ent x.toNat pon).holder = s.identOf w.rq.who))

/-- An arrival of a participant that has not arrived sets its bit of CUR; one that has, its bit of NXT; while others
are missing the value stays. The arrival that makes CUR complete raises the value by one and moves NXT into CUR.
TURN_ARRIVE_NW is answered at once with the value before; TURN_ARRIVE waits for its target, which its register
holds (a target past 2^64 - 1 it cannot). A third arrival is answered with OVERFLOW, and one of no participant with
DENIED, and neither is counted. -/
def Obligations.TurnstileArrivals : Prop :=
  (∀ (r : CoreReq) (x : BitVec 2) (pon : Nat) (s : State), s.meets 0x10 r x pon = true → (s.turnMask (s.turn x.toNat pon)).getLsbD r.core.toNat = true → (s.turn x.toNat pon).cur.getLsbD r.core.toNat = false → ((s.turn x.toNat pon).cur ||| 1#384 <<< r.core.toNat) ≠ s.turnMask (s.turn x.toNat pon) →
      ∃ t, exec (.turnArrive r) s = .next t ∧ AcceptedBy s t 0x10 r ∧ SlotsBut s t x [pon] ∧ (t.slot x.toNat pon).val = (s.slot x.toNat pon).val ∧
        t.turn x.toNat pon = { s.turn x.toNat pon with cur := (s.turn x.toNat pon).cur ||| 1#384 <<< r.core.toNat } ∧ ((s.slot x.toNat pon).val.toNat < 2 ^ 64 - 1 → (t.wait (rHalt r) (rReg r)).exp = (s.slot x.toNat pon).val + 1)) ∧
  (∀ (r : CoreReq) (x : BitVec 2) (pon : Nat) (s : State), s.meets 0x10 r x pon = true → (s.turnMask (s.turn x.toNat pon)).getLsbD r.core.toNat = true → (s.turn x.toNat pon).cur.getLsbD r.core.toNat = false → ((s.turn x.toNat pon).cur ||| 1#384 <<< r.core.toNat) = s.turnMask (s.turn x.toNat pon) → (s.turn x.toNat pon).nxt ≠ s.turnMask (s.turn x.toNat pon) →
      (s.slot x.toNat pon).val.toNat < 2 ^ 64 - 1 → (s.mem x.toNat).drift = [] → ∃ t l, exec (.turnArrive r) s = .next t ∧ AcceptedBy s t 0x10 r ∧
        SlotsBut s t x [pon] ∧ (t.slot x.toNat pon).val = (s.slot x.toNat pon).val + 1 ∧ t.turn x.toNat pon = { s.turn x.toNat pon with cur := (s.turn x.toNat pon).nxt, nxt := 0 } ∧
        t.net = s.net ++ l ∧ (∀ w ∈ (t.mem x.toNat).watches, w.pon = pon → (s.slot x.toNat pon).val.toNat + 1 < w.exp.toNat) ∧ (t.wait (rHalt r) (rReg r)).exp = (s.slot x.toNat pon).val + 1 ∧ 
        (32 ≤ (s.turn x.toNat pon).gang.toNat → ⟨.stn x, s.gangRoot ((s.turn x.toNat pon).gang.toNat % 32), .gangFire (BitVec.ofNat 5 (s.turn x.toNat pon).gang.toNat)⟩ ∈ l)) ∧
  (∀ (r : CoreReq) (x : BitVec 2) (pon : Nat) (s : State), s.meets 0x10 r x pon = true → (s.turnMask (s.turn x.toNat pon)).getLsbD r.core.toNat = true → (s.turn x.toNat pon).cur.getLsbD r.core.toNat = true → (s.turn x.toNat pon).nxt.getLsbD r.core.toNat = false → (s.turn x.toNat pon).cur ≠ s.turnMask (s.turn x.toNat pon) →
      ∃ t, exec (.turnArrive r) s = .next t ∧ AcceptedBy s t 0x10 r ∧ SlotsBut s t x [pon] ∧ (t.slot x.toNat pon).val = (s.slot x.toNat pon).val ∧
        t.turn x.toNat pon = { s.turn x.toNat pon with nxt := (s.turn x.toNat pon).nxt ||| 1#384 <<< r.core.toNat }) ∧
  (∀ (r : CoreReq) (x : BitVec 2) (pon : Nat) (s : State), s.meets 0x10 r x pon = true → (s.turnMask (s.turn x.toNat pon)).getLsbD r.core.toNat = true → (s.turn x.toNat pon).cur.getLsbD r.core.toNat = true → (s.turn x.toNat pon).nxt.getLsbD r.core.toNat = true →
      ∃ t, exec (.turnArrive r) s = .next t ∧ AcceptedBy s t 0x10 r ∧ SlotsBut s t x [] ∧ t.turn x.toNat pon = s.turn x.toNat pon ∧ Answered s t 0x10 r x .overflow 0) ∧
  (∀ (r : CoreReq) (x : BitVec 2) (pon : Nat) (s : State), s.meets 0x10 r x pon = true → (s.turnMask (s.turn x.toNat pon)).getLsbD r.core.toNat = false → ∃ t, exec (.turnArrive r) s = .next t ∧ AcceptedBy s t 0x10 r ∧ SlotsBut s t x [] ∧ t.turn x.toNat pon = s.turn x.toNat pon ∧ Answered s t 0x10 r x .denied 0) ∧
  (∀ (r : CoreReq) (x : BitVec 2) (pon : Nat) (s : State), s.meets 0x11 r x pon = true → (s.turnMask (s.turn x.toNat pon)).getLsbD r.core.toNat = true → (s.turn x.toNat pon).cur.getLsbD r.core.toNat = false → ((s.turn x.toNat pon).cur ||| 1#384 <<< r.core.toNat) ≠ s.turnMask (s.turn x.toNat pon) →
      ∃ t, exec (.turnArriveNw r) s = .next t ∧ AcceptedBy s t 0x11 r ∧ SlotsBut s t x [pon] ∧ (t.slot x.toNat pon).val = (s.slot x.toNat pon).val ∧
        t.turn x.toNat pon = { s.turn x.toNat pon with cur := (s.turn x.toNat pon).cur ||| 1#384 <<< r.core.toNat } ∧ Answered s t 0x11 r x .done (s.slot x.toNat pon).val) ∧
  (∀ (r : CoreReq) (x : BitVec 2) (pon : Nat) (s : State), s.meets 0x11 r x pon = true → (s.turnMask (s.turn x.toNat pon)).getLsbD r.core.toNat = true → (s.turn x.toNat pon).cur.getLsbD r.core.toNat = false → ((s.turn x.toNat pon).cur ||| 1#384 <<< r.core.toNat) = s.turnMask (s.turn x.toNat pon) → (s.turn x.toNat pon).nxt ≠ s.turnMask (s.turn x.toNat pon) →
      (s.slot x.toNat pon).val.toNat < 2 ^ 64 - 1 → (s.mem x.toNat).drift = [] → ∃ t l, exec (.turnArriveNw r) s = .next t ∧ AcceptedBy s t 0x11 r ∧
        SlotsBut s t x [pon] ∧ (t.slot x.toNat pon).val = (s.slot x.toNat pon).val + 1 ∧ t.turn x.toNat pon = { s.turn x.toNat pon with cur := (s.turn x.toNat pon).nxt, nxt := 0 } ∧
        t.net = s.net ++ l ∧ (∀ w ∈ (t.mem x.toNat).watches, w.pon = pon → (s.slot x.toNat pon).val.toNat + 1 < w.exp.toNat) ∧ Answered s t 0x11 r x .done (s.slot x.toNat pon).val ∧ 
        (32 ≤ (s.turn x.toNat pon).gang.toNat → ⟨.stn x, s.gangRoot ((s.turn x.toNat pon).gang.toNat % 32), .gangFire (BitVec.ofNat 5 (s.turn x.toNat pon).gang.toNat)⟩ ∈ l)) ∧
  (∀ (r : CoreReq) (x : BitVec 2) (pon : Nat) (s : State), s.meets 0x11 r x pon = true → (s.turnMask (s.turn x.toNat pon)).getLsbD r.core.toNat = true → (s.turn x.toNat pon).cur.getLsbD r.core.toNat = true → (s.turn x.toNat pon).nxt.getLsbD r.core.toNat = false → (s.turn x.toNat pon).cur ≠ s.turnMask (s.turn x.toNat pon) →
      ∃ t, exec (.turnArriveNw r) s = .next t ∧ AcceptedBy s t 0x11 r ∧ SlotsBut s t x [pon] ∧ (t.slot x.toNat pon).val = (s.slot x.toNat pon).val ∧
        t.turn x.toNat pon = { s.turn x.toNat pon with nxt := (s.turn x.toNat pon).nxt ||| 1#384 <<< r.core.toNat }) ∧
  (∀ (r : CoreReq) (x : BitVec 2) (pon : Nat) (s : State), s.meets 0x11 r x pon = true → (s.turnMask (s.turn x.toNat pon)).getLsbD r.core.toNat = true → (s.turn x.toNat pon).cur.getLsbD r.core.toNat = true → (s.turn x.toNat pon).nxt.getLsbD r.core.toNat = true →
      ∃ t, exec (.turnArriveNw r) s = .next t ∧ AcceptedBy s t 0x11 r ∧ SlotsBut s t x [] ∧ t.turn x.toNat pon = s.turn x.toNat pon ∧ Answered s t 0x11 r x .overflow 0) ∧
  (∀ (r : CoreReq) (x : BitVec 2) (pon : Nat) (s : State), s.meets 0x11 r x pon = true → (s.turnMask (s.turn x.toNat pon)).getLsbD r.core.toNat = false → ∃ t, exec (.turnArriveNw r) s = .next t ∧ AcceptedBy s t 0x11 r ∧ SlotsBut s t x [] ∧ t.turn x.toNat pon = s.turn x.toNat pon ∧ Answered s t 0x11 r x .denied 0)

/-- A TICKET that goes to an unbounded dispenser raises its value by N and is answered with the offset of the first
ticket; past 2^64 - 1 the value stays, event bit 1 is set and the answer is OVERFLOW. On a bounded dispenser with
nobody queued it is granted if (t + N) x 2^SHIFT is at most the bound's value; else it queues, or with NOWAIT ends
with OVERFLOW. A TICKET that a halt batches joins the batch and sends nothing. A launch of a batch of several
members sends one TICKET_BATCH of their sum to the serving station, and one that reaches an unbounded dispenser
raises its value by that sum. -/
def Obligations.TicketsAndBatches : Prop :=
  (∀ (r : CoreReq) (x : BitVec 2) (pon : Nat) (s : State), s.meets 0x14 r x pon = true → s.batchFor (rHalt r) (haltReq 0x14 r) = none → (r.operand.extractLsb' 0 32).toNat ≠ 0 → tickBv (s.slot x.toNat pon).link = false → (s.slot x.toNat pon).val.toNat + (r.operand.extractLsb' 0 32).toNat < 2 ^ 64 →
      ∃ t, exec (.ticket r) s = .next t ∧ AcceptedBy s t 0x14 r ∧ SlotsBut s t x [pon] ∧ (t.slot x.toNat pon).val = BitVec.ofNat 64 ((s.slot x.toNat pon).val.toNat + (r.operand.extractLsb' 0 32).toNat) ∧
        (t.slot x.toNat pon).lastSrc = lastSrcOf (rWho r) ∧ Answered s t 0x14 r x .done (tickOffset (tickModl (s.slot x.toNat pon).link) (tickShift (s.slot x.toNat pon).link) (s.slot x.toNat pon).val.toNat)) ∧
  (∀ (r : CoreReq) (x : BitVec 2) (pon : Nat) (s : State), s.meets 0x14 r x pon = true → s.batchFor (rHalt r) (haltReq 0x14 r) = none → 2 ^ 64 ≤ (s.slot x.toNat pon).val.toNat + (r.operand.extractLsb' 0 32).toNat →
      ∃ t, exec (.ticket r) s = .next t ∧ AcceptedBy s t 0x14 r ∧ SlotsBut s t x [] ∧ Answered s t 0x14 r x .overflow 0 ∧
        (t.get F.EVT_STAT_EVT (0x08 + x.toNat)).testBit 1 = true) ∧
  (∀ (r : CoreReq) (x : BitVec 2) (pon : Nat) (s : State) (b : Nat), s.meets 0x14 r x pon = true → s.batchFor (rHalt r) (haltReq 0x14 r) = none → (r.operand.extractLsb' 0 32).toNat ≠ 0 → tickBv (s.slot x.toNat pon).link = true →
      s.tickBound x.toNat (s.slot x.toNat pon).link = some b → (s.slot x.toNat pon).val.toNat + (r.operand.extractLsb' 0 32).toNat < 2 ^ 64 → ∃ t, exec (.ticket r) s = .next t ∧ AcceptedBy s t 0x14 r ∧
        SlotsBut s t x [pon] ∧
        (((s.slot x.toNat pon).val.toNat + (r.operand.extractLsb' 0 32).toNat) * 2 ^ tickShift (s.slot x.toNat pon).link ≤ b → s.waitersOf x.toNat pon = [] →
          (t.slot x.toNat pon).val = BitVec.ofNat 64 ((s.slot x.toNat pon).val.toNat + (r.operand.extractLsb' 0 32).toNat)) ∧
        (b < ((s.slot x.toNat pon).val.toNat + (r.operand.extractLsb' 0 32).toNat) * 2 ^ tickShift (s.slot x.toNat pon).link → (t.slot x.toNat pon).val = (s.slot x.toNat pon).val ∧
          (r.operand.getLsbD 32 = true → Answered s t 0x14 r x .overflow 0) ∧
          (r.operand.getLsbD 32 = false → (s.admitRow x.toNat r.pav).isSome = true → ∃ w, t.waitersOf x.toNat pon = s.waitersOf x.toNat pon ++ [w] ∧ w.rq.who = rWho r))) ∧
  (∀ (r : CoreReq) (n : Nat) (s : State), s.takes 0x14 r = true → s.batchFor (rHalt r) (haltReq 0x14 r) = some n → ∃ t, exec (.ticket r) s = .next t ∧
        AcceptedBy s t 0x14 r ∧ t.net = s.net ∧ t.stns = s.stns ∧
        (tget Batch.init (t.halt (rHalt r)).batches n).members =
          (tget Batch.init (s.halt (rHalt r)).batches n).members ++ [(r.core, r.q, r.operand.extractLsb' 0 32)]) ∧
  (∀ (h : BitVec 4) (n : BitVec 2) (a b : BitVec 8 × BitVec 5 × Word32) (l : List (BitVec 8 × BitVec 5 × Word32)) (s : State),
      (tget Batch.init (s.halt h.toNat).batches n.toNat).members = a :: b :: l → (tget Batch.init (s.halt h.toNat).batches n.toNat).sent = false →
      s.rowsGood = true → s.room (.halt h) = true → ∃ t rq, exec (.batchLaunch h n) s = .next t ∧ t.stns = s.stns ∧
        t.net = s.net ++ [⟨.halt h, .stn (BitVec.ofNat 2 (h.toNat / 4)), .batch rq⟩] ∧ rq.req.op = 0x15 ∧
        rq.req.operand = BitVec.ofNat 64 (batchSum (tget Batch.init (s.halt h.toNat).batches n.toNat)) ∧
        rq.req.handle = (tget Batch.init (s.halt h.toNat).batches n.toNat).handle ∧ rq.req.seq = (s.halt h.toNat).orig.seq + 1 ∧
        tget Batch.init (t.halt h.toNat).batches n.toNat = { tget Batch.init (s.halt h.toNat).batches n.toNat with sent := true }) ∧
  (∀ (h : BitVec 4) (y x : BitVec 2) (rq : HReq) (pon : Nat) (s : State), s.head? (.halt h) (.stn y) = some (.batch rq) → pon < 16384 → s.srcOf (.halt h) = s.dieSrc →
      rq.req.op = 0x15 → rq.who = .queue h rq.req.core rq.req.qtag → rq.replay = false → s.flag F.REC_STAT_FAILED y.toNat = false → rq.req.gen = s.gen rq.req.pav →
      rq.req.ctxl = false → (match s.translate y.toNat rq.req.pav rq.req.handle false false 0 with | .ok a => decide (a = s.addrOf x.toNat pon) | .error _ => false) = true →
      s.admits 0x15 rq.req.pav x pon = true → (s.slot x.toNat pon).kind = .ticket → tickBv (s.slot x.toNat pon).link = false → tickN rq ≠ 0 → (s.slot x.toNat pon).val.toNat + tickN rq < 2 ^ 64 →
      ∃ t, exec (.ticketBatch (.halt h) (.stn y)) s = .next t ∧ SlotsBut s t x [pon] ∧
        (t.slot x.toNat pon).val = BitVec.ofNat 64 ((s.slot x.toNat pon).val.toNat + tickN rq))

/-- A RING_RESERVE of a valid length on a ring with a base that fits, with nobody queued, raises R by its length and by
the skip it needs and is answered with the offset granted; one that does not fit, or comes behind others, queues at
the tail; one of no valid length is DENIED. RING_COMMIT and RING_RELEASE that meet their counter set it and are
answered with it; one that the rules refuse changes no slot; one that comes before its turn is held in a record. -/
def Obligations.RingMessages : Prop :=
  (∀ (r : CoreReq) (x : BitVec 2) (pon : Nat) (s : State), s.meets 0x1C r x pon = true → s.ringMOk x.toNat pon (r.operand.extractLsb' 0 32).toNat = true → s.ringBase x.toNat pon ≠ 0 → (s.reserveDecide x.toNat pon (r.operand.extractLsb' 0 32).toNat).2.2 = true → s.waitersOf x.toNat pon = [] →
      s.ringR x.toNat pon + (s.reserveDecide x.toNat pon (r.operand.extractLsb' 0 32).toNat).2.1 + (r.operand.extractLsb' 0 32).toNat < 2 ^ 64 → ∃ t, exec (.ringReserve r) s = .next t ∧ AcceptedBy s t 0x1C r ∧ SlotsBut s t x [pon, pon + 1] ∧
        (t.slot x.toNat pon).val = BitVec.ofNat 64 (s.ringR x.toNat pon + (s.reserveDecide x.toNat pon (r.operand.extractLsb' 0 32).toNat).2.1 + (r.operand.extractLsb' 0 32).toNat) ∧ Answered s t 0x1C r x .done (BitVec.ofNat 64 (s.reserveDecide x.toNat pon (r.operand.extractLsb' 0 32).toNat).1)) ∧
  (∀ (r : CoreReq) (x : BitVec 2) (pon : Nat) (s : State), s.meets 0x1C r x pon = true → s.ringMOk x.toNat pon (r.operand.extractLsb' 0 32).toNat = true → s.ringBase x.toNat pon ≠ 0 → ((s.reserveDecide x.toNat pon (r.operand.extractLsb' 0 32).toNat).2.2 = false ∨ s.waitersOf x.toNat pon ≠ []) →
      s.ringR x.toNat pon + (s.reserveDecide x.toNat pon (r.operand.extractLsb' 0 32).toNat).2.1 + (r.operand.extractLsb' 0 32).toNat < 2 ^ 64 → (s.admitRow x.toNat r.pav).isSome = true →
      ∃ t w, exec (.ringReserve r) s = .next t ∧ AcceptedBy s t 0x1C r ∧ SlotsBut s t x [] ∧ t.waitersOf x.toNat pon = s.waitersOf x.toNat pon ++ [w] ∧
        w.rq.who = rWho r ∧ w.rq.req.operand = r.operand) ∧
  (∀ (r : CoreReq) (x : BitVec 2) (pon : Nat) (s : State), s.meets 0x1C r x pon = true → s.ringMOk x.toNat pon (r.operand.extractLsb' 0 32).toNat = false → ∃ t, exec (.ringReserve r) s = .next t ∧ AcceptedBy s t 0x1C r ∧ SlotsBut s t x [] ∧
        Answered s t 0x1C r x .denied 0) ∧
  (∀ (r : CoreReq) (x : BitVec 2) (pon : Nat) (s : State) (v : Nat) (c : Bool), s.meets 0x1D r x pon = true → s.ringMOk x.toNat pon (r.operand.extractLsb' 0 32).toNat = true → s.waitersOf x.toNat (pon + 1) = [] → (∀ e ∈ (s.mem x.toNat).boundList, e.1 ≠ pon ∧ e.1 ≠ pon + 1 ∧ e.1 ≠ pon + 2) →
      s.ringFate x.toNat pon true (asked 0x1D r) = .apply v c → ∃ t, exec (.ringCommit r) s = .next t ∧ AcceptedBy s t 0x1D r ∧
        (t.slot x.toNat (pon + 1)).val = BitVec.ofNat 64 v ∧ (t.slot x.toNat (pon + 1)).lastSrc = lastSrcOf (rWho r) ∧
        Answered s t 0x1D r x .done (BitVec.ofNat 64 v)) ∧
  (∀ (r : CoreReq) (x : BitVec 2) (pon : Nat) (s : State) (st : Status), s.meets 0x1D r x pon = true → s.ringMOk x.toNat pon (r.operand.extractLsb' 0 32).toNat = true → s.ringFate x.toNat pon true (asked 0x1D r) = .refuse st →
      ∃ t, exec (.ringCommit r) s = .next t ∧ AcceptedBy s t 0x1D r ∧ SlotsBut s t x [] ∧ Answered s t 0x1D r x st 0) ∧
  (∀ (r : CoreReq) (x : BitVec 2) (pon : Nat) (s : State), s.meets 0x1D r x pon = true → s.ringMOk x.toNat pon (r.operand.extractLsb' 0 32).toNat = true → s.ringFate x.toNat pon true (asked 0x1D r) = .hold →
      (s.admitRow x.toNat r.pav).isSome = true → ∃ t w, exec (.ringCommit r) s = .next t ∧ AcceptedBy s t 0x1D r ∧ SlotsBut s t x [] ∧
        t.waitersOf x.toNat (pon + 1) = s.waitersOf x.toNat (pon + 1) ++ [w] ∧ w.rq.who = rWho r) ∧
  (∀ (r : CoreReq) (x : BitVec 2) (pon : Nat) (s : State) (v : Nat) (c : Bool), s.meets 0x1E r x pon = true → s.ringMOk x.toNat pon (r.operand.extractLsb' 0 32).toNat = true → s.waitersOf x.toNat (pon + 2) = [] → (∀ e ∈ (s.mem x.toNat).boundList, e.1 ≠ pon ∧ e.1 ≠ pon + 1 ∧ e.1 ≠ pon + 2) →
      s.ringFate x.toNat pon false (asked 0x1E r) = .apply v c → ∃ t, exec (.ringRelease r) s = .next t ∧ AcceptedBy s t 0x1E r ∧
        (t.slot x.toNat (pon + 2)).val = BitVec.ofNat 64 v ∧ (t.slot x.toNat (pon + 2)).lastSrc = lastSrcOf (rWho r) ∧
        Answered s t 0x1E r x .done (BitVec.ofNat 64 v)) ∧
  (∀ (r : CoreReq) (x : BitVec 2) (pon : Nat) (s : State) (st : Status), s.meets 0x1E r x pon = true → s.ringMOk x.toNat pon (r.operand.extractLsb' 0 32).toNat = true → s.ringFate x.toNat pon false (asked 0x1E r) = .refuse st →
      ∃ t, exec (.ringRelease r) s = .next t ∧ AcceptedBy s t 0x1E r ∧ SlotsBut s t x [] ∧ Answered s t 0x1E r x st 0) ∧
  (∀ (r : CoreReq) (x : BitVec 2) (pon : Nat) (s : State), s.meets 0x1E r x pon = true → s.ringMOk x.toNat pon (r.operand.extractLsb' 0 32).toNat = true → s.ringFate x.toNat pon false (asked 0x1E r) = .hold →
      (s.admitRow x.toNat r.pav).isSome = true → ∃ t w, exec (.ringRelease r) s = .next t ∧ AcceptedBy s t 0x1E r ∧ SlotsBut s t x [] ∧
        t.waitersOf x.toNat (pon + 2) = s.waitersOf x.toNat (pon + 2) ++ [w] ∧ w.rq.who = rWho r)

/-- A MOVE that nothing refuses copies the object to its destination on this die with both slots FROZEN and asks for
the destination's acknowledgement; a refused one changes no slot and is answered with its status. The
acknowledgement of a single slot's move leaves the source MOVED with the destination's address as its value, and
the destination unfrozen with the value that the source then had, and MOVE completes with DONE. A notice of the
move makes the waits of a halt follow the object, and the junction's bound epoch counter. -/
def Obligations.MoveFreezesThenLeavesMoved : Prop :=
  (∀ (r : CoreReq) (x : BitVec 2) (pon : Nat) (s : State), s.meets 0x20 r x pon = true → (s.slot x.toNat pon).kind ∉ [.ring, .ringPart] → s.moveRefusal x.toNat pon (asked 0x20 r) = none →
      ∃ t l rq, exec (.move r) s = .next t ∧ AcceptedBy s t 0x20 r ∧ (t.slot x.toNat pon).frozen = true ∧
        (t.slot (aStn (r.operand.extractLsb' 0 25)).toNat (aPon (r.operand.extractLsb' 0 25))).frozen = true ∧ (t.slot (aStn (r.operand.extractLsb' 0 25)).toNat (aPon (r.operand.extractLsb' 0 25))).val = (s.slot x.toNat pon).val ∧
        (t.slot (aStn (r.operand.extractLsb' 0 25)).toNat (aPon (r.operand.extractLsb' 0 25))).kind = (s.slot x.toNat pon).kind ∧ t.net = s.net ++ l ∧
        ⟨.stn (aStn (r.operand.extractLsb' 0 25)), .stn x, .moveAck (s.addrOf x.toNat pon) (r.operand.extractLsb' 0 25) rq⟩ ∈ l ∧ rq.who = rWho r) ∧
  (∀ (r : CoreReq) (x : BitVec 2) (pon : Nat) (s : State) (st : Status), s.meets 0x20 r x pon = true → s.moveRefusal x.toNat pon (asked 0x20 r) = some st →
      ∃ t, exec (.move r) s = .next t ∧ AcceptedBy s t 0x20 r ∧ SlotsBut s t x [] ∧ Answered s t 0x20 r x st 0) ∧
  (∀ (y x : BitVec 2) (h : BitVec 4) (a d : GAddr) (rq : HReq) (s : State), s.head? (.stn y) (.stn x) = some (.moveAck a d rq) →
      (s.slot x.toNat (aPon a)).kind ∉ [.ring, .ringPart] → ¬(aStn d = x ∧ aPon d = aPon a) → (s.mem x.toNat).freezeQ = [] → (s.stn x.toNat).backlog = [] →
      (s.stn x.toNat).beats = [] → rq.load = none → rq.posted = false →
      (∃ c q, rq.who = .queue h c q) → ∃ t, exec (.moveDestinationAck (.stn y) (.stn x)) s = .next t ∧ (t.slot x.toNat (aPon a)).kind = .moved ∧
        (t.slot x.toNat (aPon a)).val = (s.addrOf (aStn d).toNat (aPon d)).setWidth 64 ∧ (t.slot (aStn d).toNat (aPon d)).frozen = false ∧
        (t.slot (aStn d).toNat (aPon d)).val = (s.slot x.toNat (aPon a)).val ∧
        ∃ aux mods, ⟨.stn x, .halt h, .compl rq .done (d.setWidth 64) aux mods⟩ ∈ t.net) ∧
  (∀ (src : Part) (h : BitVec 4) (a d : GAddr) (i : Nat) (s : State), s.head? src (.halt h) = some (.moveNotice a d) → s.rowsGood = true → (s.wait h.toNat i).v = true →
      (s.wait h.toNat i).addrV = true → (s.wait h.toNat i).addr = a → ∃ t, exec (.moveNotice src (.halt h)) s = .next t ∧
        t.wait h.toNat i = { s.wait h.toNat i with addr := d } ∧ t.stns = s.stns) ∧
  (∀ (src : Part) (a d : GAddr) (s : State), s.head? src .jct = some (.moveNotice a d) → s.rowsGood = true → s.jct.ttBound = some a →
      ∃ t, exec (.moveNotice src .jct) s = .next t ∧ t.jct.ttBound = some d)

/-- For elements of every OR and AND format: an OR lane becomes lane OR x and is released as it is, an empty one as
zero; an AND lane becomes lane OR NOT x and is released complemented, an empty one as all ones. Neither sets a
flag. -/
def Obligations.OrAndLanes : Prop :=
  ∀ (fmt sc lane x : Nat) (sat : Bool), fmt ∈ [9, 10, 11, 12] → lane < 2 ^ (8 * fmtWidth fmt) → x < 2 ^ (8 * fmtWidth fmt) →
    foldElem 6 fmt sc lane x = (lane ||| x, 0) ∧ foldElem 7 fmt sc lane x = (lane ||| (2 ^ (8 * fmtWidth fmt) - 1 - x), 0) ∧
    releaseLane 6 fmt sat lane = (lane, 0) ∧ releaseLane 7 fmt sat lane = (2 ^ (8 * fmtWidth fmt) - 1 - lane, 0) ∧
    releaseLane 6 fmt sat (emptyLane 6) = (0, 0) ∧ releaseLane 7 fmt sat (emptyLane 7) = (2 ^ (8 * fmtWidth fmt) - 1, 0)

/-- A FOLD of the current round of a small region whose banks are awake folds its payload into the lanes, raises ARR by
one, makes the value r x TARGET + ARR, writes LAST_SRC and is answered with it. The contribution that completes the
round of a region without a result address starts round r + 1 in the same step. A FOLD of a full round is answered
with OVERFLOW, of a later round with RETRY, of an earlier one with DENIED, and changes no slot; one that needs a
gated bank waits in the wake queue. -/
def Obligations.FoldContributions : Prop :=
  (∀ (r : CoreReq) (x : BitVec 2) (pon : Nat) (s : State), s.meets 0x18 r x pon = true → (s.hdr x.toNat pon).v = true → (s.hdr x.toNat pon).wide = false → (r.operand.extractLsb' 32 8).toNat = (s.hdr x.toNat pon).r % 256 → (s.hdr x.toNat pon).rel = false → (s.hdr x.toNat pon).arr.toNat + 1 < (s.hdr x.toNat pon).target.toNat →
      s.lanesOff x.toNat (laneSize (cfgOp (s.hdr x.toNat pon).cfg.toNat) (cfgIn (s.hdr x.toNat pon).cfg.toNat)) ((s.hdr x.toNat pon).base (foldFirst (s.slot x.toNat pon)) false) (List.range (s.hdr x.toNat pon).lanes) = false → ∃ t, exec (.fold r) s = .next t ∧ AcceptedBy s t 0x18 r ∧
        (t.hdr x.toNat pon).arr = (s.hdr x.toNat pon).arr + 1 ∧ (t.hdr x.toNat pon).r = (s.hdr x.toNat pon).r ∧
        (t.slot x.toNat pon).val = BitVec.ofNat 64 ((s.hdr x.toNat pon).r * (s.hdr x.toNat pon).target.toNat + (s.hdr x.toNat pon).arr.toNat + 1) ∧ SlotsBut s t x [pon] ∧
        (t.slot x.toNat pon).lastSrc = lastSrcOf (rWho r) ∧
        Answered s t 0x18 r x .done (BitVec.ofNat 64 ((s.hdr x.toNat pon).r * (s.hdr x.toNat pon).target.toNat + (s.hdr x.toNat pon).arr.toNat + 1)) ∧
        (t.mem x.toNat).lanes = (foldAll (cfgOp (s.hdr x.toNat pon).cfg.toNat) (laneSize (cfgOp (s.hdr x.toNat pon).cfg.toNat) (cfgIn (s.hdr x.toNat pon).cfg.toNat)) ((s.hdr x.toNat pon).base (foldFirst (s.slot x.toNat pon)) false) (s.mem x.toNat).lanes (foldItems (s.hdr x.toNat pon) (asked 0x18 r))).1) ∧
  (∀ (r : CoreReq) (x : BitVec 2) (pon : Nat) (s : State), s.meets 0x18 r x pon = true → (s.hdr x.toNat pon).v = true → (s.hdr x.toNat pon).wide = false → (r.operand.extractLsb' 32 8).toNat = (s.hdr x.toNat pon).r % 256 → (s.hdr x.toNat pon).rel = false → (s.hdr x.toNat pon).arr.toNat + 1 = (s.hdr x.toNat pon).target.toNat →
      (s.hdr x.toNat pon).resAddr = 0 → (s.hdr x.toNat pon).arrNx.toNat < (s.hdr x.toNat pon).target.toNat → s.lanesOff x.toNat (laneSize (cfgOp (s.hdr x.toNat pon).cfg.toNat) (cfgIn (s.hdr x.toNat pon).cfg.toNat)) ((s.hdr x.toNat pon).base (foldFirst (s.slot x.toNat pon)) false) (List.range (s.hdr x.toNat pon).lanes) = false →
      ∃ t, exec (.fold r) s = .next t ∧ AcceptedBy s t 0x18 r ∧ (t.hdr x.toNat pon).r = (s.hdr x.toNat pon).r + 1 ∧ (t.hdr x.toNat pon).arr = (s.hdr x.toNat pon).arrNx ∧
        (t.hdr x.toNat pon).rel = false ∧ (t.slot x.toNat pon).val = BitVec.ofNat 64 (((s.hdr x.toNat pon).r + 1) * (s.hdr x.toNat pon).target.toNat + (s.hdr x.toNat pon).arrNx.toNat) ∧
        Answered s t 0x18 r x .done (BitVec.ofNat 64 ((s.hdr x.toNat pon).r * (s.hdr x.toNat pon).target.toNat + (s.hdr x.toNat pon).target.toNat))) ∧
  (∀ (r : CoreReq) (x : BitVec 2) (pon : Nat) (s : State), s.meets 0x18 r x pon = true → (s.hdr x.toNat pon).v = true → (s.hdr x.toNat pon).wide = false → (r.operand.extractLsb' 32 8).toNat = (s.hdr x.toNat pon).r % 256 → (s.hdr x.toNat pon).target.toNat ≤ (s.hdr x.toNat pon).arr.toNat →
      ∃ t, exec (.fold r) s = .next t ∧ AcceptedBy s t 0x18 r ∧ SlotsBut s t x [] ∧ t.hdr x.toNat pon = s.hdr x.toNat pon ∧ Answered s t 0x18 r x .overflow 0) ∧
  (∀ (r : CoreReq) (x : BitVec 2) (pon : Nat) (s : State), s.meets 0x18 r x pon = true → (s.hdr x.toNat pon).v = true → 2 ≤ ((r.operand.extractLsb' 32 8).toNat + 256 - (s.hdr x.toNat pon).r % 256) % 256 → ((r.operand.extractLsb' 32 8).toNat + 256 - (s.hdr x.toNat pon).r % 256) % 256 < 253 →
      ∃ t, exec (.fold r) s = .next t ∧ AcceptedBy s t 0x18 r ∧ SlotsBut s t x [] ∧ t.hdr x.toNat pon = s.hdr x.toNat pon ∧
        Answered s t 0x18 r x (if ((r.operand.extractLsb' 32 8).toNat + 256 - (s.hdr x.toNat pon).r % 256) % 256 < 128 then .retry else .denied) 0) ∧
  (∀ (r : CoreReq) (x : BitVec 2) (pon : Nat) (s : State), s.meets 0x18 r x pon = true → (s.hdr x.toNat pon).v = true → (s.hdr x.toNat pon).wide = false → (r.operand.extractLsb' 32 8).toNat = (s.hdr x.toNat pon).r % 256 → (s.hdr x.toNat pon).rel = false → (s.hdr x.toNat pon).arr.toNat + 1 ≤ (s.hdr x.toNat pon).target.toNat →
      s.lanesOff x.toNat (laneSize (cfgOp (s.hdr x.toNat pon).cfg.toNat) (cfgIn (s.hdr x.toNat pon).cfg.toNat)) ((s.hdr x.toNat pon).base (foldFirst (s.slot x.toNat pon)) false) (List.range (s.hdr x.toNat pon).lanes) = true → ∃ t rq, exec (.fold r) s = .next t ∧ AcceptedBy s t 0x18 r ∧ SlotsBut s t x [] ∧ t.hdr x.toNat pon = s.hdr x.toNat pon ∧
        (t.stn x.toNat).wakeQ = (s.stn x.toNat).wakeQ ++ [.fold pon rq] ∧ rq.who = rWho r)

/-- A full, aligned beat of the current round of a wide region whose banks are awake is folded into its lanes and
counted in BEATS, and the write is answered; where it does not complete the round, the round and the other counts
stay. A beat of a full half, or of an old pavilion generation (at its home; for another die at the station it came
in on), is rejected and counted. FR_CTL.APPLY of a staged configuration that the rules allow puts it into the
region's header and clears ERR; one that they refuse sets ERR and CODE and leaves the header. -/
def Obligations.FoldBeatsAndApply : Prop :=
  (∀ (b : BeatWrite) (x : BitVec 2) (pon : Nat) (s : State), s.serving = true → s.withholding b.stn.toNat = false → s.flag F.REC_STAT_FAILED b.stn.toNat = false → s.srcOf (.stn b.stn) = s.dieSrc →
      b.tag = s.gen (b.addr.extractLsb' 28 6) → pon < 16384 →
      (match s.translate b.stn.toNat (b.addr.extractLsb' 28 6) (BitVec.ofNat 20 (b.addr.extractLsb' 16 10).toNat) false false 0 with | .ok a => decide (a = s.addrOf x.toNat pon) | .error _ => false) = true →
      s.admits 0x18 (b.addr.extractLsb' 28 6) x pon = true → s.saving (b.addr.extractLsb' 28 6) = false → (s.hdr x.toNat pon).v = true → (s.hdr x.toNat pon).wide = true → b.be = BitVec.allOnes 64 →
      (b.addr.extractLsb' 0 16).toNat % 64 = 0 → (b.addr.extractLsb' 0 16).toNat < 64 * (s.hdr x.toNat pon).bpc → (b.addr.extractLsb' 26 2).toNat = (s.hdr x.toNat pon).r % 4 → (s.hdr x.toNat pon).rel = false → (s.hdr x.toNat pon).beats.toNat < (s.hdr x.toNat pon).target.toNat * (s.hdr x.toNat pon).bpc →
      (s.hdr x.toNat pon).beats.toNat + 1 < 2 ^ 32 → min (s.hdr x.toNat pon).ann.toNat (((s.hdr x.toNat pon).beats.toNat + 1) / (s.hdr x.toNat pon).bpc) ≠ (s.hdr x.toNat pon).target.toNat → s.lanesOff x.toNat (laneSize (cfgOp (s.hdr x.toNat pon).cfg.toNat) (cfgIn (s.hdr x.toNat pon).cfg.toNat)) ((s.hdr x.toNat pon).base (foldFirst (s.slot x.toNat pon)) false) ((beatItems (s.hdr x.toNat pon) ⟨.port b.stn b.isCore b.core b.rtn b.txid b.portB, 0, (b.addr.extractLsb' 28 6), b.tag, b.addr.extractLsb' 26 2, b.addr.extractLsb' 0 16, b.be, b.data⟩).map (·.1)) = false →
      ∃ t, exec (.foldBeat b) s = .next t ∧ t.out = [.wrsp (.stn b.stn) b.rtn b.txid] ∧ (t.hdr x.toNat pon).beats = (s.hdr x.toNat pon).beats + 1 ∧
        (t.hdr x.toNat pon).r = (s.hdr x.toNat pon).r ∧ (t.hdr x.toNat pon).ann = (s.hdr x.toNat pon).ann ∧ SlotsBut s t x [pon] ∧
        (t.mem x.toNat).lanes = (foldAll (cfgOp (s.hdr x.toNat pon).cfg.toNat) (laneSize (cfgOp (s.hdr x.toNat pon).cfg.toNat) (cfgIn (s.hdr x.toNat pon).cfg.toNat)) ((s.hdr x.toNat pon).base (foldFirst (s.slot x.toNat pon)) false) (s.mem x.toNat).lanes (beatItems (s.hdr x.toNat pon) ⟨.port b.stn b.isCore b.core b.rtn b.txid b.portB, 0, (b.addr.extractLsb' 28 6), b.tag, b.addr.extractLsb' 26 2, b.addr.extractLsb' 0 16, b.be, b.data⟩)).1) ∧
  (∀ (b : BeatWrite) (x : BitVec 2) (pon : Nat) (s : State), s.serving = true → s.withholding b.stn.toNat = false → s.flag F.REC_STAT_FAILED b.stn.toNat = false → s.srcOf (.stn b.stn) = s.dieSrc →
      b.tag = s.gen (b.addr.extractLsb' 28 6) → pon < 16384 →
      (match s.translate b.stn.toNat (b.addr.extractLsb' 28 6) (BitVec.ofNat 20 (b.addr.extractLsb' 16 10).toNat) false false 0 with | .ok a => decide (a = s.addrOf x.toNat pon) | .error _ => false) = true →
      s.admits 0x18 (b.addr.extractLsb' 28 6) x pon = true → s.saving (b.addr.extractLsb' 28 6) = false → (s.hdr x.toNat pon).v = true → (s.hdr x.toNat pon).wide = true → b.be = BitVec.allOnes 64 →
      (b.addr.extractLsb' 0 16).toNat % 64 = 0 → (b.addr.extractLsb' 0 16).toNat < 64 * (s.hdr x.toNat pon).bpc → (b.addr.extractLsb' 26 2).toNat = (s.hdr x.toNat pon).r % 4 → (s.hdr x.toNat pon).target.toNat * (s.hdr x.toNat pon).bpc ≤ (s.hdr x.toNat pon).beats.toNat → (s.hdr x.toNat pon).aborted 0 4 = false →
      ∃ t, exec (.foldBeat b) s = .next t ∧ t.out = [.err (.stn b.stn) b.rtn b.txid .overflow] ∧ SlotsBut s t x [] ∧ t.hdr x.toNat pon = s.hdr x.toNat pon ∧
        t.get F.FOLD_REJ_COUNT x.toNat = min (s.get F.FOLD_REJ_COUNT x.toNat + 1) (2 ^ F.FOLD_REJ_COUNT.len - 1)) ∧
  (∀ (b : BeatWrite) (x : BitVec 2) (pon : Nat) (s : State), s.serving = true → s.withholding b.stn.toNat = false → s.flag F.REC_STAT_FAILED b.stn.toNat = false → s.srcOf (.stn b.stn) = s.dieSrc →
      b.tag ≠ s.gen (b.addr.extractLsb' 28 6) → pon < 16384 →
      (match s.translate b.stn.toNat (b.addr.extractLsb' 28 6) (BitVec.ofNat 20 (b.addr.extractLsb' 16 10).toNat) false false 0 with | .ok a => decide (a = s.addrOf x.toNat pon) | .error _ => false) = true →
      s.admits 0x18 (b.addr.extractLsb' 28 6) x pon = true → s.saving (b.addr.extractLsb' 28 6) = false → (s.hdr x.toNat pon).v = true → (s.hdr x.toNat pon).wide = true → b.be = BitVec.allOnes 64 →
      (b.addr.extractLsb' 0 16).toNat % 64 = 0 → (b.addr.extractLsb' 0 16).toNat < 64 * (s.hdr x.toNat pon).bpc →
      ∃ t, exec (.foldBeat b) s = .next t ∧ t.out = [.err (.stn b.stn) b.rtn b.txid .flushed] ∧ SlotsBut s t x [] ∧ t.hdr x.toNat pon = s.hdr x.toNat pon ∧
        t.get F.FOLD_REJ_COUNT x.toNat = min (s.get F.FOLD_REJ_COUNT x.toNat + 1) (2 ^ F.FOLD_REJ_COUNT.len - 1)) ∧
  (∀ (b : BeatWrite) (a : GAddr) (s : State), s.serving = true → s.withholding b.stn.toNat = false → s.flag F.REC_STAT_FAILED b.stn.toNat = false → s.rowsGood = true →
      b.tag ≠ s.gen (b.addr.extractLsb' 28 6) → (match s.translate b.stn.toNat (b.addr.extractLsb' 28 6) (BitVec.ofNat 20 (b.addr.extractLsb' 16 10).toNat) false false 0 with | .ok g => decide (g = a) | .error _ => false) = true →
      aSrc a ≠ s.srcOf (.stn b.stn) → ∃ t, exec (.foldBeat b) s = .next t ∧ t.out = [.err (.stn b.stn) b.rtn b.txid .flushed] ∧ t.stns = s.stns ∧ t.jct = s.jct ∧
        t.get F.FOLD_REJ_COUNT b.stn.toNat = min (s.get F.FOLD_REJ_COUNT b.stn.toNat + 1) (2 ^ F.FOLD_REJ_COUNT.len - 1)) ∧
  (∀ (x : BitVec 2) (w : Word32) (s : State), s.cfgOpen (0x0C + x.toNat) 0x058 = true →
      let pon := s.get F.FR_SEL_PON x.toNat
      let cfg := s.get F.FR_CFG_OP x.toNat + s.get F.FR_CFG_IN_FMT x.toNat * 8 + s.get F.FR_CFG_OUT_FMT x.toNat * 128 +
        s.get F.FR_CFG_WIDE x.toNat * 2048 + s.get F.FR_CFG_DOUBLE x.toNat * 4096 + s.get F.FR_CFG_SAT x.toNat * 8192
      let code := applyCode ((s.slot x.toNat pon).kind == .foldCounter) (s.hdr x.toNat pon).busy cfg (s.get F.FR_LANES_LANES x.toNat)
        (s.get F.FR_TARGET_TARGET x.toNat) (s.get64 F.FR_RES_LO_ADDR F.FR_RES_HI_ADDR x.toNat) (foldNlg (s.slot x.toNat pon))
      ∃ t, exec (.foldApply x w) s = .next t ∧ CfgAnswered s t ∧ SlotsBut s t x [] ∧ t.get F.FR_CTL_CODE x.toNat = code ∧
        t.flag F.FR_CTL_ERR x.toNat = decide (code ≠ 0) ∧ (code ≠ 0 → t.stns = s.stns) ∧
        (code = 0 → (t.hdr x.toNat pon).v = true ∧ (t.hdr x.toNat pon).cfg = BitVec.ofNat 14 cfg ∧ (t.hdr x.toNat pon).lanes = s.get F.FR_LANES_LANES x.toNat ∧
          (t.hdr x.toNat pon).target = BitVec.ofNat 32 (s.get F.FR_TARGET_TARGET x.toNat)))

/-- A valid access whose handle names an object of this die asks its serving station for the object's kind; a store is
answered with its write response at acceptance and takes a retention entry; the ACC credit of the port falls due.
An access of wrong size or select is answered with DENIED and counted. A load of a COUNTER then returns its value,
and a store to one adds its data; a store to an object whose kind has no store fails as a posted request with
DENIED. CONTEXT_BASE_LOAD keeps the base of its queue and leaves every other queue's (a base that the halt had
asked for, it asks for no longer: log 96, the model's choice); CONTEXT_BASE_READ is answered with it;
CONTEXT_BASE_ANSWER for a queue whose base the halt has asked for loads it and ends the asking, and for another
queue changes nothing. -/
def Obligations.SignalSpaceAndContextBases : Prop :=
  (∀ (a : SsAccess) (x : BitVec 2) (pon : Nat) (s : State), s.haltStalled a.halt.toNat = false → s.rowsGood = true → s.srcOf (.halt a.halt) = s.dieSrc → s.ssRefusal a false = none → s.translate (a.halt.toNat / 4) (ssPav a) (ssHandle a) ((ssHandle a).toNat / 2 ^ 16 = 0xF) true 0 = .ok (s.addrOf x.toNat pon) →
      pon < 16384 → (s.slot x.toNat pon).kind ≠ .moved → ∃ t, exec (.signalSpaceLoad a) s = .next t ∧ t.out = [] ∧ t.stns = s.stns ∧ t.halts = s.halts ∧
        tget 0 t.freed (3 * a.halt.toNat + 1) = tget 0 s.freed (3 * a.halt.toNat + 1) + 1 ∧
        t.net = s.net ++ [⟨.stn (BitVec.ofNat 2 (a.halt.toNat / 4)), .halt a.halt, .kind a false .done (s.addrOf x.toNat pon) (s.slot x.toNat pon).kind⟩]) ∧
  (∀ (a : SsAccess) (x : BitVec 2) (pon : Nat) (s : State), s.haltStalled a.halt.toNat = false → s.rowsGood = true → s.srcOf (.halt a.halt) = s.dieSrc → s.ssRefusal a true = none → (s.halt a.halt.toNat).orig.ret.length < 64 →
      s.translate (a.halt.toNat / 4) (ssPav a) (ssHandle a) ((ssHandle a).toNat / 2 ^ 16 = 0xF) true 0 = .ok (s.addrOf x.toNat pon) → pon < 16384 → (s.slot x.toNat pon).kind ≠ .moved →
      ∃ t, exec (.signalSpaceStore a) s = .next t ∧ t.out = [.wrsp (.halt a.halt) a.rtn a.txid] ∧ t.stns = s.stns ∧
        (t.halt a.halt.toNat).orig.ret.length = (s.halt a.halt.toNat).orig.ret.length + 1 ∧
        t.net = s.net ++ [⟨.stn (BitVec.ofNat 2 (a.halt.toNat / 4)), .halt a.halt, .kind a true .done (s.addrOf x.toNat pon) (s.slot x.toNat pon).kind⟩]) ∧
  (∀ (a : SsAccess) (s : State), s.haltStalled a.halt.toNat = false → ssValid a = false →
      (∃ t, exec (.signalSpaceLoad a) s = .next t ∧ t.out = [.err (.halt a.halt) a.rtn a.txid .denied] ∧ t.net = s.net ∧ t.stns = s.stns ∧
        t.get F.HALT_REJ_RSVD_OP a.halt.toNat = min (s.get F.HALT_REJ_RSVD_OP a.halt.toNat + 1) 255) ∧
      (∃ t, exec (.signalSpaceStore a) s = .next t ∧ t.out = [.err (.halt a.halt) a.rtn a.txid .denied] ∧ t.net = s.net ∧ t.stns = s.stns ∧
        t.get F.HALT_REJ_RSVD_OP a.halt.toNat = min (s.get F.HALT_REJ_RSVD_OP a.halt.toNat + 1) 255)) ∧
  (∀ (y : BitVec 2) (a : SsAccess) (x : BitVec 2) (pon : Nat) (s : State), s.head? (.stn y) (.halt a.halt) = some (.kind a false .done (s.addrOf x.toNat pon) .counter) → s.su.wInstr.underTest = false →
      s.srcOf (.halt a.halt) = s.dieSrc → (s.halt a.halt.toNat).ssHeld = [] → pon < 16384 → s.admits 0x04 (ssPav a) x pon = true → (s.slot x.toNat pon).kind = .counter →
      ∃ t, exec (.signalSpaceKind (.stn y) (.halt a.halt)) s = .next t ∧ t.out = [.rdata (.stn x) a.rtn a.txid (s.slot x.toNat pon).val] ∧ t.stns = s.stns) ∧
  (∀ (y : BitVec 2) (a : SsAccess) (x : BitVec 2) (pon : Nat) (s : State), s.head? (.stn y) (.halt a.halt) = some (.kind a true .done (s.addrOf x.toNat pon) .counter) → pon < 16384 →
      s.srcOf (.halt a.halt) = s.dieSrc → (s.halt a.halt.toNat).ssHeld = [] →
      s.admits 0x01 (ssPav a) x pon = true → (s.slot x.toNat pon).kind = .counter → a.data ≠ 0 → (s.slot x.toNat pon).val.toNat + a.data.toNat < 2 ^ 64 →
      (∀ e ∈ (s.mem x.toNat).boundList, e.1 ≠ pon) → ∃ t, exec (.signalSpaceKind (.stn y) (.halt a.halt)) s = .next t ∧
        (t.slot x.toNat pon).val = (s.slot x.toNat pon).val + a.data ∧ (t.slot x.toNat pon).lastSrc = lastSrcOf (.queue a.halt (if a.isCore then a.core else 0) (if a.isCore then 24 else 25))) ∧
  (∀ (y : BitVec 2) (a : SsAccess) (g : GAddr) (k : Kind) (s : State), s.head? (.stn y) (.halt a.halt) = some (.kind a true .done g k) →
      (s.halt a.halt.toNat).ssHeld = [] → k ∉ [.counter, .sem, .glock, .mlock] → ∃ t, exec (.signalSpaceKind (.stn y) (.halt a.halt)) s = .next t ∧ t.stns = s.stns ∧
        t.get F.HALT_PERR_LAST a.halt.toNat = Status.denied.code ∧
        t.get F.HALT_PERR_COUNT a.halt.toNat = min (s.get F.HALT_PERR_COUNT a.halt.toNat + 1) 65535) ∧
  (∀ (c : BitVec 8) (q : BitVec 5) (w : Word32) (s : State), q.toNat < 24 → ∃ t, exec (.contextBaseLoad c q w) s = .next t ∧
      tget 0 (t.halt (c.toNat / 16)).bases (waitIdx c q) = w ∧ (∀ i, i ≠ waitIdx c q → tget 0 (t.halt (c.toNat / 16)).bases i = tget 0 (s.halt (c.toNat / 16)).bases i) ∧
      waitIdx c q ∉ (t.halt (c.toNat / 16)).asking ∧ (∀ h, h ≠ c.toNat / 16 → t.halt h = s.halt h) ∧ t.regs = s.regs ∧ t.stns = s.stns ∧ t.net = s.net) ∧
  (∀ (c : BitVec 8) (q : BitVec 5) (s : State), q.toNat < 24 → s.su.wInstr.underTest = false → ∃ t, exec (.contextBaseRead c q) s = .next t ∧
      t.out = [.cbData c q (tget 0 (s.halt (c.toNat / 16)).bases (waitIdx c q))] ∧ OnlyRegs s t []) ∧
  (∀ (c : BitVec 8) (q : BitVec 5) (w : Word32) (s : State), q.toNat < 24 → waitIdx c q ∈ (s.halt (c.toNat / 16)).asking →
      ∃ t, exec (.contextBaseAnswer c q w) s = .next t ∧ tget 0 (t.halt (c.toNat / 16)).bases (waitIdx c q) = w ∧
        waitIdx c q ∉ (t.halt (c.toNat / 16)).asking ∧ t.regs = s.regs ∧ t.stns = s.stns) ∧
  (∀ (c : BitVec 8) (q : BitVec 5) (w : Word32) (s : State), waitIdx c q ∉ (s.halt (c.toNat / 16)).asking →
      ∃ t, exec (.contextBaseAnswer c q w) s = .next t ∧ OnlyRegs s t [])

/-- ENABLE of a gang that nothing refuses binds its turnstile, gives every halt of the rectangle its phase and makes it
ARMED; a refused one sets ERR and CODE and changes nothing else of it; both commands at once are CODE 9. DISABLE
with no gang wait pending, or with FORCE, makes it OFF. GANG_CFG and GANG_TS are written only while it is OFF.
GANG_FIRE raises the phase of its halts, counts a release and makes an ARMED gang RUNNING. A slip of a RUNNING
gang's core takes a hold of 1 to 7 fclk on every core of the gang; 8 or more derails it; slips of one fclk merge
into one hold with the largest N, or one derail, and the wires are driven as that fclk ends (log 2); a slip of no
gang, or of 0, is counted as ignored, or as zero. -/
def Obligations.GangsEnableReleaseHoldDerail : Prop :=
  (∀ (w : Word32) (s : State), s.cfgOpen 0x00 0x10C = true → w.getLsbD 1 = false → s.gangCode (s.get F.GANG_SEL_GANG) = 0 → ∃ t, exec (.gangEnable w) s = .next t ∧ CfgAnswered s t ∧
      t.gangState (s.get F.GANG_SEL_GANG) = 1 ∧ (t.turn (aStn (BitVec.ofNat 25 (s.get F.GANG_TS_ADDR 0 (s.get F.GANG_SEL_GANG)))).toNat (aPon (BitVec.ofNat 25 (s.get F.GANG_TS_ADDR 0 (s.get F.GANG_SEL_GANG))))).gang.toNat = (32 + s.get F.GANG_SEL_GANG) % 64 ∧
      (∀ h ∈ s.gangHalts (s.get F.GANG_SEL_GANG), tget 0 (t.halt h).gangs (s.get F.GANG_SEL_GANG) = (s.slot (aStn (BitVec.ofNat 25 (s.get F.GANG_TS_ADDR 0 (s.get F.GANG_SEL_GANG)))).toNat (aPon (BitVec.ofNat 25 (s.get F.GANG_TS_ADDR 0 (s.get F.GANG_SEL_GANG))))).val) ∧ t.get F.GANG_RELEASES_COUNT 0 (s.get F.GANG_SEL_GANG) = 0) ∧
  (∀ (w : Word32) (s : State), s.cfgOpen 0x00 0x10C = true → (w.getLsbD 1 = true ∨ s.gangCode (s.get F.GANG_SEL_GANG) ≠ 0) → ∃ t, exec (.gangEnable w) s = .next t ∧ CfgAnswered s t ∧
      PartsKept s t ∧ t.gangState (s.get F.GANG_SEL_GANG) = s.gangState (s.get F.GANG_SEL_GANG) ∧ t.flag F.GANG_STAT_ERR 0 (s.get F.GANG_SEL_GANG) = true ∧
      t.get F.GANG_STAT_CODE 0 (s.get F.GANG_SEL_GANG) = (if w.getLsbD 1 then 9 else s.gangCode (s.get F.GANG_SEL_GANG)) ∧
      (w.getLsbD 1 = true → t.flag F.GANG_CMD_FORCE = s.flag F.GANG_CMD_FORCE)) ∧
  (∀ (w : Word32) (s : State), s.cfgOpen 0x00 0x10C = true → w.getLsbD 0 = false → (s.gangWaits (s.get F.GANG_SEL_GANG) = [] ∨ w.getLsbD 2 = true) → s.gangState (s.get F.GANG_SEL_GANG) ≠ 0 →
      ∃ t, exec (.gangDisable w) s = .next t ∧ t.gangState (s.get F.GANG_SEL_GANG) = 0 ∧ ((s.slot (aStn (BitVec.ofNat 25 (s.get F.GANG_TS_ADDR 0 (s.get F.GANG_SEL_GANG)))).toNat (aPon (BitVec.ofNat 25 (s.get F.GANG_TS_ADDR 0 (s.get F.GANG_SEL_GANG))))).kind = .turnstile → (t.turn (aStn (BitVec.ofNat 25 (s.get F.GANG_TS_ADDR 0 (s.get F.GANG_SEL_GANG)))).toNat (aPon (BitVec.ofNat 25 (s.get F.GANG_TS_ADDR 0 (s.get F.GANG_SEL_GANG))))).gang = 0)) ∧
  (∀ (w : Word32) (s : State), s.cfgOpen 0x00 0x10C = true → w.getLsbD 0 = false → s.gangWaits (s.get F.GANG_SEL_GANG) ≠ [] → w.getLsbD 2 = false → s.gangState (s.get F.GANG_SEL_GANG) ≠ 0 →
      ∃ t, exec (.gangDisable w) s = .next t ∧ PartsKept s t ∧ t.gangState (s.get F.GANG_SEL_GANG) = s.gangState (s.get F.GANG_SEL_GANG) ∧ t.get F.GANG_STAT_CODE 0 (s.get F.GANG_SEL_GANG) = 7) ∧
  (∀ (w : Word32) (s : State), s.cfgOpen 0x00 0x104 = true → s.gangState (s.get F.GANG_SEL_GANG) = 0 → ∃ t, exec (.gangConfigWrite 0x104 w) s = .next t ∧ CfgAnswered s t ∧ PartsKept s t ∧
      t.get F.GANG_CFG_X0 0 (s.get F.GANG_SEL_GANG) = (w.extractLsb' 0 4).toNat ∧ t.get F.GANG_CFG_Y0 0 (s.get F.GANG_SEL_GANG) = (w.extractLsb' 4 4).toNat ∧
      t.get F.GANG_CFG_WL 0 (s.get F.GANG_SEL_GANG) = (w.extractLsb' 8 3).toNat ∧ t.get F.GANG_CFG_HL 0 (s.get F.GANG_SEL_GANG) = (w.extractLsb' 11 3).toNat ∧
      t.get F.GANG_CFG_PAV 0 (s.get F.GANG_SEL_GANG) = (w.extractLsb' 14 6).toNat) ∧
  (∀ (o : BitVec 12) (w : Word32) (s : State), (o = 0x104 ∨ o = 0x108) → s.cfgOpen 0x00 o.toNat = true → s.gangState (s.get F.GANG_SEL_GANG) ≠ 0 → ∃ t, exec (.gangConfigWrite o w) s = .next t ∧
      OnlyRegs s t [F.GANG_STAT_ERR.key 0 (s.get F.GANG_SEL_GANG), F.GANG_STAT_CODE.key 0 (s.get F.GANG_SEL_GANG)] ∧ t.get F.GANG_STAT_CODE 0 (s.get F.GANG_SEL_GANG) = 1) ∧
  (∀ (g : BitVec 5) (src dst : Part) (s : State), s.head? src dst = some (.gangFire g) → s.gangState g.toNat ≠ 0 → ∃ t, exec (.gangFire g) s = .next t ∧
      t.get F.GANG_RELEASES_COUNT 0 g.toNat = min (s.get F.GANG_RELEASES_COUNT 0 g.toNat + 1) (2 ^ 32 - 1) ∧
      t.gangState g.toNat = (if s.gangState g.toNat = 1 then 2 else s.gangState g.toNat) ∧
      ∀ h ∈ s.gangHalts g.toNat, tget 0 (t.halt h).gangs g.toNat = tget 0 (s.halt h).gangs g.toNat + 1) ∧
  (∀ (c : BitVec 8) (n : BitVec 4) (g : Nat) (s : State), n ≠ 0 → n.toNat < 8 → s.gangOfCore c.toNat = some g → s.gangState g = 2 → tget 0 s.jct.holds g % 16 = 0 →
      ∃ t, exec (.slip c n) s = .next t ∧ t.out = [] ∧ tget 0 t.jct.wires g = n.toNat ∧
        t.get F.GANG_HOLDS_COUNT 0 g = min (s.get F.GANG_HOLDS_COUNT 0 g + 1) (2 ^ 32 - 1) ∧ t.get F.GANG_STAT_LAST_N 0 g = n.toNat ∧
        t.get F.GANG_HOLD_CYC_COUNT 0 g = min (s.get F.GANG_HOLD_CYC_COUNT 0 g + n.toNat) (2 ^ 32 - 1) ∧ t.gangState g = 2 ∧ t.halts = s.halts) ∧
  (∀ (c : BitVec 8) (n : BitVec 4) (g m : Nat) (s : State), n.toNat < 8 → s.gangOfCore c.toNat = some g → s.gangState g = 2 → m ≠ 0 → m < n.toNat →
      tget 0 s.jct.holds g = s.fclk * 16 + m → ∃ t, exec (.slip c n) s = .next t ∧ t.out = [] ∧ tget 0 t.jct.wires g = n.toNat ∧
        t.get F.GANG_HOLDS_COUNT 0 g = s.get F.GANG_HOLDS_COUNT 0 g ∧ t.get F.GANG_STAT_LAST_N 0 g = n.toNat ∧ t.gangState g = 2) ∧
  (∀ (c : BitVec 8) (n : BitVec 4) (g m : Nat) (s : State), 8 ≤ n.toNat → s.gangOfCore c.toNat = some g → s.gangState g = 2 → m ≠ 0 → m < 16 →
      tget 0 s.jct.holds g = s.fclk * 16 + m → ∃ t, exec (.slip c n) s = .next t ∧ tget 0 t.jct.wires g = 16 ∧ t.gangState g = 3 ∧
        t.get F.GANG_HOLDS_COUNT 0 g = s.get F.GANG_HOLDS_COUNT 0 g - 1 ∧ t.flag F.GANG_STAT_DR_CAUSE 0 g = false) ∧
  (∀ (g n : Nat) (s : State), s.pending = [] → s.su.wInstr.underTest = false → (∀ i < 5, (s.prot i).due = []) → tget 0 s.jct.wires g = n → n ≠ 0 → n ≤ 16 →
      ∃ t, step s = .next t ∧ tget 0 t.jct.wires g = 0 ∧
        ∀ k ∈ s.gangCores g, (if n = 16 then Out.abort (BitVec.ofNat 8 k) else .hold (BitVec.ofNat 8 k) (BitVec.ofNat 4 n)) ∈ t.out) ∧
  (∀ (c : BitVec 8) (n : BitVec 4) (g : Nat) (s : State), 8 ≤ n.toNat → s.gangOfCore c.toNat = some g → s.gangState g = 2 → tget 0 s.jct.holds g % 16 = 0 →
      ∃ t, exec (.slip c n) s = .next t ∧ t.gangState g = 3 ∧ t.get F.GANG_STAT_DR_CORE 0 g = c.toNat ∧ t.get F.GANG_STAT_LAST_N 0 g = n.toNat ∧
        t.flag F.GANG_STAT_DR_CAUSE 0 g = false ∧ t.flag F.GANG_STAT_DR_FORCED 0 g = false ∧ tget 0 t.jct.wires g = 16) ∧
  (∀ (c : BitVec 8) (s : State), ∃ t, exec (.slip c 0) s = .next t ∧ OnlyRegs s t [F.HALT_GANG_SLIP_ZERO.key (c.toNat / 16) 0] ∧
      t.get F.HALT_GANG_SLIP_ZERO (c.toNat / 16) = min (s.get F.HALT_GANG_SLIP_ZERO (c.toNat / 16) + 1) 255) ∧
  (∀ (c : BitVec 8) (n : BitVec 4) (s : State), n ≠ 0 → s.gangOfCore c.toNat = none → ∃ t, exec (.slip c n) s = .next t ∧
      OnlyRegs s t [F.HALT_GANG_SLIP_IGN.key (c.toNat / 16) 0] ∧ t.get F.HALT_GANG_SLIP_IGN (c.toNat / 16) = min (s.get F.HALT_GANG_SLIP_IGN (c.toNat / 16) + 1) 255)

/-- A registration that reaches an object whose value it does not exceed is notified and leaves no entry; else an entry
of that subscriber holds its value. A cancel frees the subscriber's entry. A DONE notification ends every wait of
the halt on the object that the value reaches, with its release in service. A refused registration leaves the waits
and is marked, a script's as a queue's, and a retry clears the mark and registers the lowest value again, for the
script's pavilion where it alone waits. -/
def Obligations.WatchMessages : Prop :=
  (∀ (h : BitVec 4) (x : BitVec 2) (pon : Nat) (e : Word64) (p : BitVec 6) (s : State), s.head? (.halt h) (.stn x) = some (.reg (s.addrOf x.toNat pon) e p) →
      pon < 16384 → s.admits 0x02 (s.slot x.toNat pon).pav x pon = true → p = (s.slot x.toNat pon).pav → (s.slot x.toNat pon).orphan = false →
      ∃ t, exec (.watchRegistration (.halt h) (.stn x)) s = .next t ∧ SlotsBut s t x [] ∧ t.halts = s.halts ∧
        (e.toNat ≤ (s.slot x.toNat pon).val.toNat → (s.slot x.toNat pon).kind ≠ .foldCounter →
          (⟨.stn x, .halt h, .notify (s.addrOf x.toNat pon) (s.slot x.toNat pon).val .done none⟩ : InFlight) ∈ t.net ∧
          ∀ w ∈ (t.mem x.toNat).watches, ¬(w.pon = pon ∧ w.sub = BitVec.ofNat 5 h.toNat)) ∧
        ((s.slot x.toNat pon).val.toNat < e.toNat → (s.admitRow x.toNat p).isSome = true →
          ∃ w ∈ (t.mem x.toNat).watches, w.pon = pon ∧ w.sub = BitVec.ofNat 5 h.toNat ∧ w.exp = e)) ∧
  (∀ (h : BitVec 4) (x : BitVec 2) (pon : Nat) (s : State), s.head? (.halt h) (.stn x) = some (.cancel (s.addrOf x.toNat pon) none) → pon < 16384 →
      (s.slot x.toNat pon).kind ≠ .moved → ∃ t, exec (.watchCancel (.halt h) (.stn x)) s = .next t ∧ SlotsBut s t x [] ∧ t.halts = s.halts ∧
        (t.mem x.toNat).watches = (s.mem x.toNat).watches.filter (fun w => !(w.pon = pon && w.sub = BitVec.ofNat 5 h.toNat))) ∧
  (∀ (src : Part) (h : BitVec 4) (i : Nat) (a : GAddr) (v : Word64) (word : Option Word64) (s : State), s.head? src (.halt h) = some (.notify a v .done word) →
      s.rowsGood = true → waitsOn a (s.wait h.toNat i) = true → (s.wait h.toNat i).exp.toNat ≤ v.toNat → ∃ t, exec (.notification src (.halt h)) s = .next t ∧ (t.wait h.toNat i).v = false ∧
        t.stns = s.stns ∧ (s.su.wInstr.underTest = false → (s.wait h.toNat i).sided = false →
          .release (qCore h.toNat i) (qTag i) .done (if (s.wait h.toNat i).ret then word.getD v else 0) ∈ t.out)) ∧
  (∀ (src : Part) (h : BitVec 4) (i : Nat) (a : GAddr) (v : Word64) (word : Option Word64) (s : State), s.head? src (.halt h) = some (.notify a v .done word) →
      s.rowsGood = true → (∀ e ∈ (s.halt h.toNat).waits, e.1 = i → ¬(waitsOn a e.2 = true ∧ e.2.exp.toNat ≤ v.toNat)) →
      ∃ t, exec (.notification src (.halt h)) s = .next t ∧ t.wait h.toNat i = s.wait h.toNat i) ∧
  (∀ (src : Part) (h : BitVec 4) (i : Nat) (a : GAddr) (e : Word64) (s : State), s.head? src (.halt h) = some (.refusal a e) → s.rowsGood = true → waitsOn a (s.wait h.toNat i) = true →
      ∃ t, exec (.registrationRefusal src (.halt h)) s = .next t ∧ t.wait h.toNat i = { s.wait h.toNat i with refused := true } ∧ t.stns = s.stns ∧ t.regs = s.regs) ∧
  (∀ (h : BitVec 4) (i : Nat) (a : GAddr) (s : State), waitsOn a (s.wait h.toNat i) = true → (s.wait h.toNat i).refused = true →
      ∃ t e p, exec (.watchRegistrationRetry h a) s = .next t ∧ t.wait h.toNat i = { s.wait h.toNat i with refused := false } ∧
        t.net = s.net ++ [⟨.halt h, s.homePart a, .reg a e p⟩] ∧ s.haltLowest h.toNat a = some e ∧ t.stns = s.stns) ∧
  (∀ (src : Part) (h : BitVec 4) (a : GAddr) (e : Word64) (s : State), s.head? src (.halt h) = some (.refusal a e) → s.rowsGood = true →
      (scriptWaits (s.halt h.toNat) a).isSome = true → ∃ t, exec (.registrationRefusal src (.halt h)) s = .next t ∧ (t.halt h.toNat).scriptRefused = true ∧ t.stns = s.stns) ∧
  (∀ (h : BitVec 4) (a : GAddr) (s : State), (s.halt h.toNat).scriptRefused = true → (scriptWaits (s.halt h.toNat) a).isSome = true →
      ∃ t e p, exec (.watchRegistrationRetry h a) s = .next t ∧ (t.halt h.toNat).scriptRefused = false ∧
        t.net = s.net ++ [⟨.halt h, s.homePart a, .reg a e p⟩] ∧ s.haltLowest h.toNat a = some e ∧
        ((s.halt h.toNat).waits = [] → p = s.scriptPav h.toNat))

/-- The acknowledgement of a posted request of the current generation lowers its queue's count of outstanding ones, and
one with a failure is recorded. A completion whose wait register is of its operation and address ends it and
releases the queue with its status; one that no register waits for is counted as late and ends a STALE mark of its
operation and object. The reply to a ticket batch ends the wait of every member and frees the record. -/
def Obligations.AnswersAtTheHalt : Prop :=
  (∀ (src : Part) (h : BitVec 4) (c : BitVec 8) (q : BitVec 5) (rq : HReq) (st : Status) (s : State), s.head? src (.halt h) = some (.ack rq st) → rq.who = .queue h c q →
      s.rowsGood = true → q.toNat < 24 → tget 0 (s.halt h.toNat).unacked (waitIdx c q) ≠ 0 → rq.req.gen = s.gen rq.req.pav → ∃ t, exec (.postedAck src (.halt h)) s = .next t ∧
        tget 0 (t.halt h.toNat).unacked (waitIdx c q) = tget 0 (s.halt h.toNat).unacked (waitIdx c q) - 1 ∧ t.stns = s.stns ∧
        (st ≠ .done → t.get F.HALT_PERR_LAST h.toNat = st.code ∧ t.get F.HALT_PERR_COUNT h.toNat = min (s.get F.HALT_PERR_COUNT h.toNat + 1) 65535)) ∧
  (∀ (src : Part) (h : BitVec 4) (c : BitVec 8) (q : BitVec 5) (rq : HReq) (st : Status) (v aux : Word64) (m : BitVec 9) (s : State),
      s.head? src (.halt h) = some (.compl rq st v aux m) → rq.who = .queue h c q → s.rowsGood = true → rq.req.op ≠ 0x15 → q.toNat < 24 →
      (s.wait h.toNat (waitIdx c q)).v = true → (s.wait h.toNat (waitIdx c q)).stale = false → (s.wait h.toNat (waitIdx c q)).op = rq.req.op →
      (s.wait h.toNat (waitIdx c q)).sided = false → ((s.wait h.toNat (waitIdx c q)).addrV = true → (s.wait h.toNat (waitIdx c q)).addr = rq.addr) →
      ∃ t, exec (.completion src (.halt h)) s = .next t ∧ (t.wait h.toNat (waitIdx c q)).v = false ∧ t.stns = s.stns ∧
        (s.su.wInstr.underTest = false → t.out = [.release (qCore h.toNat (waitIdx c q)) q st
          (if (s.wait h.toNat (waitIdx c q)).ret = true ∨ rq.req.op = 0x04 then v else 0)])) ∧
  (∀ (src : Part) (h : BitVec 4) (c : BitVec 8) (q : BitVec 5) (rq : HReq) (st : Status) (v aux : Word64) (m : BitVec 9) (s : State),
      s.head? src (.halt h) = some (.compl rq st v aux m) → rq.who = .queue h c q → s.rowsGood = true → rq.req.op ≠ 0x15 → rq.req.op ≠ 0x14 →
      (∀ e ∈ (s.halt h.toNat).waits, e.2.v = false) → ∃ t, exec (.completion src (.halt h)) s = .next t ∧ t.out = [] ∧ t.stns = s.stns ∧
        t.get F.PAV_LATE_COUNT 0 rq.req.pav.toNat = min (s.get F.PAV_LATE_COUNT 0 rq.req.pav.toNat + 1) (2 ^ F.PAV_LATE_COUNT.len - 1) ∧
        ((s.wait h.toNat (waitIdx c q)).stale = true → (s.wait h.toNat (waitIdx c q)).op = rq.req.op →
          ((s.wait h.toNat (waitIdx c q)).addrV = true → (s.wait h.toNat (waitIdx c q)).addr = rq.addr) → (t.wait h.toNat (waitIdx c q)).stale = false)) ∧
  (∀ (src : Part) (h : BitVec 4) (c : BitVec 8) (q : BitVec 5) (rq : HReq) (st : Status) (v aux : Word64) (m : BitVec 9) (n : Nat) (s : State),
      s.head? src (.halt h) = some (.compl rq st v aux m) → rq.who = .queue h c q → rq.req.core = c → rq.req.qtag = q → s.rowsGood = true → rq.req.op = 0x15 →
      s.batchOf h.toNat c q false = some n → ∃ t, exec (.completion src (.halt h)) s = .next t ∧ t.stns = s.stns ∧
        tget Batch.init (t.halt h.toNat).batches n = Batch.init ∧
        ∀ b ∈ (tget Batch.init (s.halt h.toNat).batches n).members, (s.wait h.toNat (waitIdx b.1 b.2.1)).stale = false →
          (s.wait h.toNat (waitIdx b.1 b.2.1)).op = 0x14 → (t.wait h.toNat (waitIdx b.1 b.2.1)).v = false)

/-- A wait accepted under LUISK that has stood 64 fclk moves to a free siding of its core, and its queue's register is
free. An age tick raises the age of every wait that the halt times, and of every waiter record. A wait at its
pavilion's limit ends with TIMEOUT, and so does a waiter record, which goes; with no census ring the record is
counted as lost. A stale mark expires at its halt, with its late count, and at the junction. -/
def Obligations.HaltAndWaiterTimers : Prop :=
  (∀ (h : BitVec 4) (reg : BitVec 9) (s : State), (s.wait h.toNat reg.toNat).v = true → reg.toNat < 384 → reg.toNat % 24 < 16 → (s.wait h.toNat reg.toNat).luisk = true →
      (s.wait h.toNat reg.toNat).op ∈ [0x02, 0x09, 0x10] → (s.wait h.toNat (24 * (reg.toNat / 24) + 22)).v = false → (s.wait h.toNat (24 * (reg.toNat / 24) + 22)).stale = false →
      ∃ t, exec (.waitSiding h reg) s = .next t ∧ t.wait h.toNat reg.toNat = WaitReg.init ∧
        t.wait h.toNat (24 * (reg.toNat / 24) + 22) = { s.wait h.toNat reg.toNat with sided := true, homeQ := qTag reg.toNat } ∧ t.regs = s.regs ∧ t.stns = s.stns ∧ t.net = s.net ∧
        (s.su.wInstr.underTest = false → t.out = [.note .siding (qCore h.toNat reg.toNat) (qTag reg.toNat) (BitVec.ofNat 96 0)])) ∧
  (∀ (h : BitVec 4) (i : Nat) (s : State), ∃ t, exec (.haltAgeTick h) s = .next t ∧ t.regs = s.regs ∧ t.stns = s.stns ∧ t.net = s.net ∧
      ((s.wait h.toNat i).v = true → agedByHalt (s.wait h.toNat i).op = true → t.wait h.toNat i = { s.wait h.toNat i with age := ageUp (s.wait h.toNat i).age }) ∧
      (((s.wait h.toNat i).v = false ∨ agedByHalt (s.wait h.toNat i).op = false) → t.wait h.toNat i = s.wait h.toNat i)) ∧
  (∀ (h : BitVec 4) (reg : BitVec 9) (s : State), reg.toNat < 384 → (s.wait h.toNat reg.toNat).v = true → agedByHalt (s.wait h.toNat reg.toNat).op = true → s.waitLimit (s.wait h.toNat reg.toNat).pav ≠ 0 →
      s.waitLimit (s.wait h.toNat reg.toNat).pav ≤ (s.wait h.toNat reg.toNat).age.toNat → ∃ t, exec (.waitTimeout h reg) s = .next t ∧ (t.wait h.toNat reg.toNat).v = false ∧ t.stns = s.stns ∧
        (s.su.wInstr.underTest = false → (s.wait h.toNat reg.toNat).sided = false → .release (qCore h.toNat reg.toNat) (qTag reg.toNat) .timeout 0 ∈ t.out) ∧
        (s.get F.SC_SIZE_N 0 (h.toNat / 4) = 0 → t.ports = s.ports ∧ (t.get F.EVT_STAT_EVT 0x29).testBit 6 = true)) ∧
  (∀ (h : BitVec 4) (reg : BitVec 9) (s : State), (s.wait h.toNat reg.toNat).stale = true → ∃ t, exec (.haltStaleExpiry h reg) s = .next t ∧
      t.wait h.toNat reg.toNat = { s.wait h.toNat reg.toNat with stale := false } ∧ RegsBut s t [F.PAV_LATE_COUNT.key 0 (s.wait h.toNat reg.toNat).pav.toNat] ∧
      t.get F.PAV_LATE_COUNT 0 (s.wait h.toNat reg.toNat).pav.toNat = min (s.get F.PAV_LATE_COUNT 0 (s.wait h.toNat reg.toNat).pav.toNat + 1) (2 ^ F.PAV_LATE_COUNT.len - 1)) ∧
  (∀ (c : BitVec 8) (q : BitVec 5) (s : State), s.jct.remoteStale.any (fun e => e.1 = c.toNat * 32 + q.toNat) = true → s.jct.remoteHeld = [] →
      ∃ t, exec (.junctionStaleExpiry c q) s = .next t ∧ t.jct = { s.jct with remoteStale := s.jct.remoteStale.filter (fun e => e.1 ≠ c.toNat * 32 + q.toNat) } ∧
        t.regs = s.regs ∧ t.stns = s.stns ∧ t.halts = s.halts) ∧
  (∀ (x : BitVec 2) (s : State), ∃ t, exec (.stationAgeTick x) s = .next t ∧ SlotsBut s t x [] ∧ t.regs = s.regs ∧ t.halts = s.halts ∧
      (t.mem x.toNat).waiters = (s.mem x.toNat).waiters.map (fun w => { w with age := ageUp w.age })) ∧
  (∀ (x : BitVec 2) (row : BitVec 13) (w : Waiter) (s : State), (s.mem x.toNat).waiters.find? (fun w => w.row = row.toNat) = some w →
      s.recordLimit w ≠ 0 → s.recordLimit w ≤ w.age.toNat → (s.slot x.toNat w.pon).kind ∉ [.sem, .ticket, .ring] → w.rq.load = none → w.rq.posted = false →
      (∃ h c q, w.rq.who = .queue h c q) → ∃ t v aux m, exec (.waiterTimeout x row) s = .next t ∧ (∀ w' ∈ (t.mem x.toNat).waiters, w'.row ≠ row.toNat) ∧
        SlotsBut s t x [] ∧ (⟨.stn x, w.rq.who.part, .compl w.rq .timeout v aux m⟩ : InFlight) ∈ t.net)

/-- A report for this die frees at its originator the entries of the stream to that home whose SEQ it covers, and no
others; one for another die goes to it in a DUR record. With the last entry of the stream covered the originator
stamps and retains a release. A release at its station drops the originator-table entry that holds the SEQ it
names, and where the ledger is not in use reports its own SEQ at once. -/
def Obligations.DurabilityAndRelease : Prop :=
  (∀ (src dst : Part) (str : BitVec 15) (q : BitVec 8) (home : BitVec 11) (s : State), s.head? src dst = some (.dur str q home) → str.extractLsb' 0 9 = s.dieSrc →
      (∀ h, dst = .halt h → (s.halt h.toNat).ssHeld = []) → ∃ t, exec (.durabilityReport src dst) s = .next t ∧ t.regs = s.regs ∧
        (∀ e ∈ (t.origin dst).ret, e.rel.isNone = true → e ∈ (s.origin dst).ret ∧
          ¬(e.stamped = true ∧ e.home = home ∧ s.streamOf e.rq = str ∧ (q.toNat + 256 - e.seq.toNat) % 256 < 128)) ∧
        (∀ e ∈ (s.origin dst).ret, ¬(e.stamped = true ∧ e.home = home ∧ s.streamOf e.rq = str ∧ (q.toNat + 256 - e.seq.toNat) % 256 < 128) → e ∈ (t.origin dst).ret) ∧
        ((∃ e ∈ (s.origin dst).ret, e.rel.isNone = true ∧ e.stamped = true ∧ e.home = home ∧ s.streamOf e.rq = str ∧ (q.toNat + 256 - e.seq.toNat) % 256 < 128) →
          (∀ e ∈ (s.origin dst).ret, e.stamped = true → e.home = home → s.streamOf e.rq = str → (q.toNat + 256 - e.seq.toNat) % 256 < 128) →
          ∃ e ∈ (t.origin dst).ret, e.rel.isSome = true ∧ e.home = home ∧ e.seq = (s.origin dst).seq + 1)) ∧
  (∀ (src : Part) (str : BitVec 15) (q : BitVec 8) (home : BitVec 11) (s : State), s.head? src .jct = some (.dur str q home) → str.extractLsb' 0 9 ≠ s.dieSrc →
      ∃ t f, exec (.durabilityReport src .jct) s = .next t ∧ t.jct.txq = s.jct.txq ++ [f] ∧ f.peer = str.extractLsb' 0 9 ∧
        f.recs = [recDur q (streamTag str).1 (streamTag str).2] ∧ t.regs = s.regs ∧ t.halts = s.halts ∧ t.stns = s.stns) ∧
  (∀ (src : Part) (x : BitVec 2) (str : BitVec 15) (q p : BitVec 8) (s : State), s.head? src (.stn x) = some (.release str q p) →
      ∃ t, exec (.originRelease src (.stn x)) s = .next t ∧ t.regs = s.regs ∧ SlotsBut s t x [] ∧
        (tget 0 (s.mem x.toNat).origins str.toNat = p.toNat + 1 → tget 0 (t.mem x.toNat).origins str.toNat = 0) ∧
        (tget 0 (s.mem x.toNat).origins str.toNat ≠ p.toNat + 1 → tget 0 (t.mem x.toNat).origins str.toNat = tget 0 (s.mem x.toNat).origins str.toNat) ∧
        (s.unprot (.stn x) = true → (⟨.stn x, src, .dur str q (aHome (s.addrOf x.toNat 0))⟩ : InFlight) ∈ t.net) ∧
        (s.unprot (.stn x) = false → (str, q) ∈ (t.stn x.toNat).streams))

/-- A frame whose check is bad is discarded: counted in JL_BAD with its event, and nothing else. So is a sequenced
frame whose SEQ is not the one expected; one that comes before it is acknowledged again. A frame on a channel that
the junction does not take is no event. This holds for every row of frames and records. -/
def Obligations.FramesAreCheckedInOrder : Prop :=
  (∀ (c : Instr) (k : Nat) (f : Line) (pos : BitVec 16) (s : State), (c, k) ∈ [(Instr.reqRecord f pos, 1), (.cplRecord f, 2), (.regRecord f, 3), (.canRecord f, 4), (.ntfRecord f, 5), (.durRecord f, 7), (.noteRecord f, 8), (.rfsRecord f, 9), (.rlsRecord f pos, 10), (.beatFrame f, 16), (.partFrame f, 17), (.ctrlFrame f, 18), (.resync f, 19)] → s.stopped .jct = false → s.parked = false → fGood f = false →
      ∃ t, exec c s = .next t ∧ t.out = [] ∧ OnlyRegs s t [F.JL_BAD_COUNT.key 0 0, F.EVT_STAT_EVT.key 1 0] ∧ t.get F.JL_BAD_COUNT = min (s.get F.JL_BAD_COUNT + 1) (2 ^ F.JL_BAD_COUNT.len - 1) ∧ (t.get F.EVT_STAT_EVT 1).testBit 4 = true) ∧
  (∀ (c : Instr) (k : Nat) (f : Line) (pos : BitVec 16) (s : State), (c, k) ∈ [(Instr.reqRecord f pos, 1), (.cplRecord f, 2), (.regRecord f, 3), (.canRecord f, 4), (.ntfRecord f, 5), (.durRecord f, 7), (.noteRecord f, 8), (.rfsRecord f, 9), (.rlsRecord f pos, 10), (.beatFrame f, 16), (.partFrame f, 17), (.ctrlFrame f, 18), (.resync f, 19)] → s.stopped .jct = false → s.parked = false → fGood f = true → fDst f = s.dieSrc → fKind f = some k → s.rxReady (fVc f) = true → fVc f ≠ 3 → fSeq f ≠ tget 0 s.jct.rxSeq (peerVc (fSrc f) (fVc f)) →
      (tget 0 s.jct.rxSeq (peerVc (fSrc f) (fVc f)) + 65536 - fSeq f) % 65536 ≤ 32768 → ∃ t, exec c s = .next t ∧ t.out = [] ∧ t.get F.JL_BAD_COUNT = min (s.get F.JL_BAD_COUNT + 1) (2 ^ F.JL_BAD_COUNT.len - 1) ∧ (t.get F.EVT_STAT_EVT 1).testBit 4 = true ∧ (fSrc f, fVc f) ∈ t.jct.acks ∧
        t.halts = s.halts ∧ t.stns = s.stns ∧ t.net = s.net ∧ t.jct.rxSeq = s.jct.rxSeq ∧ t.jct.proxies = s.jct.proxies ∧ t.jct.txq = s.jct.txq) ∧
  (∀ (c : Instr) (k : Nat) (f : Line) (pos : BitVec 16) (s : State), (c, k) ∈ [(Instr.reqRecord f pos, 1), (.cplRecord f, 2), (.regRecord f, 3), (.canRecord f, 4), (.ntfRecord f, 5), (.durRecord f, 7), (.noteRecord f, 8), (.rfsRecord f, 9), (.rlsRecord f pos, 10), (.beatFrame f, 16), (.partFrame f, 17), (.ctrlFrame f, 18), (.resync f, 19)] → s.stopped .jct = false → s.parked = false → fGood f = true → fDst f = s.dieSrc → fKind f = some k → s.rxReady (fVc f) = true → fVc f ≠ 3 →
      32768 < (tget 0 s.jct.rxSeq (peerVc (fSrc f) (fVc f)) + 65536 - fSeq f) % 65536 → ∃ t, exec c s = .next t ∧ t.out = [] ∧ OnlyRegs s t [F.JL_BAD_COUNT.key 0 0, F.EVT_STAT_EVT.key 1 0] ∧ t.get F.JL_BAD_COUNT = min (s.get F.JL_BAD_COUNT + 1) (2 ^ F.JL_BAD_COUNT.len - 1) ∧ (t.get F.EVT_STAT_EVT 1).testBit 4 = true) ∧
  (∀ (c : Instr) (k : Nat) (f : Line) (pos : BitVec 16) (s : State), (c, k) ∈ [(Instr.reqRecord f pos, 1), (.cplRecord f, 2), (.regRecord f, 3), (.canRecord f, 4), (.ntfRecord f, 5), (.durRecord f, 7), (.noteRecord f, 8), (.rfsRecord f, 9), (.rlsRecord f pos, 10), (.beatFrame f, 16), (.partFrame f, 17), (.ctrlFrame f, 18), (.resync f, 19)] → s.stopped .jct = false → s.parked = false → fGood f = true → fDst f = s.dieSrc → fKind f = some k → s.rxReady (fVc f) = false →
      ∃ t, exec c s = .next t ∧ t.out = [] ∧ OnlyRegs s t [])

/-- Of a frame that the junction takes, with one record: an imported SIG request adds to its COUNTER and is answered to
the junction; a completion of a queue goes to its halt; a registration for a pavilion that is the object's makes or
sets the die's entry, one for another is refused with DENIED, and a cancel frees the entry; a notification reaches
every local subscriber whose value it reaches and frees the entry; a durability record goes to the part that
retains the request; a notice is driven to the core's scheduler; a refusal with RETRY marks the chain for another
registration; a release drops the originator-table entry that it names. Each frame is counted and acknowledged, and
the credit of one forwarded whole falls due. -/
def Obligations.RecordsOfOtherDies : Prop :=
  (∀ (f : Line) (r : BitVec 128) (pos : BitVec 16) (p : BitVec 6) (x : BitVec 2) (pon : Nat) (s : State), s.takesFrame f 1 = true → fRecs f = [r] → recBits r 124 4 = 1 → s.importPav (fSrc f) (recBits r 103 6) = some p → s.pavFrozen p = false → (s.importReq (fSrc f) r p (fReplay f)).req.op = 0x01 →
      (s.importReq (fSrc f) r p (fReplay f)).addr = s.addrOf x.toNat pon → pon < 16384 → s.admits 0x01 p x pon = true → s.isReplayDone x.toNat (s.importReq (fSrc f) r p (fReplay f)) = false → (s.importReq (fSrc f) r p (fReplay f)).req.operand ≠ 0 →
      (s.slot x.toNat pon).val.toNat + (s.importReq (fSrc f) r p (fReplay f)).req.operand.toNat < 2 ^ 64 → (∀ e ∈ (s.mem x.toNat).boundList, e.1 ≠ pon) → ∃ t, exec (.reqRecord f pos) s = .next t ∧ FrameTaken s t f ∧
        (t.slot x.toNat pon).val = (s.slot x.toNat pon).val + (s.importReq (fSrc f) r p (fReplay f)).req.operand ∧ (t.slot x.toNat pon).lastSrc = BitVec.ofNat 16 (0x8000 + (fSrc f).toNat) ∧
        ∃ m, (⟨.stn x, .jct, m⟩ : InFlight) ∈ t.net ∧ m = if (s.importReq (fSrc f) r p (fReplay f)).posted then .ack (s.importReq (fSrc f) r p (fReplay f)) .done else .compl (s.importReq (fSrc f) r p (fReplay f)) .done ((s.slot x.toNat pon).val + (s.importReq (fSrc f) r p (fReplay f)).req.operand) 0 0) ∧
  (∀ (f : Line) (r : BitVec 128) (s : State), s.takesFrame f 2 = true → fRecs f = [r] → recBits r 124 4 = 2 → recBits r 85 5 < 24 → recBits r 68 1 = 0 → s.jct.remoteStale.find? (fun e => e.1 = recBits r 77 8 * 32 + recBits r 85 5) = none → ∃ t, exec (.cplRecord f) s = .next t ∧ FrameTaken s t f ∧
        t.net = s.net ++ [⟨.jct, tagHome (BitVec.ofNat 8 (recBits r 77 8)) (BitVec.ofNat 5 (recBits r 85 5)), .remoteAnswer (BitVec.ofNat 8 (recBits r 77 8))
          (BitVec.ofNat 5 (recBits r 85 5)) false (BitVec.ofNat 8 (recBits r 69 8)) (Status.ofCode (recBits r 64 4)) (BitVec.ofNat 64 (recBits r 0 64)) (BitVec.ofNat 9 (recBits r 98 9))⟩] ∧
        t.halts = s.halts ∧ t.stns = s.stns) ∧
  (∀ (f : Line) (r : BitVec 128) (p : BitVec 6) (s : State), s.takesFrame f 3 = true → fRecs f = [r] → recBits r 124 4 = 3 → s.importPav (fSrc f) (recBits r 89 6) = some p → s.pavFrozen p = false → (s.slot (aStn (s.resolve (BitVec.ofNat 25 (recBits r 64 25)) moveFuel)).toNat (aPon (s.resolve (BitVec.ofNat 25 (recBits r 64 25)) moveFuel))).pav = p →
      (s.jct.proxies.any (fun e => !e.far && e.addr = BitVec.ofNat 25 (recBits r 64 25) && e.peer = fSrc f) = true ∨ (s.proxyRow p).isSome = true) → ∃ t, exec (.regRecord f) s = .next t ∧ FrameTaken s t f ∧
        ∃ e ∈ t.jct.proxies, e.far = false ∧ e.addr = BitVec.ofNat 25 (recBits r 64 25) ∧ e.peer = fSrc f ∧ e.exp = BitVec.ofNat 64 (recBits r 0 64)) ∧
  (∀ (f : Line) (r : BitVec 128) (p : BitVec 6) (s : State), s.takesFrame f 3 = true → fRecs f = [r] → recBits r 124 4 = 3 → s.importPav (fSrc f) (recBits r 89 6) = some p → s.pavFrozen p = false → (s.slot (aStn (s.resolve (BitVec.ofNat 25 (recBits r 64 25)) moveFuel)).toNat (aPon (s.resolve (BitVec.ofNat 25 (recBits r 64 25)) moveFuel))).pav ≠ p → kindAccepts (s.slot (aStn (s.resolve (BitVec.ofNat 25 (recBits r 64 25)) moveFuel)).toNat (aPon (s.resolve (BitVec.ofNat 25 (recBits r 64 25)) moveFuel))).kind 2 = true → ∃ t, exec (.regRecord f) s = .next t ∧ FrameTaken s t f ∧
        t.jct.proxies = s.jct.proxies ∧ t.stns = s.stns ∧ ∃ x ∈ t.jct.txq, x.peer = fSrc f ∧ x.vc = 1 ∧ x.recs = [recRfs (BitVec.ofNat 25 (recBits r 64 25)) .denied]) ∧
  (∀ (f : Line) (r : BitVec 128) (s : State), s.takesFrame f 4 = true → fRecs f = [r] → recBits r 124 4 = 4 → ∃ t, exec (.canRecord f) s = .next t ∧ FrameTaken s t f ∧ (∀ e ∈ t.jct.proxies, e ∈ s.jct.proxies ∧ ¬(e.far = false ∧ e.addr = BitVec.ofNat 25 (recBits r 64 25) ∧ e.peer = fSrc f)) ∧
        ∀ e ∈ s.jct.proxies, ¬(e.far = false ∧ e.addr = BitVec.ofNat 25 (recBits r 64 25) ∧ e.peer = fSrc f) → e ∈ t.jct.proxies) ∧
  (∀ (f : Line) (r : BitVec 128) (e : Proxy) (s : State), s.takesFrame f 5 = true → fRecs f = [r] → recBits r 124 4 = 5 → recBits r 89 4 = 0 → recBits r 93 1 = 0 → e ∈ s.farChain (BitVec.ofNat 25 (recBits r 64 25)) → e.exp.toNat ≤ recBits r 0 64 → e.peer.toNat ≠ 16 → ∃ t, exec (.ntfRecord f) s = .next t ∧ FrameTaken s t f ∧
        (⟨.jct, .halt (BitVec.ofNat 4 e.peer.toNat), .notify (BitVec.ofNat 25 (recBits r 64 25)) (BitVec.ofNat 64 (recBits r 0 64)) .done none⟩ : InFlight) ∈ t.net ∧
        (s.boxWaitsOn (BitVec.ofNat 25 (recBits r 64 25)) = [] → e ∉ t.jct.proxies)) ∧
  (∀ (f : Line) (r : BitVec 128) (e : Retained) (s : State), s.takesFrame f 7 = true → fRecs f = [r] → recBits r 124 4 = 7 → (s.origin (tagHome (BitVec.ofNat 8 (recBits r 8 8)) (BitVec.ofNat 5 (recBits r 16 5)))).ret.find?
        (fun e => e.stamped && e.seq = BitVec.ofNat 8 (recBits r 0 8) && aSrc e.rq.addr ≠ s.dieSrc) = some e → (∃ h c q, e.rq.who = .queue h c q) → ∃ t, exec (.durRecord f) s = .next t ∧ FrameTaken s t f ∧
        t.net = s.net ++ [⟨.jct, tagHome (BitVec.ofNat 8 (recBits r 8 8)) (BitVec.ofNat 5 (recBits r 16 5)), .dur (s.streamOf e.rq) (BitVec.ofNat 8 (recBits r 0 8)) e.home⟩]) ∧
  (∀ (f : Line) (r : BitVec 128) (s : State), s.takesFrame f 8 = true → fRecs f = [r] → recBits r 124 4 = 8 → s.su.wInstr.underTest = false → ∃ t, exec (.noteRecord f) s = .next t ∧ FrameTaken s t f ∧ t.out = [.note (if recBits r 0 1 = 1 then .revert else .inherit) (BitVec.ofNat 8 (recBits r 28 8))
        (BitVec.ofNat 5 (recBits r 36 5)) (BitVec.ofNat 96 (recBits r 1 27))] ∧ t.halts = s.halts ∧ t.stns = s.stns ∧ t.net = s.net ∧
        ∀ k, creditClass (fVc f) = some k → tget 0 t.jct.creditsDue ((fSrc f).toNat * 2 + k) = tget 0 s.jct.creditsDue ((fSrc f).toNat * 2 + k) + 1) ∧
  (∀ (f : Line) (r : BitVec 128) (s : State), s.takesFrame f 9 = true → fRecs f = [r] → recBits r 124 4 = 9 → recBits r 89 4 = 9 → ∃ t, exec (.rfsRecord f) s = .next t ∧ FrameTaken s t f ∧ t.net = s.net ∧ t.jct.proxies = s.jct.proxies ∧
        ∀ hd ∈ s.jct.farHeads, hd.addr = BitVec.ofNat 25 (recBits r 64 25) → { hd with retry := true } ∈ t.jct.farHeads) ∧
  (∀ (f : Line) (r : BitVec 128) (pos : BitVec 16) (s : State), s.takesFrame f 10 = true → fRecs f = [r] → recBits r 124 4 = 10 →
      let str : BitVec 15 := BitVec.ofNat 15 ((fSrc f).toNat + tagPart (BitVec.ofNat 8 (recBits r 16 8)) (BitVec.ofNat 5 (recBits r 24 5)) * 2 ^ 9 + recBits r 29 1 * 2 ^ 14)
      ∃ t, exec (.rlsRecord f pos) s = .next t ∧ FrameTaken s t f ∧ (tget 0 (s.mem (recBits r 30 2)).origins str.toNat = (BitVec.ofNat 8 (recBits r 8 8)).toNat + 1 →
        tget 0 (t.mem (recBits r 30 2)).origins str.toNat = 0) ∧ t.halts = s.halts)

/-- The first frame of a beat or of a partial that is not whole is kept for its source; the frame that makes a beat
whole ends the gathering. A CTRL frame acknowledges the retained frames up to its ACK_SEQ on its channel. A RESYNC
sets both sequence numbers of every channel of that die to 0, and every frame retained for it is queued again to be
numbered anew. -/
def Obligations.BulkAndControlFrames : Prop :=
  (∀ (f : Line) (s : State), s.takesFrame f 16 = true → fType f = 2 → recBits ((fRecs f).headD 0) 57 1 = 0 →
      ∃ t, exec (.beatFrame f) s = .next t ∧ FrameTaken s t f ∧ tget [] t.jct.rxPart (fSrc f).toNat = 2 :: fRecs f ∧ t.net = s.net ∧ t.stns = s.stns) ∧
  (∀ (f : Line) (l : List (BitVec 128)) (s : State), s.takesFrame f 16 = true → fType f = 3 → tget [] s.jct.rxPart (fSrc f).toNat = 2 :: l →
      5 ≤ l.length + (fRecs f).length → ∃ t, exec (.beatFrame f) s = .next t ∧ FrameTaken s t f ∧ tget [] t.jct.rxPart (fSrc f).toNat = []) ∧
  (∀ (f : Line) (s : State), s.takesFrame f 17 = true → fType f = 4 → (fRecs f).length < 1 + partRecs ((fRecs f).headD 0) →
      ∃ t, exec (.partFrame f) s = .next t ∧ FrameTaken s t f ∧ tget [] t.jct.rxPart (fSrc f).toNat = 4 :: fRecs f ∧ t.net = s.net ∧ t.stns = s.stns) ∧
  (∀ (f : Line) (s : State), s.linkHears = true → fDst f = s.dieSrc → fGood f = true → fKind f = some 18 → f.getLsbD 467 = true → ∃ t, exec (.ctrlFrame f) s = .next t ∧ t.net = s.net ∧ t.stns = s.stns ∧ t.halts = s.halts ∧
        t.get F.JL_RX_COUNT = (s.get F.JL_RX_COUNT + 1) % 2 ^ 32 ∧
        ∀ e ∈ t.jct.retained, e.peer = fSrc f → e.vc = f.extractLsb' 464 3 → ∀ q, e.seq = some q →
          ((f.extractLsb' 448 16).toNat + 65536 - q.toNat) % 65536 < 32768 → e.acked = true ∧ e.own ≠ []) ∧
  (∀ (f : Line) (s : State), s.stopped .jct = false → s.parked = false → fDst f = s.dieSrc → fGood f = true → fKind f = some 19 → f.getLsbD 467 = false → ∃ t, exec (.resync f) s = .next t ∧
        (∀ vc, tget 0 t.jct.txSeq (peerVc (fSrc f) vc) = 0 ∧ tget 0 t.jct.rxSeq (peerVc (fSrc f) vc) = 0) ∧ (∀ e ∈ t.jct.retained, e.peer ≠ fSrc f) ∧
        ∀ e ∈ s.jct.retained, e.peer = fSrc f → { e with seq := none, acked := false } ∈ t.jct.txq)

/-- With a frame waiting that has credit and a retention entry, LINK_TX_READY hands it over, numbered and retained;
without credit nothing is sent. A resend time-out queues every unacknowledged frame of the channel again; an idle
timer with an acknowledgement due queues a CTRL frame; a link reset is counted, logged and resends; no route to a
die ends every frame retained for it. Confirmation of the frame at the head of its hold queue forwards it and its
credit falls due; of another it waits. A failed commitment of the head is counted, and answers its requests and
releases with DENIED. A refused far registration is sent again, one of the junction's own waits is kept for that,
and a home notification goes to every die whose value it reaches. -/
def Obligations.LinkEvents : Prop :=
  (∀ (e : TxFrame) (rest : List TxFrame) (s : State), s.jct.txq = e :: rest → s.hasCredit e = true → s.hasRoom e = true → e.seq = none → e.vc ≠ 3 → e.recs.length ≤ 3 →
      tget 0 s.jct.txSeq (peerVc e.peer e.vc) < 65536 → s.su.wInstr.underTest = false → ∃ t f, exec (.linkTxReady e.vc) s = .next t ∧ t.out = [.frame e.vc f] ∧
        fDst f = e.peer ∧ fSrc f = s.dieSrc ∧ fSeq f = tget 0 s.jct.txSeq (peerVc e.peer e.vc) ∧ t.jct.txq = rest ∧
        t.jct.retained = s.jct.retained ++ [{ e with seq := some (BitVec.ofNat 16 (tget 0 s.jct.txSeq (peerVc e.peer e.vc))) }] ∧
        tget 0 t.jct.txSeq (peerVc e.peer e.vc) = (tget 0 s.jct.txSeq (peerVc e.peer e.vc) + 1) % 65536 ∧ t.halts = s.halts ∧ t.stns = s.stns) ∧
  (∀ (e : TxFrame) (s : State), s.jct.txq = [e] → s.hasCredit e = false → ∃ t, exec (.linkTxReady e.vc) s = .next t ∧ t.out = [] ∧ OnlyRegs s t []) ∧
  (∀ (die : BitVec 9) (vc : BitVec 3) (s : State), ∃ t, exec (.frameResendTimeout die vc) s = .next t ∧ t.regs = s.regs ∧ t.stns = s.stns ∧ t.halts = s.halts ∧
        (∀ e ∈ s.jct.retained, e.peer = die → e.vc = vc → e.acked = false → e ∈ t.jct.txq) ∧ t.jct.retained = s.jct.retained ∧
        ∀ e ∈ s.jct.txq, ¬(e.peer = die ∧ e.vc = vc) → e ∈ t.jct.txq) ∧
  (∀ (die : BitVec 9) (s : State), s.jct.pool = [] → (s.jct.acks.any (fun e => e.1 = die) = true ∨ tget 0 s.jct.creditsDue (die.toNat * 2) ≠ 0 ∨ tget 0 s.jct.creditsDue (die.toNat * 2 + 1) ≠ 0) →
      ∃ t, exec (.ackIdleTimer die) s = .next t ∧ t.jct = { s.jct with txq := s.jct.txq ++ [⟨die, 3, 0, [], false, none, [], false⟩] } ∧ t.regs = s.regs ∧ t.stns = s.stns) ∧
  (∀ (die : BitVec 9) (s : State), ∃ t, exec (.linkReset die) s = .next t ∧ t.get F.JL_STAT_RESETS = min (s.get F.JL_STAT_RESETS + 1) (2 ^ F.JL_STAT_RESETS.len - 1) ∧
        (t.get F.EVT_STAT_EVT 1).testBit 0 = true ∧ (∃ e ∈ t.jct.faults, e.cls = 9 ∧ e.part = 21 ∧ e.num = s.jct.faultNo) ∧ t.jct.faultNo = s.jct.faultNo + 1 ∧
        ∀ e ∈ s.jct.retained, e.peer = die → e.acked = false → e ∈ t.jct.txq) ∧
  (∀ (die : BitVec 9) (s : State), ∃ t, exec (.linkNoRoute die) s = .next t ∧ (∀ e ∈ t.jct.retained, e.peer ≠ die) ∧
        (∀ e ∈ s.jct.retained, e.peer ≠ die → e ∈ t.jct.retained) ∧ ∀ vc, tget 0 t.jct.txSeq (peerVc die vc) = 0) ∧
  (∀ (h : HeldFrame) (s : State), s.jct.held = [h] → h.failed = false → ∃ t, exec (.linkCommitConfirm h.vc h.pos) s = .next t ∧ t.jct.held = [] ∧
        tget 0 t.jct.creditsDue (h.src.toNat * 2) = tget 0 s.jct.creditsDue (h.src.toNat * 2) + h.credits) ∧
  (∀ (h : HeldFrame) (rest : List HeldFrame) (pos : BitVec 16) (s : State), s.jct.held = h :: rest → h.confirmed = false → h.failed = false → pos ≠ h.pos →
      ∃ t, exec (.linkCommitConfirm h.vc pos) s = .next t ∧ t.jct.held.length = s.jct.held.length ∧ t.regs = s.regs ∧ t.net = s.net ∧ t.stns = s.stns) ∧
  (∀ (h : HeldFrame) (r : BitVec 128) (s : State), s.jct.held.find? (fun x => x.vc = h.vc) = some h → r ∈ h.recs → (recBits r 124 4 = 1 ∨ recBits r 124 4 = 10) →
      ∃ t, exec (.linkCommitFail h.vc h.pos) s = .next t ∧ t.get F.JL_FOL_ERR_COUNT = min (s.get F.JL_FOL_ERR_COUNT + 1) (2 ^ F.JL_FOL_ERR_COUNT.len - 1) ∧
        (t.get F.EVT_STAT_EVT 1).testBit 2 = true ∧ ∃ e ∈ t.jct.txq, ∃ p q c g i, e.peer = h.src ∧ e.vc = 1 ∧ e.recs = [recCpl 0 .denied p q c g i]) ∧
  (∀ (a : GAddr) (hd : FarHead) (e : Word64) (s : State), hd ∈ s.jct.farHeads → hd.addr = a → hd.retry = true → lowestExp (s.farChain a) = some e →
      ∃ t, exec (.proxyRegRetry a) s = .next t ∧ (∃ x ∈ t.jct.txq, ∃ p, x.peer = aSrc a ∧ x.recs = [recReg a e p]) ∧ (∀ h ∈ t.jct.farHeads, h.addr = a → h.retry = false) ∧
        t.regs = s.regs ∧ t.stns = s.stns) ∧
  (∀ (src : Part) (a : GAddr) (v : Word64) (st : Status) (word : Option Word64) (e : Proxy) (s : State), s.head? src .jct = some (.notify a v st word) → s.epochOf a v st = false → s.rowsGood = true →
      e ∈ s.jct.proxies → e.far = false → e.loc = a → (st ≠ .done ∨ e.exp.toNat ≤ v.toNat) → ∃ t, exec (.junctionNotification src .jct) s = .next t ∧
        (∃ x ∈ t.jct.txq, x.peer = e.peer ∧ x.vc = 1 ∧ x.recs.head? = some (recNtf e.addr v st word.isSome)) ∧ e ∉ t.jct.proxies) ∧
  (∀ (src : Part) (a : GAddr) (e : Word64) (s : State), s.head? src .jct = some (.refusal a e) → ∃ t, exec (.registrationRefusal src .jct) s = .next t ∧
        a ∈ t.jct.homeRefused ∧ t.stns = s.stns ∧ t.halts = s.halts ∧ t.regs = s.regs)

/-- The host takes the request presented with a tag of its direction that no outstanding request has; a lock's write
waits while an earlier write of the same lock is outstanding (05 R148), and a failed one goes in front of the later
writes of its lock. A completion frees its tag; one that no request holds changes nothing. A failed write is
presented again up to three times; after that a failed MLOCK write enters MEM_WR in the fault log. A read of a
pavilion job with others outstanding leaves its line and counts down. -/
def Obligations.MemoryPorts : Prop :=
  (∀ (p : BitVec 3) (r : MemReq) (rest : List MemReq) (s : State), (s.port p.toNat).queue = r :: rest → (s.port p.toNat).blocked r = false → s.su.wInstr.underTest = false →
      (∃ g : BitVec 7, g.getLsbD 6 = !r.wr ∧ ∀ x ∈ (s.port p.toNat).taken, x.tag ≠ g) → ∃ t g, exec (.memoryRequestTaken p) s = .next t ∧ g.getLsbD 6 = !r.wr ∧
        (∀ x ∈ (s.port p.toNat).taken, x.tag ≠ g) ∧ (t.port p.toNat).queue = rest ∧ (t.port p.toNat).taken = (s.port p.toNat).taken ++ [{ r with tag := g }] ∧
        t.out = [.memory p r.wr r.line g (if r.wr then r.be else 0) (if r.wr then r.data else 0)] ∧ t.regs = s.regs ∧ t.stns = s.stns ∧ t.halts = s.halts) ∧
  (∀ (p : BitVec 3) (s : State), (∀ r ∈ (s.port p.toNat).queue, ∃ x pon, r.why = .mlock x pon ∧ ∃ q ∈ (s.port p.toNat).taken, q.why = r.why) →
      ∃ t, exec (.memoryRequestTaken p) s = .next t ∧ OnlyRegs s t [] ∧ t.ports = s.ports ∧ t.out = []) ∧
  (∀ (p : BitVec 3) (tag : BitVec 7) (err : Bool) (d : Line) (s : State), (s.port p.toNat).taken.find? (fun x => x.tag = tag) = none → s.su.step = 7 → s.su.ready = true →
      s.get F.PW_PARK_CTL_STATE ∉ [2, 3, 4] → ∃ t, exec (.memoryCompletion p tag err d) s = .next t ∧ OnlyRegs s t [] ∧ t.out = []) ∧
  (∀ (p : BitVec 3) (tag : BitVec 7) (d : Line) (r : MemReq) (s : State), (s.port p.toNat).taken.find? (fun x => x.tag = tag) = some r → s.su.step ≠ 5 → r.wr = true → r.tries < 3 → r.why.write.isSome = true →
      (∀ x pon, r.why ≠ .mlock x pon) → ∃ t, exec (.memoryCompletion p tag true d) s = .next t ∧ (t.port p.toNat).queue = (s.port p.toNat).queue.take 1 ++ [{ r with tries := r.tries + 1 }] ++ (s.port p.toNat).queue.drop 1 ∧
        (t.port p.toNat).taken = (s.port p.toNat).taken.filter (fun x => x.tag ≠ tag) ∧ t.stns = s.stns ∧ t.halts = s.halts ∧ t.jct = s.jct ∧ t.ledgers = s.ledgers) ∧
  (∀ (p : BitVec 3) (tag : BitVec 7) (d : Line) (r : MemReq) (x pon : Nat) (s : State), (s.port p.toNat).taken.find? (fun x => x.tag = tag) = some r → s.su.step ≠ 5 → r.wr = true → r.tries < 3 → r.why = .mlock x pon →
      ∃ t i, exec (.memoryCompletion p tag true d) s = .next t ∧ (t.port p.toNat).queue = (s.port p.toNat).queue.take i ++ [{ r with tries := r.tries + 1 }] ++ (s.port p.toNat).queue.drop i ∧
        (∀ q ∈ (s.port p.toNat).queue.take i, q.why ≠ r.why) ∧
        (t.port p.toNat).taken = (s.port p.toNat).taken.filter (fun x => x.tag ≠ tag) ∧ t.stns = s.stns ∧ t.halts = s.halts ∧ t.jct = s.jct ∧ t.ledgers = s.ledgers) ∧
  (∀ (p : BitVec 3) (tag : BitVec 7) (d : Line) (r : MemReq) (x pon : Nat) (s : State), (s.port p.toNat).taken.find? (fun x => x.tag = tag) = some r → s.su.step ≠ 5 → r.wr = true → 3 ≤ r.tries → r.why = .mlock x pon →
      p.toNat < 4 → ∃ t, exec (.memoryCompletion p tag true d) s = .next t ∧ (t.port p.toNat).queue = (s.port p.toNat).queue ∧ (t.port p.toNat).taken = (s.port p.toNat).taken.filter (fun x => x.tag ≠ tag) ∧
        (∃ e ∈ t.jct.faults, e.cls = 7 ∧ e.part.toNat = p.toNat ∧ e.num = s.jct.faultNo ∧ e.detail.toNat = 2 + r.line.toNat * 64 % 2 ^ 32 / 2 ^ 8 * 2 ^ 8) ∧
        t.stns = s.stns ∧ t.halts = s.halts) ∧
  (∀ (p : BitVec 3) (tag : BitVec 7) (d : Line) (r : MemReq) (s : State), (s.port p.toNat).taken.find? (fun x => x.tag = tag) = some r → s.su.step ≠ 5 → r.wr = true → (∃ k, r.why = .census k) →
      ∃ t, exec (.memoryCompletion p tag false d) s = .next t ∧ (t.port p.toNat).queue = (s.port p.toNat).queue ∧ (t.port p.toNat).taken = (s.port p.toNat).taken.filter (fun x => x.tag ≠ tag) ∧
        t.stns = s.stns ∧ t.halts = s.halts ∧ t.jct = s.jct ∧ t.jobs = s.jobs) ∧
  (∀ (p : BitVec 3) (tag : BitVec 7) (err : Bool) (d : Line) (r : MemReq) (l : Nat) (j : Job) (s : State), (s.port p.toNat).taken.find? (fun x => x.tag = tag) = some r → s.su.step ≠ 5 → r.wr = false → r.why = .job 0 l →
      s.job 0 = some j → 2 ≤ j.left → ∃ t, exec (.memoryCompletion p tag err d) s = .next t ∧
        t.job 0 = some { j with left := j.left - 1, bad := j.bad || err, lines := if err then j.lines else tput j.lines (l, d) } ∧
        t.stns = s.stns ∧ t.halts = s.halts ∧ t.jct = s.jct)

/-- GATE is refused for a retired, waking, warm or unsaved bank with its code, and else gates it; WAKE begins the wake
of a gated bank and counts it; a bank that has stayed cold and saved is gated if AUTO is set; a wake that ends sets
its event; CLR_HIGH clears the high-water mark of the wake queue. -/
def Obligations.FoldBankPower : Prop :=
  (∀ (w : Word32) (s : State), s.cfgOpen 0x2A 0x054 = true → wbit w 1 = false → ∃ t, exec (.foldBankGate w) s = .next t ∧ CfgAnswered s t ∧
      OnlyRegs s t [F.PW_FB_CTL_ERR.key 0 0, F.PW_FB_CTL_CODE.key 0 0, F.PW_FB_CTL_AUTO.key 0 s.fbStn, F.PW_FB_STAT_GATED.key 0 s.fbStn] ∧ t.flag F.PW_FB_CTL_AUTO 0 s.fbStn = wbit w 2 ∧
      t.get F.PW_FB_CTL_CODE = (if (s.stn s.fbStn).retiredBanks.contains s.fbBank then 3 else if s.waking s.fbStn s.fbBank then 4
        else if !s.bankCold s.fbStn s.fbBank then 1 else if !s.bankSaved s.fbStn s.fbBank then 2 else 0) ∧
      (t.flag F.PW_FB_CTL_ERR = true ↔ t.get F.PW_FB_CTL_CODE ≠ 0) ∧
      ∀ b, t.gated s.fbStn b = (s.gated s.fbStn b || (decide (t.get F.PW_FB_CTL_CODE = 0) && decide (b = s.fbBank)))) ∧
  (∀ (w : Word32) (s : State), s.cfgOpen 0x2A 0x054 = true → wbit w 0 = false → ∃ t, exec (.foldBankWake w) s = .next t ∧ CfgAnswered s t ∧
      OnlyRegs s t [F.PW_FB_CTL_ERR.key 0 0, F.PW_FB_CTL_CODE.key 0 0, F.PW_FB_CTL_AUTO.key 0 s.fbStn, F.PW_FB_STAT_GATED.key 0 s.fbStn, F.PW_FB_STAT_WAKING.key 0 s.fbStn, F.PW_FB_WAKES_COUNT.key 0 0] ∧
      ((s.stn s.fbStn).retiredBanks.contains s.fbBank = true → t.flag F.PW_FB_CTL_ERR = true ∧ t.get F.PW_FB_CTL_CODE = 3 ∧
        t.gated s.fbStn s.fbBank = s.gated s.fbStn s.fbBank) ∧
      ((s.stn s.fbStn).retiredBanks.contains s.fbBank = false → s.gated s.fbStn s.fbBank = true → t.flag F.PW_FB_CTL_ERR = false ∧
        t.gated s.fbStn s.fbBank = false ∧ t.waking s.fbStn s.fbBank = true ∧ t.get F.PW_FB_WAKES_COUNT = min (s.get F.PW_FB_WAKES_COUNT + 1) (2 ^ F.PW_FB_WAKES_COUNT.len - 1)) ∧
      ((s.stn s.fbStn).retiredBanks.contains s.fbBank = false → s.gated s.fbStn s.fbBank = false → t.flag F.PW_FB_CTL_ERR = false ∧
        t.get F.PW_FB_STAT_WAKING 0 s.fbStn = s.get F.PW_FB_STAT_WAKING 0 s.fbStn ∧ t.get F.PW_FB_WAKES_COUNT = s.get F.PW_FB_WAKES_COUNT)) ∧
  (∀ (x : BitVec 2) (b : BitVec 4) (s : State), s.flag F.PW_FB_CTL_AUTO 0 x.toNat = true → s.waking x.toNat b.toNat = false → s.bankCold x.toNat b.toNat = true →
      s.bankSaved x.toNat b.toNat = true → ∃ t, exec (.foldBankAutoGate x b) s = .next t ∧ t.gated x.toNat b.toNat = true ∧
        OnlyRegs s t [F.PW_FB_STAT_GATED.key 0 x.toNat] ∧ ∀ n, n ≠ b.toNat → t.gated x.toNat n = s.gated x.toNat n) ∧
  (∀ (x : BitVec 2) (b : BitVec 4) (s : State), (s.flag F.PW_FB_CTL_AUTO 0 x.toNat = false ∨ s.bankCold x.toNat b.toNat = false ∨ s.bankSaved x.toNat b.toNat = false) →
      ∃ t, exec (.foldBankAutoGate x b) s = .next t ∧ OnlyRegs s t []) ∧
  (∀ (x : BitVec 2) (b : BitVec 4) (s : State), s.waking x.toNat b.toNat = true → s.su.everReady = true → (∀ i, i < 5 → (s.prot i).bad = []) → (s.stn x.toNat).wakeQ = [] →
      ∃ t, exec (.foldBankWakeDone x b) s = .next t ∧ t.waking x.toNat b.toNat = false ∧ (t.get F.EVT_STAT_EVT 0x2A).testBit 2 = true ∧ (∀ i, t.stn i = s.stn i) ∧
        t.halts = s.halts ∧ t.net = s.net ∧ ∀ n, n ≠ b.toNat → t.waking x.toNat n = s.waking x.toNat n) ∧
  (∀ (w : Word32) (s : State), s.cfgOpen 0x2A 0x064 = true → ∃ t, exec (.pwFbWqClrHigh w) s = .next t ∧ CfgAnswered s t ∧ t.get F.PW_FB_WQ_HIGH 0 s.fbStn = 0 ∧
      OnlyRegs s t [F.PW_FB_WQ_HIGH.key 0 s.fbStn])

/-- A hold-up word is kept. While BUSY is set a write of PW_PARK_CTL is ignored; a refused park sets ERR and its code
and pulses PC_PARK_REFUSED; an accepted one sets BUSY, enters QUIESCE and lowers BLOCK_READY. A request of the
power controller is acknowledged and parks with FORCE. When all is drained the snapshots begin; a forced park whose
limit passes counts what it loses and goes on. The acknowledgement of the last record ends it in PARKED. -/
def Obligations.ParkRequestsAndWrites : Prop :=
  (∀ (w : BitVec 16) (s : State), ∃ t, exec (.holdupWord w) s = .next t ∧ t.get F.PW_HOLDUP_ENERGY = w.toNat ∧ t.flag F.PW_HOLDUP_V = true ∧
      OnlyRegs s t [F.PW_HOLDUP_ENERGY.key 0 0, F.PW_HOLDUP_V.key 0 0]) ∧
  (∀ (w : Word32) (s : State), s.cfgOpen 0x2A 0x080 = true → s.su.step = 7 → s.su.ready = true → s.get F.PW_PARK_CTL_STATE = 0 → s.flag F.PW_PARK_CTL_BUSY = true →
      ∃ t, exec (.park w) s = .next t ∧ OnlyRegs s t [] ∧ CfgAnswered s t) ∧
  (∀ (w : Word32) (s : State), s.cfgOpen 0x2A 0x080 = true → s.su.step = 7 → s.su.ready = true → s.get F.PW_PARK_CTL_STATE = 0 → s.flag F.PW_PARK_CTL_BUSY = false →
      wbit w 1 = false → wbit w 2 = s.flag F.PW_PARK_CTL_NV → s.parkCode false ≠ 0 → ∃ t, exec (.park w) s = .next t ∧ t.flag F.PW_PARK_CTL_ERR = true ∧
        t.get F.PW_PARK_CTL_CODE = s.parkCode false ∧ (t.get F.EVT_STAT_EVT 0x2A).testBit 5 = true ∧ OnlyRegs s t [F.PW_PARK_CTL_ERR.key 0 0, F.PW_PARK_CTL_CODE.key 0 0, F.PW_PARK_CTL_FORCE.key 0 0, F.PW_PARK_CTL_NV.key 0 0, F.PW_PARK_COST_COST.key 0 0, F.PW_PARK_COST_KIB.key 0 0, F.EVT_STAT_EVT.key 0x2A 0] ∧
        (s.su.wInstr.underTest = false → .parkRefused ∈ t.out)) ∧
  (∀ (w : Word32) (s : State), s.cfgOpen 0x2A 0x080 = true → s.su.step = 7 → s.flag F.PW_PARK_CTL_BUSY = false → wbit w 1 = false → wbit w 2 = s.flag F.PW_PARK_CTL_NV →
      s.parkCode false = 0 → ∃ t, exec (.park w) s = .next t ∧ t.get F.PW_PARK_CTL_STATE = 2 ∧ t.flag F.PW_PARK_CTL_BUSY = true ∧ t.flag F.PW_PARK_CTL_PC_REQ = false ∧
        t.flag F.PW_PARK_CTL_ERR = false ∧ t.get F.PW_PARK_CTL_CODE = 0 ∧ t.su = { s.su with step := 8, ready := false } ∧ t.jct.proxies = []) ∧
  (∀ (s : State), s.parked = false → s.su.step = 7 → s.job 5 = none → s.parkCode true = 0 → ∃ t, exec .parkRequest s = .next t ∧ t.get F.PW_PARK_CTL_STATE = 2 ∧
      t.flag F.PW_PARK_CTL_BUSY = true ∧ t.flag F.PW_PARK_CTL_PC_REQ = true ∧ t.su.step = 8 ∧ t.su.ready = false ∧ (s.su.wInstr.underTest = false → .parkAck ∈ t.out)) ∧
  (∀ (s : State), s.parked = false → s.su.step = 7 → s.su.ready = true → s.get F.PW_PARK_CTL_STATE = 0 → s.job 5 = none → s.parkCode true ≠ 0 →
      ∃ t, exec .parkRequest s = .next t ∧ t.flag F.PW_PARK_CTL_ERR = true ∧ t.get F.PW_PARK_CTL_CODE = s.parkCode true ∧ OnlyRegs s t [F.PW_PARK_CTL_ERR.key 0 0, F.PW_PARK_CTL_CODE.key 0 0, F.PW_PARK_CTL_FORCE.key 0 0, F.PW_PARK_CTL_NV.key 0 0, F.PW_PARK_COST_COST.key 0 0, F.PW_PARK_COST_KIB.key 0 0, F.EVT_STAT_EVT.key 0x2A 0] ∧
        (s.su.wInstr.underTest = false → t.out = [.parkAck, .parkRefused])) ∧
  (∀ (j : Job) (s : State), s.get F.PW_PARK_CTL_STATE = 2 → s.su.step = 8 → s.quiesced = true → s.job 5 = some j → ∃ t, exec .parkDrained s = .next t ∧
      t.get F.PW_PARK_CTL_STATE = 3 ∧ t.su.step = 8 ∧ t.halts = s.halts ∧ t.stns = s.stns ∧
      ∀ k, k < 4 → j.parkAt k = 0 → (s.ledger k).snap = none → (t.ledger k).snap.isSome = true ∧ t.flag F.LG_STAT_SNAP_BUSY (keyInst k) = true) ∧
  (∀ (s : State), s.get F.PW_PARK_CTL_STATE = 2 → s.su.step = 8 → s.su.ready = false → s.quiesced = false → ∃ t, exec .parkDrained s = .next t ∧ OnlyRegs s t []) ∧
  (∀ (j : Job) (s : State), s.get F.PW_PARK_CTL_STATE = 2 → s.su.step = 8 → s.quiesced = false → s.job 5 = some j → j.args.getD 0 0 = 1 → ∃ t, exec .parkDrainLimit s = .next t ∧
      t.get F.PW_PARK_CTL_STATE = 3 ∧ t.get F.PW_PARK_LOST_COUNT = min (s.get F.PW_PARK_LOST_COUNT + s.parkLoses) (2 ^ F.PW_PARK_LOST_COUNT.len - 1)) ∧
  (∀ (p : BitVec 3) (tag : BitVec 7) (d : Line) (r : MemReq) (j : Job) (s : State), (s.port p.toNat).taken.find? (fun x => x.tag = tag) = some r → s.su.step = 8 → r.wr = true → r.why = .job 5 4 → s.job 5 = some j →
      ∃ t, exec (.memoryCompletion p tag false d) s = .next t ∧ t.get F.PW_PARK_CTL_STATE = 4 ∧ t.flag F.PW_PARK_CTL_BUSY = false ∧ t.su.step = 9 ∧ t.su.ready = false ∧
        t.get F.PW_PARK_NUM_NUM = (s.get F.PW_PARK_NUM_NUM + 1) % 2 ^ F.PW_PARK_NUM_NUM.len ∧ (t.get F.EVT_STAT_EVT 0x2A).testBit 4 = true ∧ t.halts = s.halts ∧ t.stns = s.stns)

/-- A write that is let through to a plain register of the link, timetable or power page writes its RW fields, clears
W1C bits that are written 1, and leaves RO fields and every other register. A write to a reserved page, to a page
of a halt under the five-level view, to a locked page, or to an expert register without EXPERT is counted, answered
and changes nothing else. A write to a page of a recovering station waits at the port: the command is not taken. A
page of a station or halt number that no part latched is answered and changes nothing (the model's choice,
assumption log 77). -/
def Obligations.ConfigurationWrites : Prop :=
  (∀ (f : Fld) (p : BitVec 7) (w : Word32) (s : State), f ∈ F.all → f.page = p.toNat → p ∈ [0x01, 0x02, 0x2A] → 0x040 ≤ f.off →
      (p.toNat, f.off) ∉ [(0x01, 0x04C), (0x01, 0x050), (0x01, 0x058), (0x01, 0x104), (0x01, 0x108), (0x01, 0x10C), (0x02, 0x060), (0x02, 0x080), (0x02, 0x0C4),
        (0x02, 0x0C8), (0x2A, 0x040), (0x2A, 0x054), (0x2A, 0x064), (0x2A, 0x080)] → s.cfgOpen p.toNat f.off = true → s.noPark = true →
      ∃ t, exec (.configWrite p (BitVec.ofNat 12 f.off) w) s = .next t ∧ CfgAnswered s t ∧ OnlyRegs s t ((fieldsAt f.page f.off).map (fun g => g.key 0 0)) ∧
        t.get f = match f.acc with
          | .RW => bitsOf w.toNat f.lo f.len
          | .W1C => s.get f &&& (2 ^ f.len - 1 - bitsOf w.toNat f.lo f.len)
          | .WC => 0
          | _ => s.get f) ∧
  (∀ (p : BitVec 7) (off : BitVec 12) (w : Word32) (s : State), pageOk p.toNat = false → s.parked = false → s.noPark = true → ∃ t, exec (.configWrite p off w) s = .next t ∧ CfgAnswered s t ∧
      t.get F.JG_CFGERR_COUNT = min (s.get F.JG_CFGERR_COUNT + 1) (2 ^ F.JG_CFGERR_COUNT.len - 1) ∧ t.get F.JG_CFGERR_PAGE = p.toNat ∧ t.flag F.JG_CFGERR_WR = true ∧
      (t.get F.EVT_STAT_EVT 0).testBit 0 = true ∧ OnlyRegs s t [F.JG_CFGERR_COUNT.key 0 0, F.JG_CFGERR_PAGE.key 0 0, F.JG_CFGERR_WR.key 0 0, F.EVT_STAT_EVT.key 0 0]) ∧
  (∀ (p : BitVec 7) (off : BitVec 12) (w : Word32) (s : State) (q x : Nat), s.shownPage p.toNat = some q → pageStn q = some x → s.parked = false → s.noPark = true → 1 ≤ s.get F.REC_STAT_PHASE x →
      s.get F.REC_STAT_PHASE x ≤ 5 → ∃ t, exec (.configWrite p off w) s = .next t ∧ t.out = [] ∧ OnlyRegs s t []) ∧
  (∀ (p : BitVec 7) (off : BitVec 12) (w : Word32) (s : State), s.shownPage p.toNat = none → s.noPark = true → ∃ t, exec (.configWrite p off w) s = .next t ∧ CfgAnswered s t ∧ OnlyRegs s t []) ∧
  (∀ (p : BitVec 7) (off : BitVec 12) (w : Word32) (s : State) (q h : Nat), s.shownPage p.toNat = some q → pageHalt q = some h → s.parked = false → s.noPark = true → s.viewHalt h = true →
      ∃ t, exec (.configWrite p off w) s = .next t ∧ CfgAnswered s t ∧ t.get F.PAGE_STAT_REFUSED q = min (s.get F.PAGE_STAT_REFUSED q + 1) (2 ^ F.PAGE_STAT_REFUSED.len - 1) ∧
        t.get F.RC_HALT_REFUSED_COUNT = min (s.get F.RC_HALT_REFUSED_COUNT + 1) (2 ^ F.RC_HALT_REFUSED_COUNT.len - 1) ∧
        OnlyRegs s t [F.PAGE_STAT_REFUSED.key q 0, F.RC_HALT_REFUSED_COUNT.key 0 0]) ∧
  (∀ (p : BitVec 7) (off : BitVec 12) (w : Word32) (s : State), pageOk p.toNat = true → pageStn p.toNat = none → pageHalt p.toNat = none → s.parked = false → s.noPark = true →
      ((s.flag F.PAGE_LOCK_LOCK p.toNat = true ∧ (off.toNat / 4 * 4) ∉ [0x010, 0x014, 0x018]) ∨ (0x400 ≤ (off.toNat / 4 * 4) ∧ s.flag F.PAGE_CTL_EXPERT p.toNat = false)) →
      ∃ t, exec (.configWrite p off w) s = .next t ∧ CfgAnswered s t ∧ t.get F.PAGE_STAT_REFUSED p.toNat = min (s.get F.PAGE_STAT_REFUSED p.toNat + 1) (2 ^ F.PAGE_STAT_REFUSED.len - 1) ∧
        OnlyRegs s t [F.PAGE_STAT_REFUSED.key p.toNat 0]) ∧
  (∀ (w : Word32) (s : State), wbit w 0 = true → exec (.configWrite 0x2A 0x080 w) s = exec (.park w) s)

/-- A write to an RW2 register is appended to the staging list with its selector, and refused with FULL while a
proposal is pending or the list is full. PROPOSE with the next sequence number begins the window; with another it
ends with RESULT 5. ABORT empties the list. CONFIRM without the secure indication is counted as forged; of the
right number within the window it applies the staged change and ends with RESULT 1; of another number with 2, and
after the window with 3. A mailbox word is kept and sets its event. -/
def Obligations.TwoPartyChangesAndMailboxes : Prop :=
  (∀ (p : BitVec 7) (off : BitVec 12) (w : Word32) (sel : Nat) (s : State), s.stageSel p.toNat off.toNat = some sel → s.cfgOpen p.toNat off.toNat = true →
      s.proposed = false → s.jct.staged.any (fun e => e.page = p.toNat && e.off = off.toNat && e.sel = sel) = false → s.jct.staged.length < 32 →
      ∃ t, exec (.rw2StagingWrite p off w) s = .next t ∧ t.jct = { s.jct with staged := s.jct.staged ++ [⟨p.toNat, off.toNat, sel, w⟩] } ∧ t.regs = s.regs ∧
        t.stns = s.stns ∧ CfgAnswered s t) ∧
  (∀ (p : BitVec 7) (off : BitVec 12) (w : Word32) (sel : Nat) (s : State), s.stageSel p.toNat off.toNat = some sel → s.cfgOpen p.toNat off.toNat = true →
      (s.proposed = true ∨ (s.jct.staged.any (fun e => e.page = p.toNat && e.off = off.toNat && e.sel = sel) = false ∧ 32 ≤ s.jct.staged.length)) →
      ∃ t, exec (.rw2StagingWrite p off w) s = .next t ∧ t.flag F.TP_STAT_FULL = true ∧ OnlyRegs s t [F.TP_STAT_FULL.key 0 0] ∧ CfgAnswered s t) ∧
  (∀ (w : Word32) (s : State), s.cfgOpen 0x03 0x120 = true → wbit w 17 = false → s.proposed = false → w.toNat % 2 ^ 16 = (s.get F.TP_STAT_LAST_SEQ + 1) % 2 ^ 16 →
      s.jct.staged ≠ [] → ∃ t, exec (.tpPropose w) s = .next t ∧ t.get F.TP_STAT_STATE = 1 ∧ t.jct = { s.jct with proposedAt := s.fclk } ∧
        RegsBut s t [F.TP_STAT_STATE.key 0 0, F.TP_PROPOSE_SEQ.key 0 0]) ∧
  (∀ (w : Word32) (s : State), s.cfgOpen 0x03 0x120 = true → wbit w 17 = false → s.proposed = false → (w.toNat % 2 ^ 16 ≠ (s.get F.TP_STAT_LAST_SEQ + 1) % 2 ^ 16 ∨
      s.jct.staged = []) → ∃ t, exec (.tpPropose w) s = .next t ∧ t.get F.TP_STAT_RESULT = 5 ∧ t.jct = s.jct ∧ RegsBut s t [F.TP_STAT_RESULT.key 0 0, F.TP_PROPOSE_SEQ.key 0 0]) ∧
  (∀ (w : Word32) (s : State), s.cfgOpen 0x03 0x120 = true → ∃ t, exec (.tpAbort w) s = .next t ∧ t.jct = { s.jct with staged := [] } ∧ t.get F.TP_STAT_STATE = 0 ∧
      t.get F.TP_STAT_RESULT = 4 ∧ RegsBut s t [F.TP_STAT_STATE.key 0 0, F.TP_STAT_RESULT.key 0 0, F.TP_PROPOSE_SEQ.key 0 0] ∧ CfgAnswered s t) ∧
  (∀ (w : Word32) (s : State), s.cfgOpen 0x03 0x124 = true → ∃ t, exec (.tpConfirm false w) s = .next t ∧ t.flag F.TP_STAT_FORGED = true ∧
      (t.get F.EVT_STAT_EVT 3).testBit 4 = true ∧ OnlyRegs s t [F.TP_STAT_FORGED.key 0 0, F.EVT_STAT_EVT.key 3 0] ∧ CfgAnswered s t) ∧
  (∀ (w : Word32) (e : Staged) (f : Fld) (s : State), s.cfgOpen 0x03 0x124 = true → s.proposed = true → s.fclk - s.jct.proposedAt < s.get F.TP_WINDOW_FCLK →
      w.toNat % 2 ^ 16 = (s.get F.TP_STAT_LAST_SEQ + 1) % 2 ^ 16 → s.jct.staged = [e] → (e.page, e.off) ∈ [(0x03, 0x080), (0x03, 0x084), (0x03, 0x088), (0x03, 0x0C4), (0x03, 0x0C8), (0x03, 0x12C), (0x01, 0x04C)] → e.sel < 65536 → f ∈ fieldsAt e.page e.off →
      ∃ t, exec (.tpConfirm true w) s = .next t ∧ t.get f 0 e.sel = bitsOf e.data.toNat f.lo f.len ∧ t.get F.TP_STAT_RESULT = 1 ∧ t.get F.TP_STAT_STATE = 0 ∧
        t.get F.TP_STAT_LAST_SEQ = w.toNat % 2 ^ 16 ∧ (t.get F.EVT_STAT_EVT 3).testBit 2 = true ∧ t.jct = { s.jct with staged := [] } ∧
        OnlyRegs { s with jct := t.jct } t (F.TP_STAT_LAST_SEQ.key 0 0 :: (fieldsAt e.page e.off).map (fun g => g.key 0 e.sel) ++ [F.TP_STAT_STATE.key 0 0, F.TP_STAT_RESULT.key 0 0, F.EVT_STAT_EVT.key 3 0])) ∧
  (∀ (w : Word32) (e : Staged) (s : State), s.cfgOpen 0x03 0x124 = true → s.proposed = true → s.fclk - s.jct.proposedAt < s.get F.TP_WINDOW_FCLK →
      w.toNat % 2 ^ 16 = (s.get F.TP_STAT_LAST_SEQ + 1) % 2 ^ 16 → s.jct.staged = [e] → e.page = 0x03 → e.off = 0x114 → ∃ t, exec (.tpConfirm true w) s = .next t ∧
        tget 0 (t.mem (e.sel % 4)).rights (e.sel / 4 % 64 * 64 + e.sel / 256 % 64) = e.data.extractLsb' 0 4 ∧ t.get F.TP_STAT_RESULT = 1) ∧
  (∀ (w : Word32) (s : State), s.cfgOpen 0x03 0x124 = true → s.proposed = true → ∃ t, exec (.tpConfirm true w) s = .next t ∧ t.jct = { s.jct with staged := [] } ∧
      (s.get F.TP_WINDOW_FCLK ≤ s.fclk - s.jct.proposedAt → t.get F.TP_STAT_RESULT = 3 ∧ OnlyRegs { s with jct := t.jct } t [F.TP_STAT_STATE.key 0 0, F.TP_STAT_RESULT.key 0 0, F.EVT_STAT_EVT.key 3 0]) ∧
      (s.fclk - s.jct.proposedAt < s.get F.TP_WINDOW_FCLK → w.toNat % 2 ^ 16 ≠ (s.get F.TP_STAT_LAST_SEQ + 1) % 2 ^ 16 → t.get F.TP_STAT_RESULT = 2 ∧
        OnlyRegs { s with jct := t.jct } t [F.TP_STAT_STATE.key 0 0, F.TP_STAT_RESULT.key 0 0, F.EVT_STAT_EVT.key 3 0])) ∧
  (∀ (s : State), s.proposed = true → ∃ t, exec .tpWindowExpiry s = .next t ∧ t.get F.TP_STAT_STATE = 0 ∧ t.get F.TP_STAT_RESULT = 3 ∧
      (t.get F.EVT_STAT_EVT 3).testBit 3 = true ∧ OnlyRegs { s with jct := { s.jct with staged := [] } } t [F.TP_STAT_STATE.key 0 0, F.TP_STAT_RESULT.key 0 0, F.EVT_STAT_EVT.key 3 0]) ∧
  (∀ (p : BitVec 6) (off : BitVec 12) (w : Word32) (s : State), s.cfgOpen (0x40 + p.toNat) off.toNat = true → 0x040 ≤ off.toNat → off.toNat < 0x080 →
      ∃ t, exec (.mailboxDoorbellWrite p off w) s = .next t ∧ t.get F.M2T_DB_WORD p.toNat (off.toNat / 4 % 16) = w.toNat ∧
        (t.get F.EVT_STAT_EVT (0x40 + p.toNat)).testBit (off.toNat / 4 % 16) = true ∧ CfgAnswered s t ∧
        OnlyRegs s t [F.M2T_DB_WORD.key p.toNat (off.toNat / 4 % 16), F.EVT_STAT_EVT.key (0x40 + p.toNat) 0]) ∧
  (∀ (p : BitVec 6) (off : BitVec 12) (w : Word32) (s : State), s.cfgOpen (0x40 + p.toNat) off.toNat = true → 0x080 ≤ off.toNat → off.toNat < 0x0C0 →
      ∃ t, exec (.mailboxDoorbellWrite p off w) s = .next t ∧ t.get F.T2M_DB_WORD p.toNat (off.toNat / 4 % 16) = w.toNat ∧
        (t.get F.EVT_STAT_EVT (0x40 + p.toNat)).testBit (16 + off.toNat / 4 % 16) = true ∧ CfgAnswered s t ∧
        OnlyRegs s t [F.T2M_DB_WORD.key p.toNat (off.toNat / 4 % 16), F.EVT_STAT_EVT.key (0x40 + p.toNat) 0])

/-- COMMIT, UNCOMMIT, ARM and DISARM set and clear their flags; COPY makes every shadow equal to its active bank unless
a commit stands; BIND takes the value of a bindable object as the epoch, and records its pavilion. A boundary takes
the new epoch; it swaps every bank when the table is armed, the swap epoch reached and the shadow committed; is
held by policy, or counted as missed, when not committed; merges with one that is held; and is held while a station
recovers. A commit releases a boundary held by policy, with a swap. Once the epoch is lost no held boundary is
delivered. The end of the bound watch unbinds. A committed or active bank refuses writes. -/
def Obligations.TimetableCommandsAndBoundaries : Prop :=
  (∀ (w : Word32) (s : State), s.cfgOpen 0x02 0x060 = true → wbit w 0 = false → wbit w 2 = false → wbit w 3 = false → wbit w 4 = false → wbit w 5 = false → s.flag F.TT_STAT_HOLDING = false → ∃ t, exec (.ttCommit w) s = .next t ∧ CfgAnswered s t ∧
      t.flag F.TT_STAT_COMMITTED = true ∧ t.flag F.TT_STAT_ERR = false ∧ OnlyRegs s t [F.TT_STAT_COMMITTED.key 0 0, F.TT_STAT_ERR.key 0 0, F.TT_STAT_CODE.key 0 0]) ∧
  (∀ (w : Word32) (s : State), s.cfgOpen 0x02 0x060 = true → wbit w 0 = false → wbit w 2 = false → wbit w 3 = false → wbit w 4 = false → wbit w 5 = false → s.flag F.TT_STAT_HOLDING = true → s.flag F.TT_STAT_COMMITTED = false → s.jct.ttRecover = false →
      s.recovering = false → s.jct.ttBound ≠ none → ∃ t, exec (.ttCommit w) s = .next t ∧ t.flag F.TT_STAT_HOLDING = false ∧
        t.get F.TT_BOUNDS_COUNT = (s.get F.TT_BOUNDS_COUNT + 1) % 2 ^ 32 ∧ (∀ b, b < 5 → (t.box (boxPart b)).active = (s.box (boxPart b)).shadow ∧ (t.box (boxPart b)).shadow = (s.box (boxPart b)).active) ∧
        (∀ p, p < 64 → t.get F.SH_WATCH_SHARE 0 (p + 64) = s.get F.SH_WATCH_SHARE 0 p ∧ t.get F.SH_WATCH_SHARE 0 p = s.get F.SH_WATCH_SHARE 0 (p + 64)) ∧
        t.flag F.TT_STAT_COMMITTED = false ∧ t.flag F.TT_STAT_ARMED = false ∧ t.get F.TT_SWAPS_COUNT = min (s.get F.TT_SWAPS_COUNT + 1) (2 ^ 32 - 1)) ∧
  (∀ (w : Word32) (s : State), s.cfgOpen 0x02 0x060 = true → wbit w 0 = false → wbit w 2 = false → wbit w 3 = false → wbit w 4 = false → wbit w 5 = false → s.flag F.TT_STAT_HOLDING = true → s.flag F.TT_STAT_COMMITTED = false → s.jct.ttRecover = false →
      s.recovering = true → s.jct.ttBound ≠ none → ∃ t, exec (.ttCommit w) s = .next t ∧ t.flag F.TT_STAT_COMMITTED = true ∧ t.flag F.TT_STAT_HOLDING = true ∧
        t.jct = { s.jct with ttRecover := true, ttSwap := true } ∧ t.stns = s.stns) ∧
  (∀ (w : Word32) (s : State), s.cfgOpen 0x02 0x060 = true → wbit w 0 = false → wbit w 2 = false → wbit w 3 = false → wbit w 4 = false → wbit w 5 = false → s.flag F.TT_STAT_HOLDING = true → s.jct.ttBound = none → ∃ t, exec (.ttCommit w) s = .next t ∧
      CfgAnswered s t ∧ t.flag F.TT_STAT_COMMITTED = true ∧ OnlyRegs s t [F.TT_STAT_COMMITTED.key 0 0, F.TT_STAT_ERR.key 0 0, F.TT_STAT_CODE.key 0 0]) ∧
  (∀ (s : State), s.flag F.TT_STAT_HOLDING = true → s.jct.ttBound = none → ∃ t, exec .ttHoldExpiry s = .next t ∧ OnlyRegs s t [] ∧ t.out = []) ∧
  (∀ (w : Word32) (s : State), s.cfgOpen 0x02 0x060 = true → wbit w 0 = false → wbit w 1 = false → wbit w 3 = false → wbit w 4 = false → wbit w 5 = false → ∃ t, exec (.ttUncommit w) s = .next t ∧ CfgAnswered s t ∧
      t.flag F.TT_STAT_COMMITTED = false ∧ OnlyRegs s t [F.TT_STAT_COMMITTED.key 0 0, F.TT_STAT_ERR.key 0 0, F.TT_STAT_CODE.key 0 0]) ∧
  (∀ (w : Word32) (s : State), s.cfgOpen 0x02 0x060 = true → wbit w 0 = false → wbit w 1 = false → wbit w 2 = false → wbit w 4 = false → wbit w 5 = false → ∃ t, exec (.ttArm w) s = .next t ∧ CfgAnswered s t ∧
      t.flag F.TT_STAT_ARMED = true ∧ OnlyRegs s t [F.TT_STAT_ARMED.key 0 0, F.TT_STAT_ERR.key 0 0, F.TT_STAT_CODE.key 0 0]) ∧
  (∀ (w : Word32) (s : State), s.cfgOpen 0x02 0x060 = true → wbit w 0 = false → wbit w 1 = false → wbit w 2 = false → wbit w 3 = false → wbit w 5 = false → ∃ t, exec (.ttDisarm w) s = .next t ∧ CfgAnswered s t ∧
      t.flag F.TT_STAT_ARMED = false ∧ OnlyRegs s t [F.TT_STAT_ARMED.key 0 0, F.TT_STAT_ERR.key 0 0, F.TT_STAT_CODE.key 0 0]) ∧
  (∀ (w : Word32) (s : State), s.cfgOpen 0x02 0x060 = true → wbit w 0 = false → wbit w 1 = false → wbit w 2 = false → wbit w 3 = false → wbit w 4 = false → s.flag F.TT_STAT_COMMITTED = false → ∃ t, exec (.ttCopy w) s = .next t ∧ t.flag F.TT_STAT_ERR = false ∧
      (∀ b, b < 5 → (t.box (boxPart b)).shadow = (s.box (boxPart b)).active ∧ (t.box (boxPart b)).active = (s.box (boxPart b)).active) ∧
      ∀ p, p < 64 → t.get F.SH_WATCH_SHARE 0 p = s.get F.SH_WATCH_SHARE 0 (p + 64) ∧ t.get F.SH_PROXY_SHARE 0 p = s.get F.SH_PROXY_SHARE 0 (p + 64)) ∧
  (∀ (w : Word32) (s : State), s.cfgOpen 0x02 0x060 = true → wbit w 0 = false → wbit w 1 = false → wbit w 2 = false → wbit w 3 = false → wbit w 4 = false → s.flag F.TT_STAT_COMMITTED = true → ∃ t, exec (.ttCopy w) s = .next t ∧
      t.flag F.TT_STAT_ERR = true ∧ t.get F.TT_STAT_CODE = 2 ∧ OnlyRegs s t [F.TT_STAT_ERR.key 0 0, F.TT_STAT_CODE.key 0 0]) ∧
  (∀ (w : Word32) (s : State), s.cfgOpen 0x02 0x060 = true → wbit w 1 = false → wbit w 2 = false → wbit w 3 = false → wbit w 4 = false → wbit w 5 = false → s.bindOk (BitVec.ofNat 25 (s.get F.TT_EPOCH_OBJ_ADDR)) = false →
      ∃ t, exec (.epochBind w) s = .next t ∧ t.flag F.TT_STAT_ERR = true ∧ t.get F.TT_STAT_CODE = 1 ∧ OnlyRegs s t [F.TT_STAT_ERR.key 0 0, F.TT_STAT_CODE.key 0 0]) ∧
  (∀ (w : Word32) (s : State), s.cfgOpen 0x02 0x060 = true → wbit w 1 = false → wbit w 2 = false → wbit w 3 = false → wbit w 4 = false → wbit w 5 = false → s.bindOk (BitVec.ofNat 25 (s.get F.TT_EPOCH_OBJ_ADDR)) = true → s.flag F.TT_STAT_HOLDING = false →
      s.jct.ttBound = none → ∃ t, exec (.epochBind w) s = .next t ∧ t.flag F.TT_STAT_ERR = false ∧ t.flag F.TT_STAT_BOUND = true ∧
        t.jct.ttBound = some (BitVec.ofNat 25 (s.get F.TT_EPOCH_OBJ_ADDR)) ∧
        t.jct.ttPav = (s.slot (aStn (BitVec.ofNat 25 (s.get F.TT_EPOCH_OBJ_ADDR))).toNat (aPon (BitVec.ofNat 25 (s.get F.TT_EPOCH_OBJ_ADDR)))).pav ∧
        t.epoch = (s.slot (aStn (BitVec.ofNat 25 (s.get F.TT_EPOCH_OBJ_ADDR))).toNat (aPon (BitVec.ofNat 25 (s.get F.TT_EPOCH_OBJ_ADDR)))).val.toNat) ∧
  (∀ (src : Part) (a : GAddr) (v : Word64) (word : Option Word64) (s : State), s.head? src .jct = some (.notify a v .done word) → s.rowsGood = true → s.epochOf a v .done = true → s.flag F.TT_STAT_HOLDING = false → s.recovering = false →
      (s.flag F.TT_STAT_ARMED = false ∨ v.toNat < s.swapAt) → ∃ t, exec (.epochBoundary src .jct) s = .next t ∧ t.epoch = v.toNat ∧ t.get F.TT_BOUNDS_COUNT = (s.get F.TT_BOUNDS_COUNT + 1) % 2 ^ 32 ∧
        t.get F.TT_SWAPS_COUNT = s.get F.TT_SWAPS_COUNT ∧ t.get F.TT_MISSES_COUNT = s.get F.TT_MISSES_COUNT) ∧
  (∀ (src : Part) (a : GAddr) (v : Word64) (word : Option Word64) (s : State), s.head? src .jct = some (.notify a v .done word) → s.rowsGood = true → s.epochOf a v .done = true → s.flag F.TT_STAT_HOLDING = false → s.recovering = false →
      s.flag F.TT_STAT_ARMED = true → s.swapAt ≤ v.toNat → s.flag F.TT_STAT_COMMITTED = true → ∃ t, exec (.epochBoundary src .jct) s = .next t ∧ t.epoch = v.toNat ∧ t.get F.TT_BOUNDS_COUNT = (s.get F.TT_BOUNDS_COUNT + 1) % 2 ^ 32 ∧
        (t.get F.EVT_STAT_EVT 2).testBit 0 = true ∧ (∀ b, b < 5 → (t.box (boxPart b)).active = (s.box (boxPart b)).shadow ∧ (t.box (boxPart b)).shadow = (s.box (boxPart b)).active) ∧
        (∀ p, p < 64 → t.get F.SH_WATCH_SHARE 0 (p + 64) = s.get F.SH_WATCH_SHARE 0 p ∧ t.get F.SH_WATCH_SHARE 0 p = s.get F.SH_WATCH_SHARE 0 (p + 64)) ∧
        t.flag F.TT_STAT_COMMITTED = false ∧ t.flag F.TT_STAT_ARMED = false ∧ t.get F.TT_SWAPS_COUNT = min (s.get F.TT_SWAPS_COUNT + 1) (2 ^ 32 - 1)) ∧
  (∀ (src : Part) (a : GAddr) (v : Word64) (word : Option Word64) (s : State), s.head? src .jct = some (.notify a v .done word) → s.rowsGood = true → s.epochOf a v .done = true → s.flag F.TT_STAT_HOLDING = false → s.recovering = false →
      s.flag F.TT_STAT_ARMED = true → s.swapAt ≤ v.toNat → s.flag F.TT_STAT_COMMITTED = false → ∃ t, exec (.epochBoundary src .jct) s = .next t ∧ t.epoch = v.toNat ∧
        t.get F.TT_SWAPS_COUNT = s.get F.TT_SWAPS_COUNT ∧
        (s.flag F.TT_POLICY_MISS = true → s.get F.TT_HOLD_LIMIT_LIMIT ≠ 0 → s.flag F.TT_STAT_HOLD_EXPIRED = false → t.flag F.TT_STAT_HOLDING = true ∧
          t.get F.TT_BOUNDS_COUNT = s.get F.TT_BOUNDS_COUNT) ∧
        (¬(s.flag F.TT_POLICY_MISS = true ∧ s.get F.TT_HOLD_LIMIT_LIMIT ≠ 0 ∧ s.flag F.TT_STAT_HOLD_EXPIRED = false) → t.get F.TT_MISSES_COUNT = min (s.get F.TT_MISSES_COUNT + 1) (2 ^ 32 - 1) ∧ (t.get F.EVT_STAT_EVT 2).testBit 1 = true ∧ t.get F.TT_BOUNDS_COUNT = (s.get F.TT_BOUNDS_COUNT + 1) % 2 ^ 32)) ∧
  (∀ (src : Part) (a : GAddr) (v : Word64) (word : Option Word64) (s : State), s.head? src .jct = some (.notify a v .done word) → s.rowsGood = true → s.epochOf a v .done = true → s.flag F.TT_STAT_HOLDING = true → ∃ t, exec (.epochBoundary src .jct) s = .next t ∧
      t.epoch = v.toNat ∧ t.get F.TT_MERGED_COUNT = min (s.get F.TT_MERGED_COUNT + 1) (2 ^ 32 - 1) ∧ t.get F.TT_BOUNDS_COUNT = s.get F.TT_BOUNDS_COUNT) ∧
  (∀ (src : Part) (a : GAddr) (v : Word64) (word : Option Word64) (s : State), s.head? src .jct = some (.notify a v .done word) → s.rowsGood = true → s.epochOf a v .done = true → s.flag F.TT_STAT_HOLDING = false → s.recovering = true →
      ∃ t, exec (.epochBoundary src .jct) s = .next t ∧ t.epoch = v.toNat ∧ t.flag F.TT_STAT_HOLDING = true ∧ t.jct.ttRecover = true ∧
        t.get F.TT_BOUNDS_COUNT = s.get F.TT_BOUNDS_COUNT ∧ t.get F.TT_SWAPS_COUNT = s.get F.TT_SWAPS_COUNT) ∧
  (∀ (src : Part) (a : GAddr) (v : Word64) (st : Status) (word : Option Word64) (s : State), s.head? src .jct = some (.notify a v st word) → s.rowsGood = true → s.epochOf a v st = true → st ≠ .done →
      ∃ t, exec (.epochLost src .jct) s = .next t ∧ t.jct.ttBound = none ∧ t.flag F.TT_STAT_BOUND = false ∧ t.flag F.TT_STAT_EPOCH_LOST = true ∧
        (t.get F.EVT_STAT_EVT 2).testBit 4 = true) ∧
  (∀ (s : State), s.flag F.TT_STAT_HOLDING = true → s.jct.ttRecover = false → s.recovering = false → s.jct.ttBound ≠ none → ∃ t, exec .ttHoldExpiry s = .next t ∧ t.flag F.TT_STAT_HOLDING = false ∧
      t.flag F.TT_STAT_HOLD_EXPIRED = true ∧ t.get F.TT_MISSES_COUNT = min (s.get F.TT_MISSES_COUNT + 1) (2 ^ 32 - 1) ∧ (t.get F.EVT_STAT_EVT 2).testBit 3 = true ∧ t.get F.TT_BOUNDS_COUNT = (s.get F.TT_BOUNDS_COUNT + 1) % 2 ^ 32) ∧
  (∀ (w : Word32) (s : State), s.cfgOpen 0x02 0x0C4 = true → s.flag F.SH_SEL_BANK = false → s.flag F.TT_STAT_COMMITTED = false →
      ∃ t, exec (.timetableShadowWrite 0x02 0x0C4 w) s = .next t ∧ t.get F.SH_WATCH_SHARE 0 (s.get F.SH_SEL_PAV) = w.toNat % 2 ^ 14 ∧
        OnlyRegs s t [F.SH_WATCH_SHARE.key 0 (s.get F.SH_SEL_PAV)] ∧ CfgAnswered s t) ∧
  (∀ (b : Nat) (w : Word32) (off : BitVec 12) (s : State), b < 5 → off.toNat ∈ [0x0C4, 0x0C8, 0x0CC, 0x0D0] → s.cfgOpen (boxPage b) off.toNat = true →
      s.flag F.ENT_SEL_BANK (boxInst b) = false → s.flag F.TT_STAT_COMMITTED = false →
      ∃ t, exec (.timetableShadowWrite (BitVec.ofNat 7 (boxPage b)) off w) s = .next t ∧ t.regs = s.regs ∧
        tget Entry.init (t.box (boxPart b)).shadow (s.get F.THR_SEL_THR (boxInst b)) = entryWrite (tget Entry.init (s.box (boxPart b)).shadow (s.get F.THR_SEL_THR (boxInst b))) off.toNat w ∧
        (t.box (boxPart b)).active = (s.box (boxPart b)).active) ∧
  (∀ (b : Nat) (w : Word32) (off : BitVec 12) (s : State), b < 5 → off.toNat ∈ [0x0C4, 0x0C8, 0x0CC, 0x0D0] → s.cfgOpen (boxPage b) off.toNat = true →
      (s.flag F.ENT_SEL_BANK (boxInst b) = true ∨ s.flag F.TT_STAT_COMMITTED = true) →
      ∃ t, exec (.timetableShadowWrite (BitVec.ofNat 7 (boxPage b)) off w) s = .next t ∧ t.stns = s.stns ∧ t.jct = s.jct ∧ CfgAnswered s t ∧
        t.get F.TT_DENY_COUNT = min (s.get F.TT_DENY_COUNT + 1) (2 ^ F.TT_DENY_COUNT.len - 1) ∧ t.get F.TT_DENY_LAST_PAGE = boxPage b ∧ t.get F.TT_DENY_LAST_OFFSET = off.toNat ∧
        t.get F.TT_DENY_LAST_CAUSE = (if s.flag F.ENT_SEL_BANK (boxInst b) then 0 else 1) ∧ (t.get F.EVT_STAT_EVT 2).testBit 2 = true)

/-- ALLOC takes the lowest FREE slot and ALLOC_AT the one it names, which becomes an object of the kind, pavilion and
link given with value 0, a ring taking four; a failure sets ERR and its code and changes no slot. FREE zeroes a
group that is in no use, is refused with BUSY or RETIRED otherwise, and leaves a FREE slot. RETIRE makes FREE or
MOVED slots RETIRED, and UNRETIRE makes a RETIRED slot FREE. Only OBJ_CMD and OBJ_RES change of the registers. -/
def Obligations.ObjectsAreAllocatedAndFreed : Prop :=
  (∀ (x : BitVec 2) (w : Word32) (k : Kind) (pon : Nat) (s : State), s.cfgOpen (corePage x) 0x050 = true → s.rowsGood = true → s.allocDecide x.toNat none (bitsOf w.toNat 4 4) (BitVec.ofNat 6 (bitsOf w.toNat 8 6)) (wbit w 14) (s.get F.OBJ_LINK_LINK x.toNat) = .ok (k, pon) →
      ∃ t, exec (.alloc x w) s = .next t ∧ CfgAnswered s t ∧ t.flag F.OBJ_RES_DONE x.toNat = true ∧ t.flag F.OBJ_RES_ERR x.toNat = false ∧ t.get F.OBJ_RES_CODE x.toNat = 0 ∧ t.get F.OBJ_RES_PON x.toNat = pon % 2 ^ 14 ∧ (t.slot x.toNat pon = { Slot.free with kind := k, pav := BitVec.ofNat 6 (bitsOf w.toNat 8 6), ctxl := wbit w 14, link := BitVec.ofNat 24 (s.linkStored x.toNat k (wbit w 14) (s.get F.OBJ_LINK_LINK x.toNat)) }) ∧
        (k = .ring → ∀ i, i ∈ [1, 2, 3] → (t.slot x.toNat (pon + i)).kind = .ringPart ∧ (t.slot x.toNat (pon + i)).link.toNat = i) ∧
        SlotsBut s t x (if k = .ring then [pon, pon + 1, pon + 2, pon + 3] else [pon]) ∧ RegsBut s t [F.OBJ_CMD_CMD.key x.toNat 0, F.OBJ_CMD_KIND.key x.toNat 0, F.OBJ_CMD_PAV.key x.toNat 0, F.OBJ_CMD_CTXL.key x.toNat 0, F.OBJ_CMD_PON.key x.toNat 0, F.OBJ_RES_PON.key x.toNat 0, F.OBJ_RES_DONE.key x.toNat 0, F.OBJ_RES_ERR.key x.toNat 0, F.OBJ_RES_CODE.key x.toNat 0] ∧ s.slotFree x.toNat pon = true ∧ (k ≠ .ring → ∀ y, y < pon → s.slotFree x.toNat y = false)) ∧
  (∀ (x : BitVec 2) (w : Word32) (k : Kind) (pon : Nat) (s : State), s.cfgOpen (corePage x) 0x050 = true → s.rowsGood = true → s.allocDecide x.toNat (some (bitsOf w.toNat 16 14)) (bitsOf w.toNat 4 4) (BitVec.ofNat 6 (bitsOf w.toNat 8 6)) (wbit w 14) (s.get F.OBJ_LINK_LINK x.toNat) = .ok (k, pon) →
      ∃ t, exec (.allocAt x w) s = .next t ∧ CfgAnswered s t ∧ t.flag F.OBJ_RES_DONE x.toNat = true ∧ t.flag F.OBJ_RES_ERR x.toNat = false ∧ t.get F.OBJ_RES_CODE x.toNat = 0 ∧ t.get F.OBJ_RES_PON x.toNat = pon % 2 ^ 14 ∧ (t.slot x.toNat pon = { Slot.free with kind := k, pav := BitVec.ofNat 6 (bitsOf w.toNat 8 6), ctxl := wbit w 14, link := BitVec.ofNat 24 (s.linkStored x.toNat k (wbit w 14) (s.get F.OBJ_LINK_LINK x.toNat)) }) ∧
        (k = .ring → ∀ i, i ∈ [1, 2, 3] → (t.slot x.toNat (pon + i)).kind = .ringPart ∧ (t.slot x.toNat (pon + i)).link.toNat = i) ∧
        SlotsBut s t x (if k = .ring then [pon, pon + 1, pon + 2, pon + 3] else [pon]) ∧ RegsBut s t [F.OBJ_CMD_CMD.key x.toNat 0, F.OBJ_CMD_KIND.key x.toNat 0, F.OBJ_CMD_PAV.key x.toNat 0, F.OBJ_CMD_CTXL.key x.toNat 0, F.OBJ_CMD_PON.key x.toNat 0, F.OBJ_RES_PON.key x.toNat 0, F.OBJ_RES_DONE.key x.toNat 0, F.OBJ_RES_ERR.key x.toNat 0, F.OBJ_RES_CODE.key x.toNat 0] ∧ s.slotFree x.toNat pon = true ∧ pon = bitsOf w.toNat 16 14) ∧
  (∀ (x : BitVec 2) (w : Word32) (c : Nat) (s : State), s.cfgOpen (corePage x) 0x050 = true → s.rowsGood = true → s.allocDecide x.toNat none (bitsOf w.toNat 4 4) (BitVec.ofNat 6 (bitsOf w.toNat 8 6)) (wbit w 14) (s.get F.OBJ_LINK_LINK x.toNat) = .error c →
      ∃ t, exec (.alloc x w) s = .next t ∧ CfgAnswered s t ∧ t.flag F.OBJ_RES_DONE x.toNat = true ∧ t.flag F.OBJ_RES_ERR x.toNat = true ∧ t.get F.OBJ_RES_CODE x.toNat = c ∧ t.get F.OBJ_RES_PON x.toNat = bitsOf w.toNat 16 14 ∧ OnlyRegs s t [F.OBJ_CMD_CMD.key x.toNat 0, F.OBJ_CMD_KIND.key x.toNat 0, F.OBJ_CMD_PAV.key x.toNat 0, F.OBJ_CMD_CTXL.key x.toNat 0, F.OBJ_CMD_PON.key x.toNat 0, F.OBJ_RES_PON.key x.toNat 0, F.OBJ_RES_DONE.key x.toNat 0, F.OBJ_RES_ERR.key x.toNat 0, F.OBJ_RES_CODE.key x.toNat 0]) ∧
  (∀ (x : BitVec 2) (w : Word32) (c : Nat) (s : State), s.cfgOpen (corePage x) 0x050 = true → s.rowsGood = true → s.allocDecide x.toNat (some (bitsOf w.toNat 16 14)) (bitsOf w.toNat 4 4) (BitVec.ofNat 6 (bitsOf w.toNat 8 6)) (wbit w 14) (s.get F.OBJ_LINK_LINK x.toNat) = .error c →
      ∃ t, exec (.allocAt x w) s = .next t ∧ CfgAnswered s t ∧ t.flag F.OBJ_RES_DONE x.toNat = true ∧ t.flag F.OBJ_RES_ERR x.toNat = true ∧ t.get F.OBJ_RES_CODE x.toNat = c ∧ t.get F.OBJ_RES_PON x.toNat = bitsOf w.toNat 16 14 ∧ OnlyRegs s t [F.OBJ_CMD_CMD.key x.toNat 0, F.OBJ_CMD_KIND.key x.toNat 0, F.OBJ_CMD_PAV.key x.toNat 0, F.OBJ_CMD_CTXL.key x.toNat 0, F.OBJ_CMD_PON.key x.toNat 0, F.OBJ_RES_PON.key x.toNat 0, F.OBJ_RES_DONE.key x.toNat 0, F.OBJ_RES_ERR.key x.toNat 0, F.OBJ_RES_CODE.key x.toNat 0]) ∧
  (∀ (x : BitVec 2) (w : Word32) (s : State), s.cfgOpen (corePage x) 0x050 = true → s.rowsGood = true → (s.slot x.toNat (bitsOf w.toNat 16 14)).kind ≠ .free → (s.slot x.toNat (bitsOf w.toNat 16 14)).kind ≠ .retired →
      s.pavBusy (s.slot x.toNat (bitsOf w.toNat 16 14)).pav = false → (∀ y ∈ s.slotGroup x.toNat (bitsOf w.toNat 16 14), s.slotBusy x.toNat y = false) → ∃ t, exec (.free x w) s = .next t ∧ CfgAnswered s t ∧
      t.flag F.OBJ_RES_DONE x.toNat = true ∧ t.flag F.OBJ_RES_ERR x.toNat = false ∧ t.get F.OBJ_RES_CODE x.toNat = 0 ∧ t.get F.OBJ_RES_PON x.toNat = bitsOf w.toNat 16 14 ∧ (∀ y ∈ s.slotGroup x.toNat (bitsOf w.toNat 16 14), t.slot x.toNat y = Slot.free) ∧ SlotsBut s t x (s.slotGroup x.toNat (bitsOf w.toNat 16 14)) ∧ RegsBut s t [F.OBJ_CMD_CMD.key x.toNat 0, F.OBJ_CMD_KIND.key x.toNat 0, F.OBJ_CMD_PAV.key x.toNat 0, F.OBJ_CMD_CTXL.key x.toNat 0, F.OBJ_CMD_PON.key x.toNat 0, F.OBJ_RES_PON.key x.toNat 0, F.OBJ_RES_DONE.key x.toNat 0, F.OBJ_RES_ERR.key x.toNat 0, F.OBJ_RES_CODE.key x.toNat 0]) ∧
  (∀ (x : BitVec 2) (w : Word32) (c : Nat) (s : State), s.cfgOpen (corePage x) 0x050 = true → s.rowsGood = true →
      ((s.slot x.toNat (bitsOf w.toNat 16 14)).kind = .retired ∧ c = 7) ∨ (s.slotFree x.toNat (bitsOf w.toNat 16 14) = true ∧ c = 0) ∨
        (((s.slot x.toNat (bitsOf w.toNat 16 14)).kind.live = true ∨ (s.slot x.toNat (bitsOf w.toNat 16 14)).kind = .moved) ∧ (s.pavBusy (s.slot x.toNat (bitsOf w.toNat 16 14)).pav = true ∨ ∃ y ∈ s.slotGroup x.toNat (bitsOf w.toNat 16 14), s.slotBusy x.toNat y = true) ∧ c = 5) →
      ∃ t, exec (.free x w) s = .next t ∧ t.get F.OBJ_RES_CODE x.toNat = c ∧ (t.flag F.OBJ_RES_ERR x.toNat = true ↔ c ≠ 0) ∧ OnlyRegs s t [F.OBJ_CMD_CMD.key x.toNat 0, F.OBJ_CMD_KIND.key x.toNat 0, F.OBJ_CMD_PAV.key x.toNat 0, F.OBJ_CMD_CTXL.key x.toNat 0, F.OBJ_CMD_PON.key x.toNat 0, F.OBJ_RES_PON.key x.toNat 0, F.OBJ_RES_DONE.key x.toNat 0, F.OBJ_RES_ERR.key x.toNat 0, F.OBJ_RES_CODE.key x.toNat 0]) ∧
  (∀ (x : BitVec 2) (w : Word32) (s : State), s.cfgOpen (corePage x) 0x050 = true → s.rowsGood = true → (∀ y ∈ s.slotGroup x.toNat (bitsOf w.toNat 16 14), s.slotFree x.toNat y = true ∨ ((s.slot x.toNat y).kind = .moved ∧ s.pavBusy (s.slot x.toNat y).pav = false)) →
      ∃ t, exec (.retire x w) s = .next t ∧ CfgAnswered s t ∧ t.flag F.OBJ_RES_DONE x.toNat = true ∧ t.flag F.OBJ_RES_ERR x.toNat = false ∧ t.get F.OBJ_RES_CODE x.toNat = 0 ∧ t.get F.OBJ_RES_PON x.toNat = bitsOf w.toNat 16 14 ∧
        (∀ y ∈ s.slotGroup x.toNat (bitsOf w.toNat 16 14), t.slot x.toNat y = { Slot.free with kind := .retired }) ∧ SlotsBut s t x (s.slotGroup x.toNat (bitsOf w.toNat 16 14))) ∧
  (∀ (x : BitVec 2) (w : Word32) (y : Nat) (s : State), s.cfgOpen (corePage x) 0x050 = true → s.rowsGood = true → y ∈ s.slotGroup x.toNat (bitsOf w.toNat 16 14) → s.slotFree x.toNat y = false →
      ((s.slot x.toNat y).kind ≠ .moved ∨ s.pavBusy (s.slot x.toNat y).pav = true) →
      ∃ t, exec (.retire x w) s = .next t ∧ t.flag F.OBJ_RES_DONE x.toNat = true ∧ t.flag F.OBJ_RES_ERR x.toNat = true ∧ t.get F.OBJ_RES_CODE x.toNat = 5 ∧ t.get F.OBJ_RES_PON x.toNat = bitsOf w.toNat 16 14 ∧ OnlyRegs s t [F.OBJ_CMD_CMD.key x.toNat 0, F.OBJ_CMD_KIND.key x.toNat 0, F.OBJ_CMD_PAV.key x.toNat 0, F.OBJ_CMD_CTXL.key x.toNat 0, F.OBJ_CMD_PON.key x.toNat 0, F.OBJ_RES_PON.key x.toNat 0, F.OBJ_RES_DONE.key x.toNat 0, F.OBJ_RES_ERR.key x.toNat 0, F.OBJ_RES_CODE.key x.toNat 0]) ∧
  (∀ (x : BitVec 2) (w : Word32) (s : State), s.cfgOpen (corePage x) 0x050 = true → s.rowsGood = true → (s.slot x.toNat (bitsOf w.toNat 16 14)).kind = .retired → ∃ t, exec (.unretire x w) s = .next t ∧ CfgAnswered s t ∧
      t.flag F.OBJ_RES_DONE x.toNat = true ∧ t.flag F.OBJ_RES_ERR x.toNat = false ∧ t.get F.OBJ_RES_CODE x.toNat = 0 ∧ t.get F.OBJ_RES_PON x.toNat = bitsOf w.toNat 16 14 ∧ t.slot x.toNat (bitsOf w.toNat 16 14) = Slot.free ∧ SlotsBut s t x [bitsOf w.toNat 16 14] ∧ RegsBut s t [F.OBJ_CMD_CMD.key x.toNat 0, F.OBJ_CMD_KIND.key x.toNat 0, F.OBJ_CMD_PAV.key x.toNat 0, F.OBJ_CMD_CTXL.key x.toNat 0, F.OBJ_CMD_PON.key x.toNat 0, F.OBJ_RES_PON.key x.toNat 0, F.OBJ_RES_DONE.key x.toNat 0, F.OBJ_RES_ERR.key x.toNat 0, F.OBJ_RES_CODE.key x.toNat 0]) ∧
  (∀ (x : BitVec 2) (w : Word32) (s : State), s.cfgOpen (corePage x) 0x050 = true → s.rowsGood = true → (s.slot x.toNat (bitsOf w.toNat 16 14)).kind ≠ .retired → ∃ t, exec (.unretire x w) s = .next t ∧
      t.flag F.OBJ_RES_DONE x.toNat = true ∧ t.flag F.OBJ_RES_ERR x.toNat = true ∧ t.get F.OBJ_RES_CODE x.toNat = 7 ∧ t.get F.OBJ_RES_PON x.toNat = bitsOf w.toNat 16 14 ∧ OnlyRegs s t [F.OBJ_CMD_CMD.key x.toNat 0, F.OBJ_CMD_KIND.key x.toNat 0, F.OBJ_CMD_PAV.key x.toNat 0, F.OBJ_CMD_CTXL.key x.toNat 0, F.OBJ_CMD_PON.key x.toNat 0, F.OBJ_RES_PON.key x.toNat 0, F.OBJ_RES_DONE.key x.toNat 0, F.OBJ_RES_ERR.key x.toNat 0, F.OBJ_RES_CODE.key x.toNat 0])

/-- A handle-map write goes to all four stations, to one that recovers when it ends, and the next waits for that; it
advances its index if INC is set. APPLY takes the staged words as the masks of an idle turnstile. The drift
registers are written while the pair is off, and refused otherwise. A forced post adds up to the largest count; a
flush removes and answers every waiter. The word address of an idle MLOCK and the base of an empty ring are set.
The orphan command counts its matches, and a matched lock without waiters is free and orphaned. -/
def Obligations.StationCommands : Prop :=
  (∀ (w : Word32) (s : State), s.cfgOpen 0x03 0x0D4 = true → ∃ t, exec (.handleMapWrite w) s = .next t ∧ CfgAnswered s t ∧
      (∀ si, si < 4 → s.stopped (.stn (BitVec.ofNat 2 si)) = false → tget 0 (t.mem si).hmap (s.get F.HM_IDX_IDX) = w &&& 0x07FFFFFF ∧ (∀ n, n ≠ s.get F.HM_IDX_IDX → tget 0 (t.mem si).hmap n = tget 0 (s.mem si).hmap n) ∧
        ∀ n, t.slot si n = s.slot si n) ∧
      (∀ si, si < 4 → s.stopped (.stn (BitVec.ofNat 2 si)) = true → t.mem si = s.mem si ∧ t.jct.hmWait = some (s.get F.HM_IDX_IDX, w &&& 0x07FFFFFF)) ∧
      ((∀ si, si < 4 → s.stopped (.stn (BitVec.ofNat 2 si)) = false) → t.jct = s.jct) ∧
      t.get F.HM_IDX_IDX = (if s.flag F.HM_IDX_INC then (s.get F.HM_IDX_IDX + 1) % 2 ^ 16 else s.get F.HM_IDX_IDX) ∧ RegsBut s t [F.HM_IDX_IDX.key 0 0]) ∧
  (∀ (w : Word32) (s : State), s.parked = false → s.flag F.PAGE_LOCK_LOCK 3 = false → s.jct.hmWait.isSome = true → ∃ t, exec (.handleMapWrite w) s = .next t ∧
      OnlyRegs s t [] ∧ t.out = []) ∧
  (∀ (x : BitVec 2) (w : Word32) (s : State), s.cfgOpen (corePage x) 0x090 = true → (s.slot x.toNat (s.get F.TS_SEL_PON x.toNat)).kind = .turnstile → (s.turn x.toNat (s.get F.TS_SEL_PON x.toNat)).cur = 0 → (s.turn x.toNat (s.get F.TS_SEL_PON x.toNat)).nxt = 0 →
      (s.turn x.toNat (s.get F.TS_SEL_PON x.toNat)).gang.toNat < 32 → ∃ t, exec (.turnstileApply x w) s = .next t ∧ t.flag F.TS_CTL_ERR x.toNat = false ∧
        (∀ i, i < 8 → (t.turn x.toNat (s.get F.TS_SEL_PON x.toNat)).cmask.extractLsb' (32 * i) 32 = tget 0 (s.stn x.toNat).stage i) ∧
        (∀ i, i < 4 → (t.turn x.toNat (s.get F.TS_SEL_PON x.toNat)).rmask.extractLsb' (32 * i) 32 = tget 0 (s.stn x.toNat).stage (8 + i)) ∧
        (t.turn x.toNat (s.get F.TS_SEL_PON x.toNat)).pkgBase.toNat = s.get F.TS_BASE_PKG_BASE x.toNat ∧ (t.turn x.toNat (s.get F.TS_SEL_PON x.toNat)).gang = (s.turn x.toNat (s.get F.TS_SEL_PON x.toNat)).gang ∧ SlotsBut s t x []) ∧
  (∀ (x : BitVec 2) (w : Word32) (s : State), s.cfgOpen (corePage x) 0x090 = true → ((s.slot x.toNat (s.get F.TS_SEL_PON x.toNat)).kind ≠ .turnstile ∨ (s.turn x.toNat (s.get F.TS_SEL_PON x.toNat)).cur ≠ 0 ∨ (s.turn x.toNat (s.get F.TS_SEL_PON x.toNat)).nxt ≠ 0 ∨
      32 ≤ (s.turn x.toNat (s.get F.TS_SEL_PON x.toNat)).gang.toNat) → ∃ t, exec (.turnstileApply x w) s = .next t ∧ t.flag F.TS_CTL_ERR x.toNat = true ∧
        t.get F.TS_CTL_CODE x.toNat = (if (s.slot x.toNat (s.get F.TS_SEL_PON x.toNat)).kind ≠ .turnstile then 1 else if (s.turn x.toNat (s.get F.TS_SEL_PON x.toNat)).cur ≠ 0 ∨ (s.turn x.toNat (s.get F.TS_SEL_PON x.toNat)).nxt ≠ 0 then 2 else 3) ∧
        OnlyRegs s t [F.TS_CTL_ERR.key x.toNat 0, F.TS_CTL_CODE.key x.toNat 0]) ∧
  (∀ (x : BitVec 2) (w : Word32) (s : State), s.cfgOpen (corePage x) 0x0A4 = true → ∃ t, exec (.driftConfigWrite x 0x0A4 w) s = .next t ∧ t.regs = s.regs ∧ SlotsBut s t x [] ∧
      t.drift x.toNat (s.get F.DRIFT_SEL_PAIR x.toNat) = if (s.drift x.toNat (s.get F.DRIFT_SEL_PAIR x.toNat)).mode = 0 then { s.drift x.toNat (s.get F.DRIFT_SEL_PAIR x.toNat) with prod := w.extractLsb' 0 14, cons := w.extractLsb' 16 14 } else { s.drift x.toNat (s.get F.DRIFT_SEL_PAIR x.toNat) with refused := true }) ∧
  (∀ (x : BitVec 2) (w : Word32) (s : State), s.cfgOpen (corePage x) 0x0AC = true → ∃ t, exec (.driftConfigWrite x 0x0AC w) s = .next t ∧ t.regs = s.regs ∧ SlotsBut s t x [] ∧
      t.drift x.toNat (s.get F.DRIFT_SEL_PAIR x.toNat) = if (s.drift x.toNat (s.get F.DRIFT_SEL_PAIR x.toNat)).mode = 0 then { s.drift x.toNat (s.get F.DRIFT_SEL_PAIR x.toNat) with depth := w } else { s.drift x.toNat (s.get F.DRIFT_SEL_PAIR x.toNat) with refused := true }) ∧
  (∀ (x : BitVec 2) (w : Word32) (s : State), s.cfgOpen (corePage x) 0x0B0 = true → ∃ t, exec (.driftConfigWrite x 0x0B0 w) s = .next t ∧ t.regs = s.regs ∧ SlotsBut s t x [] ∧
      t.drift x.toNat (s.get F.DRIFT_SEL_PAIR x.toNat) = if wbit w 5 then { s.drift x.toNat (s.get F.DRIFT_SEL_PAIR x.toNat) with refused := false } else s.drift x.toNat (s.get F.DRIFT_SEL_PAIR x.toNat)) ∧
  (∀ (x : BitVec 2) (w : Word32) (s : State), s.cfgOpen (corePage x) 0x0A8 = true → (s.drift x.toNat (s.get F.DRIFT_SEL_PAIR x.toNat)).mode = 0 → w.extractLsb' 0 2 ∈ ([1, 2] : List (BitVec 2)) → ∃ t, exec (.driftConfigWrite x 0x0A8 w) s = .next t ∧
      t.regs = s.regs ∧ SlotsBut s t x [] ∧
      t.drift x.toNat (s.get F.DRIFT_SEL_PAIR x.toNat) = if s.driftOk x.toNat { s.drift x.toNat (s.get F.DRIFT_SEL_PAIR x.toNat) with k := w.extractLsb' 2 16, ts := w.extractLsb' 18 14 } then
          { s.drift x.toNat (s.get F.DRIFT_SEL_PAIR x.toNat) with k := w.extractLsb' 2 16, ts := w.extractLsb' 18 14, mode := w.extractLsb' 0 2, bounds := 0 }
        else { s.drift x.toNat (s.get F.DRIFT_SEL_PAIR x.toNat) with k := w.extractLsb' 2 16, ts := w.extractLsb' 18 14, refused := true }) ∧
  (∀ (x : BitVec 2) (w : Word32) (pon : Nat) (s : State), s.cfgOpen (corePage x) 0x0D0 = true → s.semSlot x.toNat (bitsOf w.toNat 0 12) = some pon → s.waitersOf x.toNat pon = [] →
      ∃ t, exec (.semForcedPost x w) s = .next t ∧ CfgAnswered s t ∧ (t.ent x.toNat pon).count.toNat = min ((s.ent x.toNat pon).count.toNat + s.get F.SEMF_N_N x.toNat) (2 ^ 31 - 1) ∧
        (t.slot x.toNat pon).lastSrc = stationSrc x.toNat ∧ t.flag F.SEMF_CTL_DONE x.toNat = true ∧ t.flag F.SEMF_CTL_ERR x.toNat = false ∧ SlotsBut s t x [pon] ∧ RegsBut s t [F.SEMF_CTL_ENTRY.key x.toNat 0, F.SEMF_CTL_ACT.key x.toNat 0, F.SEMF_CTL_DONE.key x.toNat 0, F.SEMF_CTL_ERR.key x.toNat 0]) ∧
  (∀ (x : BitVec 2) (w : Word32) (s : State), s.cfgOpen (corePage x) 0x0D0 = true → s.semSlot x.toNat (bitsOf w.toNat 0 12) = none → ∃ t u, exec (.semForcedPost x w) s = .next t ∧
      exec (.semFlush x w) s = .next u ∧ t.flag F.SEMF_CTL_ERR x.toNat = true ∧ u.flag F.SEMF_CTL_ERR x.toNat = true ∧ OnlyRegs s t [F.SEMF_CTL_ENTRY.key x.toNat 0, F.SEMF_CTL_ACT.key x.toNat 0, F.SEMF_CTL_DONE.key x.toNat 0, F.SEMF_CTL_ERR.key x.toNat 0] ∧ OnlyRegs s u [F.SEMF_CTL_ENTRY.key x.toNat 0, F.SEMF_CTL_ACT.key x.toNat 0, F.SEMF_CTL_DONE.key x.toNat 0, F.SEMF_CTL_ERR.key x.toNat 0]) ∧
  (∀ (x : BitVec 2) (w : Word32) (pon : Nat) (s : State), s.cfgOpen (corePage x) 0x0D0 = true → s.semSlot x.toNat (bitsOf w.toNat 0 12) = some pon → (s.slot x.toNat pon).kind = .sem →
      ∃ t, exec (.semFlush x w) s = .next t ∧ (∀ y ∈ (t.mem x.toNat).waiters, y.pon ≠ pon) ∧ t.ent x.toNat pon = s.ent x.toNat pon ∧ t.flag F.SEMF_CTL_ERR x.toNat = false ∧
        SlotsBut s t x [] ∧ ∀ y ∈ s.waitersOf x.toNat pon, y.rq.load = none → y.rq.posted = false → (∃ h c q, y.rq.who = .queue h c q) →
          (⟨.stn x, y.rq.who.part, .compl y.rq .flushed 0 0 0⟩ : InFlight) ∈ t.net) ∧
  (∀ (x : BitVec 2) (w : Word32) (s : State), s.cfgOpen (corePage x) 0x0CC = true → (s.slot x.toNat (s.get F.MLOCK_PON_PON x.toNat)).kind = .mlock → (s.ent x.toNat (s.get F.MLOCK_PON_PON x.toNat)).held = false → s.waitersOf x.toNat (s.get F.MLOCK_PON_PON x.toNat) = [] →
      ∃ t, exec (.mlockSet x w) s = .next t ∧ t.flag F.MLOCK_CTL_ERR x.toNat = false ∧ SlotsBut s t x [(s.get F.MLOCK_PON_PON x.toNat)] ∧
        (t.slot x.toNat (s.get F.MLOCK_PON_PON x.toNat)).val.toNat = s.get64 F.MLOCK_ADDR_LO_ADDR F.MLOCK_ADDR_HI_ADDR x.toNat ∧
        (s.get64 F.MLOCK_ADDR_LO_ADDR F.MLOCK_ADDR_HI_ADDR x.toNat ≠ 0 → ∃ r ∈ (t.port x.toNat).queue, r.wr = true ∧ r.why = .mlock x.toNat (s.get F.MLOCK_PON_PON x.toNat) ∧
          r.line.toNat = s.get64 F.MLOCK_ADDR_LO_ADDR F.MLOCK_ADDR_HI_ADDR x.toNat / 64)) ∧
  (∀ (x : BitVec 2) (w : Word32) (s : State), s.cfgOpen (corePage x) 0x0CC = true → ((s.slot x.toNat (s.get F.MLOCK_PON_PON x.toNat)).kind ≠ .mlock ∨ (s.ent x.toNat (s.get F.MLOCK_PON_PON x.toNat)).held = true ∨ s.waitersOf x.toNat (s.get F.MLOCK_PON_PON x.toNat) ≠ []) →
      ∃ t, exec (.mlockSet x w) s = .next t ∧ t.flag F.MLOCK_CTL_ERR x.toNat = true ∧ t.get F.MLOCK_CTL_CODE x.toNat = (if (s.slot x.toNat (s.get F.MLOCK_PON_PON x.toNat)).kind ≠ .mlock then 1 else 2) ∧
        OnlyRegs s t [F.MLOCK_CTL_ERR.key x.toNat 0, F.MLOCK_CTL_CODE.key x.toNat 0]) ∧
  (∀ (x : BitVec 2) (w : Word32) (s : State), s.cfgOpen (corePage x) 0x0EC = true → (s.slot x.toNat (s.get F.RING_PON_PON x.toNat)).kind = .ring → s.ringR x.toNat (s.get F.RING_PON_PON x.toNat) = s.ringL x.toNat (s.get F.RING_PON_PON x.toNat) →
      (∀ i, i < 4 → s.waitersOf x.toNat ((s.get F.RING_PON_PON x.toNat) + i) = []) → ∃ t, exec (.ringBaseSet x w) s = .next t ∧ t.flag F.RING_CTL_ERR x.toNat = false ∧
        (t.slot x.toNat ((s.get F.RING_PON_PON x.toNat) + 3)).val.toNat = s.get64 F.RING_BASE_LO_ADDR F.RING_BASE_HI_ADDR x.toNat ∧ SlotsBut s t x [(s.get F.RING_PON_PON x.toNat) + 3] ∧
        RegsBut s t [F.RING_CTL_ERR.key x.toNat 0, F.RING_CTL_CODE.key x.toNat 0]) ∧
  (∀ (x : BitVec 2) (w : Word32) (s : State), s.cfgOpen (corePage x) 0x0EC = true → ((s.slot x.toNat (s.get F.RING_PON_PON x.toNat)).kind ≠ .ring ∨ s.ringR x.toNat (s.get F.RING_PON_PON x.toNat) ≠ s.ringL x.toNat (s.get F.RING_PON_PON x.toNat) ∨
      ∃ i ∈ List.range 4, s.waitersOf x.toNat ((s.get F.RING_PON_PON x.toNat) + i) ≠ []) → ∃ t, exec (.ringBaseSet x w) s = .next t ∧ t.flag F.RING_CTL_ERR x.toNat = true ∧
        OnlyRegs s t [F.RING_CTL_ERR.key x.toNat 0, F.RING_CTL_CODE.key x.toNat 0]) ∧
  (∀ (w : Word32) (s : State), s.cfgOpen 0x03 0x11C = true → (List.range 4).flatMap (fun si => (s.heldLocks si (s.get F.ORPH_ID_HOLDER) (s.get F.ORPH_ID_PAV) (s.flag F.ORPH_ID_ANY)).map (fun p => (si, p))) = [] → ∃ t, exec (.orphanCommand w) s = .next t ∧ t.get F.ORPH_CTL_COUNT = 0 ∧
      OnlyRegs s t [F.ORPH_CTL_COUNT.key 0 0] ∧ CfgAnswered s t) ∧
  (∀ (w : Word32) (si pon : Nat) (s : State), s.cfgOpen 0x03 0x11C = true → (List.range 4).flatMap (fun si => (s.heldLocks si (s.get F.ORPH_ID_HOLDER) (s.get F.ORPH_ID_PAV) (s.flag F.ORPH_ID_ANY)).map (fun p => (si, p))) = [(si, pon)] → s.waitersOf si pon = [] → ∃ t, exec (.orphanCommand w) s = .next t ∧
      t.get F.ORPH_CTL_COUNT = 1 ∧ (t.ent si pon).held = false ∧ (t.ent si pon).orphan = true ∧ (t.ent si pon).count = (s.ent si pon).count)

/-- A register instruction writes its register alone and goes on at the next word; a branch goes to its target if its
condition holds and LOOP counts down first. Past the span the thread traps with RANGE, on an illegal word with
ILLEGAL, and after 65,536 instructions with SPIN. END with no request outstanding adds STEP to L6 and ends the run;
STOP and TRAP stop the thread with their cause. KICK writes L to the doorbell with a credit and goes on, KICKW
waits. Other threads are as they were. -/
def Obligations.LeverRegisterAndBranchInstructions : Prop :=
  (∀ (th : ThreadId) (s : State), s.issues th 0x1D = true → ∃ t, exec (.leverSeti th) s = .next t ∧ (s.spans th (((s.th th).pc).toNat + 1) = true → LeverSets s t th (lvSigned (s.fetchLever th))) ∧
      (s.spans th (((s.th th).pc).toNat + 1) = false → Trapped t th 3 (((s.th th).pc).toNat + 1) ∧ (t.th th).reg (lvReg (s.fetchLever th)) = lvSigned (s.fetchLever th))) ∧
  (∀ (th : ThreadId) (s : State), s.issues th 0x1E = true → ∃ t, exec (.leverAddi th) s = .next t ∧ (s.spans th (((s.th th).pc).toNat + 1) = true → LeverSets s t th ((s.th th).reg (lvReg (s.fetchLever th)) + lvSigned (s.fetchLever th))) ∧
      (s.spans th (((s.th th).pc).toNat + 1) = false → Trapped t th 3 (((s.th th).pc).toNat + 1) ∧ (t.th th).reg (lvReg (s.fetchLever th)) = (s.th th).reg (lvReg (s.fetchLever th)) + lvSigned (s.fetchLever th))) ∧
  (∀ (th : ThreadId) (s : State), s.issues th 0x40 = true → ∃ t, exec (.leverAluAdd th) s = .next t ∧ (s.spans th (((s.th th).pc).toNat + 1) = true → LeverSets s t th ((s.th th).reg (lvReg (s.fetchLever th)) + (s.th th).reg (lvImm (s.fetchLever th) % 8))) ∧
      (s.spans th (((s.th th).pc).toNat + 1) = false → Trapped t th 3 (((s.th th).pc).toNat + 1) ∧ (t.th th).reg (lvReg (s.fetchLever th)) = (s.th th).reg (lvReg (s.fetchLever th)) + (s.th th).reg (lvImm (s.fetchLever th) % 8))) ∧
  (∀ (th : ThreadId) (s : State), s.issues th 0x41 = true → ∃ t, exec (.leverAluSub th) s = .next t ∧ (s.spans th (((s.th th).pc).toNat + 1) = true → LeverSets s t th ((s.th th).reg (lvReg (s.fetchLever th)) - (s.th th).reg (lvImm (s.fetchLever th) % 8))) ∧
      (s.spans th (((s.th th).pc).toNat + 1) = false → Trapped t th 3 (((s.th th).pc).toNat + 1) ∧ (t.th th).reg (lvReg (s.fetchLever th)) = (s.th th).reg (lvReg (s.fetchLever th)) - (s.th th).reg (lvImm (s.fetchLever th) % 8))) ∧
  (∀ (th : ThreadId) (s : State), s.issues th 0x42 = true → ∃ t, exec (.leverAluAnd th) s = .next t ∧ (s.spans th (((s.th th).pc).toNat + 1) = true → LeverSets s t th ((s.th th).reg (lvReg (s.fetchLever th)) &&& (s.th th).reg (lvImm (s.fetchLever th) % 8))) ∧
      (s.spans th (((s.th th).pc).toNat + 1) = false → Trapped t th 3 (((s.th th).pc).toNat + 1) ∧ (t.th th).reg (lvReg (s.fetchLever th)) = (s.th th).reg (lvReg (s.fetchLever th)) &&& (s.th th).reg (lvImm (s.fetchLever th) % 8))) ∧
  (∀ (th : ThreadId) (s : State), s.issues th 0x43 = true → ∃ t, exec (.leverAluShl th) s = .next t ∧ (s.spans th (((s.th th).pc).toNat + 1) = true → LeverSets s t th ((s.th th).reg (lvReg (s.fetchLever th)) <<< (lvImm (s.fetchLever th) / 8 % 64))) ∧
      (s.spans th (((s.th th).pc).toNat + 1) = false → Trapped t th 3 (((s.th th).pc).toNat + 1) ∧ (t.th th).reg (lvReg (s.fetchLever th)) = (s.th th).reg (lvReg (s.fetchLever th)) <<< (lvImm (s.fetchLever th) / 8 % 64))) ∧
  (∀ (th : ThreadId) (s : State), s.issues th 0x44 = true → ∃ t, exec (.leverAluShr th) s = .next t ∧ (s.spans th (((s.th th).pc).toNat + 1) = true → LeverSets s t th ((s.th th).reg (lvReg (s.fetchLever th)) >>> (lvImm (s.fetchLever th) / 8 % 64))) ∧
      (s.spans th (((s.th th).pc).toNat + 1) = false → Trapped t th 3 (((s.th th).pc).toNat + 1) ∧ (t.th th).reg (lvReg (s.fetchLever th)) = (s.th th).reg (lvReg (s.fetchLever th)) >>> (lvImm (s.fetchLever th) / 8 % 64))) ∧
  (∀ (th : ThreadId) (s : State), s.issues th 0x18 = true → ∃ t, exec (.leverBeq th) s = .next t ∧
      (s.spans th (if (s.th th).status.code == lvImm (s.fetchLever th) / 4096 % 16 then lvImm (s.fetchLever th) % 4096 else (((s.th th).pc).toNat + 1)) = true → LeverGoes s t th ((s.th th).status.code == lvImm (s.fetchLever th) / 4096 % 16)) ∧
      (s.spans th (if (s.th th).status.code == lvImm (s.fetchLever th) / 4096 % 16 then lvImm (s.fetchLever th) % 4096 else (((s.th th).pc).toNat + 1)) = false → Trapped t th 3 (if (s.th th).status.code == lvImm (s.fetchLever th) / 4096 % 16 then lvImm (s.fetchLever th) % 4096 else (((s.th th).pc).toNat + 1)))) ∧
  (∀ (th : ThreadId) (s : State), s.issues th 0x19 = true → ∃ t, exec (.leverBne th) s = .next t ∧
      (s.spans th (if (s.th th).status.code != lvImm (s.fetchLever th) / 4096 % 16 then lvImm (s.fetchLever th) % 4096 else (((s.th th).pc).toNat + 1)) = true → LeverGoes s t th ((s.th th).status.code != lvImm (s.fetchLever th) / 4096 % 16)) ∧
      (s.spans th (if (s.th th).status.code != lvImm (s.fetchLever th) / 4096 % 16 then lvImm (s.fetchLever th) % 4096 else (((s.th th).pc).toNat + 1)) = false → Trapped t th 3 (if (s.th th).status.code != lvImm (s.fetchLever th) / 4096 % 16 then lvImm (s.fetchLever th) % 4096 else (((s.th th).pc).toNat + 1)))) ∧
  (∀ (th : ThreadId) (s : State), s.issues th 0x1A = true → ∃ t, exec (.leverBz th) s = .next t ∧
      (s.spans th (if (s.th th).reg (lvReg (s.fetchLever th)) == 0 then lvImm (s.fetchLever th) % 4096 else (((s.th th).pc).toNat + 1)) = true → LeverGoes s t th ((s.th th).reg (lvReg (s.fetchLever th)) == 0)) ∧
      (s.spans th (if (s.th th).reg (lvReg (s.fetchLever th)) == 0 then lvImm (s.fetchLever th) % 4096 else (((s.th th).pc).toNat + 1)) = false → Trapped t th 3 (if (s.th th).reg (lvReg (s.fetchLever th)) == 0 then lvImm (s.fetchLever th) % 4096 else (((s.th th).pc).toNat + 1)))) ∧
  (∀ (th : ThreadId) (s : State), s.issues th 0x1B = true → ∃ t, exec (.leverB th) s = .next t ∧
      (s.spans th (if true then lvImm (s.fetchLever th) % 4096 else (((s.th th).pc).toNat + 1)) = true → LeverGoes s t th (true)) ∧
      (s.spans th (if true then lvImm (s.fetchLever th) % 4096 else (((s.th th).pc).toNat + 1)) = false → Trapped t th 3 (if true then lvImm (s.fetchLever th) % 4096 else (((s.th th).pc).toNat + 1)))) ∧
  (∀ (th : ThreadId) (s : State), s.issues th 0x1C = true → s.spans th (if (s.th th).reg (lvReg (s.fetchLever th)) ≠ 1 then lvImm (s.fetchLever th) % 4096 else ((s.th th).pc).toNat + 1) = true →
      ∃ t, exec (.leverLoop th) s = .next t ∧ t.th th = { (s.th th).setReg (lvReg (s.fetchLever th)) ((s.th th).reg (lvReg (s.fetchLever th)) - 1) with spin := (s.th th).spin + 1, pc := if (s.th th).reg (lvReg (s.fetchLever th)) ≠ 1 then BitVec.ofNat 12 (lvImm (s.fetchLever th)) else (s.th th).pc + 1 } ∧
        OnlyThread s t th ∧ t.out = []) ∧
  (∀ (th : ThreadId) (c : Instr) (k : Nat) (s : State), (c, k) ∈ [(Instr.leverEnd th, 0x00), (.leverStop th, 0x01), (.leverWait th, 0x04), (.leverRead th, 0x05), (.leverSig th, 0x08), (.leverPost th, 0x09), (.leverDec th, 0x0A), (.leverArrive th, 0x0B), (.leverFold th, 0x0C), (.leverTick th, 0x10), (.leverRsv th, 0x11), (.leverCmt th, 0x12), (.leverRel th, 0x13), (.leverKick th, 0x14), (.leverKickw th, 0x15), (.leverBeq th, 0x18), (.leverBne th, 0x19), (.leverBz th, 0x1A), (.leverB th, 0x1B), (.leverLoop th, 0x1C), (.leverSeti th, 0x1D), (.leverAddi th, 0x1E), (.leverTrap th, 0x20), (.leverAluAdd th, 0x40), (.leverAluSub th, 0x41), (.leverAluAnd th, 0x42), (.leverAluShl th, 0x43), (.leverAluShr th, 0x44)] → s.rowsGood = true → s.thServed th = true → (s.th th).state = .running → (s.th th).spin ≠ 65536 → lvKey (s.fetchLever th) = k → lvLegal th (s.fetchLever th) = false →
      ∃ t, exec c s = .next t ∧ Trapped t th 2 (lvOp (s.fetchLever th))) ∧
  (∀ (th : ThreadId) (s : State), s.issues th 0x20 = true → ∃ t, exec (.leverTrap th) s = .next t ∧ Trapped t th 1 (lvImm (s.fetchLever th))) ∧
  (∀ (th : ThreadId) (s : State), (s.th th).state = .running → (s.th th).spin = 65536 → ∃ t, exec (.spinTrap th) s = .next t ∧ Trapped t th 8 0) ∧
  (∀ (th : ThreadId) (s : State), s.issues th 0x01 = true → (s.th th).unacked = 0 → ∃ t, exec (.leverStop th) s = .next t ∧ Trapped t th 11 0 ∧ (t.th th).regs = (s.th th).regs) ∧
  (∀ (th : ThreadId) (c : Instr) (k : Nat) (s : State), (c, k) ∈ [(Instr.leverEnd th, 0x00), (.leverStop th, 0x01)] → s.issues th k = true → (s.th th).unacked ≠ 0 →
      ∃ t, exec c s = .next t ∧ t.th th = s.th th ∧ OnlyThread s t th) ∧
  (∀ (th : ThreadId) (s : State), s.issues th 0x00 = true → (s.th th).unacked = 0 → ((s.activeEntry th).v && (s.activeEntry th).trigV) = false → ∃ t, exec (.leverEnd th) s = .next t ∧
      t.th th = { (s.th th).setReg 6 ((s.th th).reg 6 + (s.entryOf th).step.zeroExtend 64) with
        spin := (s.th th).spin + 1, retries := 0, run := none, runs := BitVec.ofNat 16 (min ((s.th th).runs.toNat + 1) 0xFFFF), state := .off } ∧ OnlyThread s t th) ∧
  (∀ (th : ThreadId) (s : State), s.issues th 0x00 = true → (s.th th).unacked = 0 → (s.activeEntry th).v = true → (s.activeEntry th).trigV = true →
      (s.activeEntry th).malformed = false → (∀ n, th = .jct n → (s.atEntry ((s.activeEntry th).obj.toNat % 256) (s.activeEntry th).pav).isSome = true) → ∃ t, exec (.leverEnd th) s = .next t ∧
      (t.th th).state = .armed ∧ (t.th th).reg 6 = (s.th th).reg 6 + (s.entryOf th).step.zeroExtend 64 ∧ ∃ q, (t.th th).wait = some q ∧ q.req.op = 0x02 ∧ q.req.operand = (t.th th).reg 6) ∧
  (∀ (th : ThreadId) (s : State), s.issues th 0x00 = true → (s.th th).unacked = 0 → (s.activeEntry th).v = true → (s.activeEntry th).trigV = true →
      (s.activeEntry th).malformed = true → ∃ t, exec (.leverEnd th) s = .next t ∧ Trapped t th 3 ((s.th th).pc).toNat) ∧
  (∀ (th : ThreadId) (d : Doorbell) (s : State), s.issues th 0x14 = true → d = tget Doorbell.init (s.box (thPart th)).doorbells (lvImm (s.fetchLever th) % 64) → d.v = true →
      d.pav = (s.entryOf th).pav → s.pavFrozen d.pav = false → s.credits (partEndpoint (thPart th)) 2 ≠ 0 → s.spans th (((s.th th).pc).toNat + 1) = true → ∃ t, exec (.leverKick th) s = .next t ∧
        (s.su.wInstr.underTest = false → t.out = [.kick (thPart th) d.addr ((s.th th).reg (lvReg (s.fetchLever th)))]) ∧
        t.credits (partEndpoint (thPart th)) 2 = s.credits (partEndpoint (thPart th)) 2 - 1 ∧
        t.th th = { s.th th with spin := 0, pc := (s.th th).pc + 1 } ∧ OnlyThread s t th) ∧
  (∀ (th : ThreadId) (d : Doorbell) (s : State), s.issues th 0x15 = true → d = tget Doorbell.init (s.box (thPart th)).doorbells (lvImm (s.fetchLever th) % 64) → d.v = true →
      d.pav = (s.entryOf th).pav → s.pavFrozen d.pav = false → s.credits (partEndpoint (thPart th)) 2 ≠ 0 → s.spans th (((s.th th).pc).toNat + 1) = true → ∃ t, exec (.leverKickw th) s = .next t ∧
        (s.su.wInstr.underTest = false → t.out = [.kick (thPart th) d.addr ((s.th th).reg (lvReg (s.fetchLever th)))]) ∧
        t.credits (partEndpoint (thPart th)) 2 = s.credits (partEndpoint (thPart th)) 2 - 1 ∧
        t.th th = { s.th th with spin := 0, state := .waiting, kickw := true } ∧ OnlyThread s t th) ∧
  (∀ (th : ThreadId) (c : Instr) (k : Nat) (d : Doorbell) (s : State), (c, k) ∈ [(Instr.leverKick th, 0x14), (.leverKickw th, 0x15)] → s.issues th k = true →
      d = tget Doorbell.init (s.box (thPart th)).doorbells (lvImm (s.fetchLever th) % 64) → s.pavFrozen (s.entryOf th).pav = false → (d.v = false ∨ d.pav ≠ (s.entryOf th).pav) →
      ∃ t, exec c s = .next t ∧ Trapped t th 7 (lvImm (s.fetchLever th) % 64))

/-- Of a frozen pavilion the thread is HELD; without an address-table entry of its pavilion a junction thread traps
with OBJECT; without a retention entry nothing happens. Else a posted instruction counts as outstanding and the
thread goes on; a blocking one waits with the request of its operation. A SIG of a station box adds the register to
a COUNTER of its station, and a READ is answered with the object's word. -/
def Obligations.LeverObjectInstructions : Prop :=
  (∀ (th : ThreadId) (s : State), s.sends th 0x04 = true → ∃ t, exec (.leverWait th) s = .next t ∧ LeverWaits s t th 0x02 ((s.th th).reg (lvReg (s.fetchLever th)))) ∧
  (∀ (th : ThreadId) (s : State), s.sends th 0x05 = true → ∃ t, exec (.leverRead th) s = .next t ∧ LeverWaits s t th 0x04 0) ∧
  (∀ (th : ThreadId) (s : State), s.sends th 0x0A = true → ∃ t, exec (.leverDec th) s = .next t ∧ LeverWaits s t th 0x0A ((s.th th).reg (lvReg (s.fetchLever th)))) ∧
  (∀ (th : ThreadId) (s : State), s.sends th 0x10 = true → ∃ t, exec (.leverTick th) s = .next t ∧ LeverWaits s t th 0x14 ((s.th th).reg (lvReg (s.fetchLever th)))) ∧
  (∀ (th : ThreadId) (s : State), s.sends th 0x11 = true → ∃ t, exec (.leverRsv th) s = .next t ∧ LeverWaits s t th 0x1C ((s.th th).reg (lvReg (s.fetchLever th)))) ∧
  (∀ (th : ThreadId) (s : State), s.sends th 0x08 = true → ∃ t, exec (.leverSig th) s = .next t ∧ (lvImm (s.fetchLever th) / 2 ^ 20 % 2 = 1 → LeverWaits s t th 0x01 ((s.th th).reg (lvReg (s.fetchLever th)))) ∧
      (lvImm (s.fetchLever th) / 2 ^ 20 % 2 = 0 → s.spans th (((s.th th).pc).toNat + 1) = true → LeverPosts s t th)) ∧
  (∀ (th : ThreadId) (s : State), s.sends th 0x09 = true → ∃ t, exec (.leverPost th) s = .next t ∧ (lvImm (s.fetchLever th) / 2 ^ 20 % 2 = 1 → LeverWaits s t th 0x08 ((s.th th).reg (lvReg (s.fetchLever th)))) ∧
      (lvImm (s.fetchLever th) / 2 ^ 20 % 2 = 0 → s.spans th (((s.th th).pc).toNat + 1) = true → LeverPosts s t th)) ∧
  (∀ (th : ThreadId) (s : State), s.sends th 0x0B = true → ∃ t, exec (.leverArrive th) s = .next t ∧ (lvImm (s.fetchLever th) / 2 ^ 20 % 2 = 1 → LeverWaits s t th 0x11 0) ∧
      (lvImm (s.fetchLever th) / 2 ^ 20 % 2 = 0 → s.spans th (((s.th th).pc).toNat + 1) = true → LeverPosts s t th)) ∧
  (∀ (th : ThreadId) (s : State), s.sends th 0x0C = true → ∃ t, exec (.leverFold th) s = .next t ∧ (lvImm (s.fetchLever th) / 2 ^ 20 % 2 = 1 → LeverWaits s t th 0x18 ((s.th th).reg (lvReg (s.fetchLever th)))) ∧
      (lvImm (s.fetchLever th) / 2 ^ 20 % 2 = 0 → s.spans th (((s.th th).pc).toNat + 1) = true → LeverPosts s t th)) ∧
  (∀ (th : ThreadId) (s : State), s.sends th 0x12 = true → ∃ t, exec (.leverCmt th) s = .next t ∧ (lvImm (s.fetchLever th) / 2 ^ 20 % 2 = 1 → LeverWaits s t th 0x1D ((s.th th).reg (lvReg (s.fetchLever th)))) ∧
      (lvImm (s.fetchLever th) / 2 ^ 20 % 2 = 0 → s.spans th (((s.th th).pc).toNat + 1) = true → LeverPosts s t th)) ∧
  (∀ (th : ThreadId) (s : State), s.sends th 0x13 = true → ∃ t, exec (.leverRel th) s = .next t ∧ (lvImm (s.fetchLever th) / 2 ^ 20 % 2 = 1 → LeverWaits s t th 0x1E ((s.th th).reg (lvReg (s.fetchLever th)))) ∧
      (lvImm (s.fetchLever th) / 2 ^ 20 % 2 = 0 → s.spans th (((s.th th).pc).toNat + 1) = true → LeverPosts s t th)) ∧
  (∀ (th : ThreadId) (c : Instr) (k : Nat) (s : State), (c, k) ∈ [(Instr.leverWait th, 0x04), (.leverRead th, 0x05), (.leverSig th, 0x08), (.leverPost th, 0x09), (.leverDec th, 0x0A), (.leverArrive th, 0x0B), (.leverFold th, 0x0C), (.leverTick th, 0x10), (.leverRsv th, 0x11), (.leverCmt th, 0x12), (.leverRel th, 0x13)] → s.issues th k = true → s.pavFrozen (s.entryOf th).pav = true → ∃ t, exec c s = .next t ∧
      t.th th = { s.th th with state := .held } ∧ OnlyThread s t th) ∧
  (∀ (n : BitVec 4) (th : ThreadId) (c : Instr) (k : Nat) (s : State), th = .jct n → (c, k) ∈ [(Instr.leverWait th, 0x04), (.leverRead th, 0x05), (.leverSig th, 0x08), (.leverPost th, 0x09), (.leverDec th, 0x0A), (.leverArrive th, 0x0B), (.leverFold th, 0x0C), (.leverTick th, 0x10), (.leverRsv th, 0x11), (.leverCmt th, 0x12), (.leverRel th, 0x13)] → s.issues th k = true → s.pavFrozen (s.entryOf th).pav = false →
      s.atEntry (lvImm (s.fetchLever th) % 2 ^ 20 % 256) (s.entryOf th).pav = none → ∃ t, exec c s = .next t ∧ Trapped t th 7 (lvImm (s.fetchLever th) % 2 ^ 20)) ∧
  (∀ (th : ThreadId) (c : Instr) (k : Nat) (s : State), (c, k) ∈ [(Instr.leverWait th, 0x04), (.leverRead th, 0x05), (.leverSig th, 0x08), (.leverPost th, 0x09), (.leverDec th, 0x0A), (.leverArrive th, 0x0B), (.leverFold th, 0x0C), (.leverTick th, 0x10), (.leverRsv th, 0x11), (.leverCmt th, 0x12), (.leverRel th, 0x13)] → s.issues th k = true → s.pavFrozen (s.entryOf th).pav = false → (∀ n, th = .jct n → (s.thAddr th (lvImm (s.fetchLever th) % 2 ^ 20) (s.entryOf th).pav).isSome = true) →
      s.thNoRoom th (lvSync k).1 (s.thAddr th (lvImm (s.fetchLever th) % 2 ^ 20) (s.entryOf th).pav) = true → ∃ t, exec c s = .next t ∧ t.th th = s.th th ∧ OnlyThread s t th) ∧
  (∀ (x : BitVec 2) (n : BitVec 4) (th : ThreadId) (pon : Nat) (s : State), th = .stn x n → s.issues th 0x08 = true → s.pavFrozen (s.entryOf th).pav = false →
      s.thAddr th (lvImm (s.fetchLever th) % 2 ^ 20) (s.entryOf th).pav = some (s.addrOf x.toNat pon) → pon < 16384 → s.admits 0x01 (s.entryOf th).pav x pon = true → (s.th th).reg (lvReg (s.fetchLever th)) ≠ 0 →
      (s.slot x.toNat pon).val.toNat + ((s.th th).reg (lvReg (s.fetchLever th))).toNat < 2 ^ 64 → (∀ e ∈ (s.mem x.toNat).boundList, e.1 ≠ pon) → ∃ t, exec (.leverSig th) s = .next t ∧
        (t.slot x.toNat pon).val = (s.slot x.toNat pon).val + (s.th th).reg (lvReg (s.fetchLever th)) ∧ (t.slot x.toNat pon).lastSrc = BitVec.ofNat 16 (0x4000 + x.toNat * 16 + n.toNat)) ∧
  (∀ (x : BitVec 2) (n : BitVec 4) (th : ThreadId) (pon : Nat) (s : State), th = .stn x n → s.issues th 0x05 = true → s.pavFrozen (s.entryOf th).pav = false →
      s.thAddr th (lvImm (s.fetchLever th) % 2 ^ 20) (s.entryOf th).pav = some (s.addrOf x.toNat pon) → pon < 16384 → s.admits 0x04 (s.entryOf th).pav x pon = true → ∃ t q, exec (.leverRead th) s = .next t ∧ q.who = .thread th ∧ q.req.op = 0x04 ∧
        (⟨.stn x, .stn x, .compl q .done (s.readWord x.toNat pon) 0 0⟩ : InFlight) ∈ t.net ∧ SlotsBut s t x [])

/-- An answer that a waiting thread waits for goes to L7 and STATUS, and the thread goes on; an acknowledgement lowers
the count of requests outstanding; FAULT goes to the retry entry, or traps. The answer of a cancelled READ is
discarded. A trigger that ends DONE starts the run, with another status it traps. A doorbell's response ends KICKW.
A tick ages a wait, which ends with TIMEOUT at its limit unless it is released. The store is written but for
protected words; ARM starts an OFF thread, STOP stops and CLEAR turns a STOPPED one OFF; the registers of an idle
thread are written. Scripts likewise. -/
def Obligations.LeverEventsAndCommands : Prop :=
  (∀ (th : ThreadId) (st : Status) (v : Word64) (s : State), (s.th th).state = .waiting → s.thMsg th = none → s.thReached th = some (st, v) → st ≠ .fault → s.spans th (((s.th th).pc).toNat + 1) = true →
      ∃ t, exec (.leverCompletion th) s = .next t ∧ t.th th = { (s.th th).setReg 7 v with status := st, wait := none, cmp := none, age := 0, state := .running, pc := (s.th th).pc + 1 } ∧ OnlyThread s t th) ∧
  (∀ (th : ThreadId) (m : InFlight) (rq q : HReq) (st : Status) (v aux : Word64) (mods : BitVec 9) (s : State), (s.th th).state = .waiting → (s.th th).cancelled.all (fun w => decide (w.req ≠ rq.req)) = true → s.thMsg th = some m →
      m.msg = .compl rq st v aux mods → (s.th th).wait = some q → q.req = rq.req → st ≠ .fault → s.spans th (((s.th th).pc).toNat + 1) = true →
      ∃ t, exec (.leverCompletion th) s = .next t ∧ t.th th = { (s.th th).setReg 7 v with status := st, wait := none, cmp := none, age := 0, state := .running, pc := (s.th th).pc + 1 } ∧ t.net.length + 1 = s.net.length) ∧
  (∀ (th : ThreadId) (m : InFlight) (rq q : HReq) (v aux : Word64) (mods : BitVec 9) (s : State), (s.th th).state = .waiting → (s.th th).cancelled.all (fun w => decide (w.req ≠ rq.req)) = true → s.thMsg th = some m →
      m.msg = .compl rq .fault v aux mods → (s.th th).wait = some q → q.req = rq.req → ∃ t, exec (.leverCompletion th) s = .next t ∧
      ((s.entryOf th).retryV = true → (s.th th).retries ≠ 4 → (t.th th).status = .fault ∧ (t.th th).retries = (s.th th).retries + 1 ∧ (t.th th).state = .running ∧ (t.th th).pc = (s.entryOf th).retry) ∧
      ((s.entryOf th).retryV = true → (s.th th).retries = 4 → Trapped t th 5 7) ∧ ((s.entryOf th).retryV = false → Trapped t th 4 7)) ∧
  (∀ (th : ThreadId) (m : InFlight) (rq : HReq) (st : Status) (s : State), s.thMsg th = some m → m.msg = .ack rq st → st ≠ .fault →
      ∃ t, exec (.leverCompletion th) s = .next t ∧ (st = .done → t.th th = { s.th th with unacked := (s.th th).unacked - 1 }) ∧
        (st ≠ .done → t.th th = { s.th th with unacked := (s.th th).unacked - 1, pfFirst := some ((s.th th).pfFirst.getD st), pfCount := BitVec.ofNat 16 (min ((s.th th).pfCount.toNat + 1) 0xFFFF) })) ∧
  (∀ (th : ThreadId) (m : InFlight) (rq : HReq) (st : Status) (v aux : Word64) (mods : BitVec 9) (s : State), (s.th th).state ≠ .armed → s.thMsg th = some m →
      m.msg = .compl rq st v aux mods → rq.req.op = 0x04 → (∃ w ∈ (s.th th).cancelled, w.req = rq.req) → ∃ t, exec (.leverCompletion th) s = .next t ∧
      t.th th = { s.th th with cancelled := (s.th th).cancelled.eraseP (fun w => decide (w.req = rq.req)) } ∧ t.net.length + 1 = s.net.length) ∧
  (∀ (th : ThreadId) (m : InFlight) (core : BitVec 8) (qt : BitVec 5) (seq : BitVec 8) (q : HReq) (st : Status) (v : Word64) (mods : BitVec 9) (s : State), (s.th th).state = .waiting →
      s.thMsg th = some m → m.msg = .remoteAnswer core qt false seq st v mods → (s.th th).wait = some q → opRetained q.req.op = true → aSrc q.addr ≠ s.dieSrc → q.req.seq = seq →
      st ≠ .fault → s.spans th (((s.th th).pc).toNat + 1) = true → ∃ t, exec (.leverCompletion th) s = .next t ∧ t.th th = { (s.th th).setReg 7 v with status := st, wait := none, cmp := none, age := 0, state := .running, pc := (s.th th).pc + 1 }) ∧
  (∀ (th : ThreadId) (st : Status) (v : Word64) (s : State), (s.th th).state = .armed → s.thAnswer th = none → s.thReached th = some (st, v) → ∃ t, exec (.trigger th) s = .next t ∧
      (st = .done → t.th th = { (s.th th).setReg 7 v with status := .done, wait := none, cmp := none, state := .running, pc := (s.activeEntry th).entry } ∧ OnlyThread s t th) ∧
      (st = .flushed → Trapped t th 6 st.code) ∧ (st ≠ .done → st ≠ .fault → st ≠ .flushed → Trapped t th 9 st.code)) ∧
  (∀ (th : ThreadId) (m : InFlight) (rq q : HReq) (st : Status) (v aux : Word64) (mods : BitVec 9) (s : State), (s.th th).state = .armed → s.thMsg th = some m →
      m.msg = .compl rq st v aux mods → (s.th th).wait = some q → q.req = rq.req → ∃ t, exec (.trigger th) s = .next t ∧
      (st = .done → (t.th th).state = .running ∧ (t.th th).reg 7 = v ∧ (t.th th).pc = (s.activeEntry th).entry) ∧ (st = .flushed → Trapped t th 6 st.code) ∧ (st ≠ .done → st ≠ .fault → st ≠ .flushed → Trapped t th 9 st.code)) ∧
  (∀ (th : ThreadId) (s : State), (s.th th).state = .waiting → (s.th th).kickw = true → s.spans th (((s.th th).pc).toNat + 1) = true → ∃ t, exec (.doorbellWriteResponse th false) s = .next t ∧
      t.th th = { s.th th with status := .done, kickw := false, state := .running, pc := (s.th th).pc + 1 } ∧ OnlyThread s t th) ∧
  (∀ (th : ThreadId) (s : State), (s.th th).state = .waiting → (s.th th).kickw = true → (s.entryOf th).retryV = false → ∃ t, exec (.doorbellWriteResponse th true) s = .next t ∧ Trapped t th 4 7) ∧
  (∀ (box : BitVec 3) (i : Nat) (q : HReq) (th : ThreadId) (s : State), box.toNat ≤ 4 → i < 16 → th = boxThread box.toNat i → (s.th th).state = .waiting → (s.th th).wait = some q →
      q.req.op ∈ [0x02, 0x04] → ∃ t, exec (.boxAgeTick box) s = .next t ∧
      (s.waitLimit q.req.pav = 0 ∨ (ageUp (s.th th).age).toNat < s.waitLimit q.req.pav → t.th th = { s.th th with age := ageUp (s.th th).age }) ∧
      (s.waitLimit q.req.pav ≠ 0 → s.waitLimit q.req.pav ≤ (ageUp (s.th th).age).toNat → s.spans th (((s.th th).pc).toNat + 1) = true →
        s.net.any (answerOf th q) = false → s.thReached th = none → (t.th th).state = .running ∧ (t.th th).status = .timeout ∧ (t.th th).pc = (s.th th).pc + 1 ∧ (t.th th).reg 7 = 0 ∧ (t.th th).wait = none) ∧
      (s.waitLimit q.req.pav ≠ 0 → s.waitLimit q.req.pav ≤ (ageUp (s.th th).age).toNat → s.spans th (((s.th th).pc).toNat + 1) = true → s.net.any (answerOf th q) = false →
        ∀ st v, s.thReached th = some (st, v) → st ≠ .fault → (t.th th).state = .running ∧ (t.th th).status = st ∧ (t.th th).pc = (s.th th).pc + 1 ∧ (t.th th).reg 7 = v)) ∧
  (∀ (box : BitVec 3) (w : Word32) (s : State), s.cfgOpen (boxPage box.toNat) 0x044 = true → ∃ t, exec (.programStoreWrite box w) s = .next t ∧
      ((s.box (boxPart (min box.toNat 4))).protects (s.get F.SB_PW_IDX_IDX (boxInst (min box.toNat 4))) = false → tget 0 (t.box (boxPart (min box.toNat 4))).store (s.get F.SB_PW_IDX_IDX (boxInst (min box.toNat 4))) = w ∧ ∀ n, n ≠ (s.get F.SB_PW_IDX_IDX (boxInst (min box.toNat 4))) → tget 0 (t.box (boxPart (min box.toNat 4))).store n = tget 0 (s.box (boxPart (min box.toNat 4))).store n) ∧
      ((s.box (boxPart (min box.toNat 4))).protects (s.get F.SB_PW_IDX_IDX (boxInst (min box.toNat 4))) = true → t.box (boxPart (min box.toNat 4)) = s.box (boxPart (min box.toNat 4)) ∧ t.get F.SB_PW_REF_LAST (boxInst (min box.toNat 4)) = (s.get F.SB_PW_IDX_IDX (boxInst (min box.toNat 4))) ∧
        t.get F.SB_PW_REF_COUNT (boxInst (min box.toNat 4)) = min (s.get F.SB_PW_REF_COUNT (boxInst (min box.toNat 4)) + 1) (2 ^ F.SB_PW_REF_COUNT.len - 1)) ∧
      t.get F.SB_PW_IDX_IDX (boxInst (min box.toNat 4)) = if s.flag F.SB_PW_IDX_INC (boxInst (min box.toNat 4)) then ((s.get F.SB_PW_IDX_IDX (boxInst (min box.toNat 4))) + 1) % 2 ^ 12 else (s.get F.SB_PW_IDX_IDX (boxInst (min box.toNat 4)))) ∧
  (∀ (box : BitVec 3) (w : Word32) (s : State), s.cfgOpen (boxPage box.toNat) 0x084 = true → wbit w 1 = false → wbit w 2 = false → wbit w 6 = false → s.armCode (boxThread (min box.toNat 4) (s.get F.THR_SEL_THR (boxInst (min box.toNat 4)))) = 0 →
      (s.activeEntry (boxThread (min box.toNat 4) (s.get F.THR_SEL_THR (boxInst (min box.toNat 4))))).malformed = false → (s.activeEntry (boxThread (min box.toNat 4) (s.get F.THR_SEL_THR (boxInst (min box.toNat 4))))).trigV = false → ∃ t, exec (.threadArm box w) s = .next t ∧ t.flag F.THR_CTL_ERR (boxInst (min box.toNat 4)) (s.get F.THR_SEL_THR (boxInst (min box.toNat 4))) = false ∧
        t.th (boxThread (min box.toNat 4) (s.get F.THR_SEL_THR (boxInst (min box.toNat 4)))) = { s.th (boxThread (min box.toNat 4) (s.get F.THR_SEL_THR (boxInst (min box.toNat 4)))) with spin := 0, run := none, state := .running, pc := (s.activeEntry (boxThread (min box.toNat 4) (s.get F.THR_SEL_THR (boxInst (min box.toNat 4))))).entry } ∧ OnlyThread s t (boxThread (min box.toNat 4) (s.get F.THR_SEL_THR (boxInst (min box.toNat 4)))) ∧
        tget [] (t.box (boxPart (min box.toNat 4))).snap (s.get F.THR_SEL_THR (boxInst (min box.toNat 4))) = (s.th (boxThread (min box.toNat 4) (s.get F.THR_SEL_THR (boxInst (min box.toNat 4))))).regs) ∧
  (∀ (box : BitVec 3) (w : Word32) (s : State), s.cfgOpen (boxPage box.toNat) 0x084 = true → wbit w 1 = false → wbit w 2 = false → wbit w 6 = false → s.armCode (boxThread (min box.toNat 4) (s.get F.THR_SEL_THR (boxInst (min box.toNat 4)))) ≠ 0 →
      ∃ t, exec (.threadArm box w) s = .next t ∧ t.flag F.THR_CTL_ERR (boxInst (min box.toNat 4)) (s.get F.THR_SEL_THR (boxInst (min box.toNat 4))) = true ∧ t.get F.THR_CTL_CODE (boxInst (min box.toNat 4)) (s.get F.THR_SEL_THR (boxInst (min box.toNat 4))) = s.armCode (boxThread (min box.toNat 4) (s.get F.THR_SEL_THR (boxInst (min box.toNat 4)))) ∧
        OnlyRegs s t [F.THR_CTL_ERR.key (boxInst (min box.toNat 4)) (s.get F.THR_SEL_THR (boxInst (min box.toNat 4))), F.THR_CTL_CODE.key (boxInst (min box.toNat 4)) (s.get F.THR_SEL_THR (boxInst (min box.toNat 4)))]) ∧
  (∀ (box : BitVec 3) (w : Word32) (s : State), s.cfgOpen (boxPage box.toNat) 0x084 = true → wbit w 0 = false → wbit w 2 = false → (s.th (boxThread (min box.toNat 4) (s.get F.THR_SEL_THR (boxInst (min box.toNat 4))))).state ≠ .stopped → ∃ t, exec (.threadStop box w) s = .next t ∧
      Trapped t (boxThread (min box.toNat 4) (s.get F.THR_SEL_THR (boxInst (min box.toNat 4)))) 10 0 ∧ (t.th (boxThread (min box.toNat 4) (s.get F.THR_SEL_THR (boxInst (min box.toNat 4))))).regs = (s.th (boxThread (min box.toNat 4) (s.get F.THR_SEL_THR (boxInst (min box.toNat 4))))).regs) ∧
  (∀ (box : BitVec 3) (w : Word32) (s : State), s.cfgOpen (boxPage box.toNat) 0x084 = true → wbit w 0 = false → wbit w 1 = false → (s.th (boxThread (min box.toNat 4) (s.get F.THR_SEL_THR (boxInst (min box.toNat 4))))).state = .stopped → ∃ t, exec (.threadClear box w) s = .next t ∧
      t.th (boxThread (min box.toNat 4) (s.get F.THR_SEL_THR (boxInst (min box.toNat 4)))) = { s.th (boxThread (min box.toNat 4) (s.get F.THR_SEL_THR (boxInst (min box.toNat 4)))) with state := .off, cause := 0, tcode := 0, pfFirst := none } ∧ OnlyThread s t (boxThread (min box.toNat 4) (s.get F.THR_SEL_THR (boxInst (min box.toNat 4))))) ∧
  (∀ (box : BitVec 3) (hi : Bool) (w : Word32) (s : State), s.cfgOpen (boxPage box.toNat) (if hi then 0x098 else 0x094) = true → ∃ t, exec (.threadRegisterWrite box hi w) s = .next t ∧
      ((s.th (boxThread (min box.toNat 4) (s.get F.THR_SEL_THR (boxInst (min box.toNat 4))))).idle = true → t.th (boxThread (min box.toNat 4) (s.get F.THR_SEL_THR (boxInst (min box.toNat 4)))) = (s.th (boxThread (min box.toNat 4) (s.get F.THR_SEL_THR (boxInst (min box.toNat 4))))).setReg (s.get F.THR_REG_SEL_REG (boxInst (min box.toNat 4))) (halfWrite ((s.th (boxThread (min box.toNat 4) (s.get F.THR_SEL_THR (boxInst (min box.toNat 4))))).reg (s.get F.THR_REG_SEL_REG (boxInst (min box.toNat 4)))) hi w) ∧
        t.regs = s.regs ∧ OnlyThread s t (boxThread (min box.toNat 4) (s.get F.THR_SEL_THR (boxInst (min box.toNat 4))))) ∧
      ((s.th (boxThread (min box.toNat 4) (s.get F.THR_SEL_THR (boxInst (min box.toNat 4))))).idle = false → t.flag F.THR_CTL_REFUSED (boxInst (min box.toNat 4)) (s.get F.THR_SEL_THR (boxInst (min box.toNat 4))) = true ∧ OnlyRegs s t [F.THR_CTL_REFUSED.key (boxInst (min box.toNat 4)) (s.get F.THR_SEL_THR (boxInst (min box.toNat 4)))])) ∧
  (∀ (h : BitVec 4) (w : Word32) (s : State), s.cfgOpen (0x18 + h.toNat) 0x084 = true → ((s.halt h.toNat).script).idle = true → ∃ t, exec (.haltScriptWrite h 0x084 w) s = .next t ∧ t.regs = s.regs ∧
      tget 0 (t.halt h.toNat).scriptStore (s.get F.HS_IDX_IDX h.toNat) = w ∧
      ∀ n, n ≠ s.get F.HS_IDX_IDX h.toNat → tget 0 (t.halt h.toNat).scriptStore n = tget 0 (s.halt h.toNat).scriptStore n) ∧
  (∀ (h : BitVec 4) (off : BitVec 12) (w : Word32) (s : State), off.toNat ∈ [0x084, 0x088, 0x08C, 0x090, 0x09C, 0x0A0] → s.cfgOpen (0x18 + h.toNat) off.toNat = true → ((s.halt h.toNat).script).idle = false →
      ∃ t, exec (.haltScriptWrite h off w) s = .next t ∧ t.get F.HS_CTL_REFUSED h.toNat = min (s.get F.HS_CTL_REFUSED h.toNat + 1) (2 ^ F.HS_CTL_REFUSED.len - 1) ∧
        OnlyRegs s t [F.HS_CTL_REFUSED.key h.toNat 0]) ∧
  (∀ (h : BitVec 4) (w : Word32) (s : State), s.cfgOpen (0x18 + h.toNat) 0x094 = true → wbit w 1 = false → wbit w 2 = false → s.armCode (.script h) = 0 → (s.activeEntry (.script h)).malformed = false →
      (s.activeEntry (.script h)).trigV = false → ∃ t, exec (.haltScriptArm h w) s = .next t ∧
        (t.halt h.toNat).script = { (s.halt h.toNat).script with spin := 0, run := none, state := .running, pc := (s.activeEntry (.script h)).entry } ∧ OnlyThread s t (.script h) ∧ t.regs = s.regs) ∧
  (∀ (h : BitVec 4) (w : Word32) (s : State), s.cfgOpen (0x18 + h.toNat) 0x094 = true → wbit w 0 = false → wbit w 2 = false → ((s.halt h.toNat).script).state ≠ .stopped → ∃ t, exec (.haltScriptStop h w) s = .next t ∧
      Trapped t (.script h) 10 0 ∧ ((t.halt h.toNat).script).regs = ((s.halt h.toNat).script).regs) ∧
  (∀ (h : BitVec 4) (w : Word32) (s : State), s.cfgOpen (0x18 + h.toNat) 0x094 = true → wbit w 0 = false → wbit w 1 = false → ((s.halt h.toNat).script).state = .stopped → ∃ t, exec (.haltScriptClear h w) s = .next t ∧
      (t.halt h.toNat).script = { (s.halt h.toNat).script with state := .off, cause := 0, tcode := 0, pfFirst := none } ∧ OnlyThread s t (.script h) ∧ t.regs = s.regs)

/-- A command in a state it is not for sets ERR, its code and the refused event, and changes nothing else; several
commands at once get CODE 12, and a write while one is in progress is ignored. FREEZE makes an open pavilion
FREEZING, THAW a frozen one OPEN with its HELD threads RUNNING again. SAVE names what stands in its way, asks for
the space the image needs, or begins to write it. RESTORE begins by reading the header. RESET raises the generation
and ends CLOSED, after a recovery if one is under way. EVICT frees every slot and clears the window. When the work
of a FREEZING pavilion has drained and no station is in recovery, it is FROZEN and the event is set; the drain
limit sets SLOW and its event. A SAVE ends in SAVED with its event; where a forced close has closed the pavilion
meanwhile it stays CLOSED and the command fails (assumption log 95). -/
def Obligations.PavilionCommands : Prop :=
  (∀ (w : Word32) (s : State), s.cfgOpen 0x03 0x044 = true → s.job 0 = none → (∀ i, i < 6 → i ≠ 0 → wbit w i = false) → s.pavState (BitVec.ofNat 6 (s.get F.PAV_SEL_PAV)) ≠ 1 →
      ∃ t, exec (.pavFreeze w) s = .next t ∧ CfgAnswered s t ∧ t.flag F.PAV_STAT_ERR 0 (BitVec.ofNat 6 (s.get F.PAV_SEL_PAV)).toNat = true ∧ t.get F.PAV_STAT_CODE 0 (BitVec.ofNat 6 (s.get F.PAV_SEL_PAV)).toNat = 1 ∧
        (t.get F.EVT_STAT_EVT 3).testBit 1 = true ∧ OnlyRegs s t [F.PAV_CMD_KEEP_HOLDERS.key 0 0, F.PAV_STAT_ERR.key 0 (BitVec.ofNat 6 (s.get F.PAV_SEL_PAV)).toNat, F.PAV_STAT_CODE.key 0 (BitVec.ofNat 6 (s.get F.PAV_SEL_PAV)).toNat, F.EVT_STAT_EVT.key 3 0]) ∧
  (∀ (w : Word32) (s : State), s.cfgOpen 0x03 0x044 = true → s.job 0 = none → (∀ i, i < 6 → i ≠ 1 → wbit w i = false) → (s.pavState (BitVec.ofNat 6 (s.get F.PAV_SEL_PAV)) < 2 ∨ 4 < s.pavState (BitVec.ofNat 6 (s.get F.PAV_SEL_PAV))) →
      ∃ t, exec (.pavThaw w) s = .next t ∧ CfgAnswered s t ∧ t.flag F.PAV_STAT_ERR 0 (BitVec.ofNat 6 (s.get F.PAV_SEL_PAV)).toNat = true ∧ t.get F.PAV_STAT_CODE 0 (BitVec.ofNat 6 (s.get F.PAV_SEL_PAV)).toNat = 1 ∧
        (t.get F.EVT_STAT_EVT 3).testBit 1 = true ∧ OnlyRegs s t [F.PAV_CMD_KEEP_HOLDERS.key 0 0, F.PAV_STAT_ERR.key 0 (BitVec.ofNat 6 (s.get F.PAV_SEL_PAV)).toNat, F.PAV_STAT_CODE.key 0 (BitVec.ofNat 6 (s.get F.PAV_SEL_PAV)).toNat, F.EVT_STAT_EVT.key 3 0]) ∧
  (∀ (w : Word32) (s : State), s.cfgOpen 0x03 0x044 = true → s.job 0 = none → (∀ i, i < 6 → i ≠ 3 → wbit w i = false) → (s.pavState (BitVec.ofNat 6 (s.get F.PAV_SEL_PAV)) ≠ 0 ∨ s.hasSlots (BitVec.ofNat 6 (s.get F.PAV_SEL_PAV)) = true) →
      ∃ t, exec (.pavRestore w) s = .next t ∧ CfgAnswered s t ∧ t.flag F.PAV_STAT_ERR 0 (BitVec.ofNat 6 (s.get F.PAV_SEL_PAV)).toNat = true ∧ t.get F.PAV_STAT_CODE 0 (BitVec.ofNat 6 (s.get F.PAV_SEL_PAV)).toNat = 1 ∧
        (t.get F.EVT_STAT_EVT 3).testBit 1 = true ∧ OnlyRegs s t [F.PAV_CMD_KEEP_HOLDERS.key 0 0, F.PAV_STAT_ERR.key 0 (BitVec.ofNat 6 (s.get F.PAV_SEL_PAV)).toNat, F.PAV_STAT_CODE.key 0 (BitVec.ofNat 6 (s.get F.PAV_SEL_PAV)).toNat, F.EVT_STAT_EVT.key 3 0]) ∧
  (∀ (w : Word32) (s : State), s.cfgOpen 0x03 0x044 = true → s.job 0 = none → (∀ i, i < 6 → i ≠ 4 → wbit w i = false) → (s.pavState (BitVec.ofNat 6 (s.get F.PAV_SEL_PAV)) = 5 ∨ s.pavState (BitVec.ofNat 6 (s.get F.PAV_SEL_PAV)) = 6) →
      ∃ t, exec (.pavReset w) s = .next t ∧ CfgAnswered s t ∧ t.flag F.PAV_STAT_ERR 0 (BitVec.ofNat 6 (s.get F.PAV_SEL_PAV)).toNat = true ∧ t.get F.PAV_STAT_CODE 0 (BitVec.ofNat 6 (s.get F.PAV_SEL_PAV)).toNat = 1 ∧
        (t.get F.EVT_STAT_EVT 3).testBit 1 = true ∧ OnlyRegs s t [F.PAV_CMD_KEEP_HOLDERS.key 0 0, F.PAV_STAT_ERR.key 0 (BitVec.ofNat 6 (s.get F.PAV_SEL_PAV)).toNat, F.PAV_STAT_CODE.key 0 (BitVec.ofNat 6 (s.get F.PAV_SEL_PAV)).toNat, F.EVT_STAT_EVT.key 3 0]) ∧
  (∀ (w : Word32) (s : State), s.cfgOpen 0x03 0x044 = true → s.job 0 = none → (∀ i, i < 6 → i ≠ 4 → wbit w i = false) → s.pavState (BitVec.ofNat 6 (s.get F.PAV_SEL_PAV)) ≠ 5 → s.pavState (BitVec.ofNat 6 (s.get F.PAV_SEL_PAV)) ≠ 6 → (tget 0 s.jct.lastReset (BitVec.ofNat 6 (s.get F.PAV_SEL_PAV)).toNat) ≠ 0 → s.fclk + 1 < (tget 0 s.jct.lastReset (BitVec.ofNat 6 (s.get F.PAV_SEL_PAV)).toNat) + 2 ^ 21 →
      ∃ t, exec (.pavReset w) s = .next t ∧ CfgAnswered s t ∧ t.flag F.PAV_STAT_ERR 0 (BitVec.ofNat 6 (s.get F.PAV_SEL_PAV)).toNat = true ∧ t.get F.PAV_STAT_CODE 0 (BitVec.ofNat 6 (s.get F.PAV_SEL_PAV)).toNat = 2 ∧
        (t.get F.EVT_STAT_EVT 3).testBit 1 = true ∧ OnlyRegs s t [F.PAV_CMD_KEEP_HOLDERS.key 0 0, F.PAV_STAT_ERR.key 0 (BitVec.ofNat 6 (s.get F.PAV_SEL_PAV)).toNat, F.PAV_STAT_CODE.key 0 (BitVec.ofNat 6 (s.get F.PAV_SEL_PAV)).toNat, F.EVT_STAT_EVT.key 3 0]) ∧
  (∀ (w : Word32) (s : State), s.cfgOpen 0x03 0x044 = true → s.job 0 = none → (∀ i, i < 6 → i ≠ 5 → wbit w i = false) → s.pavState (BitVec.ofNat 6 (s.get F.PAV_SEL_PAV)) ≠ 4 →
      ∃ t, exec (.pavEvict w) s = .next t ∧ CfgAnswered s t ∧ t.flag F.PAV_STAT_ERR 0 (BitVec.ofNat 6 (s.get F.PAV_SEL_PAV)).toNat = true ∧ t.get F.PAV_STAT_CODE 0 (BitVec.ofNat 6 (s.get F.PAV_SEL_PAV)).toNat = 1 ∧
        (t.get F.EVT_STAT_EVT 3).testBit 1 = true ∧ OnlyRegs s t [F.PAV_CMD_KEEP_HOLDERS.key 0 0, F.PAV_STAT_ERR.key 0 (BitVec.ofNat 6 (s.get F.PAV_SEL_PAV)).toNat, F.PAV_STAT_CODE.key 0 (BitVec.ofNat 6 (s.get F.PAV_SEL_PAV)).toNat, F.EVT_STAT_EVT.key 3 0]) ∧
  (∀ (w : Word32) (i j : Nat) (s : State), s.cfgOpen 0x03 0x044 = true → s.job 0 = none → i < j → j < 6 → wbit w i = true → wbit w j = true →
      ∃ t, exec (.pavFreeze w) s = .next t ∧ t.flag F.PAV_STAT_ERR 0 (BitVec.ofNat 6 (s.get F.PAV_SEL_PAV)).toNat = true ∧ t.get F.PAV_STAT_CODE 0 (BitVec.ofNat 6 (s.get F.PAV_SEL_PAV)).toNat = 12 ∧ OnlyRegs s t [F.PAV_CMD_KEEP_HOLDERS.key 0 0, F.PAV_STAT_ERR.key 0 (BitVec.ofNat 6 (s.get F.PAV_SEL_PAV)).toNat, F.PAV_STAT_CODE.key 0 (BitVec.ofNat 6 (s.get F.PAV_SEL_PAV)).toNat, F.EVT_STAT_EVT.key 3 0]) ∧
  (∀ (w : Word32) (j : Job) (s : State), s.cfgOpen 0x03 0x044 = true → s.job 0 = some j → ∃ t, exec (.pavThaw w) s = .next t ∧ CfgAnswered s t ∧ OnlyRegs s t []) ∧
  (∀ (w : Word32) (s : State), s.cfgOpen 0x03 0x044 = true → s.job 0 = none → (∀ i, i < 6 → i ≠ 0 → wbit w i = false) → s.pavState (BitVec.ofNat 6 (s.get F.PAV_SEL_PAV)) = 1 → (∀ e, e < 64 → (s.comb e).count = 0) → ∃ t, exec (.pavFreeze w) s = .next t ∧ CfgAnswered s t ∧ t.pavState (BitVec.ofNat 6 (s.get F.PAV_SEL_PAV)) = 2 ∧ t.flag F.PAV_STAT_ERR 0 (BitVec.ofNat 6 (s.get F.PAV_SEL_PAV)).toNat = false ∧ t.get F.PAV_STAT_CODE 0 (BitVec.ofNat 6 (s.get F.PAV_SEL_PAV)).toNat = 0 ∧
        OnlyRegs s t [F.PAV_CMD_KEEP_HOLDERS.key 0 0, F.PAV_STAT_ERR.key 0 (BitVec.ofNat 6 (s.get F.PAV_SEL_PAV)).toNat, F.PAV_STAT_CODE.key 0 (BitVec.ofNat 6 (s.get F.PAV_SEL_PAV)).toNat, F.PAV_STAT_STATE.key 0 (BitVec.ofNat 6 (s.get F.PAV_SEL_PAV)).toNat]) ∧
  (∀ (w : Word32) (s : State), s.cfgOpen 0x03 0x044 = true → s.job 0 = none → (∀ i, i < 6 → i ≠ 1 → wbit w i = false) → 2 ≤ s.pavState (BitVec.ofNat 6 (s.get F.PAV_SEL_PAV)) → s.pavState (BitVec.ofNat 6 (s.get F.PAV_SEL_PAV)) ≤ 4 → (∀ h, h < 16 → s.heldOf h (BitVec.ofNat 6 (s.get F.PAV_SEL_PAV)) = []) → s.jct.parked = [] → ∃ t, exec (.pavThaw w) s = .next t ∧ CfgAnswered s t ∧
        t.pavState (BitVec.ofNat 6 (s.get F.PAV_SEL_PAV)) = 1 ∧ t.flag F.PAV_STAT_ERR 0 (BitVec.ofNat 6 (s.get F.PAV_SEL_PAV)).toNat = false ∧ t.get F.PAV_STAT_CODE 0 (BitVec.ofNat 6 (s.get F.PAV_SEL_PAV)).toNat = 0 ∧ RegsBut s t [F.PAV_CMD_KEEP_HOLDERS.key 0 0, F.PAV_STAT_ERR.key 0 (BitVec.ofNat 6 (s.get F.PAV_SEL_PAV)).toNat, F.PAV_STAT_CODE.key 0 (BitVec.ofNat 6 (s.get F.PAV_SEL_PAV)).toNat, F.PAV_STAT_STATE.key 0 (BitVec.ofNat 6 (s.get F.PAV_SEL_PAV)).toNat] ∧
        (∀ th, th ∈ s.threadsOf (BitVec.ofNat 6 (s.get F.PAV_SEL_PAV)) → t.th th = if (s.th th).state = .held then { s.th th with state := .running } else s.th th) ∧
        (∀ i m, t.slot i m = s.slot i m) ∧ t.net = s.net) ∧
  (∀ (w : Word32) (s : State), s.cfgOpen 0x03 0x044 = true → s.job 0 = none → (∀ i, i < 6 → i ≠ 2 → wbit w i = false) → s.pavState (BitVec.ofNat 6 (s.get F.PAV_SEL_PAV)) ≠ 3 → ∃ t, exec (.pavSave w) s = .next t ∧ t.flag F.PAV_STAT_ERR 0 (BitVec.ofNat 6 (s.get F.PAV_SEL_PAV)).toNat = true ∧ t.get F.PAV_STAT_CODE 0 (BitVec.ofNat 6 (s.get F.PAV_SEL_PAV)).toNat = 1 ∧
        OnlyRegs s t [F.PAV_CMD_KEEP_HOLDERS.key 0 0, F.PAV_STAT_ERR.key 0 (BitVec.ofNat 6 (s.get F.PAV_SEL_PAV)).toNat, F.PAV_STAT_CODE.key 0 (BitVec.ofNat 6 (s.get F.PAV_SEL_PAV)).toNat, F.EVT_STAT_EVT.key 3 0]) ∧
  (∀ (w : Word32) (c : Nat) (s : State), s.cfgOpen 0x03 0x044 = true → s.job 0 = none → (∀ i, i < 6 → i ≠ 2 → wbit w i = false) → s.pavState (BitVec.ofNat 6 (s.get F.PAV_SEL_PAV)) = 3 → ((s.gangsOf (BitVec.ofNat 6 (s.get F.PAV_SEL_PAV)) ≠ [] ∧ c = 4) ∨ (s.gangsOf (BitVec.ofNat 6 (s.get F.PAV_SEL_PAV)) = [] ∧ s.threadsOf (BitVec.ofNat 6 (s.get F.PAV_SEL_PAV)) ≠ [] ∧ c = 5)) → ∃ t, exec (.pavSave w) s = .next t ∧
        t.flag F.PAV_STAT_ERR 0 (BitVec.ofNat 6 (s.get F.PAV_SEL_PAV)).toNat = true ∧ t.get F.PAV_STAT_CODE 0 (BitVec.ofNat 6 (s.get F.PAV_SEL_PAV)).toNat = c ∧ OnlyRegs s t [F.PAV_CMD_KEEP_HOLDERS.key 0 0, F.PAV_STAT_ERR.key 0 (BitVec.ofNat 6 (s.get F.PAV_SEL_PAV)).toNat, F.PAV_STAT_CODE.key 0 (BitVec.ofNat 6 (s.get F.PAV_SEL_PAV)).toNat, F.EVT_STAT_EVT.key 3 0]) ∧
  (∀ (w : Word32) (s : State), s.cfgOpen 0x03 0x044 = true → s.job 0 = none → (∀ i, i < 6 → i ≠ 2 → wbit w i = false) → s.rowsGood = true → s.saveCode (BitVec.ofNat 6 (s.get F.PAV_SEL_PAV)) = 0 → s.get F.PAV_IMG_LEN_LEN 0 (BitVec.ofNat 6 (s.get F.PAV_SEL_PAV)).toNat < (s.imageParts (BitVec.ofNat 6 (s.get F.PAV_SEL_PAV))).2 → (s.imageParts (BitVec.ofNat 6 (s.get F.PAV_SEL_PAV))).2 < 2 ^ 32 → ∃ t, exec (.pavSave w) s = .next t ∧
        t.flag F.PAV_STAT_ERR 0 (BitVec.ofNat 6 (s.get F.PAV_SEL_PAV)).toNat = true ∧ t.get F.PAV_STAT_CODE 0 (BitVec.ofNat 6 (s.get F.PAV_SEL_PAV)).toNat = 3 ∧ t.get F.PAV_IMG_NEED_LEN 0 (BitVec.ofNat 6 (s.get F.PAV_SEL_PAV)).toNat = (s.imageParts (BitVec.ofNat 6 (s.get F.PAV_SEL_PAV))).2 ∧
        OnlyRegs s t [F.PAV_CMD_KEEP_HOLDERS.key 0 0, F.PAV_STAT_ERR.key 0 (BitVec.ofNat 6 (s.get F.PAV_SEL_PAV)).toNat, F.PAV_STAT_CODE.key 0 (BitVec.ofNat 6 (s.get F.PAV_SEL_PAV)).toNat, F.EVT_STAT_EVT.key 3 0, F.PAV_IMG_NEED_LEN.key 0 (BitVec.ofNat 6 (s.get F.PAV_SEL_PAV)).toNat]) ∧
  (∀ (w : Word32) (s : State), s.cfgOpen 0x03 0x044 = true → s.job 0 = none → (∀ i, i < 6 → i ≠ 2 → wbit w i = false) → s.rowsGood = true → s.saveCode (BitVec.ofNat 6 (s.get F.PAV_SEL_PAV)) = 0 → (s.imageParts (BitVec.ofNat 6 (s.get F.PAV_SEL_PAV))).2 ≤ s.get F.PAV_IMG_LEN_LEN 0 (BitVec.ofNat 6 (s.get F.PAV_SEL_PAV)).toNat → s.pavQuiet (BitVec.ofNat 6 (s.get F.PAV_SEL_PAV)) = true → ∃ t, exec (.pavSave w) s = .next t ∧
        CfgAnswered s t ∧ t.flag F.PAV_STAT_ERR 0 (BitVec.ofNat 6 (s.get F.PAV_SEL_PAV)).toNat = false ∧ t.get F.PAV_STAT_CODE 0 (BitVec.ofNat 6 (s.get F.PAV_SEL_PAV)).toNat = 0 ∧ t.pavState (BitVec.ofNat 6 (s.get F.PAV_SEL_PAV)) = 3 ∧ t.get F.PAV_IMG_NEED_LEN 0 (BitVec.ofNat 6 (s.get F.PAV_SEL_PAV)).toNat = (s.imageParts (BitVec.ofNat 6 (s.get F.PAV_SEL_PAV))).2 ∧ (∃ j, t.job 0 = some j ∧ j.pav = (BitVec.ofNat 6 (s.get F.PAV_SEL_PAV)) ∧ j.phase = 1 ∧ j.left ≠ 0) ∧
        (∃ r ∈ (t.port 4).queue, r.wr = true ∧ r.line.toNat = s.get64 F.PAV_IMG_LO_ADDR F.PAV_IMG_HI_ADDR 0 (BitVec.ofNat 6 (s.get F.PAV_SEL_PAV)).toNat / 64) ∧ (∀ i m, t.slot i m = s.slot i m) ∧
        RegsBut s t [F.PAV_CMD_KEEP_HOLDERS.key 0 0, F.PAV_STAT_ERR.key 0 (BitVec.ofNat 6 (s.get F.PAV_SEL_PAV)).toNat, F.PAV_STAT_CODE.key 0 (BitVec.ofNat 6 (s.get F.PAV_SEL_PAV)).toNat, F.PAV_IMG_NEED_LEN.key 0 (BitVec.ofNat 6 (s.get F.PAV_SEL_PAV)).toNat]) ∧
  (∀ (w : Word32) (s : State), s.cfgOpen 0x03 0x044 = true → s.job 0 = none → (∀ i, i < 6 → i ≠ 3 → wbit w i = false) → s.rowsGood = true → s.pavState (BitVec.ofNat 6 (s.get F.PAV_SEL_PAV)) = 0 → s.hasSlots (BitVec.ofNat 6 (s.get F.PAV_SEL_PAV)) = false → ∃ t, exec (.pavRestore w) s = .next t ∧ CfgAnswered s t ∧ t.flag F.PAV_STAT_ERR 0 (BitVec.ofNat 6 (s.get F.PAV_SEL_PAV)).toNat = false ∧ t.get F.PAV_STAT_CODE 0 (BitVec.ofNat 6 (s.get F.PAV_SEL_PAV)).toNat = 0 ∧
        (∃ j, t.job 0 = some j ∧ j.pav = (BitVec.ofNat 6 (s.get F.PAV_SEL_PAV)) ∧ j.phase = 3 ∧ j.left = 1) ∧ (∃ r ∈ (t.port 4).queue, r.wr = false ∧ r.why = .job 0 0 ∧ r.line.toNat = s.get64 F.PAV_IMG_LO_ADDR F.PAV_IMG_HI_ADDR 0 (BitVec.ofNat 6 (s.get F.PAV_SEL_PAV)).toNat / 64) ∧
        RegsBut s t [F.PAV_CMD_KEEP_HOLDERS.key 0 0, F.PAV_STAT_ERR.key 0 (BitVec.ofNat 6 (s.get F.PAV_SEL_PAV)).toNat, F.PAV_STAT_CODE.key 0 (BitVec.ofNat 6 (s.get F.PAV_SEL_PAV)).toNat] ∧ t.stns = s.stns ∧ t.halts = s.halts ∧ t.jct = s.jct ∧ t.net = s.net) ∧
  (∀ (w : Word32) (s : State), s.cfgOpen 0x03 0x044 = true → s.job 0 = none → (∀ i, i < 6 → i ≠ 4 → wbit w i = false) → s.pavState (BitVec.ofNat 6 (s.get F.PAV_SEL_PAV)) ≠ 5 → s.pavState (BitVec.ofNat 6 (s.get F.PAV_SEL_PAV)) ≠ 6 → ((tget 0 s.jct.lastReset (BitVec.ofNat 6 (s.get F.PAV_SEL_PAV)).toNat) = 0 ∨ (tget 0 s.jct.lastReset (BitVec.ofNat 6 (s.get F.PAV_SEL_PAV)).toNat) + 2 ^ 21 ≤ s.fclk + 1) → s.recovering = false → ∃ t, exec (.pavReset w) s = .next t ∧
        t.pavState (BitVec.ofNat 6 (s.get F.PAV_SEL_PAV)) = 0 ∧ (t.get F.EVT_STAT_EVT 3).testBit 0 = true ∧ t.job 0 = none) ∧
  (∀ (w : Word32) (s : State), s.cfgOpen 0x03 0x044 = true → s.job 0 = none → (∀ i, i < 6 → i ≠ 4 → wbit w i = false) → s.pavState (BitVec.ofNat 6 (s.get F.PAV_SEL_PAV)) ≠ 5 → s.pavState (BitVec.ofNat 6 (s.get F.PAV_SEL_PAV)) ≠ 6 → ((tget 0 s.jct.lastReset (BitVec.ofNat 6 (s.get F.PAV_SEL_PAV)).toNat) = 0 ∨ (tget 0 s.jct.lastReset (BitVec.ofNat 6 (s.get F.PAV_SEL_PAV)).toNat) + 2 ^ 21 ≤ s.fclk + 1) → s.pavQuiet (BitVec.ofNat 6 (s.get F.PAV_SEL_PAV)) = true → s.recovering = false →
      (∀ si, si < 4 → s.heldLocks si 0 (BitVec.ofNat 6 (s.get F.PAV_SEL_PAV)).toNat true = []) → ∃ t, exec (.pavReset w) s = .next t ∧ t.gen (BitVec.ofNat 6 (s.get F.PAV_SEL_PAV)) = s.gen (BitVec.ofNat 6 (s.get F.PAV_SEL_PAV)) + 1 ∧
        t.flag F.RUN_STAT_OPEN 0 (BitVec.ofNat 6 (s.get F.PAV_SEL_PAV)).toNat = false ∧ tget 0 t.jct.lastReset (BitVec.ofNat 6 (s.get F.PAV_SEL_PAV)).toNat = s.fclk + 1 ∧ (∀ i m, t.slot i m = s.slot i m) ∧
        RegsBut s t [F.PAV_CMD_KEEP_HOLDERS.key 0 0, F.PAV_STAT_ERR.key 0 (BitVec.ofNat 6 (s.get F.PAV_SEL_PAV)).toNat, F.PAV_STAT_CODE.key 0 (BitVec.ofNat 6 (s.get F.PAV_SEL_PAV)).toNat, F.EVT_STAT_EVT.key 3 0, F.PAV_STAT_STATE.key 0 (BitVec.ofNat 6 (s.get F.PAV_SEL_PAV)).toNat, F.PAV_STAT_GEN.key 0 (BitVec.ofNat 6 (s.get F.PAV_SEL_PAV)).toNat, F.RUN_STAT_OPEN.key 0 (BitVec.ofNat 6 (s.get F.PAV_SEL_PAV)).toNat]) ∧
  (∀ (w : Word32) (s : State), s.cfgOpen 0x03 0x044 = true → s.job 0 = none → (∀ i, i < 6 → i ≠ 4 → wbit w i = false) → s.pavState (BitVec.ofNat 6 (s.get F.PAV_SEL_PAV)) ≠ 5 → s.pavState (BitVec.ofNat 6 (s.get F.PAV_SEL_PAV)) ≠ 6 → ((tget 0 s.jct.lastReset (BitVec.ofNat 6 (s.get F.PAV_SEL_PAV)).toNat) = 0 ∨ (tget 0 s.jct.lastReset (BitVec.ofNat 6 (s.get F.PAV_SEL_PAV)).toNat) + 2 ^ 21 ≤ s.fclk + 1) → s.pavQuiet (BitVec.ofNat 6 (s.get F.PAV_SEL_PAV)) = true → s.recovering = true →
      ∃ t, exec (.pavReset w) s = .next t ∧ t.pavState (BitVec.ofNat 6 (s.get F.PAV_SEL_PAV)) = 5 ∧ t.gen (BitVec.ofNat 6 (s.get F.PAV_SEL_PAV)) = s.gen (BitVec.ofNat 6 (s.get F.PAV_SEL_PAV)) + 1 ∧ (t.job 0).any (fun j => j.pav = (BitVec.ofNat 6 (s.get F.PAV_SEL_PAV)) ∧ j.phase = 9) = true) ∧
  (∀ (w : Word32) (s : State), s.cfgOpen 0x03 0x044 = true → s.job 0 = none → (∀ i, i < 6 → i ≠ 5 → wbit w i = false) → s.rowsGood = true → s.pavState (BitVec.ofNat 6 (s.get F.PAV_SEL_PAV)) = 4 → s.pavQuiet (BitVec.ofNat 6 (s.get F.PAV_SEL_PAV)) = true → s.slotsWf = true → ∃ t, exec (.pavEvict w) s = .next t ∧ CfgAnswered s t ∧ t.pavState (BitVec.ofNat 6 (s.get F.PAV_SEL_PAV)) = 0 ∧ (t.get F.EVT_STAT_EVT 3).testBit 0 = true ∧
        t.flag F.RUN_STAT_OPEN 0 (BitVec.ofNat 6 (s.get F.PAV_SEL_PAV)).toNat = false ∧ t.hasSlots (BitVec.ofNat 6 (s.get F.PAV_SEL_PAV)) = false ∧
        (∀ i m, i < 4 → ((s.slot i m).pav ≠ (BitVec.ofNat 6 (s.get F.PAV_SEL_PAV)) ∨ (s.slot i m).kind = .retired) → t.slot i m = s.slot i m) ∧
        (∀ i, i < 64 * s.get F.HM_WIN_SIZE_G 0 (BitVec.ofNat 6 (s.get F.PAV_SEL_PAV)).toNat → hmV (t.hmEntry (64 * s.get F.HM_WIN_BASE_G 0 (BitVec.ofNat 6 (s.get F.PAV_SEL_PAV)).toNat + i)) = false ∧
          hmSaved (t.hmEntry (64 * s.get F.HM_WIN_BASE_G 0 (BitVec.ofNat 6 (s.get F.PAV_SEL_PAV)).toNat + i)) = false) ∧
        RegsBut s t [F.PAV_CMD_KEEP_HOLDERS.key 0 0, F.PAV_STAT_ERR.key 0 (BitVec.ofNat 6 (s.get F.PAV_SEL_PAV)).toNat, F.PAV_STAT_CODE.key 0 (BitVec.ofNat 6 (s.get F.PAV_SEL_PAV)).toNat, F.EVT_STAT_EVT.key 3 0, F.PAV_STAT_STATE.key 0 (BitVec.ofNat 6 (s.get F.PAV_SEL_PAV)).toNat, F.RUN_STAT_OPEN.key 0 (BitVec.ofNat 6 (s.get F.PAV_SEL_PAV)).toNat]) ∧
  (∀ (p : BitVec 6) (s : State), s.pavState p = 2 → s.pavIsDrained p = true → s.recovering = false → ∃ t, exec (.pavDrained p) s = .next t ∧ t.pavState p = 3 ∧ (t.get F.EVT_STAT_EVT 3).testBit 0 = true ∧
      OnlyRegs s t [F.PAV_STAT_STATE.key 0 p.toNat, F.EVT_STAT_EVT.key 3 0]) ∧
  (∀ (p : BitVec 6) (s : State), (s.pavState p ≠ 2 ∨ s.pavIsDrained p = false ∨ s.recovering = true) → ∃ t, exec (.pavDrained p) s = .next t ∧ t.out = [] ∧ OnlyRegs s t []) ∧
  (∀ (p : BitVec 6) (s : State), s.pavState p = 2 → ∃ t, exec (.pavDrainSlow p) s = .next t ∧
      t.flag F.PAV_STAT_SLOW 0 p.toNat = true ∧ (t.get F.EVT_STAT_EVT 3).testBit 5 = true ∧ OnlyRegs s t [F.PAV_STAT_SLOW.key 0 p.toNat, F.EVT_STAT_EVT.key 3 0]) ∧
  (∀ (p : BitVec 6) (s : State), s.pavState p ≠ 2 → ∃ t, exec (.pavDrainSlow p) s = .next t ∧ t.out = [] ∧ OnlyRegs s t []) ∧
  (∀ (p : BitVec 6) (s : State), s.pavQuiet p = true → (∀ h, h < 16 → tget 0 (s.halt h).unackedPav p.toNat = 0) → s.jct.respWait = [] → s.jct.remoteHeld = [] →
      s.jct.retWait = [] → s.jct.beatWait = [] → s.jct.rxPart = [] → (∀ h, h < 16 → (s.halt h).ssHeld = []) → (∀ th ∈ allThreads, (s.th th).unacked = 0) →
      (∀ k, k < 4 → (s.mem k).freezeQ = [] ∧ (s.stn k).backlog = [] ∧ (s.stn k).beats = []) → s.pavIsDrained p = true) ∧
  (∀ (p : BitVec 3) (tag : BitVec 7) (d : Line) (r : MemReq) (l : Nat) (j : Job) (s : State), (s.port p.toNat).taken.find? (fun x => x.tag = tag) = some r → s.su.step ≠ 5 → r.wr = true → r.why = .job 0 l → s.job 0 = some j →
      j.left = 1 → j.bad = false → j.phase = 2 → s.recovering = false → ∃ t, exec (.memoryCompletion p tag false d) s = .next t ∧ t.job 0 = none ∧
      (s.pavState j.pav = 3 → t.pavState j.pav = 4 ∧ (t.get F.EVT_STAT_EVT 3).testBit 0 = true ∧ RegsBut s t [F.PAV_STAT_STATE.key 0 j.pav.toNat, F.EVT_STAT_EVT.key 3 0]) ∧
      (s.pavState j.pav ≠ 3 → t.pavState j.pav = s.pavState j.pav ∧ t.flag F.PAV_STAT_ERR 0 j.pav.toNat = true ∧ t.get F.PAV_STAT_CODE 0 j.pav.toNat = 1 ∧
        RegsBut s t [F.PAV_STAT_ERR.key 0 j.pav.toNat, F.PAV_STAT_CODE.key 0 j.pav.toNat]) ∧ t.stns = s.stns ∧ t.halts = s.halts ∧ t.jct = s.jct)

/-- RUN_OPEN of a closed pavilion zeroes its values, waiters and combining entries, keeps kinds, links, MLOCK addresses
and ring bases, counts the run and opens it; other slots keep everything. RUN_CLOSE closes a run without work and
disables its gangs, and leaves one with work open with CODE 2; FORCE closes it in any of its states. ALREADY,
ACTIVE and NOTOPEN change nothing else, a write while one is in progress is ignored, and with a station in recovery
the command waits. SAVE of a range whose objects are context-local COUNTERs of it, neither watched nor frozen,
freezes them and begins to write the save area, header first; a watched or frozen object fails it with BUSY,
another object with KIND. RESTORE reads the header. CLOSE orphans the objects on the die, where a MOVE has taken
them. A save or a close waits for a recovery to end. A pavilion that is not OPEN fails with BUSY; a command while
one is in progress and several at once are ignored. Other slots and registers stay. -/
def Obligations.RunsAndContexts : Prop :=
  (∀ (w : Word32) (s : State), s.cfgOpen 0x03 0x0E0 = true → s.job 4 = none → wbit w 9 = false → 1 ≤ s.pavState (w.extractLsb' 0 6) → s.pavState (w.extractLsb' 0 6) ≤ 4 →
      ∃ t, exec (.runOpen w) s = .next t ∧ CfgAnswered s t ∧ t.flag F.RUN_STAT_ERR 0 (w.extractLsb' 0 6).toNat = true ∧ t.get F.RUN_STAT_CODE 0 (w.extractLsb' 0 6).toNat = 1 ∧ (t.get F.EVT_STAT_EVT 3).testBit 1 = true ∧ OnlyRegs s t [F.RUN_CMD_PAV.key 0 0, F.RUN_CMD_FORCE.key 0 0, F.RUN_STAT_ERR.key 0 (w.extractLsb' 0 6).toNat, F.RUN_STAT_CODE.key 0 (w.extractLsb' 0 6).toNat, F.EVT_STAT_EVT.key 3 0]) ∧
  (∀ (w : Word32) (s : State), s.cfgOpen 0x03 0x0E0 = true → s.job 4 = none → wbit w 9 = false → 4 < s.pavState (w.extractLsb' 0 6) →
      ∃ t, exec (.runOpen w) s = .next t ∧ CfgAnswered s t ∧ t.flag F.RUN_STAT_ERR 0 (w.extractLsb' 0 6).toNat = true ∧ t.get F.RUN_STAT_CODE 0 (w.extractLsb' 0 6).toNat = 2 ∧ (t.get F.EVT_STAT_EVT 3).testBit 1 = true ∧ OnlyRegs s t [F.RUN_CMD_PAV.key 0 0, F.RUN_CMD_FORCE.key 0 0, F.RUN_STAT_ERR.key 0 (w.extractLsb' 0 6).toNat, F.RUN_STAT_CODE.key 0 (w.extractLsb' 0 6).toNat, F.EVT_STAT_EVT.key 3 0]) ∧
  (∀ (w : Word32) (s : State), s.cfgOpen 0x03 0x0E0 = true → s.job 4 = none → wbit w 9 = true →
      ∃ t, exec (.runOpen w) s = .next t ∧ CfgAnswered s t ∧ t.flag F.RUN_STAT_ERR 0 (w.extractLsb' 0 6).toNat = true ∧ t.get F.RUN_STAT_CODE 0 (w.extractLsb' 0 6).toNat = 2 ∧ (t.get F.EVT_STAT_EVT 3).testBit 1 = true ∧ OnlyRegs s t [F.RUN_CMD_PAV.key 0 0, F.RUN_CMD_FORCE.key 0 0, F.RUN_STAT_ERR.key 0 (w.extractLsb' 0 6).toNat, F.RUN_STAT_CODE.key 0 (w.extractLsb' 0 6).toNat, F.EVT_STAT_EVT.key 3 0]) ∧
  (∀ (w : Word32) (s : State), s.cfgOpen 0x03 0x0E0 = true → s.job 4 = none → wbit w 8 = false → (s.pavState (w.extractLsb' 0 6) = 0 ∨ 4 < s.pavState (w.extractLsb' 0 6)) →
      ∃ t, exec (.runClose w) s = .next t ∧ CfgAnswered s t ∧ t.flag F.RUN_STAT_ERR 0 (w.extractLsb' 0 6).toNat = true ∧ t.get F.RUN_STAT_CODE 0 (w.extractLsb' 0 6).toNat = 3 ∧ (t.get F.EVT_STAT_EVT 3).testBit 1 = true ∧ OnlyRegs s t [F.RUN_CMD_PAV.key 0 0, F.RUN_CMD_FORCE.key 0 0, F.RUN_STAT_ERR.key 0 (w.extractLsb' 0 6).toNat, F.RUN_STAT_CODE.key 0 (w.extractLsb' 0 6).toNat, F.EVT_STAT_EVT.key 3 0]) ∧
  (∀ (w : Word32) (s : State), s.cfgOpen 0x03 0x0E0 = true → s.job 4 = none → wbit w 8 = false → wbit w 10 = false → 2 ≤ s.pavState (w.extractLsb' 0 6) → s.pavState (w.extractLsb' 0 6) ≤ 4 →
      ∃ t, exec (.runClose w) s = .next t ∧ CfgAnswered s t ∧ t.flag F.RUN_STAT_ERR 0 (w.extractLsb' 0 6).toNat = true ∧ t.get F.RUN_STAT_CODE 0 (w.extractLsb' 0 6).toNat = 2 ∧ (t.get F.EVT_STAT_EVT 3).testBit 1 = true ∧ OnlyRegs s t [F.RUN_CMD_PAV.key 0 0, F.RUN_CMD_FORCE.key 0 0, F.RUN_STAT_ERR.key 0 (w.extractLsb' 0 6).toNat, F.RUN_STAT_CODE.key 0 (w.extractLsb' 0 6).toNat, F.EVT_STAT_EVT.key 3 0]) ∧
  (∀ (w : Word32) (j : Job) (s : State), s.cfgOpen 0x03 0x0E0 = true → s.job 4 = some j → ∃ t u, exec (.runOpen w) s = .next t ∧ exec (.runClose w) s = .next u ∧
      CfgAnswered s t ∧ OnlyRegs s t [] ∧ CfgAnswered s u ∧ OnlyRegs s u []) ∧
  (∀ (w : Word32) (s : State), s.cfgOpen 0x03 0x0E0 = true → s.job 4 = none → s.rowsGood = true → wbit w 9 = false → s.pavState (w.extractLsb' 0 6) = 0 → s.recovering = false → ∃ t, exec (.runOpen w) s = .next t ∧ CfgAnswered s t ∧ t.flag F.RUN_STAT_OPEN 0 (w.extractLsb' 0 6).toNat = true ∧ t.pavState (w.extractLsb' 0 6) = 1) ∧
  (∀ (w : Word32) (s : State), s.cfgOpen 0x03 0x0E0 = true → s.job 4 = none → s.rowsGood = true → wbit w 9 = false → s.pavState (w.extractLsb' 0 6) = 0 → s.recovering = false → s.slotsWf = true → (∀ o ∈ s.objectsOf (w.extractLsb' 0 6), (s.slot o.1 o.2).kind ≠ .foldCounter) →
      ∃ t, exec (.runOpen w) s = .next t ∧ t.flag F.RUN_STAT_ERR 0 (w.extractLsb' 0 6).toNat = false ∧ t.get F.RUN_STAT_CODE 0 (w.extractLsb' 0 6).toNat = 0 ∧ t.get F.RUN_STAT_RUN 0 (w.extractLsb' 0 6).toNat = (s.get F.RUN_STAT_RUN 0 (w.extractLsb' 0 6).toNat + 1) % 2 ^ 16 ∧
        (∀ o ∈ s.objectsOf (w.extractLsb' 0 6), (t.slot o.1 o.2).kind = (s.slot o.1 o.2).kind ∧ (t.slot o.1 o.2).link = (s.slot o.1 o.2).link ∧
          (t.slot o.1 o.2).orphan = false ∧ (t.slot o.1 o.2).lastSrc = 0 ∧
          ((s.slot o.1 o.2).kind ∈ [.counter, .turnstile, .ticket, .ring] → (t.slot o.1 o.2).val = 0) ∧
          ((s.slot o.1 o.2).kind ∈ [.sem, .glock, .mlock] → (t.slot o.1 o.2).val = (s.slot o.1 o.2).val ∧ t.waitersOf o.1 o.2 = []) ∧
          ((s.slot o.1 o.2).kind = .ringPart → (t.slot o.1 o.2).val = if (s.slot o.1 o.2).link.toNat % 4 = 3 then (s.slot o.1 o.2).val else 0)) ∧
        (∀ o ∈ s.allSlotsOf (w.extractLsb' 0 6), (t.slot o.1 o.2).orphan = false ∧ (t.slot o.1 o.2).lastSrc = 0) ∧
        (∀ e, e < 64 → s.get F.JF_CFG_PAV 0 e = (w.extractLsb' 0 6).toNat → (t.comb e).rnd = 0 ∧ (t.comb e).count = 0 ∧ (t.comb e).members = []) ∧
        (∀ i m, i < 4 → (i, m) ∉ s.allSlotsOf (w.extractLsb' 0 6) → t.slot i m = s.slot i m) ∧ RegsBut s t [F.RUN_CMD_PAV.key 0 0, F.RUN_CMD_FORCE.key 0 0, F.RUN_STAT_ERR.key 0 (w.extractLsb' 0 6).toNat, F.RUN_STAT_CODE.key 0 (w.extractLsb' 0 6).toNat, F.RUN_STAT_OPEN.key 0 (w.extractLsb' 0 6).toNat, F.PAV_STAT_STATE.key 0 (w.extractLsb' 0 6).toNat, F.RUN_STAT_RUN.key 0 (w.extractLsb' 0 6).toNat]) ∧
  (∀ (w : Word32) (s : State), s.cfgOpen 0x03 0x0E0 = true → s.job 4 = none → s.rowsGood = true → wbit w 9 = false → s.pavState (w.extractLsb' 0 6) = 0 → s.recovering = true → ∃ t, exec (.runOpen w) s = .next t ∧ CfgAnswered s t ∧
        (t.job 4).any (fun j => j.pav = (w.extractLsb' 0 6) ∧ j.args = [0]) = true ∧ RegsBut s t [F.RUN_CMD_PAV.key 0 0, F.RUN_CMD_FORCE.key 0 0, F.RUN_STAT_ERR.key 0 (w.extractLsb' 0 6).toNat, F.RUN_STAT_CODE.key 0 (w.extractLsb' 0 6).toNat] ∧ t.stns = s.stns) ∧
  (∀ (w : Word32) (s : State), s.cfgOpen 0x03 0x0E0 = true → s.job 4 = none → s.rowsGood = true → wbit w 8 = false → wbit w 10 = false → s.pavState (w.extractLsb' 0 6) = 1 → s.recovering = false → s.hasWork (w.extractLsb' 0 6) = false → s.gangsOf (w.extractLsb' 0 6) = [] → ∃ t, exec (.runClose w) s = .next t ∧ CfgAnswered s t ∧
        t.flag F.RUN_STAT_OPEN 0 (w.extractLsb' 0 6).toNat = false ∧ t.pavState (w.extractLsb' 0 6) = 0 ∧ t.flag F.RUN_STAT_ERR 0 (w.extractLsb' 0 6).toNat = false ∧ t.get F.RUN_STAT_CODE 0 (w.extractLsb' 0 6).toNat = 0 ∧ OnlyRegs s t [F.RUN_CMD_PAV.key 0 0, F.RUN_CMD_FORCE.key 0 0, F.RUN_STAT_ERR.key 0 (w.extractLsb' 0 6).toNat, F.RUN_STAT_CODE.key 0 (w.extractLsb' 0 6).toNat, F.RUN_STAT_OPEN.key 0 (w.extractLsb' 0 6).toNat, F.PAV_STAT_STATE.key 0 (w.extractLsb' 0 6).toNat]) ∧
  (∀ (w : Word32) (s : State), s.cfgOpen 0x03 0x0E0 = true → s.job 4 = none → s.rowsGood = true → wbit w 8 = false → wbit w 10 = false → s.pavState (w.extractLsb' 0 6) = 1 → s.recovering = false → s.hasWork (w.extractLsb' 0 6) = false → ∃ t, exec (.runClose w) s = .next t ∧ CfgAnswered s t ∧
        t.flag F.RUN_STAT_OPEN 0 (w.extractLsb' 0 6).toNat = false ∧ t.pavState (w.extractLsb' 0 6) = 0 ∧ t.flag F.RUN_STAT_ERR 0 (w.extractLsb' 0 6).toNat = false ∧ t.get F.RUN_STAT_CODE 0 (w.extractLsb' 0 6).toNat = 0 ∧ (∀ g ∈ s.gangsOf (w.extractLsb' 0 6), t.gangState g = 0) ∧ ∀ i m, t.slot i m = s.slot i m) ∧
  (∀ (w : Word32) (s : State), s.cfgOpen 0x03 0x0E0 = true → s.job 4 = none → s.rowsGood = true → wbit w 8 = false → wbit w 10 = false → s.pavState (w.extractLsb' 0 6) = 1 → s.recovering = false → s.hasWork (w.extractLsb' 0 6) = true → ∃ t, exec (.runClose w) s = .next t ∧ CfgAnswered s t ∧
        t.flag F.RUN_STAT_OPEN 0 (w.extractLsb' 0 6).toNat = true ∧ t.pavState (w.extractLsb' 0 6) = 1 ∧ t.flag F.RUN_STAT_ERR 0 (w.extractLsb' 0 6).toNat = true ∧ t.get F.RUN_STAT_CODE 0 (w.extractLsb' 0 6).toNat = 2 ∧ OnlyRegs s t [F.RUN_CMD_PAV.key 0 0, F.RUN_CMD_FORCE.key 0 0, F.RUN_STAT_ERR.key 0 (w.extractLsb' 0 6).toNat, F.RUN_STAT_CODE.key 0 (w.extractLsb' 0 6).toNat, F.RUN_STAT_OPEN.key 0 (w.extractLsb' 0 6).toNat, F.PAV_STAT_STATE.key 0 (w.extractLsb' 0 6).toNat, F.EVT_STAT_EVT.key 3 0]) ∧
  (∀ (w : Word32) (s : State), s.cfgOpen 0x03 0x0E0 = true → s.job 4 = none → s.rowsGood = true → wbit w 8 = false → wbit w 10 = true → 1 ≤ s.pavState (w.extractLsb' 0 6) → s.pavState (w.extractLsb' 0 6) ≤ 4 → s.recovering = false → s.pavQuiet (w.extractLsb' 0 6) = true → ∃ t, exec (.runClose w) s = .next t ∧ CfgAnswered s t ∧
        t.flag F.RUN_STAT_OPEN 0 (w.extractLsb' 0 6).toNat = false ∧ t.pavState (w.extractLsb' 0 6) = 0 ∧ t.flag F.RUN_STAT_ERR 0 (w.extractLsb' 0 6).toNat = false ∧ t.get F.RUN_STAT_CODE 0 (w.extractLsb' 0 6).toNat = 0 ∧ RegsBut s t [F.RUN_CMD_PAV.key 0 0, F.RUN_CMD_FORCE.key 0 0, F.RUN_STAT_ERR.key 0 (w.extractLsb' 0 6).toNat, F.RUN_STAT_CODE.key 0 (w.extractLsb' 0 6).toNat, F.RUN_STAT_OPEN.key 0 (w.extractLsb' 0 6).toNat, F.PAV_STAT_STATE.key 0 (w.extractLsb' 0 6).toNat] ∧ ∀ i m, t.slot i m = s.slot i m) ∧
  (∀ (w : Word32) (s : State), s.cfgOpen 0x03 0x0E0 = true → s.job 4 = none → s.rowsGood = true → wbit w 8 = false → s.pavState (w.extractLsb' 0 6) = 1 → s.recovering = true → ∃ t, exec (.runClose w) s = .next t ∧ t.flag F.RUN_STAT_OPEN 0 (w.extractLsb' 0 6).toNat = false ∧ t.pavState (w.extractLsb' 0 6) = 0 ∧
        (t.job 4).any (fun j => j.pav = (w.extractLsb' 0 6) ∧ j.args = [if wbit w 10 then 2 else 1]) = true) ∧
  (∀ (w : Word32) (s : State), s.cfgOpen 0x03 0x0FC = true → s.job 1 = none → wbit w 1 = false → wbit w 2 = false → s.pavState (BitVec.ofNat 6 (s.get F.CTX_PAV_PAV)) ≠ 1 → ∃ t, exec (.contextSave w) s = .next t ∧ CfgAnswered s t ∧ t.flag F.CTX_GO_ERR = true ∧
      t.get F.CTX_GO_CODE = 5 ∧ (t.get F.EVT_STAT_EVT 3).testBit 1 = true ∧ OnlyRegs s t [F.CTX_GO_ERR.key 0 0, F.CTX_GO_CODE.key 0 0, F.EVT_STAT_EVT.key 3 0]) ∧
  (∀ (w : Word32) (s : State), s.cfgOpen 0x03 0x0FC = true → s.job 1 = none → wbit w 0 = false → wbit w 2 = false → s.pavState (BitVec.ofNat 6 (s.get F.CTX_PAV_PAV)) ≠ 1 → ∃ t, exec (.contextRestore w) s = .next t ∧ CfgAnswered s t ∧ t.flag F.CTX_GO_ERR = true ∧
      t.get F.CTX_GO_CODE = 5 ∧ (t.get F.EVT_STAT_EVT 3).testBit 1 = true ∧ OnlyRegs s t [F.CTX_GO_ERR.key 0 0, F.CTX_GO_CODE.key 0 0, F.EVT_STAT_EVT.key 3 0]) ∧
  (∀ (w : Word32) (s : State), s.cfgOpen 0x03 0x0FC = true → s.job 1 = none → wbit w 0 = false → wbit w 1 = false → s.pavState (BitVec.ofNat 6 (s.get F.CTX_PAV_PAV)) ≠ 1 → ∃ t, exec (.contextClose w) s = .next t ∧ CfgAnswered s t ∧ t.flag F.CTX_GO_ERR = true ∧
      t.get F.CTX_GO_CODE = 5 ∧ (t.get F.EVT_STAT_EVT 3).testBit 1 = true ∧ OnlyRegs s t [F.CTX_GO_ERR.key 0 0, F.CTX_GO_CODE.key 0 0, F.EVT_STAT_EVT.key 3 0]) ∧
  (∀ (w : Word32) (s : State), s.cfgOpen 0x03 0x0FC = true → ((s.job 1).isSome = true ∨ ∃ i ∈ List.range 3, i ≠ 0 ∧ wbit w i = true) →
      ∃ t, exec (.contextSave w) s = .next t ∧ CfgAnswered s t ∧ OnlyRegs s t []) ∧
  (∀ (w : Word32) (s : State), s.cfgOpen 0x03 0x0FC = true → ((s.job 1).isSome = true ∨ ∃ i ∈ List.range 3, i ≠ 1 ∧ wbit w i = true) →
      ∃ t, exec (.contextRestore w) s = .next t ∧ CfgAnswered s t ∧ OnlyRegs s t []) ∧
  (∀ (w : Word32) (s : State), s.cfgOpen 0x03 0x0FC = true → ((s.job 1).isSome = true ∨ ∃ i ∈ List.range 3, i ≠ 2 ∧ wbit w i = true) →
      ∃ t, exec (.contextClose w) s = .next t ∧ CfgAnswered s t ∧ OnlyRegs s t []) ∧
  (∀ (w : Word32) (s : State), s.cfgOpen 0x03 0x0FC = true → s.job 1 = none → wbit w 1 = false → wbit w 2 = false → s.pavState (BitVec.ofNat 6 (s.get F.CTX_PAV_PAV)) = 1 → s.recovering = false → s.ctxSaveCode (s.get F.CTX_RANGE_MAP_OFF) (s.rangeOf (s.get F.CTX_RANGE_MAP_OFF) (s.get F.CTX_RANGE_COUNT)) ≠ 0 → ∃ t, exec (.contextSave w) s = .next t ∧ CfgAnswered s t ∧ t.flag F.CTX_GO_ERR = true ∧
      t.get F.CTX_GO_CODE = s.ctxSaveCode (s.get F.CTX_RANGE_MAP_OFF) (s.rangeOf (s.get F.CTX_RANGE_MAP_OFF) (s.get F.CTX_RANGE_COUNT)) ∧ OnlyRegs s t [F.CTX_GO_ERR.key 0 0, F.CTX_GO_CODE.key 0 0, F.EVT_STAT_EVT.key 3 0]) ∧
  (∀ (off : Nat) (l : List (Nat × GAddr)) (s : State), (s.ctxSaveCode off l = 5 ↔ ∃ e ∈ l, s.onDie e.2 = true ∧ (s.watched (aStn e.2).toNat (aPon e.2) = true ∨ (s.slot (aStn e.2).toNat (aPon e.2)).frozen = true)) ∧
      (s.ctxSaveCode off l = 0 ↔ ∀ e ∈ l, s.onDie e.2 = true ∧ s.watched (aStn e.2).toNat (aPon e.2) = false ∧ (s.slot (aStn e.2).toNat (aPon e.2)).frozen = false ∧ (s.slot (aStn e.2).toNat (aPon e.2)).kind = .counter ∧
        (s.slot (aStn e.2).toNat (aPon e.2)).ctxl = true ∧ (s.slot (aStn e.2).toNat (aPon e.2)).link.toNat % 2 ^ 16 = off)) ∧
  (∀ (w : Word32) (s : State), s.cfgOpen 0x03 0x0FC = true → s.job 1 = none → wbit w 1 = false → wbit w 2 = false → s.pavState (BitVec.ofNat 6 (s.get F.CTX_PAV_PAV)) = 1 → s.recovering = false → s.ctxSaveCode (s.get F.CTX_RANGE_MAP_OFF) (s.rangeOf (s.get F.CTX_RANGE_MAP_OFF) (s.get F.CTX_RANGE_COUNT)) = 0 → ∃ t, exec (.contextSave w) s = .next t ∧ CfgAnswered s t ∧
      (∃ j, t.job 1 = some j ∧ j.pav = (BitVec.ofNat 6 (s.get F.CTX_PAV_PAV)) ∧ j.phase = 1 ∧ j.args = [(s.get F.CTX_RANGE_MAP_OFF), (s.get F.CTX_RANGE_COUNT)] ∧ j.left ≠ 0) ∧
      (∀ e ∈ (s.rangeOf (s.get F.CTX_RANGE_MAP_OFF) (s.get F.CTX_RANGE_COUNT)), (t.slot (aStn e.2).toNat (aPon e.2)).frozen = true) ∧ (∀ i m, t.slot i m = { s.slot i m with frozen := (t.slot i m).frozen }) ∧
      (∀ i m, (∀ e ∈ (s.rangeOf (s.get F.CTX_RANGE_MAP_OFF) (s.get F.CTX_RANGE_COUNT)), ¬((aStn e.2).toNat = i ∧ aPon e.2 = m)) → t.slot i m = s.slot i m) ∧
      (∃ r ∈ (t.port 4).queue, r.wr = true ∧ r.why = .job 1 (s.ctxArea / 64) ∧ r.line.toNat = s.ctxArea / 64 ∧ r.data.toNat = bytesNat (ctxHeader (s.get F.CTX_RANGE_COUNT) (s.get F.CTX_RANGE_MAP_OFF) (BitVec.ofNat 6 (s.get F.CTX_PAV_PAV)).toNat
        (s.get F.RUN_STAT_RUN 0 (BitVec.ofNat 6 (s.get F.CTX_PAV_PAV)).toNat))) ∧ RegsBut s t []) ∧
  (∀ (w : Word32) (s : State), s.cfgOpen 0x03 0x0FC = true → s.job 1 = none → wbit w 0 = false → wbit w 2 = false → s.pavState (BitVec.ofNat 6 (s.get F.CTX_PAV_PAV)) = 1 → ∃ t, exec (.contextRestore w) s = .next t ∧ CfgAnswered s t ∧ (∃ j, t.job 1 = some j ∧ j.pav = (BitVec.ofNat 6 (s.get F.CTX_PAV_PAV)) ∧ j.phase = 2 ∧
        j.args = [(s.get F.CTX_RANGE_MAP_OFF), (s.get F.CTX_RANGE_COUNT), s.ctxArea] ∧ j.left = 1) ∧ (∃ r ∈ (t.port 4).queue, r.wr = false ∧ r.why = .job 1 0 ∧ r.line.toNat = s.ctxArea / 64) ∧
      RegsBut s t [] ∧ t.stns = s.stns ∧ t.halts = s.halts ∧ t.jct = s.jct ∧ t.net = s.net) ∧
  (∀ (w : Word32) (s : State), s.cfgOpen 0x03 0x0FC = true → s.job 1 = none → wbit w 1 = false → wbit w 2 = false → s.pavState (BitVec.ofNat 6 (s.get F.CTX_PAV_PAV)) = 1 → s.recovering = true → ∃ t, exec (.contextSave w) s = .next t ∧ CfgAnswered s t ∧
      (∃ j, t.job 1 = some j ∧ j.pav = (BitVec.ofNat 6 (s.get F.CTX_PAV_PAV)) ∧ j.phase = 9 ∧ j.args = [(s.get F.CTX_RANGE_MAP_OFF), (s.get F.CTX_RANGE_COUNT)]) ∧ RegsBut s t [] ∧ t.stns = s.stns ∧ t.ports = s.ports ∧ t.jct = s.jct ∧ t.halts = s.halts) ∧
  (∀ (w : Word32) (s : State), s.cfgOpen 0x03 0x0FC = true → s.job 1 = none → wbit w 0 = false → wbit w 1 = false → s.pavState (BitVec.ofNat 6 (s.get F.CTX_PAV_PAV)) = 1 → s.recovering = true → ∃ t, exec (.contextClose w) s = .next t ∧ CfgAnswered s t ∧
      (∃ j, t.job 1 = some j ∧ j.pav = (BitVec.ofNat 6 (s.get F.CTX_PAV_PAV)) ∧ j.phase = 10 ∧ j.args = [(s.get F.CTX_RANGE_MAP_OFF), (s.get F.CTX_RANGE_COUNT)]) ∧ RegsBut s t [] ∧ t.stns = s.stns ∧ t.ports = s.ports ∧ t.jct = s.jct ∧ t.halts = s.halts) ∧
  (∀ (w : Word32) (s : State), s.cfgOpen 0x03 0x0FC = true → s.job 1 = none → wbit w 0 = false → wbit w 1 = false → s.pavState (BitVec.ofNat 6 (s.get F.CTX_PAV_PAV)) = 1 → s.recovering = false → (∀ k, k < 4 → (s.mem k).watches = []) → ∃ t, exec (.contextClose w) s = .next t ∧ CfgAnswered s t ∧
      t.flag F.CTX_GO_ERR = false ∧ t.get F.CTX_GO_CODE = 0 ∧ (∀ e ∈ (s.rangeOf (s.get F.CTX_RANGE_MAP_OFF) (s.get F.CTX_RANGE_COUNT)), s.onDie e.2 = true → (t.slot (aStn (s.resolve e.2 moveFuel)).toNat (aPon (s.resolve e.2 moveFuel))).orphan = true) ∧
      (∀ i m, t.slot i m = { s.slot i m with orphan := (t.slot i m).orphan }) ∧
      (∀ i m, (∀ e ∈ (s.rangeOf (s.get F.CTX_RANGE_MAP_OFF) (s.get F.CTX_RANGE_COUNT)), ¬(s.onDie e.2 = true ∧ (aStn (s.resolve e.2 moveFuel)).toNat = i ∧ aPon (s.resolve e.2 moveFuel) = m)) → t.slot i m = s.slot i m) ∧ RegsBut s t [F.CTX_GO_ERR.key 0 0, F.CTX_GO_CODE.key 0 0])

/-- A clean row changes nothing. A correctable one is counted, sets its event and enters the log, in a free entry or
its own. An uncorrectable one is recorded with its class and source; it puts the serving station or the halt into
phase 1 of its recovery, with the fault in the log; an idle fold line is cleared, and one of a fold under way
aborts the fold; before the block was ready it stops start-up. The end of a lap counts it, and the limit engages
the floor once. A row read already or of no part changes nothing; rows in error on the way are met in order. A
command that reads a row in error corrects it, or ends with FAULT and its station's reset begins in the next fclk. -/
def Obligations.ScrubReadsAndLaps : Prop :=
  (∀ (p : Part) (ram : BitVec 5) (row : BitVec 20) (syn : List (Nat × Byte)) (s : State), s.scrubs p ram row = true → s.scrubClear p ram.toNat row.toNat = true → s.noPark = true → classify (s.syndromes (protOf p) ram.toNat row.toNat syn) = .clean → ∃ t, exec (.scrubRead p ram row syn) s = .next t ∧ t.out = [] ∧ tget 0 (t.prot (protOf p)).pos ram.toNat = row.toNat + 1 ∧ OnlyRegs s t []) ∧
  (∀ (p : Part) (ram : BitVec 5) (row : BitVec 20) (syn : List (Nat × Byte)) (s : State), s.scrubs p ram row = true → s.scrubClear p ram.toNat row.toNat = true → s.noPark = true → classify (s.syndromes (protOf p) ram.toNat row.toNat syn) = .corr → ∃ t, exec (.scrubRead p ram row syn) s = .next t ∧ t.get F.SP_CE_COUNT (protOf p) = min (s.get F.SP_CE_COUNT (protOf p) + 1) (2 ^ F.SP_CE_COUNT.len - 1) ∧ (t.get F.EVT_STAT_EVT (protPage p)).testBit (protBit p 0) = true ∧ OnlyRegs s t [F.SP_CE_COUNT.key (protOf p) 0, F.EVT_STAT_EVT.key (protPage p) 0, F.SP_LOG_CTL_LOST.key (protOf p) 0]) ∧
  (∀ (n : Nat) (p : Part) (ram : BitVec 5) (row : BitVec 20) (syn : List (Nat × Byte)) (s : State), s.scrubs p ram row = true → s.scrubClear p ram.toNat row.toNat = true → s.noPark = true →
      classify (s.syndromes (protOf p) ram.toNat row.toNat syn) = .corr → (s.prot (protOf p)).log.any (fun e => e.2.any (fun r => decide (r.ram = ram ∧ r.row.toNat = row.toNat))) = false → (s.prot (protOf p)).victim = some n →
      ∃ t, exec (.scrubRead p ram row syn) s = .next t ∧ tget none (t.prot (protOf p)).log n = some ⟨ram, BitVec.ofNat 16 row.toNat, 1, 1, BitVec.ofNat 16 (s.get F.SP_LAP_LAP_NO (protOf p)), false⟩ ∧
        ∀ m, m ≠ n → tget none (t.prot (protOf p)).log m = tget none (s.prot (protOf p)).log m) ∧
  (∀ (n : Nat) (r : LogRow) (p : Part) (syn : List (Nat × Byte)) (s : State), s.scrubs p r.ram (BitVec.ofNat 20 r.row.toNat) = true → s.scrubClear p r.ram.toNat r.row.toNat = true → s.noPark = true →
      classify (s.syndromes (protOf p) r.ram.toNat r.row.toNat syn) = .corr → (s.prot (protOf p)).log = [(n, some r)] →
      ∃ t, exec (.scrubRead p r.ram (BitVec.ofNat 20 r.row.toNat) syn) s = .next t ∧ tget none (t.prot (protOf p)).log n = some (r.again (BitVec.ofNat 16 (s.get F.SP_LAP_LAP_NO (protOf p)))) ∧
        (r.persist = false → (r.again (BitVec.ofNat 16 (s.get F.SP_LAP_LAP_NO (protOf p)))).persist = true → (t.get F.EVT_STAT_EVT (protPage p)).testBit (protBit p 1) = true)) ∧
  (∀ (r : LogRow) (lap : BitVec 16), (r.again lap).persist = (r.persist || decide ((r.again lap).wcount = 4)) ∧
      (r.again lap).total.toNat = min (r.total.toNat + 1) 0xFFFF ∧ (1 < (lap - r.wlap).toNat → (r.again lap).wcount = 1 ∧ (r.again lap).wlap = lap) ∧
      ((lap - r.wlap).toNat ≤ 1 → (r.again lap).wlap = r.wlap ∧ (r.wcount.toNat < 4 → (r.again lap).wcount.toNat = r.wcount.toNat + 1))) ∧
  (∀ (p : Part) (ram : BitVec 5) (row : BitVec 20) (syn : List (Nat × Byte)) (s : State), s.scrubs p ram row = true → s.scrubClear p ram.toNat row.toNat = true → s.noPark = true → s.su.everReady = true → classify (s.syndromes (protOf p) ram.toNat row.toNat syn) ≠ .clean → classify (s.syndromes (protOf p) ram.toNat row.toNat syn) ≠ .corr → s.uncorrOf (protOf p) ram.toNat row.toNat (classify (s.syndromes (protOf p) ram.toNat row.toNat syn)) = .reset → s.job 5 = none → s.net = [] → ∀ (x : BitVec 2), p = .stn x → s.flag F.REC_STAT_FAILED x.toNat = false →
      s.get F.REC_STAT_PHASE x.toNat = 0 → s.unprot (.stn x) = false → (s.mem x.toNat).freezeQ = [] → (s.stn x.toNat).wakeQ = [] →
      ∃ t, exec (.scrubRead p ram row syn) s = .next t ∧ t.get F.SP_UE_LAST_RAM (protOf p) = ram.toNat ∧ t.get F.SP_UE_LAST_CLASS (protOf p) = (classify (s.syndromes (protOf p) ram.toNat row.toNat syn)).code ∧ t.get F.SP_UE_LAST_SRC (protOf p) = 1 ∧ t.flag F.SP_UE_LAST_V (protOf p) = true ∧ t.get F.SP_UE_ROW_ROW (protOf p) = row.toNat % 2 ^ 16 ∧ t.get F.SP_UE_CNT_RESETS (protOf p) = min (s.get F.SP_UE_CNT_RESETS (protOf p) + 1) (2 ^ F.SP_UE_CNT_RESETS.len - 1) ∧ (t.get F.EVT_STAT_EVT (protPage p)).testBit (protBit p 2) = true ∧ t.get F.REC_STAT_PHASE x.toNat = 1 ∧
        t.get F.REC_STAT_STN_RECS x.toNat = min (s.get F.REC_STAT_STN_RECS x.toNat + 1) (2 ^ F.REC_STAT_STN_RECS.len - 1) ∧
        ∃ e, t.jct.faults.getLast? = some e ∧ e.cls = 1 ∧ e.part.toNat = x.toNat ∧ e.detail = BitVec.ofNat 32 (ueDetail ram.toNat row.toNat (classify (s.syndromes (protOf p) ram.toNat row.toNat syn)))) ∧
  (∀ (p : Part) (ram : BitVec 5) (row : BitVec 20) (syn : List (Nat × Byte)) (s : State), s.scrubs p ram row = true → s.scrubClear p ram.toNat row.toNat = true → s.noPark = true → s.su.everReady = true → classify (s.syndromes (protOf p) ram.toNat row.toNat syn) ≠ .clean → classify (s.syndromes (protOf p) ram.toNat row.toNat syn) ≠ .corr → ∀ (h : BitVec 4), p = .halt h → ∃ t, exec (.scrubRead p ram row syn) s = .next t ∧ (t.halt h.toNat).phase = 1 ∧ (t.halt h.toNat).recs = (s.halt h.toNat).recs + 1 ∧
        (t.halt h.toNat).purges = []) ∧
  (∀ (p : Part) (ram : BitVec 5) (row : BitVec 20) (syn : List (Nat × Byte)) (s : State), s.scrubs p ram row = true → s.scrubClear p ram.toNat row.toNat = true → s.noPark = true → s.su.everReady = true → classify (s.syndromes (protOf p) ram.toNat row.toNat syn) ≠ .clean → classify (s.syndromes (protOf p) ram.toNat row.toNat syn) ≠ .corr → ∀ (x : BitVec 2), p = .stn x → s.uncorrOf (protOf p) ram.toNat row.toNat (classify (s.syndromes (protOf p) ram.toNat row.toNat syn)) = .idle → ∃ t, exec (.scrubRead p ram row syn) s = .next t ∧ t.get F.SP_UE_LAST_RAM (protOf p) = ram.toNat ∧ t.get F.SP_UE_LAST_CLASS (protOf p) = (classify (s.syndromes (protOf p) ram.toNat row.toNat syn)).code ∧ t.get F.SP_UE_LAST_SRC (protOf p) = 1 ∧ t.flag F.SP_UE_LAST_V (protOf p) = true ∧ t.get F.SP_UE_ROW_ROW (protOf p) = row.toNat % 2 ^ 16 ∧ t.get F.SP_UE_CNT_CLEARED (protOf p) = min (s.get F.SP_UE_CNT_CLEARED (protOf p) + 1) (2 ^ F.SP_UE_CNT_CLEARED.len - 1) ∧ (t.get F.EVT_STAT_EVT (protPage p)).testBit (protBit p 3) = true ∧
        tget none (t.mem x.toNat).lanes row.toNat = none ∧ SlotsBut s t x [] ∧ RegsBut s t [F.SP_UE_LAST_RAM.key (protOf p) 0, F.SP_UE_LAST_CLASS.key (protOf p) 0, F.SP_UE_LAST_SRC.key (protOf p) 0, F.SP_UE_LAST_V.key (protOf p) 0, F.SP_UE_ROW_ROW.key (protOf p) 0, F.SP_UE_CNT_CLEARED.key (protOf p) 0, F.EVT_STAT_EVT.key (protPage p) 0]) ∧
  (∀ (p : Part) (ram : BitVec 5) (row : BitVec 20) (syn : List (Nat × Byte)) (s : State), s.scrubs p ram row = true → s.scrubClear p ram.toNat row.toNat = true → s.noPark = true → s.su.everReady = true → classify (s.syndromes (protOf p) ram.toNat row.toNat syn) ≠ .clean → classify (s.syndromes (protOf p) ram.toNat row.toNat syn) ≠ .corr → ∀ (x : BitVec 2) (pon : Nat), p = .stn x → s.uncorrOf (protOf p) ram.toNat row.toNat (classify (s.syndromes (protOf p) ram.toNat row.toNat syn)) = .lane pon → ∃ t, exec (.scrubRead p ram row syn) s = .next t ∧ t.get F.SP_UE_LAST_RAM (protOf p) = ram.toNat ∧ t.get F.SP_UE_LAST_CLASS (protOf p) = (classify (s.syndromes (protOf p) ram.toNat row.toNat syn)).code ∧ t.get F.SP_UE_LAST_SRC (protOf p) = 1 ∧ t.flag F.SP_UE_LAST_V (protOf p) = true ∧ t.get F.SP_UE_ROW_ROW (protOf p) = row.toNat % 2 ^ 16 ∧ t.get F.SP_UE_CNT_CLEARED (protOf p) = min (s.get F.SP_UE_CNT_CLEARED (protOf p) + 1) (2 ^ F.SP_UE_CNT_CLEARED.len - 1) ∧ (t.get F.EVT_STAT_EVT (protPage p)).testBit (protBit p 3) = true ∧
        ∃ e ∈ t.jct.faults, e.cls = 4 ∧ e.part.toNat = x.toNat ∧ e.detail = BitVec.ofNat 32 (ueDetail ram.toNat row.toNat (classify (s.syndromes (protOf p) ram.toNat row.toNat syn)))) ∧
  (∀ (p : Part) (ram : BitVec 5) (row : BitVec 20) (r : Nat) (s : State), s.scrubs p ram row = true → s.noPark = true → (s.prot (protOf p)).due = [] → (s.prot (protOf p)).armed = false →
      s.passBad (protOf p) ram.toNat (tget 0 (s.prot (protOf p)).pos ram.toNat) (row.toNat - tget 0 (s.prot (protOf p)).pos ram.toNat) = [r] → s.rowSkipped (protOf p) ram.toNat r = false →
      classify (s.syndromes (protOf p) ram.toNat r []) = .corr → classify (s.syndromes (protOf p) ram.toNat row.toNat []) = .clean → ∃ t, exec (.scrubRead p ram row []) s = .next t ∧
      t.get F.SP_CE_COUNT (protOf p) = min (s.get F.SP_CE_COUNT (protOf p) + 1) (2 ^ F.SP_CE_COUNT.len - 1) ∧ (t.get F.EVT_STAT_EVT (protPage p)).testBit (protBit p 0) = true ∧ (∀ m ∈ (t.prot (protOf p)).bad, ¬(m.1 = ram.toNat ∧ m.2.1 = r)) ∧ OnlyRegs s t [F.SP_CE_COUNT.key (protOf p) 0, F.EVT_STAT_EVT.key (protPage p) 0, F.SP_LOG_CTL_LOST.key (protOf p) 0]) ∧
  (∀ (p : Part) (ram : BitVec 5) (row : BitVec 20) (syn : List (Nat × Byte)) (s : State), s.scrubs p ram row = true → s.scrubClear p ram.toNat row.toNat = true → s.noPark = true → s.su.everReady = false → classify (s.syndromes (protOf p) ram.toNat row.toNat syn) ≠ .clean → classify (s.syndromes (protOf p) ram.toNat row.toNat syn) ≠ .corr → s.su.step ≠ 15 → ∃ t, exec (.scrubRead p ram row syn) s = .next t ∧ t.get F.SP_UE_LAST_RAM (protOf p) = ram.toNat ∧ t.get F.SP_UE_LAST_CLASS (protOf p) = (classify (s.syndromes (protOf p) ram.toNat row.toNat syn)).code ∧ t.get F.SP_UE_LAST_SRC (protOf p) = 1 ∧ t.flag F.SP_UE_LAST_V (protOf p) = true ∧ t.get F.SP_UE_ROW_ROW (protOf p) = row.toNat % 2 ^ 16 ∧ t.su.step = 15 ∧ t.su.err = true ∧ t.su.ready = false ∧
        t.su.code = (if s.su.step = 5 then 6 else 4)) ∧
  (∀ (p : Part) (ram : BitVec 5) (row : BitVec 20) (syn : List (Nat × Byte)) (s : State), s.scrubs p ram row = false → ∃ t, exec (.scrubRead p ram row syn) s = .next t ∧ t.out = [] ∧ OnlyRegs s t []) ∧
  (∀ (p : Part) (s : State), (∀ h, p ≠ .halt h) → s.flag F.SP_SWEEP_DONE (protOf p) = true → s.parked = false → s.noPark = true →
      (ramsOf (protOf p)).all (fun x => s.scrubClear p x.1 x.2) = true → ∃ t, exec (.scrubLapEnd p) s = .next t ∧
      t.get F.SP_LAP_LAP_NO (protOf p) = (s.get F.SP_LAP_LAP_NO (protOf p) + 1) % 2 ^ 16 ∧ t.get F.SP_LAP_LAST_TIME (protOf p) = min ((s.fclk - (s.prot (protOf p)).lapAt) / 1024) (2 ^ 32 - 1) ∧
      (t.flag F.SP_LAP_FLOOR (protOf p) = true ↔ s.get F.SP_LAP_LIMIT_LIMIT (protOf p) = 0) ∧ (t.prot (protOf p)).lapAt = s.fclk ∧ (t.prot (protOf p)).pos = [] ∧
      OnlyRegs s t [F.SP_LAP_LAP_NO.key (protOf p) 0, F.SP_LAP_LAST_TIME.key (protOf p) 0, F.SP_LAP_FLOOR.key (protOf p) 0]) ∧
  (∀ (p : Part) (s : State), (∀ h, p ≠ .halt h) → s.flag F.SP_SWEEP_DONE (protOf p) = true → s.flag F.SP_LAP_FLOOR (protOf p) = false → ∃ t, exec (.scrubFloorEngage p) s = .next t ∧
      t.flag F.SP_LAP_FLOOR (protOf p) = true ∧ (t.get F.EVT_STAT_EVT (protPage p)).testBit (protBit p 4) = true ∧ OnlyRegs s t [F.SP_LAP_FLOOR.key (protOf p) 0, F.EVT_STAT_EVT.key (protPage p) 0]) ∧
  (∀ (p : Part) (s : State), ((∃ h, p = .halt h) ∨ s.flag F.SP_SWEEP_DONE (protOf p) = false ∨ s.flag F.SP_LAP_FLOOR (protOf p) = true) → ∃ t,
      exec (.scrubFloorEngage p) s = .next t ∧ t.out = [] ∧ OnlyRegs s t []) ∧
  (∀ (p : Part) (s : State), ((∃ h, p = .halt h) ∨ s.flag F.SP_SWEEP_DONE (protOf p) = false ∨ s.parked = true) → ∃ t, exec (.scrubLapEnd p) s = .next t ∧ t.out = [] ∧ OnlyRegs s t []) ∧
  (∀ (x : BitVec 2) (w : Word32) (m : BitVec 5) (s : State), s.cfgOpen (corePage x) 0x050 = true → (s.prot x.toNat).bad = [(1, bitsOf w.toNat 16 14, m)] → (s.prot x.toNat).armed = false →
      classify (s.syndromes x.toNat 1 (bitsOf w.toNat 16 14) []) = .corr → ∃ t, exec (.free x w) s = .next t ∧ CfgAnswered s t ∧ (t.prot x.toNat).bad = [] ∧
        t.get F.SP_CE_COUNT x.toNat = min (s.get F.SP_CE_COUNT x.toNat + 1) (2 ^ F.SP_CE_COUNT.len - 1) ∧ (t.get F.EVT_STAT_EVT (0x14 + x.toNat)).testBit 0 = true ∧
        t.get F.OBJ_RES_CODE x.toNat ≠ 8) ∧
  (∀ (x : BitVec 2) (w : Word32) (m : BitVec 5) (s : State), s.cfgOpen (corePage x) 0x050 = true → (s.prot x.toNat).bad = [(1, bitsOf w.toNat 16 14, m)] → (s.prot x.toNat).armed = false →
      (s.prot x.toNat).due = [] → s.su.everReady = true → classify (s.syndromes x.toNat 1 (bitsOf w.toNat 16 14) []) ≠ .clean → classify (s.syndromes x.toNat 1 (bitsOf w.toNat 16 14) []) ≠ .corr →
      ∃ t, exec (.free x w) s = .next t ∧ CfgAnswered s t ∧ t.get F.OBJ_RES_CODE x.toNat = 8 ∧ t.flag F.OBJ_RES_ERR x.toNat = true ∧ t.get F.SP_UE_LAST_SRC x.toNat = 0 ∧
        t.get F.SP_UE_LAST_RAM x.toNat = 1 ∧ t.get F.SP_UE_ROW_ROW x.toNat = bitsOf w.toNat 16 14 ∧ (t.get F.EVT_STAT_EVT (0x14 + x.toNat)).testBit 2 = true ∧ (∀ i n, t.slot i n = s.slot i n) ∧
        (t.prot x.toNat).due = [(.stn x, ueDetail 1 (bitsOf w.toNat 16 14) (classify (s.syndromes x.toNat 1 (bitsOf w.toNat 16 14) [])))]) ∧
  (∀ (x : BitVec 2) (d : Nat) (s : State), s.pending = [] → (s.prot x.toNat).due = [(.stn x, d)] → (∀ i, i < 5 → i ≠ x.toNat → (s.prot i).due = []) → s.su.everReady = true →
      s.job 5 = none → s.flag F.REC_STAT_FAILED x.toNat = false → s.get F.REC_STAT_PHASE x.toNat = 0 → s.unprot (.stn x) = false → s.net = [] →
      (s.mem x.toNat).freezeQ = [] → (s.stn x.toNat).wakeQ = [] → s.jct.wires = [] → s.jct.pool = [] → s.jct.retWait = [] → s.jct.beatWait = [] →
      (∀ h, h < 16 → (s.halt h).ssHeld = []) → ∃ t, step s = .next t ∧ t.get F.REC_STAT_PHASE x.toNat = 1 ∧ (t.prot x.toNat).due = [] ∧
        ∃ e ∈ t.jct.faults, e.cls = 1 ∧ e.part.toNat = x.toNat ∧ e.detail = BitVec.ofNat 32 d)

/-- GO of a pass of rows that exist makes it BUSY with its summary cleared; another gets RANGE or RAM, and a GO while
BUSY is ignored. The pass counts the rows it finds in error, sets its event and ends. CLR clears the selected
entry, CLR_ALL all. RETIRE takes an unused row of a retirable RAM, or a bank, out of use; UNRETIRE gives it back;
each refusal has its code. ARM with a nonzero mask arms the injection. A halt has no such registers. -/
def Obligations.PassesLogRetirementAndInjection : Prop :=
  (∀ (p : Part) (w : Word32) (s : State), s.spOpen p 0x070 = true →  s.flag F.SP_PASS_CTL_BUSY (protOf p) = true → ∃ t, exec (.protectionPass p w) s = .next t ∧ CfgAnswered s t ∧ OnlyRegs s t []) ∧
  (∀ (p : Part) (w : Word32) (s : State), s.spOpen p 0x070 = true →  s.flag F.SP_PASS_CTL_BUSY (protOf p) = false → s.passCode (protOf p) ≠ 0 → ∃ t, exec (.protectionPass p w) s = .next t ∧ CfgAnswered s t ∧
      t.flag F.SP_PASS_CTL_ERR (protOf p) = true ∧ t.get F.SP_PASS_CTL_CODE (protOf p) = s.passCode (protOf p) ∧ OnlyRegs s t [F.SP_PASS_CTL_ERR.key (protOf p) 0, F.SP_PASS_CTL_CODE.key (protOf p) 0]) ∧
  (∀ (p : Part) (w : Word32) (s : State), s.spOpen p 0x070 = true →  s.flag F.SP_PASS_CTL_BUSY (protOf p) = false → s.passCode (protOf p) = 0 → ∃ t, exec (.protectionPass p w) s = .next t ∧ CfgAnswered s t ∧
      t.flag F.SP_PASS_CTL_ERR (protOf p) = false ∧ t.flag F.SP_PASS_CTL_BUSY (protOf p) = true ∧ t.flag F.SP_PASS_CTL_ABORTED (protOf p) = false ∧ t.get F.SP_PASS_SUM_CORR (protOf p) = 0 ∧
      t.get F.SP_PASS_SUM_UNCORR (protOf p) = 0 ∧ OnlyRegs s t [F.SP_PASS_CTL_ERR.key (protOf p) 0, F.SP_PASS_CTL_CODE.key (protOf p) 0, F.SP_PASS_CTL_BUSY.key (protOf p) 0, F.SP_PASS_CTL_ABORTED.key (protOf p) 0, F.SP_PASS_SUM_CORR.key (protOf p) 0, F.SP_PASS_SUM_UNCORR.key (protOf p) 0, F.SP_PASS_ERR_FIRST.key (protOf p) 0, F.SP_PASS_ERR_LAST.key (protOf p) 0]) ∧
  (∀ (p : Part) (s : State), (∀ h, p ≠ .halt h) → s.parked = false → s.noPark = true → s.flag F.SP_PASS_CTL_BUSY (protOf p) = true → s.passBad (protOf p) (s.get F.SP_PASS_RAM_RAM (protOf p)) (s.get F.SP_PASS_FIRST_ROW (protOf p)) (s.get F.SP_PASS_N_N (protOf p)) = [] → ∃ t, exec (.protectionPassEnd p) s = .next t ∧
      t.flag F.SP_PASS_CTL_BUSY (protOf p) = false ∧ (t.get F.EVT_STAT_EVT (protPage p)).testBit (protBit p 5) = true ∧ OnlyRegs s t [F.SP_PASS_CTL_BUSY.key (protOf p) 0, F.EVT_STAT_EVT.key (protPage p) 0]) ∧
  (∀ (p : Part) (r : Nat) (s : State), (∀ h, p ≠ .halt h) → s.parked = false → s.noPark = true → s.flag F.SP_PASS_CTL_BUSY (protOf p) = true → s.passBad (protOf p) (s.get F.SP_PASS_RAM_RAM (protOf p)) (s.get F.SP_PASS_FIRST_ROW (protOf p)) (s.get F.SP_PASS_N_N (protOf p)) = [r] → r < 2 ^ 16 →
      s.rowSkipped (protOf p) (s.get F.SP_PASS_RAM_RAM (protOf p)) r = false → classify (s.syndromes (protOf p) (s.get F.SP_PASS_RAM_RAM (protOf p)) r []) = .corr → s.get F.SP_PASS_SUM_CORR (protOf p) = 0 → s.get F.SP_PASS_SUM_UNCORR (protOf p) = 0 →
      ∃ t, exec (.protectionPassEnd p) s = .next t ∧ t.flag F.SP_PASS_CTL_BUSY (protOf p) = false ∧ (t.get F.EVT_STAT_EVT (protPage p)).testBit (protBit p 5) = true ∧ (t.get F.EVT_STAT_EVT (protPage p)).testBit (protBit p 0) = true ∧ t.get F.SP_PASS_SUM_CORR (protOf p) = 1 ∧
        t.get F.SP_PASS_ERR_FIRST (protOf p) = r ∧ t.get F.SP_PASS_ERR_LAST (protOf p) = r ∧ t.get F.SP_CE_COUNT (protOf p) = min (s.get F.SP_CE_COUNT (protOf p) + 1) (2 ^ F.SP_CE_COUNT.len - 1) ∧ ((s.prot (protOf p)).armed = false → ∀ m ∈ (t.prot (protOf p)).bad, ¬(m.1 = (s.get F.SP_PASS_RAM_RAM (protOf p)) ∧ m.2.1 = r)) ∧
        OnlyRegs s t [F.SP_PASS_CTL_BUSY.key (protOf p) 0, F.EVT_STAT_EVT.key (protPage p) 0, F.SP_PASS_SUM_CORR.key (protOf p) 0, F.SP_PASS_ERR_FIRST.key (protOf p) 0, F.SP_PASS_ERR_LAST.key (protOf p) 0, F.SP_CE_COUNT.key (protOf p) 0, F.SP_LOG_CTL_LOST.key (protOf p) 0]) ∧
  (∀ (p : Part) (s : State), ((∃ h, p = .halt h) ∨ s.parked = true ∨ (s.flag F.SP_PASS_CTL_BUSY (protOf p) = false ∧ s.noPark = true)) → ∃ t, exec (.protectionPassEnd p) s = .next t ∧
      t.out = [] ∧ OnlyRegs s t []) ∧
  (∀ (p : Part) (w : Word32) (s : State), s.spOpen p 0x08C = true →  wbit w 1 = false → ∃ t, exec (.spLogClr p w) s = .next t ∧ CfgAnswered s t ∧ OnlyRegs s t [] ∧
      tget none (t.prot (protOf p)).log (s.get F.SP_LOG_IDX_IDX (protOf p)) = none ∧
      ∀ m, m ≠ s.get F.SP_LOG_IDX_IDX (protOf p) → tget none (t.prot (protOf p)).log m = tget none (s.prot (protOf p)).log m) ∧
  (∀ (p : Part) (w : Word32) (s : State), s.spOpen p 0x08C = true →  ∃ t, exec (.spLogClrAll p w) s = .next t ∧ CfgAnswered s t ∧ OnlyRegs s t [] ∧ (t.prot (protOf p)).log = []) ∧
  (∀ (p : Part) (w : Word32) (s : State), s.spOpen p 0x094 = true →  wbit w 1 = false → s.retCode (protOf p) (s.get F.SP_RET_SEL_RAM (protOf p)) (s.get F.SP_RET_SEL_ROW (protOf p)) true = 0 → ∃ t, exec (.rowRetire p w) s = .next t ∧ CfgAnswered s t ∧
      t.flag F.SP_RET_CTL_ERR (protOf p) = false ∧ t.rowRetired (protOf p) (s.get F.SP_RET_SEL_RAM (protOf p)) (s.get F.SP_RET_SEL_ROW (protOf p)) = true ∧
      (∀ ram row, ¬(ram = s.get F.SP_RET_SEL_RAM (protOf p) ∧ row = s.get F.SP_RET_SEL_ROW (protOf p)) → ram < 0x20 → t.rowRetired (protOf p) ram row = s.rowRetired (protOf p) ram row) ∧ (∀ i m, t.slot i m = s.slot i m) ∧ t.net = s.net) ∧
  (∀ (p : Part) (w : Word32) (s : State), s.spOpen p 0x094 = true →  wbit w 0 = false → s.retCode (protOf p) (s.get F.SP_RET_SEL_RAM (protOf p)) (s.get F.SP_RET_SEL_ROW (protOf p)) false = 0 → ∃ t, exec (.rowUnretire p w) s = .next t ∧ CfgAnswered s t ∧
      t.flag F.SP_RET_CTL_ERR (protOf p) = false ∧ t.rowRetired (protOf p) (s.get F.SP_RET_SEL_RAM (protOf p)) (s.get F.SP_RET_SEL_ROW (protOf p)) = false ∧
      (∀ ram row, ¬(ram = s.get F.SP_RET_SEL_RAM (protOf p) ∧ row = s.get F.SP_RET_SEL_ROW (protOf p)) → t.rowRetired (protOf p) ram row = s.rowRetired (protOf p) ram row) ∧ (∀ i m, t.slot i m = s.slot i m) ∧ t.net = s.net) ∧
  (∀ (p : Part) (w : Word32) (s : State), s.spOpen p 0x094 = true →  wbit w 1 = false → s.retCode (protOf p) (s.get F.SP_RET_SEL_RAM (protOf p)) (s.get F.SP_RET_SEL_ROW (protOf p)) true ≠ 0 → ∃ t, exec (.rowRetire p w) s = .next t ∧ CfgAnswered s t ∧
      t.flag F.SP_RET_CTL_ERR (protOf p) = true ∧ t.get F.SP_RET_CTL_CODE (protOf p) = s.retCode (protOf p) (s.get F.SP_RET_SEL_RAM (protOf p)) (s.get F.SP_RET_SEL_ROW (protOf p)) true ∧ RegsBut s t [F.SP_RET_CTL_ERR.key (protOf p) 0, F.SP_RET_CTL_CODE.key (protOf p) 0] ∧
      (∀ ram row, ram < 0x20 → t.rowRetired (protOf p) ram row = s.rowRetired (protOf p) ram row) ∧
      ((s.retCode (protOf p) (s.get F.SP_RET_SEL_RAM (protOf p)) (s.get F.SP_RET_SEL_ROW (protOf p)) true ≠ 2 ∨ s.get F.SP_RET_SEL_RAM (protOf p) ≠ 0x06) → OnlyRegs s t [F.SP_RET_CTL_ERR.key (protOf p) 0, F.SP_RET_CTL_CODE.key (protOf p) 0])) ∧
  (∀ (p : Part) (w : Word32) (s : State), s.spOpen p 0x094 = true →  wbit w 0 = false → s.retCode (protOf p) (s.get F.SP_RET_SEL_RAM (protOf p)) (s.get F.SP_RET_SEL_ROW (protOf p)) false ≠ 0 → ∃ t, exec (.rowUnretire p w) s = .next t ∧ CfgAnswered s t ∧
      t.flag F.SP_RET_CTL_ERR (protOf p) = true ∧ t.get F.SP_RET_CTL_CODE (protOf p) = s.retCode (protOf p) (s.get F.SP_RET_SEL_RAM (protOf p)) (s.get F.SP_RET_SEL_ROW (protOf p)) false ∧ OnlyRegs s t [F.SP_RET_CTL_ERR.key (protOf p) 0, F.SP_RET_CTL_CODE.key (protOf p) 0]) ∧
  (∀ (i ram row : Nat) (s : State) (b : Bool), ((4 ≤ i ∨ ram ∉ [2, 3, 4, 6, 7, 0x0A]) → s.retCode i ram row b = 1) ∧
      (i < 4 → ram = 7 → 16 ≤ row → s.retCode i ram row b = 3) ∧ (i < 4 → ram = 2 → row < 4096 → s.rowRetired i ram row = b → s.retCode i ram row b = 3) ∧
      (i < 4 → ram = 2 → row < 4096 → s.rowRetired i ram row = false → s.rowUsed i ram row = true → s.retCode i ram row true = 2)) ∧
  (∀ (p : Part) (w : Word32) (s : State), s.spOpen p 0x400 = true →  bitsOf w.toNat 21 5 ≠ 0 → (rowSame s s (min (protOf p) 4) (bitsOf w.toNat 0 5) (bitsOf w.toNat 5 16)).isSome = true → ∃ t, exec (.injectionArm p w) s = .next t ∧
      CfgAnswered s t ∧ (t.prot (protOf p)).armed = true ∧ t.get F.SP_INJ_RAM (protOf p) = bitsOf w.toNat 0 5 ∧ t.get F.SP_INJ_ROW (protOf p) = bitsOf w.toNat 5 16 ∧
      t.get F.SP_INJ_MASK (protOf p) = bitsOf w.toNat 21 5 ∧ OnlyRegs s t [F.SP_INJ_RAM.key (protOf p) 0, F.SP_INJ_ROW.key (protOf p) 0, F.SP_INJ_MASK.key (protOf p) 0]) ∧
  (∀ (p : Part) (w : Word32) (s : State), s.spOpen p 0x400 = true →  bitsOf w.toNat 21 5 = 0 → (s.prot (protOf p)).armed = false → ∃ t, exec (.injectionArm p w) s = .next t ∧ (t.prot (protOf p)).armed = false ∧
      OnlyRegs s t [F.SP_INJ_RAM.key (protOf p) 0, F.SP_INJ_ROW.key (protOf p) 0, F.SP_INJ_MASK.key (protOf p) 0]) ∧
  (∀ (h : BitVec 4) (w : Word32) (s : State) (c : Instr), c ∈ [.protectionPass (.halt h) w, .spLogClr (.halt h) w, .spLogClrAll (.halt h) w, .rowRetire (.halt h) w,
      .rowUnretire (.halt h) w, .injectionArm (.halt h) w] → ∃ t, exec c s = .next t ∧ t.out = [] ∧ OnlyRegs s t [])

/-- A station's phase 1 ends when no memory access is outstanding, and its RAMs are then filled; phase 3 ends with a
valid snapshot; phase 4 leaves the rows of the last durable window, unfrozen and without watches; phase 5 waits for
a junction in its phases 1 to 3, and then RELOADED goes to every part. A halt's phases empty it but for its SEQ and
address, purge the stations and the junction, ask every queue's context base, and end with an event. -/
def Obligations.StationAndHaltRecoveryPhases : Prop :=
  (∀ (x : BitVec 2) (s : State), s.noPark = true → (s.get F.REC_STAT_PHASE x.toNat = 0 ∨ 7 ≤ s.get F.REC_STAT_PHASE x.toNat ∨ (s.get F.REC_STAT_PHASE x.toNat = 1 ∧ (s.port x.toNat).taken ≠ []) ∨ (s.get F.REC_STAT_PHASE x.toNat = 5 ∧ s.stopped .jct = true)) → ∃ t, exec (.stationRecoveryPhaseEnd x) s = .next t ∧ t.out = [] ∧
      OnlyRegs s t []) ∧
  (∀ (x : BitVec 2) (s : State), s.noPark = true → s.get F.REC_STAT_PHASE x.toNat = 1 → (s.port x.toNat).taken = [] → ∃ t, exec (.stationRecoveryPhaseEnd x) s = .next t ∧ t.get F.REC_STAT_PHASE x.toNat = 2 ∧ (∀ m, t.slot x.toNat m = Slot.free) ∧ (t.mem x.toNat).waiters = [] ∧ (t.mem x.toNat).watches = [] ∧
      (t.mem x.toNat).hmap = [] ∧ (t.mem x.toNat).lanes = [] ∧ (t.mem x.toNat).box.threads = (s.mem x.toNat).box.threads ∧ (t.stn x.toNat).boxOrig.ret = [] ∧
      t.flag F.SP_SWEEP_RUNNING x.toNat = true ∧ (∀ y, y ≠ x.toNat → t.stn y = s.stn y) ∧ t.halts = s.halts ∧ t.jct = s.jct ∧ t.net = s.net ∧ RegsBut s t [F.REC_STAT_PHASE.key x.toNat 0, F.SP_SWEEP_DONE.key x.toNat 0, F.SP_SWEEP_RUNNING.key x.toNat 0]) ∧
  (∀ (x : BitVec 2) (s : State), s.noPark = true → s.get F.REC_STAT_PHASE x.toNat = 2 → s.rowsGood = true → ∃ t, exec (.stationRecoveryPhaseEnd x) s = .next t ∧ t.get F.REC_STAT_PHASE x.toNat = 3 ∧ t.flag F.SP_SWEEP_DONE x.toNat = true ∧ t.flag F.SP_SWEEP_RUNNING x.toNat = false ∧
      OnlyRegs s t [F.REC_STAT_PHASE.key x.toNat 0, F.SP_SWEEP_DONE.key x.toNat 0, F.SP_SWEEP_RUNNING.key x.toNat 0, F.SP_SWEEP_TIME.key x.toNat 0]) ∧
  (∀ (x : BitVec 2) (s : State), s.noPark = true → s.get F.REC_STAT_PHASE x.toNat = 3 → s.flag F.LG_STAT_SNAP_VALID x.toNat = true → ∃ t, exec (.stationRecoveryPhaseEnd x) s = .next t ∧ t.get F.REC_STAT_PHASE x.toNat = 4 ∧ OnlyRegs s t [F.REC_STAT_PHASE.key x.toNat 0]) ∧
  (∀ (x : BitVec 2) (s : State), s.noPark = true → s.get F.REC_STAT_PHASE x.toNat = 3 → s.flag F.LG_STAT_SNAP_VALID x.toNat = false → (s.stn x.toNat).backlog = [] → (s.stn x.toNat).beats = [] → (∃ y ∈ List.range 4, y ≠ x.toNat ∧
        s.get F.REC_STAT_PHASE y ≠ 0) → ∃ t, exec (.stationRecoveryPhaseEnd x) s = .next t ∧ t.get F.REC_STAT_PHASE x.toNat = 0 ∧ t.flag F.REC_STAT_FAILED x.toNat = true ∧ (t.get F.EVT_STAT_EVT 0x29).testBit 4 = true ∧
        ∀ i m, t.slot i m = s.slot i m) ∧
  (∀ (x : BitVec 2) (s : State), s.noPark = true → s.get F.REC_STAT_PHASE x.toNat = 4 → ∃ t, exec (.stationRecoveryPhaseEnd x) s = .next t ∧ t.get F.REC_STAT_PHASE x.toNat = 5 ∧ (∀ m, t.slot x.toNat m = { tget Slot.free (s.ledger x.toNat).durable.slots m with frozen := false }) ∧ (t.mem x.toNat).watches = [] ∧
      (t.mem x.toNat).hmap = (s.ledger x.toNat).durable.hmap ∧ (t.mem x.toNat).sems = (s.ledger x.toNat).durable.sems ∧ (t.mem x.toNat).turns = (s.ledger x.toNat).durable.turns ∧
      (t.mem x.toNat).waiters = (s.ledger x.toNat).durable.waiters.map (fun w => { w with age := 0 }) ∧ (t.mem x.toNat).box.store = (s.ledger x.toNat).durable.box.store ∧
      (∀ y, y ≠ x.toNat → t.stn y = s.stn y) ∧ t.halts = s.halts ∧ t.jct = s.jct ∧ t.net = s.net ∧ RegsBut s t [F.REC_STAT_PHASE.key x.toNat 0]) ∧
  (∀ (x : BitVec 2) (s : State), s.noPark = true → s.get F.REC_STAT_PHASE x.toNat = 5 → s.stopped .jct = false → (∀ e ∈ (s.mem x.toNat).slots, e.2.kind ∉ [.foldCounter, .mlock, .ring]) →
      (∀ i, i < 16 → (s.th (boxThread x.toNat i)).state ∈ [.off, .armed, .stopped]) → (s.stn x.toNat).backlog = [] → (s.stn x.toNat).beats = [] →
      ∃ t, exec (.stationRecoveryPhaseEnd x) s = .next t ∧ t.get F.REC_STAT_PHASE x.toNat = 6 ∧ (t.stn x.toNat).due = allParts ∧ (∀ p ∈ allParts, (⟨.stn x, p, .reloaded x⟩ : InFlight) ∈ t.net) ∧
        (∀ i e, s.jct.hmWait = some (i, e) → tget 0 (t.mem x.toNat).hmap i = e) ∧
        (∀ i m, t.slot i m = s.slot i m) ∧ t.halts = s.halts ∧ RegsBut s t [F.REC_STAT_PHASE.key x.toNat 0]) ∧
  (∀ (x : BitVec 2) (s : State), s.noPark = true → s.get F.REC_STAT_PHASE x.toNat = 6 → ∃ t, exec (.stationRecoveryPhaseEnd x) s = .next t ∧ t.get F.REC_STAT_PHASE x.toNat = 7 ∧ OnlyRegs s t [F.REC_STAT_PHASE.key x.toNat 0]) ∧
  (∀ (h : BitVec 4) (s : State), s.noPark = true → (s.halt h.toNat).phase = 1 → ∃ t, exec (.haltRecoveryPhaseEnd h) s = .next t ∧ t.halt h.toNat = { Halt.init with orig := { Origin.init with seq := (s.halt h.toNat).orig.seq }, lostPosted := List.range 384, phase := 2, recs := (s.halt h.toNat).recs } ∧
      (∀ c, c < 16 → t.get F.HALT_SUPV_MASK h.toNat c = 0) ∧ t.flag F.PAGE_LOCK_LOCK (0x18 + h.toNat) = false ∧ (∀ g, g ≠ h.toNat → t.halt g = s.halt g) ∧ t.stns = s.stns ∧ t.jct = s.jct ∧ t.net = s.net ∧ RegsBut s t ((List.range 16).map (fun c => F.HALT_SUPV_MASK.key h.toNat c) ++ [F.HS_ENT_ENTRY.key h.toNat 0, F.HS_ENT_RETRY.key h.toNat 0, F.HS_ENT_RETRY_V.key h.toNat 0, F.HS_ENT_PAV.key h.toNat 0, F.HS_ENT_TRIG_V.key h.toNat 0, F.HS_TRIG_HANDLE.key h.toNat 0, F.HS_STEP_STEP.key h.toNat 0, F.PAGE_LOCK_LOCK.key (0x18 + h.toNat) 0])) ∧
  (∀ (h : BitVec 4) (s : State), s.noPark = true → (s.halt h.toNat).phase = 2 → ∃ t, exec (.haltRecoveryPhaseEnd h) s = .next t ∧ t.halt h.toNat = { s.halt h.toNat with phase := 3, purges := purgeParts } ∧ (∀ g, g ≠ h.toNat → t.halt g = s.halt g) ∧ t.stns = s.stns ∧ t.jct = s.jct ∧ RegsBut s t [] ∧
      t.net = s.net ++ purgeParts.map (fun p => ⟨.halt h, p, .purge h⟩)) ∧
  (∀ (h : BitVec 4) (s : State), s.noPark = true → (s.halt h.toNat).phase = 3 → (s.halt h.toNat).purges = [] → ∃ t, exec (.haltRecoveryPhaseEnd h) s = .next t ∧ t.halt h.toNat = { s.halt h.toNat with phase := 4, asking := List.range 384 } ∧ (∀ g, g ≠ h.toNat → t.halt g = s.halt g) ∧ t.net = s.net ∧
      t.stns = s.stns ∧ RegsBut s t [] ∧ (s.su.wInstr.underTest = false → t.out = (List.range 384).map (fun i => .cbAsk (qCore h.toNat i) (qTag i)))) ∧
  (∀ (h : BitVec 4) (s : State), s.noPark = true → (s.halt h.toNat).phase = 4 → s.job 2 = none → s.job 3 = none → ∃ t, exec (.haltRecoveryPhaseEnd h) s = .next t ∧ t.halt h.toNat = { s.halt h.toNat with phase := 0 } ∧ (t.get F.EVT_STAT_EVT 0x29).testBit 3 = true ∧ (∀ g, g ≠ h.toNat → t.halt g = s.halt g) ∧ t.stns = s.stns ∧
      t.net = s.net ∧ RegsBut s t [F.EVT_STAT_EVT.key 0x29 0]) ∧
  (∀ (h : BitVec 4) (s : State), s.noPark = true → ((s.halt h.toNat).phase = 0 ∨ 4 < (s.halt h.toNat).phase.toNat ∨ ((s.halt h.toNat).phase = 3 ∧ (s.halt h.toNat).purges ≠ [])) → ∃ t, exec (.haltRecoveryPhaseEnd h) s = .next t ∧ t.out = [] ∧ OnlyRegs s t [])

/-- A junction recovery empties its tables but for the rounds of its combining entries, fills its RAMs, takes its box
from the ledger, and ends with its time and event. A part told RELOADED answers the station with REPLAY_DONE, after
what it replays. The last REPLAY_DONE ends the station's recovery with its time and event; another only shortens
the list. A part told to purge frees the halt's watch entries and waiters and acknowledges; the halt takes the
acknowledgement off its list. Without such a message nothing changes. -/
def Obligations.JunctionRecoveryAndReports : Prop :=
  (∀ (s : State), s.noPark = true → (s.get F.FD_JREC_PHASE = 0 ∨ 5 < s.get F.FD_JREC_PHASE) → ∃ t, exec .junctionRecoveryPhaseEnd s = .next t ∧ t.out = [] ∧ OnlyRegs s t []) ∧
  (∀ (s : State), s.noPark = true → s.get F.FD_JREC_PHASE = 1 → ∃ t, exec .junctionRecoveryPhaseEnd s = .next t ∧ t.get F.FD_JREC_PHASE = 2 ∧ (twf Comb.init s.jct.combs = true → ∀ e, t.comb e = { Comb.init with rnd := (s.comb e).rnd, early := (s.comb e).early, last := (s.comb e).last }) ∧ t.jct.proxies = [] ∧ t.jct.txq = [] ∧ t.jct.retained = [] ∧ t.jct.held = [] ∧ t.jct.parked = [] ∧
      t.jct.orig.ret = [] ∧ t.jct.box.store = [] ∧ t.jct.box.threads = s.jct.box.threads ∧ (∀ k, k < 4 → ∀ w ∈ (t.mem k).watches, w.sub ≠ 16) ∧
      (∀ k m, t.slot k m = s.slot k m) ∧ t.halts = s.halts ∧ RegsBut s t [F.FD_JREC_PHASE.key 0 0, F.SP_SWEEP_DONE.key 0x80 0, F.SP_SWEEP_RUNNING.key 0x80 0]) ∧
  (∀ (s : State), s.noPark = true → s.get F.FD_JREC_PHASE = 2 → s.flag F.LG_STAT_SNAP_VALID 0x80 = true → ∃ t, exec .junctionRecoveryPhaseEnd s = .next t ∧ t.get F.FD_JREC_PHASE = 3 ∧ t.flag F.SP_SWEEP_DONE 0x80 = true ∧
      OnlyRegs s t [F.FD_JREC_PHASE.key 0 0, F.SP_SWEEP_DONE.key 0x80 0, F.SP_SWEEP_RUNNING.key 0x80 0, F.SP_SWEEP_TIME.key 0x80 0]) ∧
  (∀ (s : State), s.noPark = true → s.get F.FD_JREC_PHASE = 2 → s.flag F.LG_STAT_SNAP_VALID 0x80 = false → ∃ t, exec .junctionRecoveryPhaseEnd s = .next t ∧ t.get F.FD_JREC_PHASE = 0 ∧ t.flag F.FD_JREC_FAILED = true ∧ (t.get F.EVT_STAT_EVT 0x29).testBit 4 = true ∧
      t.stns = s.stns ∧ t.halts = s.halts) ∧
  (∀ (s : State), s.noPark = true → s.get F.FD_JREC_PHASE = 3 → ∃ t, exec .junctionRecoveryPhaseEnd s = .next t ∧ t.get F.FD_JREC_PHASE = 4 ∧ t.jct.box.store = (s.ledger 4).durable.box.store ∧ t.stns = s.stns ∧ t.halts = s.halts ∧ RegsBut s t [F.FD_JREC_PHASE.key 0 0]) ∧
  (∀ (s : State), s.noPark = true → s.get F.FD_JREC_PHASE = 4 → (∀ p ∈ allParts, (s.origin p).ret = []) → (∀ h, h < 16 → (s.halt h).waits = [] ∧ (s.halt h).script.cmp = none) →
      (∀ th ∈ allThreads, (s.th th).state ∈ [.off, .stopped]) → s.homeObjects = [] → s.jct.respWait = [] → ∃ t, exec .junctionRecoveryPhaseEnd s = .next t ∧ t.get F.FD_JREC_PHASE = 5 ∧ RegsBut s t [F.FD_JREC_PHASE.key 0 0] ∧ t.net = s.net ∧ t.ports = s.ports ∧ (∀ i m, t.slot i m = s.slot i m) ∧
        ∀ th ∈ allThreads, (t.th th).state = (s.th th).state) ∧
  (∀ (s : State), s.noPark = true → s.get F.FD_JREC_PHASE = 5 → s.unprot .jct = true → s.job 2 = none → s.job 3 = none → ∃ t, exec .junctionRecoveryPhaseEnd s = .next t ∧ t.get F.FD_JREC_PHASE = 0 ∧ t.get F.FD_JREC_TIME_TIME = (s.fclk - s.jct.recAt) / 16 % 2 ^ F.FD_JREC_TIME_TIME.len ∧
      (t.get F.EVT_STAT_EVT 0x29).testBit 2 = true ∧ OnlyRegs s t [F.FD_JREC_PHASE.key 0 0, F.FD_JREC_TIME_TIME.key 0 0, F.EVT_STAT_EVT.key 0x29 0]) ∧
  (∀ (x : BitVec 2) (p : Part) (s : State), s.head? (.stn x) p = some (.reloaded x) → ∃ t, exec (.reloaded (.stn x) p) s = .next t ∧
      t.net.getLast? = some ⟨p, .stn x, .replayDone x⟩) ∧
  (∀ (x : BitVec 2) (h : BitVec 4) (s : State), s.head? (.stn x) (.halt h) = some (.reloaded x) → s.noPark = true → (s.halt h.toNat).orig.ret = [] →
      (s.halt h.toNat).waits = [] → (s.halt h.toNat).script.cmp = none → (s.th (.script h)).state ≠ .waiting →
      (s.th (.script h)).state ≠ .armed → (s.th (.script h)).cancelled = [] →
      ∃ t, exec (.reloaded (.stn x) (.halt h)) s = .next t ∧ RegsBut s t [] ∧ (∀ g, t.halt g = s.halt g) ∧ t.stns = s.stns) ∧
  (∀ (src dst : Part) (s : State), s.head? src dst = none → s.noPark = true → ∃ t u v, exec (.reloaded src dst) s = .next t ∧ exec (.replayDone src dst) s = .next u ∧
      exec (.haltPurge src dst) s = .next v ∧ OnlyRegs s t [] ∧ OnlyRegs s u [] ∧ OnlyRegs s v []) ∧
  (∀ (x : BitVec 2) (p : Part) (s : State), s.head? p (.stn x) = some (.replayDone x) → s.noPark = true → ((s.stn x.toNat).due ≠ [p] ∨ s.get F.REC_STAT_PHASE x.toNat < 6) →
      ∃ t, exec (.replayDone p (.stn x)) s = .next t ∧ (t.stn x.toNat).due = (s.stn x.toNat).due.erase p ∧ (∀ i m, t.slot i m = s.slot i m) ∧ RegsBut s t [] ∧ t.halts = s.halts) ∧
  (∀ (x : BitVec 2) (p : Part) (s : State), s.head? p (.stn x) = some (.replayDone x) → s.noPark = true → (s.stn x.toNat).due = [p] → 6 ≤ s.get F.REC_STAT_PHASE x.toNat →
      s.unprot (.stn x) = true → (∀ k, k < 5 → s.job k = none) → s.jct.ttRecover = false → ∃ t, exec (.replayDone p (.stn x)) s = .next t ∧
        t.get F.REC_STAT_PHASE x.toNat = 0 ∧ t.get F.REC_TIME_TIME x.toNat = (s.fclk - (s.stn x.toNat).recAt) / 16 % 2 ^ F.REC_TIME_TIME.len ∧ (t.stn x.toNat).due = [] ∧
        (t.get F.EVT_STAT_EVT 0x29).testBit 1 = true ∧ RegsBut s t [F.REC_STAT_PHASE.key x.toNat 0, F.REC_TIME_TIME.key x.toNat 0, F.EVT_STAT_EVT.key 0x29 0]) ∧
  (∀ (x : BitVec 2) (h : BitVec 4) (s : State), s.head? (.halt h) (.stn x) = some (.purge h) → ∃ t, exec (.haltPurge (.halt h) (.stn x)) s = .next t ∧
      t.net.getLast? = some ⟨.stn x, .halt h, .purgeAck h⟩) ∧
  (∀ (x : BitVec 2) (h : BitVec 4) (s : State), s.head? (.halt h) (.stn x) = some (.purge h) → s.noPark = true →
      (∀ w ∈ (s.mem x.toNat).waiters, (fun w : Waiter => match w.rq.who with | .queue _ core _ => decide (core.toNat / 16 = h.toNat) | _ => false) w = true → (s.slot x.toNat w.pon).kind ∉ [.sem, .ticket, .ring]) → ∃ t, exec (.haltPurge (.halt h) (.stn x)) s = .next t ∧
        (∀ w ∈ (t.mem x.toNat).watches, w.sub.toNat ≠ h.toNat) ∧ (∀ w ∈ (t.mem x.toNat).waiters, (fun w : Waiter => match w.rq.who with | .queue _ core _ => decide (core.toNat / 16 = h.toNat) | _ => false) w = false) ∧ (∀ i m, t.slot i m = s.slot i m)) ∧
  (∀ (p : Part) (h : BitVec 4) (s : State), s.head? p (.halt h) = some (.purgeAck h) → s.noPark = true → ∃ t, exec (.haltPurge p (.halt h)) s = .next t ∧
      t.halt h.toNat = { s.halt h.toNat with purges := (s.halt h.toNat).purges.erase p } ∧ (∀ g, g ≠ h.toNat → t.halt g = s.halt g) ∧ t.stns = s.stns ∧ t.jct = s.jct ∧ RegsBut s t [])

/-- Setting EN clears UNPROT, FAIL and HELD of every part and starts its snapshot. RESUME starts one in every part
whose ledger failed, and UNPROTECT makes such a part go on without a ledger; SNAP starts one wherever the ledger is
in use. A window closes only with a dirty row: it takes the next number, the image and the streams, and nothing is
dirty after it; held, it only sets HELD. A snapshot that is under way is not started again. Nothing else changes. -/
def Obligations.LedgerCommandsAndWindows : Prop :=
  (∀ (w : Word32) (s : State), s.cfgOpen 0x00 0x068 = true → s.rowsGood = true → s.flag F.LG_CTL_EN = false → wbit w 1 = false → wbit w 2 = false → wbit w 3 = false → (∀ k ∈ ledgerKeys, (s.ledger k).snap = none) →
      ∃ t, exec (.ledgerEnable w) s = .next t ∧ CfgAnswered s t ∧ t.flag F.LG_CTL_EN = true ∧ t.stns = s.stns ∧ t.halts = s.halts ∧ t.jct = s.jct ∧ RegsBut s t (F.LG_CTL_EN.key 0 0 :: ledgerKeys.flatMap (fun k => [F.LG_STAT_UNPROT.key (keyInst k) 0, F.LG_STAT_FAIL.key (keyInst k) 0, F.LG_STAT_HELD.key (keyInst k) 0, F.LG_STAT_SNAP_BUSY.key (keyInst k) 0])) ∧
        ∀ k ∈ ledgerKeys, t.flag F.LG_STAT_UNPROT (keyInst k) = false ∧ t.flag F.LG_STAT_FAIL (keyInst k) = false ∧ t.flag F.LG_STAT_HELD (keyInst k) = false ∧ t.flag F.LG_STAT_SNAP_BUSY (keyInst k) = true ∧ (∃ x, (t.ledger k).snap = some x ∧ x.image = s.ledgerImage k ∧ x.win = (s.ledger k).next ∧ x.ringAt = (s.ledger k).pos ∧ x.desc = false)) ∧
  (∀ (w : Word32) (s : State), s.cfgOpen 0x00 0x068 = true → s.flag F.LG_CTL_EN = true → wbit w 1 = false → wbit w 2 = false → wbit w 3 = false → ∃ t, exec (.ledgerEnable w) s = .next t ∧ CfgAnswered s t ∧ OnlyRegs s t []) ∧
  (∀ (w : Word32) (s : State), s.cfgOpen 0x00 0x068 = true → s.rowsGood = true → (wbit w 0 = s.flag F.LG_CTL_EN) → wbit w 2 = false → wbit w 3 = false → (∀ k ∈ ledgerKeys, (s.ledger k).snap = none) → ∃ t, exec (.ledgerResume w) s = .next t ∧ CfgAnswered s t ∧ t.stns = s.stns ∧ t.halts = s.halts ∧ t.jct = s.jct ∧
      RegsBut s t (ledgerKeys.flatMap (fun k => [F.LG_STAT_FAIL.key (keyInst k) 0, F.LG_STAT_SNAP_BUSY.key (keyInst k) 0])) ∧ ∀ k ∈ ledgerKeys, t.flag F.LG_STAT_FAIL (keyInst k) = false ∧
        if s.flag F.LG_STAT_FAIL (keyInst k) = true then t.flag F.LG_STAT_SNAP_BUSY (keyInst k) = true ∧ (∃ x, (t.ledger k).snap = some x ∧ x.image = s.ledgerImage k ∧ x.win = (s.ledger k).next ∧ x.ringAt = (s.ledger k).pos ∧ x.desc = false) else t.ledger k = s.ledger k) ∧
  (∀ (w : Word32) (s : State), s.cfgOpen 0x00 0x068 = true → (wbit w 0 = s.flag F.LG_CTL_EN) → wbit w 1 = false → wbit w 3 = false → ∃ t, exec (.ledgerUnprotect w) s = .next t ∧ CfgAnswered s t ∧ t.halts = s.halts ∧ t.jct = s.jct ∧
      RegsBut s t (ledgerKeys.flatMap (fun k => [F.LG_STAT_FAIL.key (keyInst k) 0, F.LG_STAT_UNPROT.key (keyInst k) 0, F.LG_STAT_HELD.key (keyInst k) 0, F.LG_STAT_SNAP_BUSY.key (keyInst k) 0])) ∧ (∀ i m, t.slot i m = s.slot i m) ∧ ∀ k ∈ ledgerKeys, t.flag F.LG_STAT_FAIL (keyInst k) = false ∧
        if s.flag F.LG_STAT_FAIL (keyInst k) = true then t.flag F.LG_STAT_UNPROT (keyInst k) = true ∧ t.flag F.LG_STAT_HELD (keyInst k) = false ∧ (t.ledger k).windows = [] ∧ (t.ledger k).snap = none ∧ t.ledgerStreams k = []
        else t.ledger k = s.ledger k) ∧
  (∀ (w : Word32) (s : State), s.cfgOpen 0x00 0x068 = true → s.rowsGood = true → (wbit w 0 = s.flag F.LG_CTL_EN) → wbit w 1 = false → wbit w 2 = false → ∃ t, exec (.ledgerSnap w) s = .next t ∧ CfgAnswered s t ∧ t.stns = s.stns ∧ t.halts = s.halts ∧ t.jct = s.jct ∧
      RegsBut s t (ledgerKeys.flatMap (fun k => [F.LG_STAT_SNAP_BUSY.key (keyInst k) 0])) ∧ ∀ k ∈ ledgerKeys, if s.unprot (ledgerPart k) = false ∧ (s.ledger k).snap = none then t.flag F.LG_STAT_SNAP_BUSY (keyInst k) = true ∧ (∃ x, (t.ledger k).snap = some x ∧ x.image = s.ledgerImage k ∧ x.win = (s.ledger k).next ∧ x.ringAt = (s.ledger k).pos ∧ x.desc = false)
        else t.ledger k = s.ledger k) ∧
  (∀ (p : Part) (k : Nat) (s : State), ledgerKey p = some k → s.unprot p = false → s.partDown k = false → s.parked = false → s.ledgerDirty k = true → s.ledgerHeld k = false →
      ∃ t w, exec (.ledgerWindowClose p) s = .next t ∧ (t.ledger k).windows = (s.ledger k).windows ++ [w] ∧ w.num = (s.ledger k).next ∧ w.image = s.ledgerImage k ∧
        w.streams = s.ledgerStreams k ∧ w.header.isSome = true ∧ (t.ledger k).next = (s.ledger k).next + 1 ∧ t.ledgerDirty k = false ∧ (t.ledger k).durable = (s.ledger k).durable ∧
        RegsBut s t [] ∧ (∀ i m, t.slot i m = s.slot i m) ∧ t.halts = s.halts ∧ t.jct = s.jct ∧ t.net = s.net ∧ ∀ j, j ≠ k → t.ledger j = s.ledger j) ∧
  (∀ (p : Part) (k : Nat) (s : State), ledgerKey p = some k → s.unprot p = false → s.partDown k = false → s.parked = false → s.ledgerDirty k = true → s.ledgerHeld k = true →
      ∃ t, exec (.ledgerWindowClose p) s = .next t ∧ t.flag F.LG_STAT_HELD (keyInst k) = true ∧ OnlyRegs s t [F.LG_STAT_HELD.key (keyInst k) 0]) ∧
  (∀ (p : Part) (s : State), (ledgerKey p = none ∨ s.unprot p = true ∨ s.parked = true ∨ ∃ k, ledgerKey p = some k ∧ (s.partDown k = true ∨ s.ledgerDirty k = false)) →
      ∃ t, exec (.ledgerWindowClose p) s = .next t ∧ t.out = [] ∧ OnlyRegs s t []) ∧
  (∀ (p : Part) (k : Nat) (s : State), ledgerKey p = some k → s.unprot p = false → s.partDown k = false → s.parked = false → s.rowsGood = true → s.flag F.LG_STAT_FAIL (keyInst k) = false → (s.ledger k).snap = none →
      ∃ t, exec (.snapshotStart p) s = .next t ∧ t.flag F.LG_STAT_SNAP_BUSY (keyInst k) = true ∧ (∃ x, (t.ledger k).snap = some x ∧ x.image = s.ledgerImage k ∧ x.win = (s.ledger k).next ∧ x.ringAt = (s.ledger k).pos ∧ x.desc = false) ∧ t.stns = s.stns ∧ t.halts = s.halts ∧ t.jct = s.jct ∧ t.net = s.net ∧ RegsBut s t [F.LG_STAT_SNAP_BUSY.key (keyInst k) 0] ∧
        ∀ j, j ≠ k → t.ledger j = s.ledger j) ∧
  (∀ (p : Part) (s : State), (ledgerKey p = none ∨ s.unprot p = true ∨ s.parked = true ∨ ∃ k, ledgerKey p = some k ∧ (s.partDown k = true ∨ s.flag F.LG_STAT_FAIL (keyInst k) = true ∨
      (s.ledger k).snap ≠ none)) → ∃ t, exec (.snapshotStart p) s = .next t ∧ t.out = [] ∧ OnlyRegs s t [])

/-- ALL writes one record for every pending wait, at the ring's write index, or counts it as lost if the ring is full.
A view shows the object's value and attribute word, or fails with a code of its own for another die, a FREE slot
and a FAILED station (FAULT, the model's reading: log 52); with MEM it begins to write its record. A dump states
the space it needs, and fails for want of it or begins. Each waits for a recovery and is not begun twice. CLEAR
empties the fault log. Objects stay as they are. -/
def Obligations.PostMortemCommands : Prop :=
  (∀ (w : Word32) (s : State), s.cfgOpen 0x29 0x09C = true → s.noWaits = true → (∀ y, y < 4 → (s.mem y).waiters = []) → ∃ t, exec (.censusAll w) s = .next t ∧ CfgAnswered s t ∧ OnlyRegs s t []) ∧
  (∀ (w : Word32) (x : BitVec 2) (u : Waiter) (s : State), s.cfgOpen 0x29 0x09C = true → s.noWaits = true → (∀ y, y < 4 → y ≠ x.toNat → (s.mem y).waiters = []) → (s.mem x.toNat).waiters = [u] → (s.get F.SC_SIZE_N 0 x.toNat) ≠ 0 → ((s.get F.SC_WR_IDX 0 x.toNat) + 65536 - (s.get F.SC_RD_IDX 0 x.toNat)) % 65536 ≠ (s.get F.SC_SIZE_N 0 x.toNat) → ∃ t, exec (.censusAll w) s = .next t ∧ CfgAnswered s t ∧
      t.get F.SC_WR_IDX 0 x.toNat = ((s.get F.SC_WR_IDX 0 x.toNat) + 1) % 2 ^ 16 ∧ (t.get F.EVT_STAT_EVT 0x29).testBit 5 = true ∧ t.stns = s.stns ∧ t.halts = s.halts ∧ t.jct = s.jct ∧
      RegsBut s t [F.SC_WR_IDX.key 0 x.toNat, F.EVT_STAT_EVT.key 0x29 0] ∧ ∃ r, (t.port x.toNat).queue = (s.port x.toNat).queue ++ [r] ∧ r.wr = true ∧ r.why = .census x.toNat ∧
        r.line = BitVec.ofNat 58 ((s.get64 F.SC_BASE_LO_ADDR F.SC_BASE_HI_ADDR 0 x.toNat + 32 * ((s.get F.SC_WR_IDX 0 x.toNat) % (s.get F.SC_SIZE_N 0 x.toNat))) / 64)) ∧
  (∀ (w : Word32) (x : BitVec 2) (u : Waiter) (s : State), s.cfgOpen 0x29 0x09C = true → s.noWaits = true → (∀ y, y < 4 → y ≠ x.toNat → (s.mem y).waiters = []) → (s.mem x.toNat).waiters = [u] → ((s.get F.SC_SIZE_N 0 x.toNat) = 0 ∨ ((s.get F.SC_WR_IDX 0 x.toNat) + 65536 - (s.get F.SC_RD_IDX 0 x.toNat)) % 65536 = (s.get F.SC_SIZE_N 0 x.toNat)) → ∃ t, exec (.censusAll w) s = .next t ∧ CfgAnswered s t ∧
      t.get F.SC_LOST_COUNT 0 x.toNat = min (s.get F.SC_LOST_COUNT 0 x.toNat + 1) (2 ^ F.SC_LOST_COUNT.len - 1) ∧ (t.get F.EVT_STAT_EVT 0x29).testBit 6 = true ∧
      OnlyRegs s t [F.SC_LOST_COUNT.key 0 x.toNat, F.EVT_STAT_EVT.key 0x29 0]) ∧
  (∀ (w : Word32) (j : Job) (s : State), s.cfgOpen 0x29 0x0C4 = true → s.job 3 = some j → ∃ t, exec (.debugView w) s = .next t ∧ CfgAnswered s t ∧ OnlyRegs s t []) ∧
  (∀ (w : Word32) (s : State), s.cfgOpen 0x29 0x0C4 = true → s.job 3 = none → s.onDie (BitVec.ofNat 25 (s.get F.DV_ADDR_ADDR)) = false → ∃ t, exec (.debugView w) s = .next t ∧ CfgAnswered s t ∧ t.flag F.DV_CTL_ERR = true ∧ t.get F.DV_CTL_CODE = 1 ∧ (t.get F.EVT_STAT_EVT 0x29).testBit 7 = true ∧
      RegsBut s t [F.DV_CTL_MEM.key 0 0, F.DV_CTL_ERR.key 0 0, F.DV_CTL_CODE.key 0 0, F.EVT_STAT_EVT.key 0x29 0] ∧ t.stns = s.stns) ∧
  (∀ (w : Word32) (s : State), s.cfgOpen 0x29 0x0C4 = true → s.job 3 = none → s.onDie (BitVec.ofNat 25 (s.get F.DV_ADDR_ADDR)) = true → s.get F.REC_STAT_PHASE ((aStn (BitVec.ofNat 25 (s.get F.DV_ADDR_ADDR))).toNat) = 0 → s.get F.FD_JREC_PHASE = 0 → s.flag F.REC_STAT_FAILED ((aStn (BitVec.ofNat 25 (s.get F.DV_ADDR_ADDR))).toNat) = false → ((s.slot (aStn (BitVec.ofNat 25 (s.get F.DV_ADDR_ADDR))).toNat (aPon (BitVec.ofNat 25 (s.get F.DV_ADDR_ADDR)))).kind = .free ∨ (s.slot (aStn (BitVec.ofNat 25 (s.get F.DV_ADDR_ADDR))).toNat (aPon (BitVec.ofNat 25 (s.get F.DV_ADDR_ADDR)))).kind = .retired) → ∃ t, exec (.debugView w) s = .next t ∧ CfgAnswered s t ∧
      t.flag F.DV_CTL_ERR = true ∧ t.get F.DV_CTL_CODE = 2 ∧ (t.get F.EVT_STAT_EVT 0x29).testBit 7 = true ∧ RegsBut s t [F.DV_CTL_MEM.key 0 0, F.DV_CTL_ERR.key 0 0, F.DV_CTL_CODE.key 0 0, F.EVT_STAT_EVT.key 0x29 0] ∧ t.stns = s.stns) ∧
  (∀ (w : Word32) (s : State), s.cfgOpen 0x29 0x0C4 = true → s.job 3 = none → s.onDie (BitVec.ofNat 25 (s.get F.DV_ADDR_ADDR)) = true → s.get F.REC_STAT_PHASE ((aStn (BitVec.ofNat 25 (s.get F.DV_ADDR_ADDR))).toNat) = 0 → s.get F.FD_JREC_PHASE = 0 → s.flag F.REC_STAT_FAILED ((aStn (BitVec.ofNat 25 (s.get F.DV_ADDR_ADDR))).toNat) = false → (s.slot (aStn (BitVec.ofNat 25 (s.get F.DV_ADDR_ADDR))).toNat (aPon (BitVec.ofNat 25 (s.get F.DV_ADDR_ADDR)))).kind ≠ .free → (s.slot (aStn (BitVec.ofNat 25 (s.get F.DV_ADDR_ADDR))).toNat (aPon (BitVec.ofNat 25 (s.get F.DV_ADDR_ADDR)))).kind ≠ .retired → wbit w 1 = false → ∃ t, exec (.debugView w) s = .next t ∧
      CfgAnswered s t ∧ t.flag F.DV_CTL_ERR = false ∧ t.get F.DV_CTL_CODE = 0 ∧ (t.get F.EVT_STAT_EVT 0x29).testBit 7 = true ∧ t.get F.DV_VAL_HI_VAL * 2 ^ 32 + t.get F.DV_VAL_LO_VAL = (s.slot (aStn (BitVec.ofNat 25 (s.get F.DV_ADDR_ADDR))).toNat (aPon (BitVec.ofNat 25 (s.get F.DV_ADDR_ADDR)))).val.toNat ∧ t.get F.DV_ATTR_LO_ATTR = s.attrWord ((aStn (BitVec.ofNat 25 (s.get F.DV_ADDR_ADDR))).toNat) (aPon (BitVec.ofNat 25 (s.get F.DV_ADDR_ADDR))) % 2 ^ 32 ∧
        t.get F.DV_ATTR_HI_ATTR = s.attrWord ((aStn (BitVec.ofNat 25 (s.get F.DV_ADDR_ADDR))).toNat) (aPon (BitVec.ofNat 25 (s.get F.DV_ADDR_ADDR))) / 2 ^ 32 % 2 ^ 32 ∧ RegsBut s t [F.DV_CTL_MEM.key 0 0, F.DV_CTL_ERR.key 0 0, F.DV_CTL_CODE.key 0 0, F.EVT_STAT_EVT.key 0x29 0, F.DV_VAL_LO_VAL.key 0 0, F.DV_VAL_HI_VAL.key 0 0, F.DV_ATTR_LO_ATTR.key 0 0, F.DV_ATTR_HI_ATTR.key 0 0, F.DV_WAIT_WATCH.key 0 0, F.DV_WAIT_WAITERS.key 0 0, F.DV_WAIT_HOME.key 0 0] ∧ t.stns = s.stns ∧ t.ports = s.ports) ∧
  (∀ (w : Word32) (s : State), s.cfgOpen 0x29 0x0C4 = true → s.job 3 = none → s.onDie (BitVec.ofNat 25 (s.get F.DV_ADDR_ADDR)) = true → s.get F.REC_STAT_PHASE ((aStn (BitVec.ofNat 25 (s.get F.DV_ADDR_ADDR))).toNat) = 0 → s.get F.FD_JREC_PHASE = 0 → s.flag F.REC_STAT_FAILED ((aStn (BitVec.ofNat 25 (s.get F.DV_ADDR_ADDR))).toNat) = false → (s.slot (aStn (BitVec.ofNat 25 (s.get F.DV_ADDR_ADDR))).toNat (aPon (BitVec.ofNat 25 (s.get F.DV_ADDR_ADDR)))).kind ≠ .free → (s.slot (aStn (BitVec.ofNat 25 (s.get F.DV_ADDR_ADDR))).toNat (aPon (BitVec.ofNat 25 (s.get F.DV_ADDR_ADDR)))).kind ≠ .retired → wbit w 1 = true → ∃ t, exec (.debugView w) s = .next t ∧
      CfgAnswered s t ∧ t.get F.DV_VAL_HI_VAL * 2 ^ 32 + t.get F.DV_VAL_LO_VAL = (s.slot (aStn (BitVec.ofNat 25 (s.get F.DV_ADDR_ADDR))).toNat (aPon (BitVec.ofNat 25 (s.get F.DV_ADDR_ADDR)))).val.toNat ∧ t.get F.DV_ATTR_LO_ATTR = s.attrWord ((aStn (BitVec.ofNat 25 (s.get F.DV_ADDR_ADDR))).toNat) (aPon (BitVec.ofNat 25 (s.get F.DV_ADDR_ADDR))) % 2 ^ 32 ∧
        t.get F.DV_ATTR_HI_ATTR = s.attrWord ((aStn (BitVec.ofNat 25 (s.get F.DV_ADDR_ADDR))).toNat) (aPon (BitVec.ofNat 25 (s.get F.DV_ADDR_ADDR))) / 2 ^ 32 % 2 ^ 32 ∧ (t.job 3).any (fun j => j.phase = 1 ∧ j.left ≠ 0) = true ∧ RegsBut s t [F.DV_CTL_MEM.key 0 0, F.DV_VAL_LO_VAL.key 0 0, F.DV_VAL_HI_VAL.key 0 0, F.DV_ATTR_LO_ATTR.key 0 0, F.DV_ATTR_HI_ATTR.key 0 0, F.DV_WAIT_WATCH.key 0 0, F.DV_WAIT_WAITERS.key 0 0, F.DV_WAIT_HOME.key 0 0] ∧ t.stns = s.stns) ∧
  (∀ (w : Word32) (s : State), s.cfgOpen 0x29 0x0C4 = true → s.job 3 = none → s.onDie (BitVec.ofNat 25 (s.get F.DV_ADDR_ADDR)) = true → (s.get F.REC_STAT_PHASE ((aStn (BitVec.ofNat 25 (s.get F.DV_ADDR_ADDR))).toNat) ≠ 0 ∨ s.get F.FD_JREC_PHASE ≠ 0) → ∃ t, exec (.debugView w) s = .next t ∧ CfgAnswered s t ∧
      (t.job 3).any (fun j => j.phase = 9) = true ∧ RegsBut s t [F.DV_CTL_MEM.key 0 0] ∧ t.stns = s.stns) ∧
  (∀ (w : Word32) (s : State), s.cfgOpen 0x29 0x110 = true → (s.job 2).isSome = true → ∃ t, exec (.dump w) s = .next t ∧ CfgAnswered s t ∧ OnlyRegs s t []) ∧
  (∀ (w : Word32) (s : State), s.cfgOpen 0x29 0x110 = true → s.job 2 = none → s.anyRecovery = true → ∃ t, exec (.dump w) s = .next t ∧ CfgAnswered s t ∧ (t.job 2).any (fun j => j.phase = 9) = true ∧
      RegsBut s t [] ∧ t.stns = s.stns) ∧
  (∀ (w : Word32) (s : State), s.cfgOpen 0x29 0x110 = true → s.job 2 = none → s.anyRecovery = false → s.dumpLen < 2 ^ 32 → s.get F.DU_LEN_LEN < s.dumpLen → ∃ t, exec (.dump w) s = .next t ∧ CfgAnswered s t ∧
      t.get F.DU_NEED_LEN = s.dumpLen ∧ t.flag F.DU_CTL_ERR = true ∧ t.get F.DU_CTL_CODE = 1 ∧ (t.get F.EVT_STAT_EVT 0x29).testBit 7 = true ∧ t.stns = s.stns ∧ t.ports = s.ports ∧
      RegsBut s t [F.DU_NEED_LEN.key 0 0, F.DU_CTL_ERR.key 0 0, F.DU_CTL_CODE.key 0 0, F.EVT_STAT_EVT.key 0x29 0]) ∧
  (∀ (w : Word32) (s : State), s.cfgOpen 0x29 0x110 = true → s.job 2 = none → s.anyRecovery = false → s.dumpLen ≤ s.get F.DU_LEN_LEN → ∃ t, exec (.dump w) s = .next t ∧ CfgAnswered s t ∧
      t.get F.DU_NEED_LEN = s.dumpLen ∧ (t.job 2).any (fun j => j.phase = 1 ∧ j.left ≠ 0) = true ∧ t.stns = s.stns ∧ t.halts = s.halts ∧ t.jct = s.jct ∧
      RegsBut s t [F.DU_NEED_LEN.key 0 0]) ∧
  (∀ (w : Word32) (s : State), s.cfgOpen 0x29 0x04C = true → ∃ t, exec (.faultLogClear w) s = .next t ∧ CfgAnswered s t ∧ t.jct = { s.jct with faults := [] } ∧
      t.stns = s.stns ∧ t.halts = s.halts ∧ t.net = s.net ∧ RegsBut s t []) ∧
  (∀ (w : Word32) (s : State), s.cfgOpen 0x29 0x0C4 = true → s.job 3 = none → s.onDie (BitVec.ofNat 25 (s.get F.DV_ADDR_ADDR)) = true → s.get F.REC_STAT_PHASE ((aStn (BitVec.ofNat 25 (s.get F.DV_ADDR_ADDR))).toNat) = 0 → s.get F.FD_JREC_PHASE = 0 → s.flag F.REC_STAT_FAILED ((aStn (BitVec.ofNat 25 (s.get F.DV_ADDR_ADDR))).toNat) = true → ∃ t, exec (.debugView w) s = .next t ∧ CfgAnswered s t ∧
      t.flag F.DV_CTL_ERR = true ∧ t.get F.DV_CTL_CODE = 3 ∧ (t.get F.EVT_STAT_EVT 0x29).testBit 7 = true ∧ RegsBut s t [F.DV_CTL_MEM.key 0 0, F.DV_CTL_ERR.key 0 0, F.DV_CTL_CODE.key 0 0, F.EVT_STAT_EVT.key 0x29 0] ∧ t.stns = s.stns)
end

