-- ==== Sys2Proof/Laws/State.lean ====
section
/-! SUPPORT. What each update of the state leaves unchanged: one lemma per field per update. -/

namespace Sys2Proof.Machine

@[simp] theorem State.quiet_pending (s : State) : s.quiet.pending = s.pending := rfl
@[simp] theorem State.quiet_fclk (s : State) : s.quiet.fclk = s.fclk := rfl
@[simp] theorem State.quiet_freeCtr (s : State) : s.quiet.freeCtr = s.freeCtr := rfl
@[simp] theorem State.quiet_su (s : State) : s.quiet.su = s.su := rfl
@[simp] theorem State.quiet_regs (s : State) : s.quiet.regs = s.regs := rfl
@[simp] theorem State.quiet_halts (s : State) : s.quiet.halts = s.halts := rfl
@[simp] theorem State.quiet_stns (s : State) : s.quiet.stns = s.stns := rfl
@[simp] theorem State.quiet_jct (s : State) : s.quiet.jct = s.jct := rfl
@[simp] theorem State.quiet_net (s : State) : s.quiet.net = s.net := rfl
@[simp] theorem State.quiet_ports (s : State) : s.quiet.ports = s.ports := rfl
@[simp] theorem State.quiet_ledgers (s : State) : s.quiet.ledgers = s.ledgers := rfl
@[simp] theorem State.quiet_jobs (s : State) : s.quiet.jobs = s.jobs := rfl
@[simp] theorem State.quiet_crd (s : State) : s.quiet.crd = s.crd := rfl
@[simp] theorem State.quiet_granted (s : State) : s.quiet.granted = s.granted := rfl
@[simp] theorem State.quiet_freed (s : State) : s.quiet.freed = s.freed := rfl
@[simp] theorem State.quiet_prots (s : State) : s.quiet.prots = s.prots := rfl
@[simp] theorem State.quiet_perf (s : State) : s.quiet.perf = s.perf := rfl
@[simp] theorem State.quiet_occ (s : State) : s.quiet.occ = s.occ := rfl
@[simp] theorem State.quiet_trace (s : State) : s.quiet.trace = s.trace := rfl
@[simp] theorem State.quiet_traceAt (s : State) : s.quiet.traceAt = s.traceAt := rfl
@[simp] theorem State.quiet_parkImg (s : State) : s.quiet.parkImg = s.parkImg := rfl

@[simp] theorem State.put_pending (s : State) (f : Fld) (v i n : Nat) : (s.put f v i n).pending = s.pending := rfl
@[simp] theorem State.put_out (s : State) (f : Fld) (v i n : Nat) : (s.put f v i n).out = s.out := rfl
@[simp] theorem State.put_fclk (s : State) (f : Fld) (v i n : Nat) : (s.put f v i n).fclk = s.fclk := rfl
@[simp] theorem State.put_freeCtr (s : State) (f : Fld) (v i n : Nat) : (s.put f v i n).freeCtr = s.freeCtr := rfl
@[simp] theorem State.put_su (s : State) (f : Fld) (v i n : Nat) : (s.put f v i n).su = s.su := rfl
@[simp] theorem State.put_halts (s : State) (f : Fld) (v i n : Nat) : (s.put f v i n).halts = s.halts := rfl
@[simp] theorem State.put_stns (s : State) (f : Fld) (v i n : Nat) : (s.put f v i n).stns = s.stns := rfl
@[simp] theorem State.put_jct (s : State) (f : Fld) (v i n : Nat) : (s.put f v i n).jct = s.jct := rfl
@[simp] theorem State.put_net (s : State) (f : Fld) (v i n : Nat) : (s.put f v i n).net = s.net := rfl
@[simp] theorem State.put_ports (s : State) (f : Fld) (v i n : Nat) : (s.put f v i n).ports = s.ports := rfl
@[simp] theorem State.put_ledgers (s : State) (f : Fld) (v i n : Nat) : (s.put f v i n).ledgers = s.ledgers := rfl
@[simp] theorem State.put_jobs (s : State) (f : Fld) (v i n : Nat) : (s.put f v i n).jobs = s.jobs := rfl
@[simp] theorem State.put_crd (s : State) (f : Fld) (v i n : Nat) : (s.put f v i n).crd = s.crd := rfl
@[simp] theorem State.put_granted (s : State) (f : Fld) (v i n : Nat) : (s.put f v i n).granted = s.granted := rfl
@[simp] theorem State.put_freed (s : State) (f : Fld) (v i n : Nat) : (s.put f v i n).freed = s.freed := rfl
@[simp] theorem State.put_prots (s : State) (f : Fld) (v i n : Nat) : (s.put f v i n).prots = s.prots := rfl
@[simp] theorem State.put_perf (s : State) (f : Fld) (v i n : Nat) : (s.put f v i n).perf = s.perf := rfl
@[simp] theorem State.put_occ (s : State) (f : Fld) (v i n : Nat) : (s.put f v i n).occ = s.occ := rfl
@[simp] theorem State.put_trace (s : State) (f : Fld) (v i n : Nat) : (s.put f v i n).trace = s.trace := rfl
@[simp] theorem State.put_traceAt (s : State) (f : Fld) (v i n : Nat) : (s.put f v i n).traceAt = s.traceAt := rfl
@[simp] theorem State.put_parkImg (s : State) (f : Fld) (v i n : Nat) : (s.put f v i n).parkImg = s.parkImg := rfl

@[simp] theorem State.putB_pending (s : State) (f : Fld) (b : Bool) (i n : Nat) : (s.putB f b i n).pending = s.pending := rfl
@[simp] theorem State.putB_out (s : State) (f : Fld) (b : Bool) (i n : Nat) : (s.putB f b i n).out = s.out := rfl
@[simp] theorem State.putB_fclk (s : State) (f : Fld) (b : Bool) (i n : Nat) : (s.putB f b i n).fclk = s.fclk := rfl
@[simp] theorem State.putB_freeCtr (s : State) (f : Fld) (b : Bool) (i n : Nat) : (s.putB f b i n).freeCtr = s.freeCtr := rfl
@[simp] theorem State.putB_su (s : State) (f : Fld) (b : Bool) (i n : Nat) : (s.putB f b i n).su = s.su := rfl
@[simp] theorem State.putB_halts (s : State) (f : Fld) (b : Bool) (i n : Nat) : (s.putB f b i n).halts = s.halts := rfl
@[simp] theorem State.putB_stns (s : State) (f : Fld) (b : Bool) (i n : Nat) : (s.putB f b i n).stns = s.stns := rfl
@[simp] theorem State.putB_jct (s : State) (f : Fld) (b : Bool) (i n : Nat) : (s.putB f b i n).jct = s.jct := rfl
@[simp] theorem State.putB_net (s : State) (f : Fld) (b : Bool) (i n : Nat) : (s.putB f b i n).net = s.net := rfl
@[simp] theorem State.putB_ports (s : State) (f : Fld) (b : Bool) (i n : Nat) : (s.putB f b i n).ports = s.ports := rfl
@[simp] theorem State.putB_ledgers (s : State) (f : Fld) (b : Bool) (i n : Nat) : (s.putB f b i n).ledgers = s.ledgers := rfl
@[simp] theorem State.putB_jobs (s : State) (f : Fld) (b : Bool) (i n : Nat) : (s.putB f b i n).jobs = s.jobs := rfl
@[simp] theorem State.putB_crd (s : State) (f : Fld) (b : Bool) (i n : Nat) : (s.putB f b i n).crd = s.crd := rfl
@[simp] theorem State.putB_granted (s : State) (f : Fld) (b : Bool) (i n : Nat) : (s.putB f b i n).granted = s.granted := rfl
@[simp] theorem State.putB_freed (s : State) (f : Fld) (b : Bool) (i n : Nat) : (s.putB f b i n).freed = s.freed := rfl
@[simp] theorem State.putB_prots (s : State) (f : Fld) (b : Bool) (i n : Nat) : (s.putB f b i n).prots = s.prots := rfl
@[simp] theorem State.putB_perf (s : State) (f : Fld) (b : Bool) (i n : Nat) : (s.putB f b i n).perf = s.perf := rfl
@[simp] theorem State.putB_occ (s : State) (f : Fld) (b : Bool) (i n : Nat) : (s.putB f b i n).occ = s.occ := rfl
@[simp] theorem State.putB_trace (s : State) (f : Fld) (b : Bool) (i n : Nat) : (s.putB f b i n).trace = s.trace := rfl
@[simp] theorem State.putB_traceAt (s : State) (f : Fld) (b : Bool) (i n : Nat) : (s.putB f b i n).traceAt = s.traceAt := rfl
@[simp] theorem State.putB_parkImg (s : State) (f : Fld) (b : Bool) (i n : Nat) : (s.putB f b i n).parkImg = s.parkImg := rfl

@[simp] theorem State.bump_pending (s : State) (f : Fld) (i n k : Nat) : (s.bump f i n k).pending = s.pending := rfl
@[simp] theorem State.bump_out (s : State) (f : Fld) (i n k : Nat) : (s.bump f i n k).out = s.out := rfl
@[simp] theorem State.bump_fclk (s : State) (f : Fld) (i n k : Nat) : (s.bump f i n k).fclk = s.fclk := rfl
@[simp] theorem State.bump_freeCtr (s : State) (f : Fld) (i n k : Nat) : (s.bump f i n k).freeCtr = s.freeCtr := rfl
@[simp] theorem State.bump_su (s : State) (f : Fld) (i n k : Nat) : (s.bump f i n k).su = s.su := rfl
@[simp] theorem State.bump_halts (s : State) (f : Fld) (i n k : Nat) : (s.bump f i n k).halts = s.halts := rfl
@[simp] theorem State.bump_stns (s : State) (f : Fld) (i n k : Nat) : (s.bump f i n k).stns = s.stns := rfl
@[simp] theorem State.bump_jct (s : State) (f : Fld) (i n k : Nat) : (s.bump f i n k).jct = s.jct := rfl
@[simp] theorem State.bump_net (s : State) (f : Fld) (i n k : Nat) : (s.bump f i n k).net = s.net := rfl
@[simp] theorem State.bump_ports (s : State) (f : Fld) (i n k : Nat) : (s.bump f i n k).ports = s.ports := rfl
@[simp] theorem State.bump_ledgers (s : State) (f : Fld) (i n k : Nat) : (s.bump f i n k).ledgers = s.ledgers := rfl
@[simp] theorem State.bump_jobs (s : State) (f : Fld) (i n k : Nat) : (s.bump f i n k).jobs = s.jobs := rfl
@[simp] theorem State.bump_crd (s : State) (f : Fld) (i n k : Nat) : (s.bump f i n k).crd = s.crd := rfl
@[simp] theorem State.bump_granted (s : State) (f : Fld) (i n k : Nat) : (s.bump f i n k).granted = s.granted := rfl
@[simp] theorem State.bump_freed (s : State) (f : Fld) (i n k : Nat) : (s.bump f i n k).freed = s.freed := rfl
@[simp] theorem State.bump_prots (s : State) (f : Fld) (i n k : Nat) : (s.bump f i n k).prots = s.prots := rfl
@[simp] theorem State.bump_perf (s : State) (f : Fld) (i n k : Nat) : (s.bump f i n k).perf = s.perf := rfl
@[simp] theorem State.bump_occ (s : State) (f : Fld) (i n k : Nat) : (s.bump f i n k).occ = s.occ := rfl
@[simp] theorem State.bump_trace (s : State) (f : Fld) (i n k : Nat) : (s.bump f i n k).trace = s.trace := rfl
@[simp] theorem State.bump_traceAt (s : State) (f : Fld) (i n k : Nat) : (s.bump f i n k).traceAt = s.traceAt := rfl
@[simp] theorem State.bump_parkImg (s : State) (f : Fld) (i n k : Nat) : (s.bump f i n k).parkImg = s.parkImg := rfl

@[simp] theorem State.evt_pending (s : State) (p b : Nat) : (s.evt p b).pending = s.pending := rfl
@[simp] theorem State.evt_out (s : State) (p b : Nat) : (s.evt p b).out = s.out := rfl
@[simp] theorem State.evt_fclk (s : State) (p b : Nat) : (s.evt p b).fclk = s.fclk := rfl
@[simp] theorem State.evt_freeCtr (s : State) (p b : Nat) : (s.evt p b).freeCtr = s.freeCtr := rfl
@[simp] theorem State.evt_su (s : State) (p b : Nat) : (s.evt p b).su = s.su := rfl
@[simp] theorem State.evt_halts (s : State) (p b : Nat) : (s.evt p b).halts = s.halts := rfl
@[simp] theorem State.evt_stns (s : State) (p b : Nat) : (s.evt p b).stns = s.stns := rfl
@[simp] theorem State.evt_jct (s : State) (p b : Nat) : (s.evt p b).jct = s.jct := rfl
@[simp] theorem State.evt_net (s : State) (p b : Nat) : (s.evt p b).net = s.net := rfl
@[simp] theorem State.evt_ports (s : State) (p b : Nat) : (s.evt p b).ports = s.ports := rfl
@[simp] theorem State.evt_ledgers (s : State) (p b : Nat) : (s.evt p b).ledgers = s.ledgers := rfl
@[simp] theorem State.evt_jobs (s : State) (p b : Nat) : (s.evt p b).jobs = s.jobs := rfl
@[simp] theorem State.evt_crd (s : State) (p b : Nat) : (s.evt p b).crd = s.crd := rfl
@[simp] theorem State.evt_granted (s : State) (p b : Nat) : (s.evt p b).granted = s.granted := rfl
@[simp] theorem State.evt_freed (s : State) (p b : Nat) : (s.evt p b).freed = s.freed := rfl
@[simp] theorem State.evt_prots (s : State) (p b : Nat) : (s.evt p b).prots = s.prots := rfl
@[simp] theorem State.evt_perf (s : State) (p b : Nat) : (s.evt p b).perf = s.perf := rfl
@[simp] theorem State.evt_occ (s : State) (p b : Nat) : (s.evt p b).occ = s.occ := rfl
@[simp] theorem State.evt_trace (s : State) (p b : Nat) : (s.evt p b).trace = s.trace := rfl
@[simp] theorem State.evt_traceAt (s : State) (p b : Nat) : (s.evt p b).traceAt = s.traceAt := rfl
@[simp] theorem State.evt_parkImg (s : State) (p b : Nat) : (s.evt p b).parkImg = s.parkImg := rfl

@[simp] theorem State.emit_pending (s : State) (a b : Part) (m : Msg) : (s.emit a b m).pending = s.pending := rfl
@[simp] theorem State.emit_out (s : State) (a b : Part) (m : Msg) : (s.emit a b m).out = s.out := rfl
@[simp] theorem State.emit_fclk (s : State) (a b : Part) (m : Msg) : (s.emit a b m).fclk = s.fclk := rfl
@[simp] theorem State.emit_freeCtr (s : State) (a b : Part) (m : Msg) : (s.emit a b m).freeCtr = s.freeCtr := rfl
@[simp] theorem State.emit_su (s : State) (a b : Part) (m : Msg) : (s.emit a b m).su = s.su := rfl
@[simp] theorem State.emit_regs (s : State) (a b : Part) (m : Msg) : (s.emit a b m).regs = s.regs := rfl
@[simp] theorem State.emit_halts (s : State) (a b : Part) (m : Msg) : (s.emit a b m).halts = s.halts := rfl
@[simp] theorem State.emit_stns (s : State) (a b : Part) (m : Msg) : (s.emit a b m).stns = s.stns := rfl
@[simp] theorem State.emit_jct (s : State) (a b : Part) (m : Msg) : (s.emit a b m).jct = s.jct := rfl
@[simp] theorem State.emit_ports (s : State) (a b : Part) (m : Msg) : (s.emit a b m).ports = s.ports := rfl
@[simp] theorem State.emit_ledgers (s : State) (a b : Part) (m : Msg) : (s.emit a b m).ledgers = s.ledgers := rfl
@[simp] theorem State.emit_jobs (s : State) (a b : Part) (m : Msg) : (s.emit a b m).jobs = s.jobs := rfl
@[simp] theorem State.emit_crd (s : State) (a b : Part) (m : Msg) : (s.emit a b m).crd = s.crd := rfl
@[simp] theorem State.emit_granted (s : State) (a b : Part) (m : Msg) : (s.emit a b m).granted = s.granted := rfl
@[simp] theorem State.emit_freed (s : State) (a b : Part) (m : Msg) : (s.emit a b m).freed = s.freed := rfl
@[simp] theorem State.emit_prots (s : State) (a b : Part) (m : Msg) : (s.emit a b m).prots = s.prots := rfl
@[simp] theorem State.emit_perf (s : State) (a b : Part) (m : Msg) : (s.emit a b m).perf = s.perf := rfl
@[simp] theorem State.emit_occ (s : State) (a b : Part) (m : Msg) : (s.emit a b m).occ = s.occ := rfl
@[simp] theorem State.emit_trace (s : State) (a b : Part) (m : Msg) : (s.emit a b m).trace = s.trace := rfl
@[simp] theorem State.emit_traceAt (s : State) (a b : Part) (m : Msg) : (s.emit a b m).traceAt = s.traceAt := rfl
@[simp] theorem State.emit_parkImg (s : State) (a b : Part) (m : Msg) : (s.emit a b m).parkImg = s.parkImg := rfl

@[simp] theorem State.modStn_pending (s : State) (i : Nat) (f : Station → Station) : (s.modStn i f).pending = s.pending := rfl
@[simp] theorem State.modStn_out (s : State) (i : Nat) (f : Station → Station) : (s.modStn i f).out = s.out := rfl
@[simp] theorem State.modStn_fclk (s : State) (i : Nat) (f : Station → Station) : (s.modStn i f).fclk = s.fclk := rfl
@[simp] theorem State.modStn_freeCtr (s : State) (i : Nat) (f : Station → Station) : (s.modStn i f).freeCtr = s.freeCtr := rfl
@[simp] theorem State.modStn_su (s : State) (i : Nat) (f : Station → Station) : (s.modStn i f).su = s.su := rfl
@[simp] theorem State.modStn_regs (s : State) (i : Nat) (f : Station → Station) : (s.modStn i f).regs = s.regs := rfl
@[simp] theorem State.modStn_halts (s : State) (i : Nat) (f : Station → Station) : (s.modStn i f).halts = s.halts := rfl
@[simp] theorem State.modStn_jct (s : State) (i : Nat) (f : Station → Station) : (s.modStn i f).jct = s.jct := rfl
@[simp] theorem State.modStn_net (s : State) (i : Nat) (f : Station → Station) : (s.modStn i f).net = s.net := rfl
@[simp] theorem State.modStn_ports (s : State) (i : Nat) (f : Station → Station) : (s.modStn i f).ports = s.ports := rfl
@[simp] theorem State.modStn_ledgers (s : State) (i : Nat) (f : Station → Station) : (s.modStn i f).ledgers = s.ledgers := rfl
@[simp] theorem State.modStn_jobs (s : State) (i : Nat) (f : Station → Station) : (s.modStn i f).jobs = s.jobs := rfl
@[simp] theorem State.modStn_crd (s : State) (i : Nat) (f : Station → Station) : (s.modStn i f).crd = s.crd := rfl
@[simp] theorem State.modStn_granted (s : State) (i : Nat) (f : Station → Station) : (s.modStn i f).granted = s.granted := rfl
@[simp] theorem State.modStn_freed (s : State) (i : Nat) (f : Station → Station) : (s.modStn i f).freed = s.freed := rfl
@[simp] theorem State.modStn_prots (s : State) (i : Nat) (f : Station → Station) : (s.modStn i f).prots = s.prots := rfl
@[simp] theorem State.modStn_perf (s : State) (i : Nat) (f : Station → Station) : (s.modStn i f).perf = s.perf := rfl
@[simp] theorem State.modStn_occ (s : State) (i : Nat) (f : Station → Station) : (s.modStn i f).occ = s.occ := rfl
@[simp] theorem State.modStn_trace (s : State) (i : Nat) (f : Station → Station) : (s.modStn i f).trace = s.trace := rfl
@[simp] theorem State.modStn_traceAt (s : State) (i : Nat) (f : Station → Station) : (s.modStn i f).traceAt = s.traceAt := rfl
@[simp] theorem State.modStn_parkImg (s : State) (i : Nat) (f : Station → Station) : (s.modStn i f).parkImg = s.parkImg := rfl

@[simp] theorem State.modMem_pending (s : State) (i : Nat) (f : StnMem → StnMem) : (s.modMem i f).pending = s.pending := rfl
@[simp] theorem State.modMem_out (s : State) (i : Nat) (f : StnMem → StnMem) : (s.modMem i f).out = s.out := rfl
@[simp] theorem State.modMem_fclk (s : State) (i : Nat) (f : StnMem → StnMem) : (s.modMem i f).fclk = s.fclk := rfl
@[simp] theorem State.modMem_freeCtr (s : State) (i : Nat) (f : StnMem → StnMem) : (s.modMem i f).freeCtr = s.freeCtr := rfl
@[simp] theorem State.modMem_su (s : State) (i : Nat) (f : StnMem → StnMem) : (s.modMem i f).su = s.su := rfl
@[simp] theorem State.modMem_regs (s : State) (i : Nat) (f : StnMem → StnMem) : (s.modMem i f).regs = s.regs := rfl
@[simp] theorem State.modMem_halts (s : State) (i : Nat) (f : StnMem → StnMem) : (s.modMem i f).halts = s.halts := rfl
@[simp] theorem State.modMem_jct (s : State) (i : Nat) (f : StnMem → StnMem) : (s.modMem i f).jct = s.jct := rfl
@[simp] theorem State.modMem_net (s : State) (i : Nat) (f : StnMem → StnMem) : (s.modMem i f).net = s.net := rfl
@[simp] theorem State.modMem_ports (s : State) (i : Nat) (f : StnMem → StnMem) : (s.modMem i f).ports = s.ports := rfl
@[simp] theorem State.modMem_ledgers (s : State) (i : Nat) (f : StnMem → StnMem) : (s.modMem i f).ledgers = s.ledgers := rfl
@[simp] theorem State.modMem_jobs (s : State) (i : Nat) (f : StnMem → StnMem) : (s.modMem i f).jobs = s.jobs := rfl
@[simp] theorem State.modMem_crd (s : State) (i : Nat) (f : StnMem → StnMem) : (s.modMem i f).crd = s.crd := rfl
@[simp] theorem State.modMem_granted (s : State) (i : Nat) (f : StnMem → StnMem) : (s.modMem i f).granted = s.granted := rfl
@[simp] theorem State.modMem_freed (s : State) (i : Nat) (f : StnMem → StnMem) : (s.modMem i f).freed = s.freed := rfl
@[simp] theorem State.modMem_prots (s : State) (i : Nat) (f : StnMem → StnMem) : (s.modMem i f).prots = s.prots := rfl
@[simp] theorem State.modMem_perf (s : State) (i : Nat) (f : StnMem → StnMem) : (s.modMem i f).perf = s.perf := rfl
@[simp] theorem State.modMem_occ (s : State) (i : Nat) (f : StnMem → StnMem) : (s.modMem i f).occ = s.occ := rfl
@[simp] theorem State.modMem_trace (s : State) (i : Nat) (f : StnMem → StnMem) : (s.modMem i f).trace = s.trace := rfl
@[simp] theorem State.modMem_traceAt (s : State) (i : Nat) (f : StnMem → StnMem) : (s.modMem i f).traceAt = s.traceAt := rfl
@[simp] theorem State.modMem_parkImg (s : State) (i : Nat) (f : StnMem → StnMem) : (s.modMem i f).parkImg = s.parkImg := rfl

@[simp] theorem State.modSlot_pending (s : State) (i n : Nat) (f : Slot → Slot) : (s.modSlot i n f).pending = s.pending := rfl
@[simp] theorem State.modSlot_out (s : State) (i n : Nat) (f : Slot → Slot) : (s.modSlot i n f).out = s.out := rfl
@[simp] theorem State.modSlot_fclk (s : State) (i n : Nat) (f : Slot → Slot) : (s.modSlot i n f).fclk = s.fclk := rfl
@[simp] theorem State.modSlot_freeCtr (s : State) (i n : Nat) (f : Slot → Slot) : (s.modSlot i n f).freeCtr = s.freeCtr := rfl
@[simp] theorem State.modSlot_su (s : State) (i n : Nat) (f : Slot → Slot) : (s.modSlot i n f).su = s.su := rfl
@[simp] theorem State.modSlot_regs (s : State) (i n : Nat) (f : Slot → Slot) : (s.modSlot i n f).regs = s.regs := rfl
@[simp] theorem State.modSlot_halts (s : State) (i n : Nat) (f : Slot → Slot) : (s.modSlot i n f).halts = s.halts := rfl
@[simp] theorem State.modSlot_jct (s : State) (i n : Nat) (f : Slot → Slot) : (s.modSlot i n f).jct = s.jct := rfl
@[simp] theorem State.modSlot_net (s : State) (i n : Nat) (f : Slot → Slot) : (s.modSlot i n f).net = s.net := rfl
@[simp] theorem State.modSlot_ports (s : State) (i n : Nat) (f : Slot → Slot) : (s.modSlot i n f).ports = s.ports := rfl
@[simp] theorem State.modSlot_ledgers (s : State) (i n : Nat) (f : Slot → Slot) : (s.modSlot i n f).ledgers = s.ledgers := rfl
@[simp] theorem State.modSlot_jobs (s : State) (i n : Nat) (f : Slot → Slot) : (s.modSlot i n f).jobs = s.jobs := rfl
@[simp] theorem State.modSlot_crd (s : State) (i n : Nat) (f : Slot → Slot) : (s.modSlot i n f).crd = s.crd := rfl
@[simp] theorem State.modSlot_granted (s : State) (i n : Nat) (f : Slot → Slot) : (s.modSlot i n f).granted = s.granted := rfl
@[simp] theorem State.modSlot_freed (s : State) (i n : Nat) (f : Slot → Slot) : (s.modSlot i n f).freed = s.freed := rfl
@[simp] theorem State.modSlot_prots (s : State) (i n : Nat) (f : Slot → Slot) : (s.modSlot i n f).prots = s.prots := rfl
@[simp] theorem State.modSlot_perf (s : State) (i n : Nat) (f : Slot → Slot) : (s.modSlot i n f).perf = s.perf := rfl
@[simp] theorem State.modSlot_occ (s : State) (i n : Nat) (f : Slot → Slot) : (s.modSlot i n f).occ = s.occ := rfl
@[simp] theorem State.modSlot_trace (s : State) (i n : Nat) (f : Slot → Slot) : (s.modSlot i n f).trace = s.trace := rfl
@[simp] theorem State.modSlot_traceAt (s : State) (i n : Nat) (f : Slot → Slot) : (s.modSlot i n f).traceAt = s.traceAt := rfl
@[simp] theorem State.modSlot_parkImg (s : State) (i n : Nat) (f : Slot → Slot) : (s.modSlot i n f).parkImg = s.parkImg := rfl

@[simp] theorem State.setVal_pending (s : State) (i n : Nat) (v : Word64) : (s.setVal i n v).pending = s.pending := rfl
@[simp] theorem State.setVal_out (s : State) (i n : Nat) (v : Word64) : (s.setVal i n v).out = s.out := rfl
@[simp] theorem State.setVal_fclk (s : State) (i n : Nat) (v : Word64) : (s.setVal i n v).fclk = s.fclk := rfl
@[simp] theorem State.setVal_freeCtr (s : State) (i n : Nat) (v : Word64) : (s.setVal i n v).freeCtr = s.freeCtr := rfl
@[simp] theorem State.setVal_su (s : State) (i n : Nat) (v : Word64) : (s.setVal i n v).su = s.su := rfl
@[simp] theorem State.setVal_regs (s : State) (i n : Nat) (v : Word64) : (s.setVal i n v).regs = s.regs := rfl
@[simp] theorem State.setVal_halts (s : State) (i n : Nat) (v : Word64) : (s.setVal i n v).halts = s.halts := rfl
@[simp] theorem State.setVal_jct (s : State) (i n : Nat) (v : Word64) : (s.setVal i n v).jct = s.jct := rfl
@[simp] theorem State.setVal_net (s : State) (i n : Nat) (v : Word64) : (s.setVal i n v).net = s.net := rfl
@[simp] theorem State.setVal_ports (s : State) (i n : Nat) (v : Word64) : (s.setVal i n v).ports = s.ports := rfl
@[simp] theorem State.setVal_ledgers (s : State) (i n : Nat) (v : Word64) : (s.setVal i n v).ledgers = s.ledgers := rfl
@[simp] theorem State.setVal_jobs (s : State) (i n : Nat) (v : Word64) : (s.setVal i n v).jobs = s.jobs := rfl
@[simp] theorem State.setVal_crd (s : State) (i n : Nat) (v : Word64) : (s.setVal i n v).crd = s.crd := rfl
@[simp] theorem State.setVal_granted (s : State) (i n : Nat) (v : Word64) : (s.setVal i n v).granted = s.granted := rfl
@[simp] theorem State.setVal_freed (s : State) (i n : Nat) (v : Word64) : (s.setVal i n v).freed = s.freed := rfl
@[simp] theorem State.setVal_prots (s : State) (i n : Nat) (v : Word64) : (s.setVal i n v).prots = s.prots := rfl
@[simp] theorem State.setVal_perf (s : State) (i n : Nat) (v : Word64) : (s.setVal i n v).perf = s.perf := rfl
@[simp] theorem State.setVal_occ (s : State) (i n : Nat) (v : Word64) : (s.setVal i n v).occ = s.occ := rfl
@[simp] theorem State.setVal_trace (s : State) (i n : Nat) (v : Word64) : (s.setVal i n v).trace = s.trace := rfl
@[simp] theorem State.setVal_traceAt (s : State) (i n : Nat) (v : Word64) : (s.setVal i n v).traceAt = s.traceAt := rfl
@[simp] theorem State.setVal_parkImg (s : State) (i n : Nat) (v : Word64) : (s.setVal i n v).parkImg = s.parkImg := rfl

@[simp] theorem State.setSrc_pending (s : State) (i n : Nat) (x : BitVec 16) : (s.setSrc i n x).pending = s.pending := rfl
@[simp] theorem State.setSrc_out (s : State) (i n : Nat) (x : BitVec 16) : (s.setSrc i n x).out = s.out := rfl
@[simp] theorem State.setSrc_fclk (s : State) (i n : Nat) (x : BitVec 16) : (s.setSrc i n x).fclk = s.fclk := rfl
@[simp] theorem State.setSrc_freeCtr (s : State) (i n : Nat) (x : BitVec 16) : (s.setSrc i n x).freeCtr = s.freeCtr := rfl
@[simp] theorem State.setSrc_su (s : State) (i n : Nat) (x : BitVec 16) : (s.setSrc i n x).su = s.su := rfl
@[simp] theorem State.setSrc_regs (s : State) (i n : Nat) (x : BitVec 16) : (s.setSrc i n x).regs = s.regs := rfl
@[simp] theorem State.setSrc_halts (s : State) (i n : Nat) (x : BitVec 16) : (s.setSrc i n x).halts = s.halts := rfl
@[simp] theorem State.setSrc_jct (s : State) (i n : Nat) (x : BitVec 16) : (s.setSrc i n x).jct = s.jct := rfl
@[simp] theorem State.setSrc_net (s : State) (i n : Nat) (x : BitVec 16) : (s.setSrc i n x).net = s.net := rfl
@[simp] theorem State.setSrc_ports (s : State) (i n : Nat) (x : BitVec 16) : (s.setSrc i n x).ports = s.ports := rfl
@[simp] theorem State.setSrc_ledgers (s : State) (i n : Nat) (x : BitVec 16) : (s.setSrc i n x).ledgers = s.ledgers := rfl
@[simp] theorem State.setSrc_jobs (s : State) (i n : Nat) (x : BitVec 16) : (s.setSrc i n x).jobs = s.jobs := rfl
@[simp] theorem State.setSrc_crd (s : State) (i n : Nat) (x : BitVec 16) : (s.setSrc i n x).crd = s.crd := rfl
@[simp] theorem State.setSrc_granted (s : State) (i n : Nat) (x : BitVec 16) : (s.setSrc i n x).granted = s.granted := rfl
@[simp] theorem State.setSrc_freed (s : State) (i n : Nat) (x : BitVec 16) : (s.setSrc i n x).freed = s.freed := rfl
@[simp] theorem State.setSrc_prots (s : State) (i n : Nat) (x : BitVec 16) : (s.setSrc i n x).prots = s.prots := rfl
@[simp] theorem State.setSrc_perf (s : State) (i n : Nat) (x : BitVec 16) : (s.setSrc i n x).perf = s.perf := rfl
@[simp] theorem State.setSrc_occ (s : State) (i n : Nat) (x : BitVec 16) : (s.setSrc i n x).occ = s.occ := rfl
@[simp] theorem State.setSrc_trace (s : State) (i n : Nat) (x : BitVec 16) : (s.setSrc i n x).trace = s.trace := rfl
@[simp] theorem State.setSrc_traceAt (s : State) (i n : Nat) (x : BitVec 16) : (s.setSrc i n x).traceAt = s.traceAt := rfl
@[simp] theorem State.setSrc_parkImg (s : State) (i n : Nat) (x : BitVec 16) : (s.setSrc i n x).parkImg = s.parkImg := rfl

@[simp] theorem State.modHalt_pending (s : State) (i : Nat) (f : Halt → Halt) : (s.modHalt i f).pending = s.pending := rfl
@[simp] theorem State.modHalt_out (s : State) (i : Nat) (f : Halt → Halt) : (s.modHalt i f).out = s.out := rfl
@[simp] theorem State.modHalt_fclk (s : State) (i : Nat) (f : Halt → Halt) : (s.modHalt i f).fclk = s.fclk := rfl
@[simp] theorem State.modHalt_freeCtr (s : State) (i : Nat) (f : Halt → Halt) : (s.modHalt i f).freeCtr = s.freeCtr := rfl
@[simp] theorem State.modHalt_su (s : State) (i : Nat) (f : Halt → Halt) : (s.modHalt i f).su = s.su := rfl
@[simp] theorem State.modHalt_regs (s : State) (i : Nat) (f : Halt → Halt) : (s.modHalt i f).regs = s.regs := rfl
@[simp] theorem State.modHalt_stns (s : State) (i : Nat) (f : Halt → Halt) : (s.modHalt i f).stns = s.stns := rfl
@[simp] theorem State.modHalt_jct (s : State) (i : Nat) (f : Halt → Halt) : (s.modHalt i f).jct = s.jct := rfl
@[simp] theorem State.modHalt_net (s : State) (i : Nat) (f : Halt → Halt) : (s.modHalt i f).net = s.net := rfl
@[simp] theorem State.modHalt_ports (s : State) (i : Nat) (f : Halt → Halt) : (s.modHalt i f).ports = s.ports := rfl
@[simp] theorem State.modHalt_ledgers (s : State) (i : Nat) (f : Halt → Halt) : (s.modHalt i f).ledgers = s.ledgers := rfl
@[simp] theorem State.modHalt_jobs (s : State) (i : Nat) (f : Halt → Halt) : (s.modHalt i f).jobs = s.jobs := rfl
@[simp] theorem State.modHalt_crd (s : State) (i : Nat) (f : Halt → Halt) : (s.modHalt i f).crd = s.crd := rfl
@[simp] theorem State.modHalt_granted (s : State) (i : Nat) (f : Halt → Halt) : (s.modHalt i f).granted = s.granted := rfl
@[simp] theorem State.modHalt_freed (s : State) (i : Nat) (f : Halt → Halt) : (s.modHalt i f).freed = s.freed := rfl
@[simp] theorem State.modHalt_prots (s : State) (i : Nat) (f : Halt → Halt) : (s.modHalt i f).prots = s.prots := rfl
@[simp] theorem State.modHalt_perf (s : State) (i : Nat) (f : Halt → Halt) : (s.modHalt i f).perf = s.perf := rfl
@[simp] theorem State.modHalt_occ (s : State) (i : Nat) (f : Halt → Halt) : (s.modHalt i f).occ = s.occ := rfl
@[simp] theorem State.modHalt_trace (s : State) (i : Nat) (f : Halt → Halt) : (s.modHalt i f).trace = s.trace := rfl
@[simp] theorem State.modHalt_traceAt (s : State) (i : Nat) (f : Halt → Halt) : (s.modHalt i f).traceAt = s.traceAt := rfl
@[simp] theorem State.modHalt_parkImg (s : State) (i : Nat) (f : Halt → Halt) : (s.modHalt i f).parkImg = s.parkImg := rfl

@[simp] theorem State.modWait_pending (s : State) (h i : Nat) (f : WaitReg → WaitReg) : (s.modWait h i f).pending = s.pending := rfl
@[simp] theorem State.modWait_out (s : State) (h i : Nat) (f : WaitReg → WaitReg) : (s.modWait h i f).out = s.out := rfl
@[simp] theorem State.modWait_fclk (s : State) (h i : Nat) (f : WaitReg → WaitReg) : (s.modWait h i f).fclk = s.fclk := rfl
@[simp] theorem State.modWait_freeCtr (s : State) (h i : Nat) (f : WaitReg → WaitReg) : (s.modWait h i f).freeCtr = s.freeCtr := rfl
@[simp] theorem State.modWait_su (s : State) (h i : Nat) (f : WaitReg → WaitReg) : (s.modWait h i f).su = s.su := rfl
@[simp] theorem State.modWait_regs (s : State) (h i : Nat) (f : WaitReg → WaitReg) : (s.modWait h i f).regs = s.regs := rfl
@[simp] theorem State.modWait_stns (s : State) (h i : Nat) (f : WaitReg → WaitReg) : (s.modWait h i f).stns = s.stns := rfl
@[simp] theorem State.modWait_jct (s : State) (h i : Nat) (f : WaitReg → WaitReg) : (s.modWait h i f).jct = s.jct := rfl
@[simp] theorem State.modWait_net (s : State) (h i : Nat) (f : WaitReg → WaitReg) : (s.modWait h i f).net = s.net := rfl
@[simp] theorem State.modWait_ports (s : State) (h i : Nat) (f : WaitReg → WaitReg) : (s.modWait h i f).ports = s.ports := rfl
@[simp] theorem State.modWait_ledgers (s : State) (h i : Nat) (f : WaitReg → WaitReg) : (s.modWait h i f).ledgers = s.ledgers := rfl
@[simp] theorem State.modWait_jobs (s : State) (h i : Nat) (f : WaitReg → WaitReg) : (s.modWait h i f).jobs = s.jobs := rfl
@[simp] theorem State.modWait_crd (s : State) (h i : Nat) (f : WaitReg → WaitReg) : (s.modWait h i f).crd = s.crd := rfl
@[simp] theorem State.modWait_granted (s : State) (h i : Nat) (f : WaitReg → WaitReg) : (s.modWait h i f).granted = s.granted := rfl
@[simp] theorem State.modWait_freed (s : State) (h i : Nat) (f : WaitReg → WaitReg) : (s.modWait h i f).freed = s.freed := rfl
@[simp] theorem State.modWait_prots (s : State) (h i : Nat) (f : WaitReg → WaitReg) : (s.modWait h i f).prots = s.prots := rfl
@[simp] theorem State.modWait_perf (s : State) (h i : Nat) (f : WaitReg → WaitReg) : (s.modWait h i f).perf = s.perf := rfl
@[simp] theorem State.modWait_occ (s : State) (h i : Nat) (f : WaitReg → WaitReg) : (s.modWait h i f).occ = s.occ := rfl
@[simp] theorem State.modWait_trace (s : State) (h i : Nat) (f : WaitReg → WaitReg) : (s.modWait h i f).trace = s.trace := rfl
@[simp] theorem State.modWait_traceAt (s : State) (h i : Nat) (f : WaitReg → WaitReg) : (s.modWait h i f).traceAt = s.traceAt := rfl
@[simp] theorem State.modWait_parkImg (s : State) (h i : Nat) (f : WaitReg → WaitReg) : (s.modWait h i f).parkImg = s.parkImg := rfl

@[simp] theorem State.modJct_pending (s : State) (f : Jct → Jct) : (s.modJct f).pending = s.pending := rfl
@[simp] theorem State.modJct_out (s : State) (f : Jct → Jct) : (s.modJct f).out = s.out := rfl
@[simp] theorem State.modJct_fclk (s : State) (f : Jct → Jct) : (s.modJct f).fclk = s.fclk := rfl
@[simp] theorem State.modJct_freeCtr (s : State) (f : Jct → Jct) : (s.modJct f).freeCtr = s.freeCtr := rfl
@[simp] theorem State.modJct_su (s : State) (f : Jct → Jct) : (s.modJct f).su = s.su := rfl
@[simp] theorem State.modJct_regs (s : State) (f : Jct → Jct) : (s.modJct f).regs = s.regs := rfl
@[simp] theorem State.modJct_halts (s : State) (f : Jct → Jct) : (s.modJct f).halts = s.halts := rfl
@[simp] theorem State.modJct_stns (s : State) (f : Jct → Jct) : (s.modJct f).stns = s.stns := rfl
@[simp] theorem State.modJct_net (s : State) (f : Jct → Jct) : (s.modJct f).net = s.net := rfl
@[simp] theorem State.modJct_ports (s : State) (f : Jct → Jct) : (s.modJct f).ports = s.ports := rfl
@[simp] theorem State.modJct_ledgers (s : State) (f : Jct → Jct) : (s.modJct f).ledgers = s.ledgers := rfl
@[simp] theorem State.modJct_jobs (s : State) (f : Jct → Jct) : (s.modJct f).jobs = s.jobs := rfl
@[simp] theorem State.modJct_crd (s : State) (f : Jct → Jct) : (s.modJct f).crd = s.crd := rfl
@[simp] theorem State.modJct_granted (s : State) (f : Jct → Jct) : (s.modJct f).granted = s.granted := rfl
@[simp] theorem State.modJct_freed (s : State) (f : Jct → Jct) : (s.modJct f).freed = s.freed := rfl
@[simp] theorem State.modJct_prots (s : State) (f : Jct → Jct) : (s.modJct f).prots = s.prots := rfl
@[simp] theorem State.modJct_perf (s : State) (f : Jct → Jct) : (s.modJct f).perf = s.perf := rfl
@[simp] theorem State.modJct_occ (s : State) (f : Jct → Jct) : (s.modJct f).occ = s.occ := rfl
@[simp] theorem State.modJct_trace (s : State) (f : Jct → Jct) : (s.modJct f).trace = s.trace := rfl
@[simp] theorem State.modJct_traceAt (s : State) (f : Jct → Jct) : (s.modJct f).traceAt = s.traceAt := rfl
@[simp] theorem State.modJct_parkImg (s : State) (f : Jct → Jct) : (s.modJct f).parkImg = s.parkImg := rfl

@[simp] theorem State.modSu_pending (s : State) (f : StartUp → StartUp) : (s.modSu f).pending = s.pending := rfl
@[simp] theorem State.modSu_out (s : State) (f : StartUp → StartUp) : (s.modSu f).out = s.out := rfl
@[simp] theorem State.modSu_fclk (s : State) (f : StartUp → StartUp) : (s.modSu f).fclk = s.fclk := rfl
@[simp] theorem State.modSu_freeCtr (s : State) (f : StartUp → StartUp) : (s.modSu f).freeCtr = s.freeCtr := rfl
@[simp] theorem State.modSu_regs (s : State) (f : StartUp → StartUp) : (s.modSu f).regs = s.regs := rfl
@[simp] theorem State.modSu_halts (s : State) (f : StartUp → StartUp) : (s.modSu f).halts = s.halts := rfl
@[simp] theorem State.modSu_stns (s : State) (f : StartUp → StartUp) : (s.modSu f).stns = s.stns := rfl
@[simp] theorem State.modSu_jct (s : State) (f : StartUp → StartUp) : (s.modSu f).jct = s.jct := rfl
@[simp] theorem State.modSu_net (s : State) (f : StartUp → StartUp) : (s.modSu f).net = s.net := rfl
@[simp] theorem State.modSu_ports (s : State) (f : StartUp → StartUp) : (s.modSu f).ports = s.ports := rfl
@[simp] theorem State.modSu_ledgers (s : State) (f : StartUp → StartUp) : (s.modSu f).ledgers = s.ledgers := rfl
@[simp] theorem State.modSu_jobs (s : State) (f : StartUp → StartUp) : (s.modSu f).jobs = s.jobs := rfl
@[simp] theorem State.modSu_crd (s : State) (f : StartUp → StartUp) : (s.modSu f).crd = s.crd := rfl
@[simp] theorem State.modSu_granted (s : State) (f : StartUp → StartUp) : (s.modSu f).granted = s.granted := rfl
@[simp] theorem State.modSu_freed (s : State) (f : StartUp → StartUp) : (s.modSu f).freed = s.freed := rfl
@[simp] theorem State.modSu_prots (s : State) (f : StartUp → StartUp) : (s.modSu f).prots = s.prots := rfl
@[simp] theorem State.modSu_perf (s : State) (f : StartUp → StartUp) : (s.modSu f).perf = s.perf := rfl
@[simp] theorem State.modSu_occ (s : State) (f : StartUp → StartUp) : (s.modSu f).occ = s.occ := rfl
@[simp] theorem State.modSu_trace (s : State) (f : StartUp → StartUp) : (s.modSu f).trace = s.trace := rfl
@[simp] theorem State.modSu_traceAt (s : State) (f : StartUp → StartUp) : (s.modSu f).traceAt = s.traceAt := rfl
@[simp] theorem State.modSu_parkImg (s : State) (f : StartUp → StartUp) : (s.modSu f).parkImg = s.parkImg := rfl

@[simp] theorem State.modPort_pending (s : State) (i : Nat) (f : Port → Port) : (s.modPort i f).pending = s.pending := rfl
@[simp] theorem State.modPort_out (s : State) (i : Nat) (f : Port → Port) : (s.modPort i f).out = s.out := rfl
@[simp] theorem State.modPort_fclk (s : State) (i : Nat) (f : Port → Port) : (s.modPort i f).fclk = s.fclk := rfl
@[simp] theorem State.modPort_freeCtr (s : State) (i : Nat) (f : Port → Port) : (s.modPort i f).freeCtr = s.freeCtr := rfl
@[simp] theorem State.modPort_su (s : State) (i : Nat) (f : Port → Port) : (s.modPort i f).su = s.su := rfl
@[simp] theorem State.modPort_regs (s : State) (i : Nat) (f : Port → Port) : (s.modPort i f).regs = s.regs := rfl
@[simp] theorem State.modPort_halts (s : State) (i : Nat) (f : Port → Port) : (s.modPort i f).halts = s.halts := rfl
@[simp] theorem State.modPort_stns (s : State) (i : Nat) (f : Port → Port) : (s.modPort i f).stns = s.stns := rfl
@[simp] theorem State.modPort_jct (s : State) (i : Nat) (f : Port → Port) : (s.modPort i f).jct = s.jct := rfl
@[simp] theorem State.modPort_net (s : State) (i : Nat) (f : Port → Port) : (s.modPort i f).net = s.net := rfl
@[simp] theorem State.modPort_ledgers (s : State) (i : Nat) (f : Port → Port) : (s.modPort i f).ledgers = s.ledgers := rfl
@[simp] theorem State.modPort_jobs (s : State) (i : Nat) (f : Port → Port) : (s.modPort i f).jobs = s.jobs := rfl
@[simp] theorem State.modPort_crd (s : State) (i : Nat) (f : Port → Port) : (s.modPort i f).crd = s.crd := rfl
@[simp] theorem State.modPort_granted (s : State) (i : Nat) (f : Port → Port) : (s.modPort i f).granted = s.granted := rfl
@[simp] theorem State.modPort_freed (s : State) (i : Nat) (f : Port → Port) : (s.modPort i f).freed = s.freed := rfl
@[simp] theorem State.modPort_prots (s : State) (i : Nat) (f : Port → Port) : (s.modPort i f).prots = s.prots := rfl
@[simp] theorem State.modPort_perf (s : State) (i : Nat) (f : Port → Port) : (s.modPort i f).perf = s.perf := rfl
@[simp] theorem State.modPort_occ (s : State) (i : Nat) (f : Port → Port) : (s.modPort i f).occ = s.occ := rfl
@[simp] theorem State.modPort_trace (s : State) (i : Nat) (f : Port → Port) : (s.modPort i f).trace = s.trace := rfl
@[simp] theorem State.modPort_traceAt (s : State) (i : Nat) (f : Port → Port) : (s.modPort i f).traceAt = s.traceAt := rfl
@[simp] theorem State.modPort_parkImg (s : State) (i : Nat) (f : Port → Port) : (s.modPort i f).parkImg = s.parkImg := rfl

@[simp] theorem State.setJob_pending (s : State) (k : Nat) (j : Option Job) : (s.setJob k j).pending = s.pending := rfl
@[simp] theorem State.setJob_out (s : State) (k : Nat) (j : Option Job) : (s.setJob k j).out = s.out := rfl
@[simp] theorem State.setJob_fclk (s : State) (k : Nat) (j : Option Job) : (s.setJob k j).fclk = s.fclk := rfl
@[simp] theorem State.setJob_freeCtr (s : State) (k : Nat) (j : Option Job) : (s.setJob k j).freeCtr = s.freeCtr := rfl
@[simp] theorem State.setJob_su (s : State) (k : Nat) (j : Option Job) : (s.setJob k j).su = s.su := rfl
@[simp] theorem State.setJob_regs (s : State) (k : Nat) (j : Option Job) : (s.setJob k j).regs = s.regs := rfl
@[simp] theorem State.setJob_halts (s : State) (k : Nat) (j : Option Job) : (s.setJob k j).halts = s.halts := rfl
@[simp] theorem State.setJob_stns (s : State) (k : Nat) (j : Option Job) : (s.setJob k j).stns = s.stns := rfl
@[simp] theorem State.setJob_jct (s : State) (k : Nat) (j : Option Job) : (s.setJob k j).jct = s.jct := rfl
@[simp] theorem State.setJob_net (s : State) (k : Nat) (j : Option Job) : (s.setJob k j).net = s.net := rfl
@[simp] theorem State.setJob_ports (s : State) (k : Nat) (j : Option Job) : (s.setJob k j).ports = s.ports := rfl
@[simp] theorem State.setJob_ledgers (s : State) (k : Nat) (j : Option Job) : (s.setJob k j).ledgers = s.ledgers := rfl
@[simp] theorem State.setJob_crd (s : State) (k : Nat) (j : Option Job) : (s.setJob k j).crd = s.crd := rfl
@[simp] theorem State.setJob_granted (s : State) (k : Nat) (j : Option Job) : (s.setJob k j).granted = s.granted := rfl
@[simp] theorem State.setJob_freed (s : State) (k : Nat) (j : Option Job) : (s.setJob k j).freed = s.freed := rfl
@[simp] theorem State.setJob_prots (s : State) (k : Nat) (j : Option Job) : (s.setJob k j).prots = s.prots := rfl
@[simp] theorem State.setJob_perf (s : State) (k : Nat) (j : Option Job) : (s.setJob k j).perf = s.perf := rfl
@[simp] theorem State.setJob_occ (s : State) (k : Nat) (j : Option Job) : (s.setJob k j).occ = s.occ := rfl
@[simp] theorem State.setJob_trace (s : State) (k : Nat) (j : Option Job) : (s.setJob k j).trace = s.trace := rfl
@[simp] theorem State.setJob_traceAt (s : State) (k : Nat) (j : Option Job) : (s.setJob k j).traceAt = s.traceAt := rfl
@[simp] theorem State.setJob_parkImg (s : State) (k : Nat) (j : Option Job) : (s.setJob k j).parkImg = s.parkImg := rfl

@[simp] theorem State.modProt_pending (s : State) (i : Nat) (f : Prot → Prot) : (s.modProt i f).pending = s.pending := rfl
@[simp] theorem State.modProt_out (s : State) (i : Nat) (f : Prot → Prot) : (s.modProt i f).out = s.out := rfl
@[simp] theorem State.modProt_fclk (s : State) (i : Nat) (f : Prot → Prot) : (s.modProt i f).fclk = s.fclk := rfl
@[simp] theorem State.modProt_freeCtr (s : State) (i : Nat) (f : Prot → Prot) : (s.modProt i f).freeCtr = s.freeCtr := rfl
@[simp] theorem State.modProt_su (s : State) (i : Nat) (f : Prot → Prot) : (s.modProt i f).su = s.su := rfl
@[simp] theorem State.modProt_regs (s : State) (i : Nat) (f : Prot → Prot) : (s.modProt i f).regs = s.regs := rfl
@[simp] theorem State.modProt_halts (s : State) (i : Nat) (f : Prot → Prot) : (s.modProt i f).halts = s.halts := rfl
@[simp] theorem State.modProt_stns (s : State) (i : Nat) (f : Prot → Prot) : (s.modProt i f).stns = s.stns := rfl
@[simp] theorem State.modProt_jct (s : State) (i : Nat) (f : Prot → Prot) : (s.modProt i f).jct = s.jct := rfl
@[simp] theorem State.modProt_net (s : State) (i : Nat) (f : Prot → Prot) : (s.modProt i f).net = s.net := rfl
@[simp] theorem State.modProt_ports (s : State) (i : Nat) (f : Prot → Prot) : (s.modProt i f).ports = s.ports := rfl
@[simp] theorem State.modProt_ledgers (s : State) (i : Nat) (f : Prot → Prot) : (s.modProt i f).ledgers = s.ledgers := rfl
@[simp] theorem State.modProt_jobs (s : State) (i : Nat) (f : Prot → Prot) : (s.modProt i f).jobs = s.jobs := rfl
@[simp] theorem State.modProt_crd (s : State) (i : Nat) (f : Prot → Prot) : (s.modProt i f).crd = s.crd := rfl
@[simp] theorem State.modProt_granted (s : State) (i : Nat) (f : Prot → Prot) : (s.modProt i f).granted = s.granted := rfl
@[simp] theorem State.modProt_freed (s : State) (i : Nat) (f : Prot → Prot) : (s.modProt i f).freed = s.freed := rfl
@[simp] theorem State.modProt_perf (s : State) (i : Nat) (f : Prot → Prot) : (s.modProt i f).perf = s.perf := rfl
@[simp] theorem State.modProt_occ (s : State) (i : Nat) (f : Prot → Prot) : (s.modProt i f).occ = s.occ := rfl
@[simp] theorem State.modProt_trace (s : State) (i : Nat) (f : Prot → Prot) : (s.modProt i f).trace = s.trace := rfl
@[simp] theorem State.modProt_traceAt (s : State) (i : Nat) (f : Prot → Prot) : (s.modProt i f).traceAt = s.traceAt := rfl
@[simp] theorem State.modProt_parkImg (s : State) (i : Nat) (f : Prot → Prot) : (s.modProt i f).parkImg = s.parkImg := rfl

@[simp] theorem State.modLedger_pending (s : State) (k : Nat) (f : Ledger → Ledger) : (s.modLedger k f).pending = s.pending := rfl
@[simp] theorem State.modLedger_out (s : State) (k : Nat) (f : Ledger → Ledger) : (s.modLedger k f).out = s.out := rfl
@[simp] theorem State.modLedger_fclk (s : State) (k : Nat) (f : Ledger → Ledger) : (s.modLedger k f).fclk = s.fclk := rfl
@[simp] theorem State.modLedger_freeCtr (s : State) (k : Nat) (f : Ledger → Ledger) : (s.modLedger k f).freeCtr = s.freeCtr := rfl
@[simp] theorem State.modLedger_su (s : State) (k : Nat) (f : Ledger → Ledger) : (s.modLedger k f).su = s.su := rfl
@[simp] theorem State.modLedger_regs (s : State) (k : Nat) (f : Ledger → Ledger) : (s.modLedger k f).regs = s.regs := rfl
@[simp] theorem State.modLedger_halts (s : State) (k : Nat) (f : Ledger → Ledger) : (s.modLedger k f).halts = s.halts := rfl
@[simp] theorem State.modLedger_stns (s : State) (k : Nat) (f : Ledger → Ledger) : (s.modLedger k f).stns = s.stns := rfl
@[simp] theorem State.modLedger_jct (s : State) (k : Nat) (f : Ledger → Ledger) : (s.modLedger k f).jct = s.jct := rfl
@[simp] theorem State.modLedger_net (s : State) (k : Nat) (f : Ledger → Ledger) : (s.modLedger k f).net = s.net := rfl
@[simp] theorem State.modLedger_ports (s : State) (k : Nat) (f : Ledger → Ledger) : (s.modLedger k f).ports = s.ports := rfl
@[simp] theorem State.modLedger_jobs (s : State) (k : Nat) (f : Ledger → Ledger) : (s.modLedger k f).jobs = s.jobs := rfl
@[simp] theorem State.modLedger_crd (s : State) (k : Nat) (f : Ledger → Ledger) : (s.modLedger k f).crd = s.crd := rfl
@[simp] theorem State.modLedger_granted (s : State) (k : Nat) (f : Ledger → Ledger) : (s.modLedger k f).granted = s.granted := rfl
@[simp] theorem State.modLedger_freed (s : State) (k : Nat) (f : Ledger → Ledger) : (s.modLedger k f).freed = s.freed := rfl
@[simp] theorem State.modLedger_prots (s : State) (k : Nat) (f : Ledger → Ledger) : (s.modLedger k f).prots = s.prots := rfl
@[simp] theorem State.modLedger_perf (s : State) (k : Nat) (f : Ledger → Ledger) : (s.modLedger k f).perf = s.perf := rfl
@[simp] theorem State.modLedger_occ (s : State) (k : Nat) (f : Ledger → Ledger) : (s.modLedger k f).occ = s.occ := rfl
@[simp] theorem State.modLedger_trace (s : State) (k : Nat) (f : Ledger → Ledger) : (s.modLedger k f).trace = s.trace := rfl
@[simp] theorem State.modLedger_traceAt (s : State) (k : Nat) (f : Ledger → Ledger) : (s.modLedger k f).traceAt = s.traceAt := rfl
@[simp] theorem State.modLedger_parkImg (s : State) (k : Nat) (f : Ledger → Ledger) : (s.modLedger k f).parkImg = s.parkImg := rfl

@[simp] theorem State.quiet_out (s : State) : s.quiet.out = [] := rfl
@[simp] theorem State.emit_net (s : State) (a b : Part) (m : Msg) : (s.emit a b m).net = s.net ++ [⟨a, b, m⟩] := rfl
@[simp] theorem State.modSu_su (s : State) (f : StartUp → StartUp) : (s.modSu f).su = f s.su := rfl
@[simp] theorem State.modJct_jct (s : State) (f : Jct → Jct) : (s.modJct f).jct = f s.jct := rfl

end Sys2Proof.Machine
end

