-- ==== Sys2Proof/Laws/Table.lean ====
section
/-! SUPPORT. Tables: reading after writing, and the canonical form that every write keeps. -/

namespace Sys2Proof.Machine

set_option linter.unusedSectionVars false

section
variable {α : Type} [DecidableEq α] (d : α)

theorem tget_append_right (t u : Tbl α) (n : Nat) (h : ∀ e ∈ t, e.1 ≠ n) : tget d (t ++ u) n = tget d u n := by
  induction t with
  | nil => rfl
  | cons e t ih =>
    have := h e (by simp)
    simp [tget, this, ih (fun x hx => h x (by simp [hx]))]

theorem tget_append_left (t u : Tbl α) (n : Nat) (h : ∀ e ∈ u, e.1 ≠ n) : tget d (t ++ u) n = tget d t n := by
  induction t with
  | nil =>
    induction u with
    | nil => rfl
    | cons e u ih =>
      have := h e (by simp)
      simpa [tget, this] using ih (fun x hx => h x (by simp [hx]))
  | cons e t ih => simp [tget, ih]

theorem tget_filter_lt (t : Tbl α) (n m : Nat) (h : m < n) : tget d (t.filter (fun e => e.1 < n)) m = tget d t m := by
  induction t with
  | nil => rfl
  | cons e t ih =>
    by_cases he : e.1 < n
    · simp [tget, he, ih]
    · have h2 : ¬ e.1 = m := by omega
      simp [he, tget, h2, ih]

theorem tget_filter_gt (t : Tbl α) (n m : Nat) (h : n < m) : tget d (t.filter (fun e => n < e.1)) m = tget d t m := by
  induction t with
  | nil => rfl
  | cons e t ih =>
    by_cases he : n < e.1
    · simp [tget, he, ih]
    · have h2 : ¬ e.1 = m := by omega
      simp [he, tget, h2, ih]

/-- A write of one row leaves every other as it was, whatever an unlisted row is read as. -/
theorem tget_tset_ne (d' : α) (t : Tbl α) (n m : Nat) (v : α) (h : m ≠ n) : tget d' (tset d t n v) m = tget d' t m := by
  unfold tset
  rcases Nat.lt_or_gt_of_ne h with h | h
  · rw [List.append_assoc, tget_append_left]
    · exact tget_filter_lt d' t n m h
    · intro e he
      simp only [List.mem_append, List.mem_filter, decide_eq_true_eq] at he
      rcases he with he | he
      · split at he
        · simp at he
        · simp only [List.mem_singleton] at he; rw [he]; exact fun x => by omega
      · omega
  · rw [tget_append_right]
    · exact tget_filter_gt d' t n m h
    · intro e he
      simp only [List.mem_append, List.mem_filter, decide_eq_true_eq] at he
      rcases he with he | he
      · omega
      · split at he
        · simp at he
        · simp only [List.mem_singleton] at he; rw [he]; exact fun x => by omega

/-- What a table reads as after a write of row `n`. -/
theorem tget_tset (t : Tbl α) (n m : Nat) (v : α) : tget d (tset d t n v) m = if m = n then v else tget d t m := by
  by_cases h : m = n
  · rw [h, if_pos rfl]
    unfold tset
    rw [tget_append_left, tget_append_right]
    · by_cases hv : v = d
      · simp [hv, tget]
      · simp [hv, tget]
    · intro e he; simp only [List.mem_filter, decide_eq_true_eq] at he; omega
    · intro e he; simp only [List.mem_filter, decide_eq_true_eq] at he; omega
  · rw [if_neg h, tget_tset_ne d d t n m v h]

@[simp] theorem tget_tset_same (t : Tbl α) (n : Nat) (v : α) : tget d (tset d t n v) n = v := by simp [tget_tset]
theorem tget_tmod (t : Tbl α) (n m : Nat) (f : α → α) :
    tget d (tmod d t n f) m = if m = n then f (tget d t n) else tget d t m := tget_tset d t n m _
@[simp] theorem tget_tmod_same (t : Tbl α) (n : Nat) (f : α → α) : tget d (tmod d t n f) n = f (tget d t n) := by simp [tget_tmod]

/-- A write keeps the canonical form. -/
theorem twf_tset (t : Tbl α) (n : Nat) (v : α) (h : twf d t = true) : twf d (tset d t n v) = true := by
  simp only [twf, Bool.and_eq_true, decide_eq_true_eq, List.all_eq_true] at h ⊢
  obtain ⟨hp, hd⟩ := h
  constructor
  · unfold tset
    rw [List.append_assoc, List.pairwise_append, List.pairwise_append]
    refine ⟨hp.filter _, ⟨?_, hp.filter _, ?_⟩, ?_⟩
    · split <;> simp
    · intro a ha b hb
      split at ha
      · simp at ha
      · simp at ha hb; subst ha; exact hb.2
    · intro a ha b hb
      simp only [List.mem_filter, decide_eq_true_eq, List.mem_append] at ha hb
      rcases hb with hb | hb
      · split at hb
        · simp at hb
        · simp at hb; subst hb; exact ha.2
      · omega
  · intro e he
    unfold tset at he
    simp only [List.mem_append, List.mem_filter] at he
    rcases he with (he | he) | he
    · exact hd e he.1
    · split at he
      · simp at he
      · rename_i hv; simp at he; subst he; exact hv
    · exact hd e he.1

theorem twf_tmod (t : Tbl α) (n : Nat) (f : α → α) (h : twf d t = true) : twf d (tmod d t n f) = true := twf_tset d t n _ h
theorem twf_nil : twf d ([] : Tbl α) = true := by simp [twf]
end

end Sys2Proof.Machine
end

