-- ==== Sys2Proof/Laws/Ops.lean ====
section
/-! SUPPORT. What the shared operations do: registers, outputs, counted events, faults, a configuration access, and
what a command's end leaves. -/

namespace Sys2Proof.Machine

/-! ### Registers -/

/-- A field after it is written. -/
@[simp] theorem State.get_put (s : State) (f : Fld) (v i n : Nat) : (s.put f v i n).get f i n = v % 2 ^ f.len := by
  simp [State.get, State.put]
/-- Any other field. -/
theorem State.get_put_ne (s : State) (f g : Fld) (v i n j m : Nat) (h : g.key j m ≠ f.key i n) :
    (s.put f v i n).get g j m = s.get g j m := congrArg (· % 2 ^ g.len) (tget_tset_ne _ _ _ _ _ _ h)
/-- Its width bounds a field in every state. -/
theorem State.get_lt (s : State) (f : Fld) (i n : Nat) : s.get f i n < 2 ^ f.len := Nat.mod_lt _ (Nat.two_pow_pos _)
theorem State.get_putB (s : State) (f : Fld) (b : Bool) (i n : Nat) : (s.putB f b i n).get f i n = bnat b % 2 ^ f.len := s.get_put f _ i n
theorem State.get_putB_ne (s : State) (f g : Fld) (b : Bool) (i n j m : Nat) (h : g.key j m ≠ f.key i n) :
    (s.putB f b i n).get g j m = s.get g j m := s.get_put_ne f g _ i n j m h
/-- A one-bit field after it is written. -/
theorem State.flag_putB (s : State) (f : Fld) (b : Bool) (i n : Nat) (h : 0 < f.len) : (s.putB f b i n).flag f i n = b := by
  have h2 : 1 < 2 ^ f.len := Nat.one_lt_two_pow (by omega)
  unfold State.flag
  rw [State.get_putB]
  cases b
  · simp [bnat]
  · simp [bnat, Nat.mod_eq_of_lt h2]
/-- A counter after an increment: it saturates. -/
theorem State.get_bump (s : State) (f : Fld) (i n k : Nat) : (s.bump f i n k).get f i n = min (s.get f i n + k) (2 ^ f.len - 1) := by
  have : 0 < 2 ^ f.len := Nat.two_pow_pos _
  unfold State.bump
  rw [State.get_put, Nat.mod_eq_of_lt (by omega)]
theorem State.get_bump_ne (s : State) (f g : Fld) (i n k j m : Nat) (h : g.key j m ≠ f.key i n) :
    (s.bump f i n k).get g j m = s.get g j m := s.get_put_ne f g _ i n j m h
/-- An event sets its bit, -/
theorem State.evt_bit (s : State) (p b : Nat) (h : b < 32) : ((s.evt p b).get F.EVT_STAT_EVT p).testBit b = true := by
  unfold State.evt
  rw [State.get_put, show F.EVT_STAT_EVT.len = 32 from rfl, Nat.testBit_mod_two_pow]
  simp [h]
/-- keeps every other bit, and no field besides is changed. -/
theorem State.evt_bit_ne (s : State) (p b c : Nat) (h : c < 32) (hb : c ≠ b) :
    ((s.evt p b).get F.EVT_STAT_EVT p).testBit c = (s.get F.EVT_STAT_EVT p).testBit c := by
  unfold State.evt
  rw [State.get_put, show F.EVT_STAT_EVT.len = 32 from rfl, Nat.testBit_mod_two_pow]
  simp [h, Ne.symm hb]
theorem State.get_evt_ne (s : State) (g : Fld) (p b j m : Nat) (h : g.key j m ≠ F.EVT_STAT_EVT.key p 0) :
    (s.evt p b).get g j m = s.get g j m := s.get_put_ne _ g _ p 0 j m h
/-- A register read depends on the registers alone. -/
theorem State.get_congr (s t : State) (h : t.regs = s.regs) (f : Fld) (i n : Nat) : t.get f i n = s.get f i n := by
  simp [State.get, h]
theorem State.flag_congr (s t : State) (h : t.regs = s.regs) (f : Fld) (i n : Nat) : t.flag f i n = s.flag f i n := by
  simp [State.flag, State.get, h]

/-! ### Outputs, counted events, faults, free values -/

@[simp] theorem State.drive_pending (s : State) (x : Out) : (s.drive x).pending = s.pending := by unfold State.drive; split <;> rfl
@[simp] theorem State.drive_fclk (s : State) (x : Out) : (s.drive x).fclk = s.fclk := by unfold State.drive; split <;> rfl
@[simp] theorem State.drive_freeCtr (s : State) (x : Out) : (s.drive x).freeCtr = s.freeCtr := by unfold State.drive; split <;> rfl
@[simp] theorem State.drive_su (s : State) (x : Out) : (s.drive x).su = s.su := by unfold State.drive; split <;> rfl
@[simp] theorem State.drive_regs (s : State) (x : Out) : (s.drive x).regs = s.regs := by unfold State.drive; split <;> rfl
@[simp] theorem State.drive_halts (s : State) (x : Out) : (s.drive x).halts = s.halts := by unfold State.drive; split <;> rfl
@[simp] theorem State.drive_stns (s : State) (x : Out) : (s.drive x).stns = s.stns := by unfold State.drive; split <;> rfl
@[simp] theorem State.drive_jct (s : State) (x : Out) : (s.drive x).jct = s.jct := by unfold State.drive; split <;> rfl
@[simp] theorem State.drive_net (s : State) (x : Out) : (s.drive x).net = s.net := by unfold State.drive; split <;> rfl
@[simp] theorem State.drive_ports (s : State) (x : Out) : (s.drive x).ports = s.ports := by unfold State.drive; split <;> rfl
@[simp] theorem State.drive_ledgers (s : State) (x : Out) : (s.drive x).ledgers = s.ledgers := by unfold State.drive; split <;> rfl
@[simp] theorem State.drive_jobs (s : State) (x : Out) : (s.drive x).jobs = s.jobs := by unfold State.drive; split <;> rfl
@[simp] theorem State.drive_crd (s : State) (x : Out) : (s.drive x).crd = s.crd := by unfold State.drive; split <;> rfl
@[simp] theorem State.drive_granted (s : State) (x : Out) : (s.drive x).granted = s.granted := by unfold State.drive; split <;> rfl
@[simp] theorem State.drive_freed (s : State) (x : Out) : (s.drive x).freed = s.freed := by unfold State.drive; split <;> rfl
@[simp] theorem State.drive_prots (s : State) (x : Out) : (s.drive x).prots = s.prots := by unfold State.drive; split <;> rfl
@[simp] theorem State.drive_perf (s : State) (x : Out) : (s.drive x).perf = s.perf := by unfold State.drive; split <;> rfl
@[simp] theorem State.drive_occ (s : State) (x : Out) : (s.drive x).occ = s.occ := by unfold State.drive; split <;> rfl
@[simp] theorem State.drive_trace (s : State) (x : Out) : (s.drive x).trace = s.trace := by unfold State.drive; split <;> rfl
@[simp] theorem State.drive_traceAt (s : State) (x : Out) : (s.drive x).traceAt = s.traceAt := by unfold State.drive; split <;> rfl
@[simp] theorem State.drive_parkImg (s : State) (x : Out) : (s.drive x).parkImg = s.parkImg := by unfold State.drive; split <;> rfl
/-- An output in service. -/
theorem State.drive_out (s : State) (x : Out) (h : s.su.wInstr.underTest = false) : (s.drive x).out = s.out ++ [x] := by
  unfold State.drive; simp [h]

@[simp] theorem State.occur_pending (s : State) (p : Part) (c n : Nat) : (s.occur p c n).pending = s.pending := by unfold State.occur; split <;> rfl
@[simp] theorem State.occur_out (s : State) (p : Part) (c n : Nat) : (s.occur p c n).out = s.out := by unfold State.occur; split <;> rfl
@[simp] theorem State.occur_fclk (s : State) (p : Part) (c n : Nat) : (s.occur p c n).fclk = s.fclk := by unfold State.occur; split <;> rfl
@[simp] theorem State.occur_freeCtr (s : State) (p : Part) (c n : Nat) : (s.occur p c n).freeCtr = s.freeCtr := by unfold State.occur; split <;> rfl
@[simp] theorem State.occur_su (s : State) (p : Part) (c n : Nat) : (s.occur p c n).su = s.su := by unfold State.occur; split <;> rfl
@[simp] theorem State.occur_halts (s : State) (p : Part) (c n : Nat) : (s.occur p c n).halts = s.halts := by unfold State.occur; split <;> rfl
@[simp] theorem State.occur_stns (s : State) (p : Part) (c n : Nat) : (s.occur p c n).stns = s.stns := by unfold State.occur; split <;> rfl
@[simp] theorem State.occur_jct (s : State) (p : Part) (c n : Nat) : (s.occur p c n).jct = s.jct := by unfold State.occur; split <;> rfl
@[simp] theorem State.occur_net (s : State) (p : Part) (c n : Nat) : (s.occur p c n).net = s.net := by unfold State.occur; split <;> rfl
@[simp] theorem State.occur_ports (s : State) (p : Part) (c n : Nat) : (s.occur p c n).ports = s.ports := by unfold State.occur; split <;> rfl
@[simp] theorem State.occur_ledgers (s : State) (p : Part) (c n : Nat) : (s.occur p c n).ledgers = s.ledgers := by unfold State.occur; split <;> rfl
@[simp] theorem State.occur_jobs (s : State) (p : Part) (c n : Nat) : (s.occur p c n).jobs = s.jobs := by unfold State.occur; split <;> rfl
@[simp] theorem State.occur_crd (s : State) (p : Part) (c n : Nat) : (s.occur p c n).crd = s.crd := by unfold State.occur; split <;> rfl
@[simp] theorem State.occur_granted (s : State) (p : Part) (c n : Nat) : (s.occur p c n).granted = s.granted := by unfold State.occur; split <;> rfl
@[simp] theorem State.occur_freed (s : State) (p : Part) (c n : Nat) : (s.occur p c n).freed = s.freed := by unfold State.occur; split <;> rfl
@[simp] theorem State.occur_prots (s : State) (p : Part) (c n : Nat) : (s.occur p c n).prots = s.prots := by unfold State.occur; split <;> rfl
@[simp] theorem State.occur_trace (s : State) (p : Part) (c n : Nat) : (s.occur p c n).trace = s.trace := by unfold State.occur; split <;> rfl
@[simp] theorem State.occur_traceAt (s : State) (p : Part) (c n : Nat) : (s.occur p c n).traceAt = s.traceAt := by unfold State.occur; split <;> rfl
@[simp] theorem State.occur_parkImg (s : State) (p : Part) (c n : Nat) : (s.occur p c n).parkImg = s.parkImg := by unfold State.occur; split <;> rfl

@[simp] theorem State.fault_pending (s : State) (c p d : Nat) : (s.fault c p d).pending = s.pending := by unfold State.fault; dsimp only; split <;> rfl
@[simp] theorem State.fault_out (s : State) (c p d : Nat) : (s.fault c p d).out = s.out := by unfold State.fault; dsimp only; split <;> rfl
@[simp] theorem State.fault_fclk (s : State) (c p d : Nat) : (s.fault c p d).fclk = s.fclk := by unfold State.fault; dsimp only; split <;> rfl
@[simp] theorem State.fault_freeCtr (s : State) (c p d : Nat) : (s.fault c p d).freeCtr = s.freeCtr := by unfold State.fault; dsimp only; split <;> rfl
@[simp] theorem State.fault_su (s : State) (c p d : Nat) : (s.fault c p d).su = s.su := by unfold State.fault; dsimp only; split <;> rfl
@[simp] theorem State.fault_halts (s : State) (c p d : Nat) : (s.fault c p d).halts = s.halts := by unfold State.fault; dsimp only; split <;> rfl
@[simp] theorem State.fault_stns (s : State) (c p d : Nat) : (s.fault c p d).stns = s.stns := by unfold State.fault; dsimp only; split <;> rfl
@[simp] theorem State.fault_net (s : State) (c p d : Nat) : (s.fault c p d).net = s.net := by unfold State.fault; dsimp only; split <;> rfl
@[simp] theorem State.fault_ports (s : State) (c p d : Nat) : (s.fault c p d).ports = s.ports := by unfold State.fault; dsimp only; split <;> rfl
@[simp] theorem State.fault_ledgers (s : State) (c p d : Nat) : (s.fault c p d).ledgers = s.ledgers := by unfold State.fault; dsimp only; split <;> rfl
@[simp] theorem State.fault_jobs (s : State) (c p d : Nat) : (s.fault c p d).jobs = s.jobs := by unfold State.fault; dsimp only; split <;> rfl
@[simp] theorem State.fault_crd (s : State) (c p d : Nat) : (s.fault c p d).crd = s.crd := by unfold State.fault; dsimp only; split <;> rfl
@[simp] theorem State.fault_granted (s : State) (c p d : Nat) : (s.fault c p d).granted = s.granted := by unfold State.fault; dsimp only; split <;> rfl
@[simp] theorem State.fault_freed (s : State) (c p d : Nat) : (s.fault c p d).freed = s.freed := by unfold State.fault; dsimp only; split <;> rfl
@[simp] theorem State.fault_prots (s : State) (c p d : Nat) : (s.fault c p d).prots = s.prots := by unfold State.fault; dsimp only; split <;> rfl
@[simp] theorem State.fault_perf (s : State) (c p d : Nat) : (s.fault c p d).perf = s.perf := by unfold State.fault; dsimp only; split <;> rfl
@[simp] theorem State.fault_occ (s : State) (c p d : Nat) : (s.fault c p d).occ = s.occ := by unfold State.fault; dsimp only; split <;> rfl
@[simp] theorem State.fault_trace (s : State) (c p d : Nat) : (s.fault c p d).trace = s.trace := by unfold State.fault; dsimp only; split <;> rfl
@[simp] theorem State.fault_traceAt (s : State) (c p d : Nat) : (s.fault c p d).traceAt = s.traceAt := by unfold State.fault; dsimp only; split <;> rfl
@[simp] theorem State.fault_parkImg (s : State) (c p d : Nat) : (s.fault c p d).parkImg = s.parkImg := by unfold State.fault; dsimp only; split <;> rfl

@[simp] theorem State.fresh_pending (s : State) : s.fresh.2.pending = s.pending := rfl
@[simp] theorem State.fresh_out (s : State) : s.fresh.2.out = s.out := rfl
@[simp] theorem State.fresh_fclk (s : State) : s.fresh.2.fclk = s.fclk := rfl
@[simp] theorem State.fresh_su (s : State) : s.fresh.2.su = s.su := rfl
@[simp] theorem State.fresh_regs (s : State) : s.fresh.2.regs = s.regs := rfl
@[simp] theorem State.fresh_halts (s : State) : s.fresh.2.halts = s.halts := rfl
@[simp] theorem State.fresh_stns (s : State) : s.fresh.2.stns = s.stns := rfl
@[simp] theorem State.fresh_jct (s : State) : s.fresh.2.jct = s.jct := rfl
@[simp] theorem State.fresh_net (s : State) : s.fresh.2.net = s.net := rfl
@[simp] theorem State.fresh_ports (s : State) : s.fresh.2.ports = s.ports := rfl
@[simp] theorem State.fresh_ledgers (s : State) : s.fresh.2.ledgers = s.ledgers := rfl
@[simp] theorem State.fresh_jobs (s : State) : s.fresh.2.jobs = s.jobs := rfl
@[simp] theorem State.fresh_crd (s : State) : s.fresh.2.crd = s.crd := rfl
@[simp] theorem State.fresh_granted (s : State) : s.fresh.2.granted = s.granted := rfl
@[simp] theorem State.fresh_freed (s : State) : s.fresh.2.freed = s.freed := rfl
@[simp] theorem State.fresh_prots (s : State) : s.fresh.2.prots = s.prots := rfl
@[simp] theorem State.fresh_perf (s : State) : s.fresh.2.perf = s.perf := rfl
@[simp] theorem State.fresh_occ (s : State) : s.fresh.2.occ = s.occ := rfl
@[simp] theorem State.fresh_trace (s : State) : s.fresh.2.trace = s.trace := rfl
@[simp] theorem State.fresh_traceAt (s : State) : s.fresh.2.traceAt = s.traceAt := rfl
@[simp] theorem State.fresh_parkImg (s : State) : s.fresh.2.parkImg = s.parkImg := rfl

/-! ### What a command's end leaves -/

theorem State.injectAt_pending (s t : State) (i : Nat) : (s.injectAt t i).pending = t.pending := by
  unfold State.injectAt; dsimp only; repeat' split
  all_goals rfl
theorem State.injectAt_out (s t : State) (i : Nat) : (s.injectAt t i).out = t.out := by
  unfold State.injectAt; dsimp only; repeat' split
  all_goals rfl
theorem State.injectAt_fclk (s t : State) (i : Nat) : (s.injectAt t i).fclk = t.fclk := by
  unfold State.injectAt; dsimp only; repeat' split
  all_goals rfl
theorem State.injectAt_su (s t : State) (i : Nat) : (s.injectAt t i).su = t.su := by
  unfold State.injectAt; dsimp only; repeat' split
  all_goals rfl
theorem State.injectAt_regs (s t : State) (i : Nat) : (s.injectAt t i).regs = t.regs := by
  unfold State.injectAt; dsimp only; repeat' split
  all_goals rfl
theorem State.injectAt_halts (s t : State) (i : Nat) : (s.injectAt t i).halts = t.halts := by
  unfold State.injectAt; dsimp only; repeat' split
  all_goals rfl
theorem State.injectAt_stns (s t : State) (i : Nat) : (s.injectAt t i).stns = t.stns := by
  unfold State.injectAt; dsimp only; repeat' split
  all_goals rfl
theorem State.injectAt_jct (s t : State) (i : Nat) : (s.injectAt t i).jct = t.jct := by
  unfold State.injectAt; dsimp only; repeat' split
  all_goals rfl
theorem State.injectAt_net (s t : State) (i : Nat) : (s.injectAt t i).net = t.net := by
  unfold State.injectAt; dsimp only; repeat' split
  all_goals rfl
theorem State.injectAt_ports (s t : State) (i : Nat) : (s.injectAt t i).ports = t.ports := by
  unfold State.injectAt; dsimp only; repeat' split
  all_goals rfl
theorem State.injectAt_ledgers (s t : State) (i : Nat) : (s.injectAt t i).ledgers = t.ledgers := by
  unfold State.injectAt; dsimp only; repeat' split
  all_goals rfl
theorem State.injectAt_jobs (s t : State) (i : Nat) : (s.injectAt t i).jobs = t.jobs := by
  unfold State.injectAt; dsimp only; repeat' split
  all_goals rfl
theorem State.injectAt_crd (s t : State) (i : Nat) : (s.injectAt t i).crd = t.crd := by
  unfold State.injectAt; dsimp only; repeat' split
  all_goals rfl
theorem State.injectAt_granted (s t : State) (i : Nat) : (s.injectAt t i).granted = t.granted := by
  unfold State.injectAt; dsimp only; repeat' split
  all_goals rfl
theorem State.injectAt_freed (s t : State) (i : Nat) : (s.injectAt t i).freed = t.freed := by
  unfold State.injectAt; dsimp only; repeat' split
  all_goals rfl
theorem State.injectAt_perf (s t : State) (i : Nat) : (s.injectAt t i).perf = t.perf := by
  unfold State.injectAt; dsimp only; repeat' split
  all_goals rfl
theorem State.injectAt_occ (s t : State) (i : Nat) : (s.injectAt t i).occ = t.occ := by
  unfold State.injectAt; dsimp only; repeat' split
  all_goals rfl
theorem State.injectAt_trace (s t : State) (i : Nat) : (s.injectAt t i).trace = t.trace := by
  unfold State.injectAt; dsimp only; repeat' split
  all_goals rfl
theorem State.injectAt_traceAt (s t : State) (i : Nat) : (s.injectAt t i).traceAt = t.traceAt := by
  unfold State.injectAt; dsimp only; repeat' split
  all_goals rfl
theorem State.injectAt_parkImg (s t : State) (i : Nat) : (s.injectAt t i).parkImg = t.parkImg := by
  unfold State.injectAt; dsimp only; repeat' split
  all_goals rfl
@[simp] theorem State.inject_pending (s t : State) : (s.inject t).pending = t.pending := by
  simp only [State.inject, show List.range 5 = [0, 1, 2, 3, 4] from rfl, List.foldl, State.injectAt_pending]
@[simp] theorem State.inject_out (s t : State) : (s.inject t).out = t.out := by
  simp only [State.inject, show List.range 5 = [0, 1, 2, 3, 4] from rfl, List.foldl, State.injectAt_out]
@[simp] theorem State.inject_fclk (s t : State) : (s.inject t).fclk = t.fclk := by
  simp only [State.inject, show List.range 5 = [0, 1, 2, 3, 4] from rfl, List.foldl, State.injectAt_fclk]
@[simp] theorem State.inject_su (s t : State) : (s.inject t).su = t.su := by
  simp only [State.inject, show List.range 5 = [0, 1, 2, 3, 4] from rfl, List.foldl, State.injectAt_su]
@[simp] theorem State.inject_regs (s t : State) : (s.inject t).regs = t.regs := by
  simp only [State.inject, show List.range 5 = [0, 1, 2, 3, 4] from rfl, List.foldl, State.injectAt_regs]
@[simp] theorem State.inject_halts (s t : State) : (s.inject t).halts = t.halts := by
  simp only [State.inject, show List.range 5 = [0, 1, 2, 3, 4] from rfl, List.foldl, State.injectAt_halts]
@[simp] theorem State.inject_stns (s t : State) : (s.inject t).stns = t.stns := by
  simp only [State.inject, show List.range 5 = [0, 1, 2, 3, 4] from rfl, List.foldl, State.injectAt_stns]
@[simp] theorem State.inject_jct (s t : State) : (s.inject t).jct = t.jct := by
  simp only [State.inject, show List.range 5 = [0, 1, 2, 3, 4] from rfl, List.foldl, State.injectAt_jct]
@[simp] theorem State.inject_net (s t : State) : (s.inject t).net = t.net := by
  simp only [State.inject, show List.range 5 = [0, 1, 2, 3, 4] from rfl, List.foldl, State.injectAt_net]
@[simp] theorem State.inject_ports (s t : State) : (s.inject t).ports = t.ports := by
  simp only [State.inject, show List.range 5 = [0, 1, 2, 3, 4] from rfl, List.foldl, State.injectAt_ports]
@[simp] theorem State.inject_ledgers (s t : State) : (s.inject t).ledgers = t.ledgers := by
  simp only [State.inject, show List.range 5 = [0, 1, 2, 3, 4] from rfl, List.foldl, State.injectAt_ledgers]
@[simp] theorem State.inject_jobs (s t : State) : (s.inject t).jobs = t.jobs := by
  simp only [State.inject, show List.range 5 = [0, 1, 2, 3, 4] from rfl, List.foldl, State.injectAt_jobs]
@[simp] theorem State.inject_crd (s t : State) : (s.inject t).crd = t.crd := by
  simp only [State.inject, show List.range 5 = [0, 1, 2, 3, 4] from rfl, List.foldl, State.injectAt_crd]
@[simp] theorem State.inject_granted (s t : State) : (s.inject t).granted = t.granted := by
  simp only [State.inject, show List.range 5 = [0, 1, 2, 3, 4] from rfl, List.foldl, State.injectAt_granted]
@[simp] theorem State.inject_freed (s t : State) : (s.inject t).freed = t.freed := by
  simp only [State.inject, show List.range 5 = [0, 1, 2, 3, 4] from rfl, List.foldl, State.injectAt_freed]
@[simp] theorem State.inject_perf (s t : State) : (s.inject t).perf = t.perf := by
  simp only [State.inject, show List.range 5 = [0, 1, 2, 3, 4] from rfl, List.foldl, State.injectAt_perf]
@[simp] theorem State.inject_occ (s t : State) : (s.inject t).occ = t.occ := by
  simp only [State.inject, show List.range 5 = [0, 1, 2, 3, 4] from rfl, List.foldl, State.injectAt_occ]
@[simp] theorem State.inject_trace (s t : State) : (s.inject t).trace = t.trace := by
  simp only [State.inject, show List.range 5 = [0, 1, 2, 3, 4] from rfl, List.foldl, State.injectAt_trace]
@[simp] theorem State.inject_traceAt (s t : State) : (s.inject t).traceAt = t.traceAt := by
  simp only [State.inject, show List.range 5 = [0, 1, 2, 3, 4] from rfl, List.foldl, State.injectAt_traceAt]
@[simp] theorem State.inject_parkImg (s t : State) : (s.inject t).parkImg = t.parkImg := by
  simp only [State.inject, show List.range 5 = [0, 1, 2, 3, 4] from rfl, List.foldl, State.injectAt_parkImg]

@[simp] theorem State.keep_pending (s t : State) : (s.keep t).pending = s.pending := rfl
@[simp] theorem State.keep_out (s t : State) : (s.keep t).out = t.out := State.inject_out s t
@[simp] theorem State.keep_fclk (s t : State) : (s.keep t).fclk = t.fclk := State.inject_fclk s t
@[simp] theorem State.keep_su (s t : State) : (s.keep t).su = s.su := rfl
@[simp] theorem State.keep_regs (s t : State) : (s.keep t).regs = t.regs := State.inject_regs s t
@[simp] theorem State.keep_halts (s t : State) : (s.keep t).halts = t.halts := State.inject_halts s t
@[simp] theorem State.keep_stns (s t : State) : (s.keep t).stns = t.stns := State.inject_stns s t
@[simp] theorem State.keep_jct (s t : State) : (s.keep t).jct = t.jct := State.inject_jct s t
@[simp] theorem State.keep_net (s t : State) : (s.keep t).net = t.net := State.inject_net s t
@[simp] theorem State.keep_ports (s t : State) : (s.keep t).ports = t.ports := State.inject_ports s t
@[simp] theorem State.keep_ledgers (s t : State) : (s.keep t).ledgers = t.ledgers := State.inject_ledgers s t
@[simp] theorem State.keep_jobs (s t : State) : (s.keep t).jobs = t.jobs := State.inject_jobs s t
@[simp] theorem State.keep_crd (s t : State) : (s.keep t).crd = t.crd := State.inject_crd s t
@[simp] theorem State.keep_granted (s t : State) : (s.keep t).granted = t.granted := State.inject_granted s t
@[simp] theorem State.keep_freed (s t : State) : (s.keep t).freed = t.freed := State.inject_freed s t
@[simp] theorem State.keep_perf (s t : State) : (s.keep t).perf = t.perf := State.inject_perf s t
@[simp] theorem State.keep_occ (s t : State) : (s.keep t).occ = t.occ := State.inject_occ s t
@[simp] theorem State.keep_trace (s t : State) : (s.keep t).trace = s.trace := rfl
@[simp] theorem State.keep_traceAt (s t : State) : (s.keep t).traceAt = t.traceAt := State.inject_traceAt s t
@[simp] theorem State.keep_parkImg (s t : State) : (s.keep t).parkImg = t.parkImg := State.inject_parkImg s t

@[simp] theorem State.keepQ_pending (s t : State) : (s.keepQ t).pending = s.pending := rfl
@[simp] theorem State.keepQ_out (s t : State) : (s.keepQ t).out = t.out := State.inject_out s t
@[simp] theorem State.keepQ_fclk (s t : State) : (s.keepQ t).fclk = t.fclk := State.inject_fclk s t
@[simp] theorem State.keepQ_su (s t : State) : (s.keepQ t).su = t.su := State.inject_su s t
@[simp] theorem State.keepQ_regs (s t : State) : (s.keepQ t).regs = t.regs := State.inject_regs s t
@[simp] theorem State.keepQ_halts (s t : State) : (s.keepQ t).halts = t.halts := State.inject_halts s t
@[simp] theorem State.keepQ_stns (s t : State) : (s.keepQ t).stns = t.stns := State.inject_stns s t
@[simp] theorem State.keepQ_jct (s t : State) : (s.keepQ t).jct = t.jct := State.inject_jct s t
@[simp] theorem State.keepQ_net (s t : State) : (s.keepQ t).net = t.net := State.inject_net s t
@[simp] theorem State.keepQ_ports (s t : State) : (s.keepQ t).ports = t.ports := State.inject_ports s t
@[simp] theorem State.keepQ_ledgers (s t : State) : (s.keepQ t).ledgers = t.ledgers := State.inject_ledgers s t
@[simp] theorem State.keepQ_jobs (s t : State) : (s.keepQ t).jobs = t.jobs := State.inject_jobs s t
@[simp] theorem State.keepQ_crd (s t : State) : (s.keepQ t).crd = t.crd := State.inject_crd s t
@[simp] theorem State.keepQ_granted (s t : State) : (s.keepQ t).granted = t.granted := State.inject_granted s t
@[simp] theorem State.keepQ_freed (s t : State) : (s.keepQ t).freed = t.freed := State.inject_freed s t
@[simp] theorem State.keepQ_perf (s t : State) : (s.keepQ t).perf = t.perf := State.inject_perf s t
@[simp] theorem State.keepQ_occ (s t : State) : (s.keepQ t).occ = t.occ := State.inject_occ s t
@[simp] theorem State.keepQ_trace (s t : State) : (s.keepQ t).trace = s.trace := rfl
@[simp] theorem State.keepQ_traceAt (s t : State) : (s.keepQ t).traceAt = t.traceAt := State.inject_traceAt s t
@[simp] theorem State.keepQ_parkImg (s t : State) : (s.keepQ t).parkImg = t.parkImg := State.inject_parkImg s t

@[simp] theorem State.keepOb_pending (s t : State) : (s.keepOb t).pending = s.pending := rfl
@[simp] theorem State.keepOb_out (s t : State) : (s.keepOb t).out = t.out := State.inject_out s t
@[simp] theorem State.keepOb_fclk (s t : State) : (s.keepOb t).fclk = t.fclk := State.inject_fclk s t
@[simp] theorem State.keepOb_su (s t : State) : (s.keepOb t).su = s.su := rfl
@[simp] theorem State.keepOb_regs (s t : State) : (s.keepOb t).regs = t.regs := State.inject_regs s t
@[simp] theorem State.keepOb_halts (s t : State) : (s.keepOb t).halts = t.halts := State.inject_halts s t
@[simp] theorem State.keepOb_stns (s t : State) : (s.keepOb t).stns = t.stns := State.inject_stns s t
@[simp] theorem State.keepOb_jct (s t : State) : (s.keepOb t).jct = t.jct := State.inject_jct s t
@[simp] theorem State.keepOb_net (s t : State) : (s.keepOb t).net = t.net := State.inject_net s t
@[simp] theorem State.keepOb_ports (s t : State) : (s.keepOb t).ports = t.ports := State.inject_ports s t
@[simp] theorem State.keepOb_ledgers (s t : State) : (s.keepOb t).ledgers = t.ledgers := State.inject_ledgers s t
@[simp] theorem State.keepOb_jobs (s t : State) : (s.keepOb t).jobs = t.jobs := State.inject_jobs s t
@[simp] theorem State.keepOb_crd (s t : State) : (s.keepOb t).crd = t.crd := State.inject_crd s t
@[simp] theorem State.keepOb_granted (s t : State) : (s.keepOb t).granted = t.granted := State.inject_granted s t
@[simp] theorem State.keepOb_freed (s t : State) : (s.keepOb t).freed = t.freed := State.inject_freed s t
@[simp] theorem State.keepOb_perf (s t : State) : (s.keepOb t).perf = t.perf := State.inject_perf s t
@[simp] theorem State.keepOb_occ (s t : State) : (s.keepOb t).occ = t.occ := State.inject_occ s t
@[simp] theorem State.keepOb_trace (s t : State) : (s.keepOb t).trace = t.trace := State.inject_trace s t
@[simp] theorem State.keepOb_traceAt (s t : State) : (s.keepOb t).traceAt = t.traceAt := State.inject_traceAt s t
@[simp] theorem State.keepOb_parkImg (s t : State) : (s.keepOb t).parkImg = t.parkImg := State.inject_parkImg s t

@[simp] theorem State.keepPark_pending (s t : State) : (s.keepPark t).pending = s.pending := rfl
@[simp] theorem State.keepPark_out (s t : State) : (s.keepPark t).out = t.out := by
  unfold State.keepPark; dsimp only; split <;> simp
@[simp] theorem State.keepPark_fclk (s t : State) : (s.keepPark t).fclk = t.fclk := by
  unfold State.keepPark; dsimp only; split <;> simp
@[simp] theorem State.keepPark_halts (s t : State) : (s.keepPark t).halts = t.halts := by
  unfold State.keepPark; dsimp only; split <;> simp
@[simp] theorem State.keepPark_stns (s t : State) : (s.keepPark t).stns = t.stns := by
  unfold State.keepPark; dsimp only; split <;> simp
@[simp] theorem State.keepPark_jct (s t : State) : (s.keepPark t).jct = t.jct := by
  unfold State.keepPark; dsimp only; split <;> simp
@[simp] theorem State.keepPark_net (s t : State) : (s.keepPark t).net = t.net := by
  unfold State.keepPark; dsimp only; split <;> simp
@[simp] theorem State.keepPark_ports (s t : State) : (s.keepPark t).ports = t.ports := by
  unfold State.keepPark; dsimp only; split <;> simp
@[simp] theorem State.keepPark_ledgers (s t : State) : (s.keepPark t).ledgers = t.ledgers := by
  unfold State.keepPark; dsimp only; split <;> simp
@[simp] theorem State.keepPark_jobs (s t : State) : (s.keepPark t).jobs = t.jobs := by
  unfold State.keepPark; dsimp only; split <;> simp
@[simp] theorem State.keepPark_crd (s t : State) : (s.keepPark t).crd = t.crd := by
  unfold State.keepPark; dsimp only; split <;> simp
@[simp] theorem State.keepPark_granted (s t : State) : (s.keepPark t).granted = t.granted := by
  unfold State.keepPark; dsimp only; split <;> simp
@[simp] theorem State.keepPark_freed (s t : State) : (s.keepPark t).freed = t.freed := by
  unfold State.keepPark; dsimp only; split <;> simp
@[simp] theorem State.keepPark_perf (s t : State) : (s.keepPark t).perf = t.perf := by
  unfold State.keepPark; dsimp only; split <;> simp
@[simp] theorem State.keepPark_occ (s t : State) : (s.keepPark t).occ = t.occ := by
  unfold State.keepPark; dsimp only; split <;> simp
@[simp] theorem State.keepPark_trace (s t : State) : (s.keepPark t).trace = s.trace := rfl
@[simp] theorem State.keepPark_traceAt (s t : State) : (s.keepPark t).traceAt = t.traceAt := by
  unfold State.keepPark; dsimp only; split <;> simp
@[simp] theorem State.keepPark_parkImg (s t : State) : (s.keepPark t).parkImg = t.parkImg := by
  unfold State.keepPark; dsimp only; split <;> simp
@[simp] theorem State.inject_get (s t : State) (f : Fld) (i n : Nat) : (s.inject t).get f i n = t.get f i n := State.get_congr _ _ (by simp) f i n
@[simp] theorem State.keep_get (s t : State) (f : Fld) (i n : Nat) : (s.keep t).get f i n = t.get f i n := State.get_congr _ _ (by simp) f i n
@[simp] theorem State.keepQ_get (s t : State) (f : Fld) (i n : Nat) : (s.keepQ t).get f i n = t.get f i n := State.get_congr _ _ (by simp) f i n
@[simp] theorem State.keepOb_get (s t : State) (f : Fld) (i n : Nat) : (s.keepOb t).get f i n = t.get f i n := State.get_congr _ _ (by simp) f i n
theorem State.keepPark_get (s t : State) (f : Fld) (i n : Nat) (h : f.key i n ≠ F.EVT_STAT_EVT.key 0x2A 0) :
    (s.keepPark t).get f i n = t.get f i n := by
  have e : (s.keepPark t).get f i n = (if (parkSu s.su (s.inject t)).ready && !s.su.ready then (s.inject t).evt 0x2A 1 else s.inject t).get f i n := rfl
  rw [e]; split
  · rw [State.get_evt_ne _ _ _ _ _ _ h]; simp
  · simp

@[simp] theorem State.quiet_get (s : State) (f : Fld) (i n : Nat) : s.quiet.get f i n = s.get f i n := rfl
@[simp] theorem State.quiet_flag (s : State) (f : Fld) (i n : Nat) : s.quiet.flag f i n = s.flag f i n := rfl
@[simp] theorem State.emit_get (s : State) (a b : Part) (m : Msg) (f : Fld) (i n : Nat) : (s.emit a b m).get f i n = s.get f i n := rfl
@[simp] theorem State.modStn_get (s : State) (k : Nat) (g : Station → Station) (f : Fld) (i n : Nat) : (s.modStn k g).get f i n = s.get f i n := rfl
@[simp] theorem State.modMem_get (s : State) (k : Nat) (g : StnMem → StnMem) (f : Fld) (i n : Nat) : (s.modMem k g).get f i n = s.get f i n := rfl
@[simp] theorem State.modSlot_get (s : State) (k p : Nat) (g : Slot → Slot) (f : Fld) (i n : Nat) : (s.modSlot k p g).get f i n = s.get f i n := rfl
@[simp] theorem State.setVal_get (s : State) (k p : Nat) (v : Word64) (f : Fld) (i n : Nat) : (s.setVal k p v).get f i n = s.get f i n := rfl
@[simp] theorem State.setSrc_get (s : State) (k p : Nat) (v : BitVec 16) (f : Fld) (i n : Nat) : (s.setSrc k p v).get f i n = s.get f i n := rfl
@[simp] theorem State.modHalt_get (s : State) (k : Nat) (g : Halt → Halt) (f : Fld) (i n : Nat) : (s.modHalt k g).get f i n = s.get f i n := rfl
@[simp] theorem State.modWait_get (s : State) (h k : Nat) (g : WaitReg → WaitReg) (f : Fld) (i n : Nat) : (s.modWait h k g).get f i n = s.get f i n := rfl
@[simp] theorem State.modJct_get (s : State) (g : Jct → Jct) (f : Fld) (i n : Nat) : (s.modJct g).get f i n = s.get f i n := rfl
@[simp] theorem State.modSu_get (s : State) (g : StartUp → StartUp) (f : Fld) (i n : Nat) : (s.modSu g).get f i n = s.get f i n := rfl
@[simp] theorem State.modPort_get (s : State) (k : Nat) (g : Port → Port) (f : Fld) (i n : Nat) : (s.modPort k g).get f i n = s.get f i n := rfl
@[simp] theorem State.setJob_get (s : State) (k : Nat) (j : Option Job) (f : Fld) (i n : Nat) : (s.setJob k j).get f i n = s.get f i n := rfl
@[simp] theorem State.modProt_get (s : State) (k : Nat) (g : Prot → Prot) (f : Fld) (i n : Nat) : (s.modProt k g).get f i n = s.get f i n := rfl
@[simp] theorem State.modLedger_get (s : State) (k : Nat) (g : Ledger → Ledger) (f : Fld) (i n : Nat) : (s.modLedger k g).get f i n = s.get f i n := rfl
@[simp] theorem State.drive_get (s : State) (x : Out) (f : Fld) (i n : Nat) : (s.drive x).get f i n = s.get f i n := State.get_congr _ _ (by simp) f i n

/-! ### Stations, halts, messages -/

@[simp] theorem State.stn_modStn (s : State) (i : Nat) (f : Station → Station) : (s.modStn i f).stn i = f (s.stn i) := by
  simp [State.stn, State.modStn]
theorem State.stn_modStn_ne (s : State) (i j : Nat) (f : Station → Station) (h : j ≠ i) : (s.modStn i f).stn j = s.stn j :=
  tget_tset_ne _ _ _ _ _ _ h
@[simp] theorem State.mem_modMem (s : State) (i : Nat) (f : StnMem → StnMem) : (s.modMem i f).mem i = f (s.mem i) := by
  simp [State.mem, State.modMem]
theorem State.mem_modMem_ne (s : State) (i j : Nat) (f : StnMem → StnMem) (h : j ≠ i) : (s.modMem i f).mem j = s.mem j := by
  simp [State.mem, State.modMem, State.stn_modStn_ne _ _ _ _ h]
@[simp] theorem State.slot_modSlot (s : State) (i n : Nat) (f : Slot → Slot) : (s.modSlot i n f).slot i n = f (s.slot i n) := by
  simp [State.slot, State.modSlot]
theorem State.slot_modSlot_ne (s : State) (i n j m : Nat) (f : Slot → Slot) (h : j ≠ i ∨ m ≠ n) :
    (s.modSlot i n f).slot j m = s.slot j m := by
  by_cases hj : j = i
  · subst hj
    have hm : m ≠ n := by omega
    simp only [State.slot, State.modSlot, State.mem_modMem, tmod]
    exact tget_tset_ne _ _ _ _ _ _ hm
  · simp [State.slot, State.modSlot, State.mem_modMem_ne _ _ _ _ hj]
@[simp] theorem State.halt_modHalt (s : State) (i : Nat) (f : Halt → Halt) : (s.modHalt i f).halt i = f (s.halt i) := by
  simp [State.halt, State.modHalt]
theorem State.halt_modHalt_ne (s : State) (i j : Nat) (f : Halt → Halt) (h : j ≠ i) : (s.modHalt i f).halt j = s.halt j :=
  tget_tset_ne _ _ _ _ _ _ h
@[simp] theorem State.wait_modWait (s : State) (h i : Nat) (f : WaitReg → WaitReg) : (s.modWait h i f).wait h i = f (s.wait h i) := by
  simp [State.wait, State.modWait]
theorem State.stn_congr (s t : State) (h : t.stns = s.stns) (i : Nat) : t.stn i = s.stn i := by simp [State.stn, h]
theorem State.mem_congr (s t : State) (h : t.stns = s.stns) (i : Nat) : t.mem i = s.mem i := by simp [State.mem, State.stn, h]
theorem State.slot_congr (s t : State) (h : t.stns = s.stns) (i n : Nat) : t.slot i n = s.slot i n := by
  simp [State.slot, State.mem, State.stn, h]
theorem State.halt_congr (s t : State) (h : t.halts = s.halts) (i : Nat) : t.halt i = s.halt i := by simp [State.halt, h]

end Sys2Proof.Machine
end

