-- ==== Sys2Proof/Laws/Config.lean ====
section
/-! SUPPORT. What a configuration access does, and frames of the registers. -/

namespace Sys2Proof.Machine

/-- A write that is let through does what its register does, and is answered. -/
theorem State.cfgAccess_open (s : State) (p off : Nat) (f : State → State) (h : s.cfgOpen p off = true) :
    s.cfgAccess p off f = (f s).drive (.cfRsp 0) := by
  simp only [State.cfgOpen, Bool.and_eq_true, Bool.not_eq_true'] at h
  obtain ⟨⟨⟨⟨⟨⟨h1, h2⟩, h3⟩, h4⟩, h5⟩, h6⟩, h7⟩ := h
  unfold State.cfgAccess
  dsimp only
  rw [if_neg (by simp [h1]), if_neg (by simp [h2]), if_neg (by simpa using h3), if_neg (by simpa using h4),
    if_neg (by simpa using h5), if_neg (by intro hc; simp at hc; simp [hc] at h6; omega), if_neg (by simp [h7])]
@[simp] theorem State.quiet_cfgOpen (s : State) (p off : Nat) : s.quiet.cfgOpen p off = s.cfgOpen p off := rfl

/-! ### Frames -/

theorem RegsBut.refl (s : State) (ks : List Nat) : RegsBut s s ks := fun _ _ _ _ => rfl
theorem RegsBut.of_regs {s t : State} (h : t.regs = s.regs) (ks : List Nat) : RegsBut s t ks := fun f i n _ => State.get_congr s t h f i n
theorem RegsBut.trans {s t u : State} {ks : List Nat} (h : RegsBut s t ks) (k : RegsBut t u ks) : RegsBut s u ks :=
  fun f i n hk => (k f i n hk).trans (h f i n hk)
theorem RegsBut.put {s t : State} {ks : List Nat} (h : RegsBut s t ks) (f : Fld) (v i n : Nat) (hm : f.key i n ∈ ks) : RegsBut s (t.put f v i n) ks := by
  intro g j m hk
  have hne : g.key j m ≠ f.key i n := fun e => hk (by rw [e]; exact hm)
  rw [State.get_put_ne _ _ _ _ _ _ _ _ hne]
  exact h g j m hk
theorem RegsBut.putB {s t : State} {ks : List Nat} (h : RegsBut s t ks) (f : Fld) (b : Bool) (i n : Nat) (hm : f.key i n ∈ ks) : RegsBut s (t.putB f b i n) ks :=
  h.put f _ i n hm
theorem RegsBut.bump {s t : State} {ks : List Nat} (h : RegsBut s t ks) (f : Fld) (i n k : Nat) (hm : f.key i n ∈ ks) : RegsBut s (t.bump f i n k) ks :=
  h.put f _ i n hm
theorem RegsBut.evt {s t : State} {ks : List Nat} (h : RegsBut s t ks) (p b : Nat) (hm : F.EVT_STAT_EVT.key p 0 ∈ ks) : RegsBut s (t.evt p b) ks :=
  h.put _ _ p 0 hm
theorem RegsBut.drive {s t : State} {ks : List Nat} (h : RegsBut s t ks) (x : Out) : RegsBut s (t.drive x) ks :=
  fun f i n hk => (State.drive_get t x f i n).trans (h f i n hk)
theorem RegsBut.keep {s t : State} {ks : List Nat} (h : RegsBut s t ks) : RegsBut s (s.keep t) ks :=
  fun f i n hk => (State.keep_get s t f i n).trans (h f i n hk)

/-- A command that only writes registers and is answered. -/
theorem CfgAnswered.keep_drive (s t : State) (ho : t.out = []) (hs : t.su = s.su) : CfgAnswered s (s.keep (t.drive (.cfRsp 0))) := by
  intro h
  rw [State.keep_out, State.drive_out _ _ (by rw [hs]; exact h), ho]; rfl

end Sys2Proof.Machine
end

