-- ==== Sys2Proof/Laws/Rows.lean ====
section
/-! SUPPORT. A read of rows none of which is in error changes nothing. -/

namespace Sys2Proof.Machine

theorem State.bad_of_rowsGood {s : State} (h : s.rowsGood = true) (i : Nat) : (s.prot i).bad = [] := by
  have h5 := List.all_eq_true.mp h (min i 4) (List.mem_range.mpr (by omega))
  simpa [State.prot] using h5

@[simp] theorem State.badRows_of_rowsGood {s : State} (h : s.rowsGood = true) (i : Nat) (q : Nat → Nat → Bool) : s.badRows i q = [] := by
  simp [State.badRows, State.bad_of_rowsGood h]

@[simp] theorem State.reads_of_rowsGood {s : State} (h : s.rowsGood = true) (i src : Nat) (q : Nat → Nat → Bool) :
    s.reads i src q = (true, s) := by
  simp [State.reads, h]

@[simp] theorem State.readRow_of_rowsGood {s : State} (h : s.rowsGood = true) (i ram row src : Nat) :
    s.readRow i ram row [] src = (true, s) := by
  have hc : classify (s.syndromes i ram row []) = .clean := by
    simp [State.syndromes, State.bad_of_rowsGood h, classify]
  simp [State.readRow, hc]

end Sys2Proof.Machine
end

