-- ==== Sys2Proof/Machine/RegRead.lean ====
section
/-! DEFINITION. What a configuration read returns (17 R453 to R456, R460 to R462), and the interrupt lines (16 R442,
11 R317). A read changes nothing; that of PC_CNTn_LO, which latches PC_CNTn_HI, is the command PERF_COUNTER_READ. -/

namespace Sys2Proof.Machine

/-! ### The page header (17 R454, R464) -/

/-- KIND, and PAGE_CAP without INST. -/
def pageKind (p : Nat) : Nat × Nat :=
  match (canon p 0).1 with
  | 0x00 => (0x01, 0xC0) | 0x01 => (0x02, 0xC3) | 0x02 => (0x03, 0x60) | 0x03 => (0x04, 0x42) | 0x08 => (0x08, 0xA8)
  | 0x0C => (0x09, 0xA8) | 0x10 => (if p = 0x28 then (0x10, 0xC0) else (0x0A, 0xA8)) | 0x14 => (0x0B, 0xA9) | 0x18 => (0x0C, 0xE4)
  | 0x29 => (0x11, 0x21) | 0x2A => (0x12, 0x80) | 0x2B => (0x13, 0xE0) | 0x2C => (0x14, 0xE0) | 0x2D => (0x15, 0xE0)
  | _ => (0x20, 0x10)
/-- PAGE_CAP.INST: the station, halt or pavilion of the page. -/
def pageInst (p : Nat) : Nat := if p = 0x28 ∨ p = 0x29 then 0 else (canon p 0).2.1

/-- EVT_STAT AND EVT_EN of a page. -/
def State.evtOn (s : State) (p : Nat) : Nat := s.get F.EVT_STAT_EVT p &&& s.get F.EVT_EN_EN p
/-- The lowest set bit of a word. -/
def lowBit (w : Nat) : Nat := (lowestFrom w.testBit 0 32).getD 0

/-- VIEW5, RECOVERING and FAILED of a page's part. -/
def State.pageView (s : State) (p : Nat) : Bool :=
  s.viewAll || (match pageStn p with
    | some x => s.get F.REC_STAT_PHASE x ≠ 0
    | none => match pageHalt p with
      | some h => s.viewHalt h
      | none => s.get F.FD_JREC_PHASE ≠ 0)
def State.pageRecovering (s : State) (p : Nat) : Bool :=
  match pageStn p with
  | some x => s.get F.REC_STAT_PHASE x ≠ 0
  | none => match pageHalt p with
    | some h => (s.halt h).phase ≠ 0
    | none => decide (p < 0x40) && s.get F.FD_JREC_PHASE ≠ 0
def State.pageFailed (s : State) (p : Nat) : Bool :=
  match pageStn p with
  | some x => s.flag F.REC_STAT_FAILED x
  | none => match pageHalt p with
    | some h => s.flag F.REC_STAT_FAILED (h / 4)
    | none => decide (p < 0x40) && s.flag F.FD_JREC_FAILED

/-- A header register; PAGE_CTL and PAGE_LOCK of a mailbox page read zero (R455). -/
def State.readHeader (s : State) (p off : Nat) : Nat :=
  match off with
  | 0x000 => p + (pageKind p).1 * 2 ^ 8 + 0x6A31 * 2 ^ 16
  | 0x004 => 0x0101
  | 0x008 => (pageKind p).2 + pageInst p * 2 ^ 8
  | 0x00C => s.get F.PAGE_CTL_EXPERT p
  | 0x010 => s.get F.PAGE_CTL_EXPERT p + s.get F.PAGE_LOCK_LOCK p * 2 + bnat (s.pageView p) * 4 + bnat (s.pageRecovering p) * 8 +
      bnat (s.pageFailed p) * 16 + s.get F.PAGE_STAT_REFUSED p * 2 ^ 8
  | 0x014 => s.get F.EVT_STAT_EVT p
  | 0x018 => s.get F.EVT_EN_EN p
  | 0x020 => if s.evtOn p = 0 then 0 else lowBit (s.evtOn p) + 2 ^ 5
  | 0x024 => s.get F.PAGE_LOCK_LOCK p + s.get F.PAGE_LOCK_NOEXP p * 2
  | _ => 0

/-! ### Registers as they stand -/

/-- A register from its stored fields: command bits and write-only fields read zero (R461). Commands are over when
they have been taken, but for those that BUSY shows. -/
def State.readStored (s : State) (base inst off sel : Nat) : Nat :=
  (fieldsAt base off).foldl (fun n f => if f.acc = .WO ∨ f.acc = .W1S then n else n + s.get f inst sel * 2 ^ f.lo) 0

/-- A 64-bit value by halves. -/
def half (v : Word64) (hi : Bool) : Nat := if hi then v.toNat / 2 ^ 32 else v.toNat % 2 ^ 32

/-- Set bits of a vector. -/
def ones {w : Nat} (v : BitVec w) : Nat := ((List.range w).filter v.getLsbD).length

/-- Junction page 0x00. -/
def State.read00 (s : State) (off : Nat) : Nat :=
  match off with
  | 0x040 => s.su.die.toNat + bnat s.su.dup * 2 ^ 2
  | 0x044 => s.su.pkg.toNat + bnat s.su.pkgValid * 2 ^ 8 + bnat s.su.pkgDone * 2 ^ 9 + bnat s.su.pkgRefused * 2 ^ 10
  | 0x104 | 0x108 | 0x110 | 0x114 | 0x118 | 0x11C => s.readStored 0x00 0 off (s.get F.GANG_SEL_GANG)
  | 0x120 => s.su.calState.toNat + (if s.su.calState = 3 then s.su.calHalt.toNat else 0) * 2 ^ 2 + bnat s.su.calBadRt * 2 ^ 6 + bnat s.su.calDisagree * 2 ^ 7
  | _ => s.readStored 0x00 0 off 0

/-- Junction link page 0x01. -/
def State.read01 (s : State) (off : Nat) : Nat :=
  let e := s.get F.JF_SEL_IDX
  let c := s.comb e
  match off with
  | 0x040 => bnat s.su.up + bnat (s.jct.txq.any (fun t => t.seq.isSome)) * 2 + bnat (s.su.step = 6 && !s.su.pkgDone) * 4 + s.readStored 0x01 0 0x040 0
  | 0x04C => s.readStored 0x01 0 0x04C (s.get F.JL_IMP_SEL_IDX)
  | 0x050 => s.jct.proxies.length + s.readStored 0x01 0 0x050 0
  | 0x058 => s.jct.retained.length + s.readStored 0x01 0 0x058 0
  | 0x104 | 0x110 => s.readStored 0x01 0 off e
  | 0x108 => s.readStored 0x01 0 0x108 e % 2 ^ 23 + c.rnd.toNat * 2 ^ 23 + s.get F.JF_CFG_V 0 e * 2 ^ 31
  | 0x10C => c.rnd.toNat + c.count * 2 ^ 8 + bnat (!c.outMembers.isEmpty) * 2 ^ 15 + s.get F.JF_STAT_REFUSED 0 e * 2 ^ 16 + c.last.toNat * 2 ^ 17
  | _ => s.readStored 0x01 0 off 0

/-- Watch table rows of a pavilion: the highest occupancy among the stations (10 R306). -/
def State.watchUse (s : State) (p : BitVec 6) : Nat := (List.range 4).foldl (fun n si => max n (s.rowsOf si p)) 0

/-- Timetable page 0x02. -/
def State.read02 (s : State) (off : Nat) : Nat :=
  let p := s.get F.SH_SEL_PAV
  match off with
  | 0x068 => s.su.lineState.toNat + (if s.su.lineState = 3 then s.su.lineStn.toNat else 0) * 2 ^ 2 + bnat s.su.lineBadRt * 2 ^ 4 + bnat s.su.lineDisagree * 2 ^ 5 +
      (List.range 4).foldl (fun n i => n + tget 0 s.su.lineD i * 2 ^ (8 + 3 * i)) 0
  | 0x0C4 | 0x0C8 => s.readStored 0x02 0 off (p + 64 * s.get F.SH_SEL_BANK)
  | 0x0CC => s.watchUse (BitVec.ofNat 6 p) + s.proxiesOf (BitVec.ofNat 6 p) * 2 ^ 14
  | _ => s.readStored 0x02 0 off 0

/-- MB_SUM, bit p: enabled doorbells of the tenant are pending (11 R317). -/
def State.mailSum (s : State) (p : Nat) : Bool := s.evtOn (0x40 + p) / 2 ^ 16 ≠ 0
def State.mailSums (s : State) (first : Nat) : Nat := (List.range 32).foldl (fun n i => n + bnat (s.mailSum (first + i)) * 2 ^ i) 0

/-- Pavilion manager page 0x03. -/
def State.read03 (s : State) (off : Nat) : Nat :=
  let pav := s.get F.PAV_SEL_PAV
  let p : BitVec 6 := BitVec.ofNat 6 pav
  let use := s.get F.PQ_USE_SEL_STN
  let shown := s.jct.staged[s.get F.TP_LIST_IDX_IDX]?
  match off with
  | 0x044 => s.readStored 0x03 0 0x044 0 + bnat (s.job 0).isSome * 2 ^ 31
  | 0x048 => s.readStored 0x03 0 0x048 pav + bnat (s.staleOf pav) * 2 ^ 17
  | 0x054 => min ((List.range 16).foldl (fun n h => n + ((s.halt h).heldQ.filter (fun r => r.pav = p)).length) 0) 0xFFFF +
      min (s.jct.parked.filter (fun r => r.pav = p)).length 0xFFFF * 2 ^ 16
  | 0x04C | 0x050 | 0x058 | 0x05C | 0x060 | 0x064 | 0x068 | 0x06C | 0x070 | 0x074 | 0x080 | 0x084 | 0x088 => s.readStored 0x03 0 off pav
  | 0x090 => s.objUse use p + s.lineUse use p * 2 ^ 15
  | 0x094 => s.kindUse use p .turnstile + s.kindUse use p .mlock * 2 ^ 7 +
      ((List.range 32).filter (fun g => s.get F.GANG_CFG_PAV 0 g = pav && s.get F.GANG_STAT_STATE 0 g ≠ 0)).length * 2 ^ 18
  | 0x0A0 => s.mailSums 0
  | 0x0A4 => s.mailSums 32
  | 0x0C4 | 0x0C8 => s.readStored 0x03 0 off (s.get F.HM_WIN_SEL_PAV)
  | 0x0D4 => (s.hmEntry (s.get F.HM_IDX_IDX)).toNat
  | 0x0D8 => bnat s.jct.hmWait.isSome
  | 0x0E0 => s.readStored 0x03 0 0x0E0 0 + bnat (s.job 4).isSome * 2 ^ 31
  | 0x0E4 => s.readStored 0x03 0 0x0E4 (s.get F.RUN_CMD_PAV)
  | 0x0FC => s.readStored 0x03 0 0x0FC 0 + bnat (s.job 1).isSome * 2 ^ 8
  | 0x104 | 0x108 => s.readStored 0x03 0 off (s.get F.WAIT_SEL_PAV)
  | 0x114 => (s.rightsOf (s.get F.SEMR_SEL_STN) (s.get F.SEMR_SEL_GROUP) (BitVec.ofNat 6 (s.get F.SEMR_SEL_PAV))).toNat
  | 0x128 => s.readStored 0x03 0 0x128 0 + s.jct.staged.length * 2 ^ 21
  | 0x134 => match shown with
    | some e => e.page + e.off * 2 ^ 7 + 2 ^ 19
    | none => 0
  | 0x138 => (shown.map (·.data.toNat)).getD 0
  | 0x13C => if s.proposed then s.get F.TP_WINDOW_FCLK - (s.fclk - s.jct.proposedAt) else 0
  | 0x140 => (shown.map (·.sel)).getD 0
  | _ => s.readStored 0x03 0 off 0

/-- TS_DATA: the applied word of a turnstile; the bit of the turnstile's own die reads 0 (04 R106, R131). It reads 0 for
a reserved word and where TS_SEL names no TURNSTILE (assumption log 86). -/
def State.turnWord (s : State) (si : Nat) : Nat :=
  let pon := s.get F.TS_SEL_PON si
  if (s.slot si pon).kind = .turnstile ∧ s.get F.TS_IDX_WORD si < 12 then
    (s.turnMask (s.turn si pon)).toNat / 2 ^ (32 * s.get F.TS_IDX_WORD si) % 2 ^ 32
  else 0

/-- Station pages 0x08 to 0x0B, and the junction's ledger registers (instance 0x80). -/
def State.read08 (s : State) (si off : Nat) : Nat :=
  let id := s.stnId si
  let d := s.drift si (s.get F.DRIFT_SEL_PAIR si)
  let slots := (s.mem si).slots
  let turn := s.turn si (s.get F.TS_SEL_PON si)
  let isTurn := (s.slot si (s.get F.TS_SEL_PON si)).kind = .turnstile
  match off with
  | 0x040 => id.stn.toNat + id.die.toNat * 2 ^ 2 + id.pkg.toNat * 2 ^ 4 + bnat id.valid * 2 ^ 11 + bnat id.pkgValid * 2 ^ 12
  | 0x05C => 16384 - (slots.filter (fun e => e.2.kind ≠ .free)).length + (slots.filter (fun e => e.2.kind = .retired)).length * 2 ^ 16
  | 0x060 => (s.mem si).rowsUsed.length + s.readStored 0x08 si 0x060 0
  | 0x088 => s.turnWord si
  | 0x094 => if isTurn then ones turn.cur + ones turn.nxt * 2 ^ 9 else 0
  | 0x0A4 => d.prod.toNat + d.cons.toNat * 2 ^ 16
  | 0x0A8 => d.mode.toNat + d.k.toNat * 2 ^ 2 + d.ts.toNat * 2 ^ 18
  | 0x0AC => d.depth.toNat
  | 0x0B0 => d.last.toNat + bnat d.armed * 2 ^ 4 + bnat d.refused * 2 ^ 5 + d.events.toNat * 2 ^ 16
  | 0x0B4 => half d.skip false
  | 0x0B8 => half d.skip true
  | 0x0F8 => (s.mem si).boundList.length
  | 0x100 => s.readStored 0x08 si 0x100 0 + bnat (!s.flag F.LG_CTL_EN && !s.flag F.LG_STAT_UNPROT si) * 2 +
      (if si < 4 then (s.mem si).origins.length * 2 ^ 16 else 0)
  | 0x10C => (tget Ledger.init s.ledgers (min si 4)).bytes / 1024
  | _ => s.readStored 0x08 si off 0

/-- Lines of a station in no region and in no retired bank (06 R191). -/
def State.freeLines (s : State) (si : Nat) : Nat :=
  32768 - ((s.mem si).slots.filter (fun e => e.2.kind = .foldCounter)).foldl (fun n e => n + 64 * foldNlg e.2) 0 - 2048 * (s.stn si).retiredBanks.length

/-- Fold pages 0x0C to 0x0F: the status registers show the slot that FR_SEL names. -/
def State.read0C (s : State) (si off : Nat) : Nat :=
  let pon := s.get F.FR_SEL_PON si
  let h := if (s.slot si pon).kind = .foldCounter then s.hdr si pon else FoldHdr.init
  match off with
  | 0x05C => h.r % 256 + bnat h.v * 2 ^ 8 + bnat h.rel * 2 ^ 9 + h.flags.toNat * 2 ^ 10 + h.fr % 256 * 2 ^ 16 + h.faultN.toNat * 2 ^ 24
  | 0x060 => h.folded
  | 0x064 => h.ann.toNat
  | 0x068 => h.beats.toNat
  | 0x06C => half h.result false
  | 0x070 => half h.result true
  | 0x080 => s.freeLines si
  | _ => s.readStored 0x0C si off 0

/-- An entry's registers (08 R249). -/
def readEntry (e : Entry) (off : Nat) : Nat :=
  if off = 0x0C4 then e.base.toNat + e.len.toNat * 2 ^ 12 + bnat e.v * 2 ^ 25 + e.pav.toNat * 2 ^ 26
  else if off = 0x0C8 then e.entry.toNat + e.retry.toNat * 2 ^ 12 + bnat e.retryV * 2 ^ 24
  else if off = 0x0CC then e.obj.toNat + bnat e.trigV * 2 ^ 20
  else e.step.toNat

/-- Signal box pages 0x10 to 0x13 and 0x28, by box. -/
def State.read10 (s : State) (b off : Nat) : Nat :=
  let i := boxInst b
  let x := s.box (boxPart b)
  let n := s.get F.THR_SEL_THR i
  let th := s.th (boxThread b n)
  let db := tget Doorbell.init x.doorbells (s.get F.SB_DB_SEL_IDX i)
  match off with
  | 0x044 => (tget 0 x.store (s.get F.SB_PW_IDX_IDX i)).toNat
  | 0x054 => half db.addr false
  | 0x058 => half db.addr true
  | 0x05C => db.pav.toNat + bnat db.v * 2 ^ 6
  | 0x060 => if b < 4 then 0 else s.readStored 0x10 i 0x060 0
  | 0x064 => if b < 4 then 0 else s.readStored 0x10 i 0x064 (s.get F.SB_AT_SEL_IDX i)
  | 0x084 => s.readStored 0x10 i 0x084 n
  | 0x088 => th.state.code + th.pc.toNat * 2 ^ 3 + th.status.code * 2 ^ 15 + th.cause.toNat * 2 ^ 19 + th.tcode.toNat * 2 ^ 23
  | 0x08C => th.retries.toNat + th.runs.toNat * 2 ^ 16
  | 0x094 => half (th.reg (s.get F.THR_REG_SEL_REG i)) false
  | 0x098 => half (th.reg (s.get F.THR_REG_SEL_REG i)) true
  | 0x09C => ((th.pfFirst.map Status.code).getD 0) + th.pfCount.toNat * 2 ^ 4
  | 0x0C4 | 0x0C8 | 0x0CC | 0x0D0 => readEntry (tget Entry.init (if s.flag F.ENT_SEL_BANK i then x.active else x.shadow) n) off
  | _ => s.readStored 0x10 i off 0

/-- State protection pages 0x14 to 0x17, and the junction's protection registers (instance 0x80). -/
def State.read14 (s : State) (i off : Nat) : Nat :=
  let p := s.prot i
  let e := tget none p.log (s.get F.SP_LOG_IDX_IDX i)
  let rows := p.log.filterMap (·.2)
  match off with
  | 0x084 => match e with
    | some r => r.ram.toNat + r.row.toNat * 2 ^ 5 + 2 ^ 21 + bnat r.persist * 2 ^ 22 + r.wcount.toNat * 2 ^ 23
    | none => 0
  | 0x088 => match e with
    | some r => r.total.toNat + r.wlap.toNat * 2 ^ 16
    | none => 0
  | 0x08C => s.readStored 0x14 i 0x08C 0 + rows.length * 2 ^ 2 + (rows.filter (·.persist)).length * 2 ^ 8
  | 0x400 => s.readStored 0x14 i 0x400 0 + bnat p.armed * 2 ^ 26
  | _ => s.readStored 0x14 i off 0

/-- Halt pages 0x18 to 0x27. -/
def State.read18 (s : State) (h off : Nat) : Nat :=
  let id := tget HaltId.init s.su.haltIds h
  let w := (s.halt h).waits
  let th := (s.halt h).script
  match off with
  | 0x040 => id.halt.toNat + id.stn.toNat * 2 ^ 4 + bnat id.valid * 2 ^ 6
  | 0x04C => s.readStored 0x18 h 0x04C (s.get F.HALT_SUPV_SEL_CORE h)
  | 0x058 => (w.filter (fun e => e.2.v && decide (e.1 % 24 < 22))).length + (w.filter (fun e => e.2.v && decide (22 ≤ e.1 % 24))).length * 2 ^ 9 +
      s.get F.HALT_WAITS_NO_SIDING h * 2 ^ 15 + bnat (w.any (fun e => e.2.v && e.2.refused) || (s.halt h).scriptRefused) * 2 ^ 31
  | 0x060 => id.d.toNat + id.eq.toNat * 2 ^ 3 + bnat id.calOk * 2 ^ 6 + s.readStored 0x18 h 0x060 0
  | 0x084 => (tget 0 (s.halt h).scriptStore (s.get F.HS_IDX_IDX h)).toNat
  | 0x094 => th.state.code * 2 ^ 3 + th.pc.toNat % 16 * 2 ^ 6 + th.status.code * 2 ^ 10 + th.cause.toNat * 2 ^ 14 + th.tcode.toNat * 2 ^ 18 +
      s.get F.HS_CTL_REFUSED h * 2 ^ 26
  | 0x09C => half (th.reg (s.get F.HS_REG_SEL_REG h)) false
  | 0x0A0 => half (th.reg (s.get F.HS_REG_SEL_REG h)) true
  | _ => s.readStored 0x18 h off 0

/-- Fault and dump page 0x29. -/
def State.read29 (s : State) (off : Nat) : Nat :=
  let e := s.logWords (s.get F.FD_LOG_IDX_IDX)
  match off with
  | 0x044 => e.1
  | 0x048 => e.2
  | 0x04C => s.jct.faults.length * 2 + s.readStored 0x29 0 0x04C 0
  | 0x084 | 0x088 | 0x08C | 0x090 | 0x094 | 0x098 => s.readStored 0x29 0 off (s.get F.SC_SEL_RING)
  | 0x0C4 => s.readStored 0x29 0 0x0C4 0 + bnat (s.job 3).isSome * 2 ^ 2
  | 0x110 => s.readStored 0x29 0 0x110 0 + bnat (s.job 2).isSome * 2
  | _ => s.readStored 0x29 0 off 0

/-- Power page 0x2A. -/
def State.read2A (s : State) (off : Nat) : Nat :=
  match off with
  | 0x040 => s.su.step.toNat + s.get F.PW_START_RELOAD * 2 ^ 5 + bnat s.su.err * 2 ^ 6 + s.su.code.toNat * 2 ^ 7 + bnat s.su.ready * 2 ^ 11
  | 0x054 => s.get F.PW_FB_CTL_AUTO 0 s.fbStn * 2 ^ 2 + s.get F.PW_FB_CTL_ERR * 2 ^ 4 + s.get F.PW_FB_CTL_CODE * 2 ^ 5
  | 0x058 | 0x064 => s.readStored 0x2A 0 off s.fbStn
  | _ => s.readStored 0x2A 0 off 0

/-- Roll call page 0x2B. -/
def State.read2B (s : State) (off : Nat) : Nat :=
  if off = 0x040 then
    s.su.rcState.toNat + s.su.rcAttempts.toNat * 2 ^ 2 + s.su.rcMembers.toNat * 2 ^ 4 + bnat s.su.rcNoReturn * 2 ^ 9 +
      bnat s.su.rcBadCheck * 2 ^ 10 + bnat s.su.rcBadCount * 2 ^ 11
  else s.readStored 0x2B 0 off 0

/-- Observation page 0x2C. -/
def State.read2C (s : State) (off : Nat) : Nat :=
  if off = 0x040 then s.get F.OB_CTL_EN + s.trace.length * 2
  else if 0x080 ≤ off ∧ off < 0x090 then s.readStored 0x2C 0 0x080 ((off - 0x080) / 4)
  else s.readStored 0x2C 0 off 0

/-- Performance counter page 0x2D. -/
def State.read2D (s : State) (off : Nat) : Nat :=
  let n := (off - 0x080) / 16
  if off < 0x080 then s.readStored 0x2D 0 off 0
  else if 0x100 ≤ off then 0
  else match off % 16 with
    | 0x0 => s.readStored 0x2D 0 0x080 n
    | 0x4 => tget 0 s.perf n % 2 ^ 32
    | 0x8 => s.readStored 0x2D 0 0x088 n
    | _ => 0

/-- A mailbox page. -/
def State.read40 (s : State) (i off : Nat) : Nat :=
  if 0x040 ≤ off ∧ off < 0x080 then s.get F.M2T_DB_WORD i ((off - 0x040) / 4)
  else if 0x080 ≤ off ∧ off < 0x0C0 then s.get F.T2M_DB_WORD i ((off - 0x080) / 4)
  else 0

/-! ### A read -/

/-- What a read of page `p`, offset `off` returns (17 R460): PARKED, zero outside page 0x2A; a reserved page and a
reserved offset, zero. A station or halt page shows the part whose latched number it matches (01 R35); where none
does it shows its own header words, and zero. -/
def State.readReg (s : State) (p off : Nat) : Nat :=
  if (s.parked ∧ p ≠ 0x2A) ∨ !pageOk p then 0
  else if off < 0x00C then s.readHeader p off
  else match s.shownPage p with
  | none => 0
  | some q =>
  let (base, i, o) := canon q off
  if off < 0x040 then s.readHeader q off
  else match base with
  | 0x00 => s.read00 o
  | 0x01 => s.read01 o
  | 0x02 => s.read02 o
  | 0x03 => s.read03 o
  | 0x08 => s.read08 i o
  | 0x0C => s.read0C i o
  | 0x10 => s.read10 (min i 4) o
  | 0x14 => s.read14 i o
  | 0x18 => s.read18 i o
  | 0x29 => s.read29 o
  | 0x2A => s.read2A o
  | 0x2B => s.read2B o
  | 0x2C => s.read2C o
  | 0x2D => s.read2D o
  | _ => s.read40 i o

/-! ### Interrupt lines (16 R442) -/

/-- IRQ_MB[p] (11 R317); every output is 0 under test (16 R447). -/
def State.irqMb (s : State) (p : Nat) : Bool := !s.su.wInstr.underTest && s.evtOn (0x40 + p) % 2 ^ 16 ≠ 0

/-- Pages whose events drive IRQ_G[n]. -/
def irqPages : Nat → List Nat
  | 1 => [0x29] | 2 => [0x03] | 3 => [0x02] | 4 => [0x2A]
  | 5 => (List.range 16).map (0x08 + ·)
  | 6 => [0x00, 0x01, 0x28]
  | _ => (List.range 16).map (0x18 + ·) ++ [0x2B, 0x2C, 0x2D]

/-- IRQ_G[n]. -/
def State.irqG (s : State) (n : Nat) : Bool :=
  !s.su.wInstr.underTest && if n = 0 then (List.range 64).any s.mailSum else (irqPages n).any (fun p => s.evtOn p ≠ 0)

/-- LK_ID with LK_ID_V, which rises with JG_PKG.DONE, and LK_RX_RDY (16 R439, R440). -/
def State.linkId (s : State) : Option (BitVec 9) := if s.su.pkgDone ∧ !s.su.wInstr.underTest then some s.dieSrc else none
def State.linkReady (s : State) (vc : BitVec 3) : Bool := !s.su.wInstr.underTest && s.rxReady vc
/-- PC_PARKED (16 R443). -/
def State.pcParked (s : State) : Bool := !s.su.wInstr.underTest && s.parked

/-! ### Test access (16 R447, R448) -/

/-- What the wrapper's instruction register captures: a reserved code is captured back as 0b1111. -/
def WInstr.captured : WInstr → BitVec 4
  | .bypass => 0x0 | .extest => 0x1 | .preload => 0x2 | .intest => 0x3 | .clamp => 0x4 | .safe => 0x5 | .idcode => 0x8 | .ijtag => 0x9
  | .scan => 0xA | .reserved => 0xF
/-- The identification register between WSI and WSO under WS_IDCODE. -/
def wsIdcode : Word32 := 0x6A310100
/-- What a segment's observation instrument reads: EVT_STAT of the part's pages, and its recovery phase. -/
def State.observe (s : State) (seg : Nat) : List Nat × Nat :=
  match segPart seg with
  | .stn x => ([0x08, 0x0C, 0x10, 0x14].map (fun p => s.get F.EVT_STAT_EVT (p + x.toNat)), s.get F.REC_STAT_PHASE x.toNat)
  | .halt h => ([s.get F.EVT_STAT_EVT (0x18 + h.toNat)], (s.halt h.toNat).phase.toNat)
  | .jct => ([0x00, 0x01, 0x02, 0x03, 0x28, 0x29, 0x2A, 0x2B, 0x2C, 0x2D].map (fun p => s.get F.EVT_STAT_EVT p), s.get F.FD_JREC_PHASE)

end Sys2Proof.Machine
end

