-- ==== Sys2Proof/WellFormed.lean ====
section
/-! DEFINITION. Commands whose operands name something that the block has. -/

namespace Sys2Proof

/-- A station or the junction: the parts with a ledger and with protection registers of their own (12 R355,
13 R389). -/
def Part.keeper : Part → Bool
  | .halt _ => false
  | .stn _ | .jct => true

/-- The operands name ports, boxes, segments, wait registers, pages and offsets that exist: mesh ports 0 to 24 (16 R434),
memory ports 0 to 4 (16 R437), boxes 0 to 4 (08 R218), segments 0 to 20 (16 R448), wait registers 0 to 383 (03 R87), word
offsets (16 R441), reserved pages and instructions that are reserved (17 R464, 16 R447). -/
def Instr.wf : Instr → Bool
  | .meshCredit p _ | .meshTransferDiscard p _ => decide (p.toNat < 25)
  | .memoryCompletion p _ _ _ | .memoryRequestTaken p => decide (p.toNat < 5)
  | .programStoreWrite b _ | .threadArm b _ | .threadStop b _ | .threadClear b _ | .threadRegisterWrite b _ _
  | .sbPwRefClr b _ | .boxAgeTick b => decide (b.toNat < 5)
  | .mbistGo g _ _ | .mbistDone g _ _ => decide (g.toNat < 21)
  | .waitSiding _ r | .waitTimeout _ r | .haltStaleExpiry _ r => decide (r.toNat < 384)
  | .driftConfigWrite _ o _ | .gangConfigWrite o _ | .haltScriptWrite _ o _ | .timetableShadowWrite _ o _
  | .rw2StagingWrite _ o _ | .mailboxDoorbellWrite _ o _ | .configWrite _ o _ => decide (o.toNat % 4 = 0)
  | .reservedPageAccess p _ => (decide (4 ≤ p.toNat) && decide (p.toNat < 8)) || (decide (0x2E ≤ p.toNat) && decide (p.toNat < 0x40))
  | .wsReservedInstruction c => c = 6 || c = 7 || decide (11 ≤ c.toNat)
  | .scrubLapEnd p | .scrubFloorEngage p | .ledgerWindowClose p | .snapshotStart p | .protectionPassEnd p
  | .lgLagClear p _ | .protectionPass p _ | .spLogClr p _ | .spLogClrAll p _ | .rowRetire p _ | .rowUnretire p _
  | .injectionArm p _ => p.keeper
  | _ => true

end Sys2Proof
end

