-- ==== Sys2Proof/Tests/Slice0.lean ====
section
/-! SUPPORT. The model's own tests: the spec's worked examples, commands that are not well formed, and for every
statement with hypotheses a state and operands that meet them. -/

namespace Sys2Proof.Tests

set_option maxRecDepth 8000
set_option Elab.async false

open Sys2Proof Sys2Proof.Machine

/-! ### States -/

/-- A block that has started up as die 1 of package 0, with the addresses of its stations and halts latched. -/
def rdy : State := { State.reset with
  crd := (List.range 75).map (fun i => (i, 4))
  su := { StartUp.reset with step := 7, ready := true, everReady := true, swept := true, die := 1, pkgValid := true, pkgDone := true, up := true,
                             rcState := 2, calState := 2, lineState := 2
                             stnIds := [(0, ⟨0, 1, 0, true, true, 2⟩), (1, ⟨1, 1, 0, true, true, 2⟩), (2, ⟨2, 1, 0, true, true, 2⟩), (3, ⟨3, 1, 0, true, true, 2⟩)] } }
def suWith (f : StartUp → StartUp) : State := { rdy with su := f rdy.su }

/-- The run of pavilion 5 is open, with a window of 128 handles. -/
def pav5 : State := ((((rdy.put F.PAV_STAT_STATE 1 0 5).put F.RUN_STAT_OPEN 1 0 5).put F.HM_WIN_BASE_G 1 0 5).put F.HM_WIN_SIZE_G 2 0 5).put F.HM_PW_PW 0x60 0 5

/-- A slot of kind `k` of pavilion 5. -/
def ob (k : Kind) (v : Word64) (link : BitVec 24) : Slot := { Slot.free with kind := k, val := v, pav := 5, link := link }

/-- Slot `pon` of station 2 holds `sl`, under handle 7 of pavilion 5, which has every right in group 1. -/
def obj (pon : Nat) (sl : Slot) : State :=
  let s := (pav5.modSlot 2 pon (fun _ => sl)).modMem 2 (fun m => { m with rights := [(64 + 5, 15)] })
  (List.range 4).foldl (fun s si => s.modMem si (fun m => { m with hmap := [(71, hmWord (pav5.addrOf 2 pon) true false)] })) s

/-- What queue 4 of core 0x13, of halt 1, asks of handle 7. -/
def ask (ret : Bool) (v : Word64) : CoreReq := ⟨0x13, 4, 5, 0, 7, false, ret, v⟩

/-- A waiter of queue 5 of core 0x20 on slot `pon` of station 2. -/
def waiter (row pon : Nat) (op : BitVec 6) (v : Word64) : Waiter :=
  ⟨row, pon, 0, ⟨⟨op, 5, 0, 7, 0x20, 5, false, true, false, 1, v⟩, pav5.addrOf 2 pon, .queue 2 0x20 5, false, none, false, none⟩⟩

/-- A lock entry held by the queue of `ask`. -/
def heldEnt : SemEnt := { SemEnt.init with lock := true, held := true, holder := rdy.identOf (rWho (ask true 0)), hpav := 5 }

/-- A ring of 64 at slot 8 of station 2: reserve, commit and release at `r`, `c` and `l`, and its base. -/
def ringAt (r c l : Word64) : State :=
  (((obj 8 (ob .ring r 6)).modSlot 2 9 (fun _ => ob .ringPart c 1)).modSlot 2 10 (fun _ => ob .ringPart l 2)).modSlot 2 11 (fun _ => ob .ringPart 0x4000 3)

/-- Slot 9 of station 2 is a FOLD_COUNTER with lines 100 to 419 and header `h`. -/
def foldAt (h : FoldHdr) : State := (obj 9 (ob .foldCounter 0 (100 + 5 * 2 ^ 15))).modHdr 2 9 (fun _ => h)

/-- A header of 4 lanes of an OR, `n` contributions of 3 in. -/
def orHdr (n : Nat) : FoldHdr := { FoldHdr.init with v := true, cfg := 0x4CE, lanes := 4, target := 3, arr := BitVec.ofNat 32 n }

/-- Gang 0, of cores 0x12 and 0x13, over the turnstile at slot 9 of station 2, in state `st`. -/
def gangAt (st : Nat) : State :=
  let s := (obj 9 (ob .turnstile 8 0)).setTurn 2 9 { TurnRec.init with cmask := 0xC0000 }
  let s := ((s.put F.GANG_CFG_X0 6).put F.GANG_CFG_WL 1).put F.GANG_CFG_PAV 5
  ((s.put F.GANG_TS_ADDR (pav5.addrOf 2 9).toNat).put F.PQ_RES_GANG 1 0 5).put F.GANG_STAT_STATE st

/-- Die 2 of the package, and a frame of type `typ` that it sends to this die. -/
def peer : State := suWith (fun u => { u with die := 2 })
def far (typ : BitVec 4) (vc : BitVec 3) (recs : List (BitVec 128)) : Line := (peer.buildFrame ⟨rdy.dieSrc, vc, typ, recs, false, none, [], false⟩ 0).1
/-- An object of die 2. -/
def farObj : GAddr := mkAddr 0 2 3 77
/-- Slot 9 of station 2 is a counter, and pavilion 9 of die 2 is imported as pavilion 5. -/
def imp : State :=
  ((((obj 9 (ob .counter 5 0)).put F.JL_IMP_V 1 0 3).put F.JL_IMP_DIE 2 0 3).put F.JL_IMP_SRC_PAV 9 0 3).put F.JL_IMP_PAV 5 0 3
def subscriber : Proxy := ⟨0, farObj, farObj, true, 3, 5, 5⟩
def home : Proxy := ⟨1, rdy.addrOf 2 9, rdy.addrOf 2 9, false, 2, 5, 5⟩
def link (f : Jct → Jct) : State := (obj 9 (ob .counter 5 0)).modJct f
def frameTo : TxFrame := ⟨2, 0, 1, [recCan farObj], false, none, [], false⟩
def heldFrame : HeldFrame := ⟨1, 40, 2, [mkRec [(124, 1)]], false, false, false, 1⟩

def after (o : Host.Outcome State Fault Refusal) : State := match o with | .next t => t | _ => rdy
/-- The ledgers are enabled; and a park is under way, without and with FORCE. -/
def lgOn : State := rdy.putB F.LG_CTL_EN true
def parking : State := after (execPark 1 lgOn)
def parkingF : State := after (execPark 3 lgOn)
def someMsg : InFlight := ⟨.stn 2, .halt 1, .ack (asked 1 (ask false 3)) .done⟩
def jobOf (s : State) (k : Nat) : Job := (s.job k).getD ⟨0, 0, 0, [], [], false⟩
/-- A memory request, and the state in which it has been taken at `port` under its tag. -/
def mreq (wr : Bool) (why : MemTag) (tries : Nat) : MemReq := ⟨wr, 0x100, 0xFF, 7, if wr then 3 else 67, why, tries⟩
def takenAt (s : State) (port : Nat) (r : MemReq) : State := { s with ports := [(port, ⟨[], [r]⟩)] }

/-- A word of the lever machine. -/
def lw (op reg imm : Nat) : Word32 := BitVec.ofNat 32 (op * 2 ^ 26 + reg * 2 ^ 22 + imm)
/-- An entry with words 0x10 to 0x17, started at 0x12; `trig` if its trigger is an object. -/
def entryAt (trig : Bool) : Entry := ⟨5, 0x10, 8, true, 0x12, 0x14, false, 7, trig, 3⟩
/-- Thread 3 of station 2's box, of junction box, and script of halt 1, in a state of `f`, at word 0x10 of a program with `w` there. -/
def lever (w : Word32) (f : Thread → Thread) (sl : Slot) (trig : Bool) : State :=
  (obj 9 sl).modMem 2 (fun m => { m with box := { m.box with
    store := [(0x10, w), (0x17, w)], active := [(3, entryAt trig)], threads := [(3, f { Thread.init with state := .running, pc := 0x10, regs := [(1, 4), (2, 3)] })] } })
def leverJ (w : Word32) : State := pav5.modJct (fun j => { j with box := { j.box with
    store := [(0x10, w)], active := [(3, entryAt false)], threads := [(3, { Thread.init with state := .running, pc := 0x10 })] } })
def th3 : ThreadId := .stn 2 3
def runs (w : Word32) : State := lever w id (ob .counter 5 0) false
/-- What the thread waits on. -/
def thAsk (op : BitVec 6) (v : Word64) : HReq := ⟨⟨op, 5, 0, 7, 0, 0, false, true, false, 0, v⟩, rdy.addrOf 2 9, .thread th3, false, none, false, none⟩
def waits (f : Thread → Thread) (op : BitVec 6) : State :=
  lever 0 (fun t => f { t with state := .waiting, wait := some (thAsk op 9) }) (ob .counter 5 0) false

/-- Pavilion 5, in state `n`, is the one selected; it owns one counter. -/
def pavAt (n : Nat) : State := ((obj 9 (ob .counter 5 0)).put F.PAV_SEL_PAV 5).put F.PAV_STAT_STATE n 0 5
def emptyPav (n : Nat) : State := (pav5.put F.PAV_SEL_PAV 5).put F.PAV_STAT_STATE n 0 5
def aJob : Job := ⟨5, 1, 1, [], [], false⟩
/-- Its context area, whose range is the map's entry 71. -/
def ctxAt (s : State) : State := ((s.put F.CTX_PAV_PAV 5).put F.CTX_RANGE_MAP_OFF 71).put F.CTX_RANGE_COUNT 2
def rec3 (s : State) : State := s.put F.REC_STAT_PHASE 3 1

/-- RAMs of every part filled; row 5 of RAM 2 of station 2 with an inverted check bit. -/
def swept : State := [0, 1, 2, 3, 0x80].foldl (fun s i => s.put F.SP_SWEEP_DONE 1 i) rdy
def badRow : State := { swept with prots := [(2, { Prot.init with bad := [(2, 5, 1)] })] }
def logOf (r : LogRow) : State := { swept with prots := [(2, { Prot.init with log := [(0, some r)], recent := [0] })] }
/-- The ledgers protect, and a slot has changed since the last window. -/
def led : State := [0, 1, 2, 3, 0x80].foldl (fun s i => s.put F.LG_STAT_UNPROT 0 i) ((obj 9 (ob .counter 5 0)).putB F.LG_CTL_EN true)
def msgTo (src dst : Part) (m : Msg) (s : State) : State := { s with net := [⟨src, dst, m⟩] }
def recAt (x n : Nat) : State := rdy.put F.REC_STAT_PHASE n x
def haltAt (n : BitVec 4) : State := rdy.modHalt 1 (fun h => { h with phase := n })
def jrec (n : Nat) : State := rdy.put F.FD_JREC_PHASE n
def sweptLed : State := [0, 1, 2, 3, 0x80].foldl (fun s i => s.put F.LG_STAT_UNPROT 0 i) (swept.putB F.LG_CTL_EN true)
/-- Queue 3 of core 0x10, of halt 1, waits for the counter at slot 9 of station 2 to reach `e`. -/
def waitingAt (e : Word64) : State :=
  (obj 9 (ob .counter 5 0)).modWait 1 3 (fun _ => { WaitReg.init with exp := e, addr := pav5.addrOf 2 9, addrV := true, pav := 5, op := 2, v := true, ret := true })

/-! ### The spec's worked examples -/

/-- 00 (worked example of R7), 06 R177: MXFP8 element 0x5C under scale 0x7C is 3.0. -/
theorem test_mxfp8_element : encodeTerm 0 false (termOf 5 0x7C 0x5C) = (0x40400000, 0) := by decide +kernel
/-- 06, "order does not matter": three BF16 terms into SUM_EXACT, in two orders. -/
theorem test_sum_exact_order :
    ([[0x7F00, 0x3F80, 0xFF00], [0xFF00, 0x7F00, 0x3F80]].map (fun l =>
      (releaseLane 0 0 false (l.foldl (fun a x => (foldElem 0 2 0 a x).1) (emptyLane 0))).1)) = [0x3F800000, 0x3F800000] := by decide +kernel
/-- The same terms under SUM_FAST depend on their order. -/
theorem test_sum_fast_order :
    ([[0x7F00, 0x3F80, 0xFF00], [0xFF00, 0x7F00, 0x3F80]].map (fun l =>
      (releaseLane 1 0 false (l.foldl (fun a x => (foldElem 1 2 0 a x).1) (emptyLane 1))).1)) = [0, 0x3F800000] := by decide +kernel
/-- 06, "MXFP8 into BF16": lane 5 is a tie to even, lane 6 rounds up; binary32 holds lane 5 exactly. -/
theorem test_mxfp8_into_bf16 :
    let fold := fun (l : List (Nat × Nat)) => l.foldl (fun a x => (foldElem 0 5 x.2 a x.1).1) (emptyLane 0)
    let five := fold [(0x5C, 0x7C), (0xC0, 0x7F), (0x38, 0x77)]
    (releaseLane 0 2 false five).1 = 0x3F80 ∧
    (releaseLane 0 2 false (fold [(0x5C, 0x7C), (0xC0, 0x7F), (0x39, 0x77)])).1 = 0x3F81 ∧
    (releaseLane 0 0 false five).1 = 0x3F808000 := by decide +kernel
/-- 06, "sizing the reference collective". -/
theorem test_fold_geometry :
    halfLines (cfgOp 0x910) (cfgIn 0x910) 3072 = 1920 ∧ beatsPer (cfgIn 0x910) 3072 = 96 ∧ payloadLen 2 3072 = 6144 ∧
    cfgOut 0x910 = 2 ∧ cfgWide 0x910 = true ∧ foldFirst { Slot.free with link := 0x0F8800 } = 0x800 ∧
    foldNlg { Slot.free with link := 0x0F8800 } = 31 := by decide +kernel
/-- 01, worked example of R28: the wait register, and the address of PKG 3, DIE 2, STN 1, PON 0x1A2C. -/
theorem test_core_and_address : waitIdx 0x9B 17 = 281 ∧ mkAddr 3 2 1 0x1A2C = 0x000E5A2C := by decide +kernel
/-- 02, worked example of R39: the attribute word of a turnstile. -/
theorem test_attribute_word :
    attrOf { Slot.free with kind := .turnstile, pav := 5, lastSrc := 0x1371, link := 9 } 0 = 0x0000091371000056 := by decide +kernel
/-- 02, worked example of R44: pavilion-wide, context-local and out of the context. -/
def window : State :=
  ((((rdy.put F.RUN_STAT_OPEN 1 0 5).put F.HM_WIN_BASE_G 0x100 0 5).put F.HM_WIN_SIZE_G 0x80 0 5).put F.HM_PW_PW 0x1800 0 5).modMem 1
    (fun m => { m with hmap := [(0x4A31, 0x02019A2C), (0x5C13, 0x02000007)] })
def found (h : BitVec 20) (ctxl : Bool) : Nat :=
  match window.translate 1 5 h ctxl false 0x82005C00 with | .ok a => a.toNat | .error e => 0xF0000000 + e.code
theorem test_translate : found 0x00A31 false = 0x00019A2C ∧ found 0xF0013 true = 7 ∧
    found 0xF0200 true = 0xF0000000 + Status.unmapped.code := by decide +kernel
/-- 05, worked example: the lock word of step 2, and the grant words of steps 3 and 4. -/
def locked : State :=
  ((obj 9 (ob .glock 0 0x2C5)).setEnt 2 9 ⟨0, true, true, 0xA43, 5, 1, 3, true, false, 0x11⟩).modMem 2
    (fun m => { m with waiters := [waiter 0 9 0x0C 3, waiter 1 9 0x0C 1] })
theorem test_lock_word : locked.lockWord 2 9 = 0x0011000275000A43 := by decide +kernel
theorem test_grant_words : grantWord .done true false false (some 0xA43) 3 0x12 = 0x00120003000A4390 ∧
    grantWord .orphan true true false (some 0x1371) 1 0x13 = 0x00130001001371B1 := by decide +kernel
/-- 07, "expert slots": ticket 0x61E of MODL 9, SHIFT 13; "free-list rings": 0x47FE of MODL 12, SHIFT 3. -/
theorem test_ticket_offsets : tickOffset 9 13 0x61E = 0x3C000 ∧ tickOffset 9 13 0x621 = 0x42000 ∧ tickOffset 12 3 0x47FE = 0x3FF0 := by decide +kernel
/-- 07, "a skip region": the reserve of 0x200 skips, and of the second reserve need exceeds Z. -/
def ringOf (r c l : Word64) : State :=
  ((((obj 8 (ob .ring r 12)).modSlot 2 9 (fun _ => ob .ringPart c 1)).modSlot 2 10 (fun _ => ob .ringPart l 2)).modSlot 2 11 (fun _ => ob .ringPart 0x4000100000 3))
theorem test_ring_reserve : (ringOf 0xF40 0xF40 0xC00).reserveDecide 2 8 0x200 = (0, 0xC0, true) ∧
    ((ringOf 0x1200 0x1200 0xC00).reserveDecide 2 8 0xE00).2 = (0, false) ∧
    ((ringOf 0x1200 0x1200 0xF40).reserveDecide 2 8 0xE00).2.2 = false ∧
    (ringOf 0x1200 0x1200 0x1200).reserveDecide 2 8 0xE00 = (0x200, 0, true) := by decide +kernel
/-- 07 R208: the marker's word and address. -/
theorem test_ring_marker : ((((ringOf 0xF40 0xF40 0xC00).writeMarker 2 8 0xF40 0xC0).port 2).queue.map (fun r => (r.line, r.be, r.data.extractLsb' 0 64))) =
    [(0x4000100F40 / 64, 0xFF, 0x80000000000000C0)] := by decide +kernel
/-- 08 R222, and the words of the two programs. -/
theorem test_lever_words :
    [0x51800000, 0x30C00001, 0x7CC00004, 0x11400000, 0x64000220, 0x79400004, 0x20200004, 0x20000310, 0].map (fun w : Word32 => (lvKey w, lvReg w)) =
      [(0x14, 6), (0x0C, 3), (0x40, 3), (0x04, 5), (0x19, 0), (0x1E, 5), (0x08, 0), (0x08, 0), (0, 0)] ∧
    [0x51800000, 0x30C00001, 0x7CC00004, 0x11400000, 0x64000220, 0x79400004, 0x20200004, 0].all (fun w : Word32 => lvLegal th3 w) = true ∧
    lvLegal (.script 1) 0x51800000 = false := by decide +kernel
/-- 09 R254, R258, "a remote signal in its frame". -/
def remote : HReq := ⟨⟨0x01, 5, 0, 0, 0x9B, 17, true, false, false, 0x2E, 1⟩, 0x0E5A2C, .queue 0 0x9B 17, false, none, false, none⟩
theorem test_req_record : recReq remote 0 = 0x163362820E5A2C2E0000000000000001 := by decide +kernel
theorem test_frame_header :
    ((suWith (fun u => { u with die := 0, pkg := 3 })).buildFrame ⟨0x00E, 6, 1, [recReq remote 0], true, none, [], false⟩ 0x411).1.extractLsb' 0 64
      = 0x000004110B84180E := by decide +kernel
/-- 09 R256: the check value of CRC-32 over the nine digits (PRESUMED, assumption log 36). -/
theorem test_crc : crc32 [0x31, 0x32, 0x33, 0x34, 0x35, 0x36, 0x37, 0x38, 0x39] = 0xCBF43926 := by decide +kernel
/-- 11, worked example of R329 to R333: offsets, length and the moved map entry. -/
theorem test_image_offsets : imageOffsets 2 6 1 1 128 = ([0x40, 0x140, 0x340, 0x400, 0x4C0, 0x500], 0x2500) ∧
    hmWord (mkAddr 3 2 1 0x41) true false = 0x020E4041 := by decide +kernel
/-- 12, worked example of R339 to R341. -/
theorem test_check_bits : checkBits 0xA5 0x1A2C = 0x0C ∧ signature 0x1A2C = 0x0A ∧
    classify [checkBits 0xA5 0x1A2C ^^^ checkBits 0x85 0x1A2C] = .corr ∧
    classify [checkBits 0xA5 0x1A2C ^^^ checkBits 0xA6 0x1A2C, 0] = .double ∧
    classify (List.replicate 8 (signature 0x1A2D ^^^ signature 0x1A2C)) = .address := by decide +kernel
/-- 14 R407: the park's cost, and the two hold-up words. -/
theorem test_park_cost : parkBytes = 3453568 ∧ (parkBytes + 1023) / 1024 = 0xD2D ∧ parkCost 0x200 0x180 = 0x6F1 := by decide +kernel
/-- 17, worked example of R455: PAGE_ID and PAGE_CAP of page 0x16, and EVT_CAUSE of two events with one enabled. -/
def page16 (off : Nat) (s : State) : Nat := s.readReg 0x16 off
theorem test_page16 : page16 0x000 rdy = 0x6A310B16 ∧ page16 0x008 rdy = 0x000002A9 ∧
    page16 0x020 ((rdy.put F.EVT_STAT_EVT 3 0x16).put F.EVT_EN_EN 2 0x16) = 0x21 := by decide +kernel
/-- 17, the injection: 0x0423_4580 is RAM 0x00, row 0x1A2C, mask 1, armed. -/
theorem test_injection :
    page16 0x400 (after (exec (.injectionArm (.stn 2) 0x04234580) (swept.putB F.PAGE_CTL_EXPERT true 0x16))) = 0x04234580 := by decide +kernel
/-- 04, worked example of R108: CMASK bits 0x10 to 0x12, phase count 4; core 0x11 arrives three times, then the others
arrive. What the slot's count, CUR and NXT are after each arrival. -/
def turnstile : State := (obj 9 (ob .turnstile 4 0)).setTurn 2 9 { TurnRec.init with cmask := 0x70000 }
def arrive (core : BitVec 8) (q : BitVec 5) (s : State) : State :=
  after (exec (.turnArriveNw ⟨core, q, 5, 0, 7, false, false, 0⟩) { s with net := [] })
def shows (s : State) : Nat × Nat × Nat := ((s.slot 2 9).val.toNat, (s.turn 2 9).cur.toNat / 2 ^ 16, (s.turn 2 9).nxt.toNat / 2 ^ 16)
theorem test_turnstile_early : shows (arrive 0x11 0 turnstile) = (4, 2, 0) ∧ shows (arrive 0x11 1 (arrive 0x11 0 turnstile)) = (4, 2, 2) := by decide +kernel
theorem test_turnstile_overflow :
    let s := turnstile.setTurn 2 9 { TurnRec.init with cmask := 0x70000, cur := 0x20000, nxt := 0x20000 }
    shows (arrive 0x11 2 s) = (4, 2, 2) ∧ (arrive 0x11 2 s).net.any (fun m => match m.msg with | .ack _ .overflow => true | _ => false) = true := by decide +kernel
theorem test_turnstile_completes :
    shows (arrive 0x12 0 (turnstile.setTurn 2 9 { TurnRec.init with cmask := 0x70000, cur := 0x30000, nxt := 0x20000 })) = (5, 2, 0) := by decide +kernel
/-- 05, worked example, step 3: the release grants core 0x9B, tag 17 at priority 3, and REVERT goes to core 0x52, tag 3. -/
def lockStep2 : State :=
  (((obj 9 (ob .glock 0 0x2C5)).setEnt 2 9 ⟨0, true, true, 0xA43 + 2 ^ 20, 5, 1, 3, true, false, 0x11⟩).modMem 2
    (fun m => { m with rights := [(11 * 64 + 5, 4)], waiters := [⟨0, 9, 0, ⟨⟨0x0C, 5, 0, 7, 0x9B, 17, false, true, false, 1, 3⟩, rdy.addrOf 2 9, .queue 9 0x9B 17, false, none, false, none⟩⟩] }))
theorem test_lock_release :
    let t := after (exec (.lockRel ⟨0x52, 3, 5, 0, 7, false, false, 0⟩) lockStep2)
    (t.ent 2 9).holder = 0x1371 + 2 ^ 20 ∧ (t.ent 2 9).grants = 0x12 ∧ (t.ent 2 9).hprio = 3 ∧ (t.ent 2 9).boost = 0 := by decide +kernel
/-- 11, worked example of R314: `LAST_SEQ` 0x41, two staged entries, a confirm with SEQ 0x42. -/
def proposal : State :=
  (((rdy.put F.TP_STAT_LAST_SEQ 0x41).put F.TP_STAT_STATE 1).modJct (fun j => { j with staged := [⟨3, 0x0C8, 5, 0x1900⟩, ⟨3, 0x080, 5, 0x800⟩] }))
theorem test_confirm :
    let t := after (exec (.tpConfirm true 0x42) { proposal with fclk := 0x32000 })
    t.get F.HM_PW_PW 0 5 = 0x1900 ∧ t.get F.PQ_OBJ_OBJ 0 5 = 0x800 ∧ t.get F.TP_STAT_LAST_SEQ = 0x42 ∧ t.readReg 0x03 0x128 = 0x00040042 := by decide +kernel
/-- The same confirm without the secure-requester indication: only FORGED (11 R315). -/
theorem test_forged :
    let t := after (exec (.tpConfirm false 0x42) { proposal with fclk := 0x32000 })
    t.get F.HM_PW_PW 0 5 = 0 ∧ t.readReg 0x03 0x128 = 0x10410041 := by decide +kernel

/-! ### Commands whose operands name nothing -/

theorem test_ill_formed :
    [.meshCredit 25 0, .meshTransferDiscard 25 0, .memoryCompletion 5 0 false 0, .memoryRequestTaken 5, .programStoreWrite 5 0,
     .threadArm 5 0, .threadStop 5 0, .threadClear 5 0, .threadRegisterWrite 5 false 0, .sbPwRefClr 5 0, .boxAgeTick 5,
     .mbistGo 21 0 0, .mbistDone 21 false 0, .waitSiding 0 384, .waitTimeout 0 384, .haltStaleExpiry 0 384, .driftConfigWrite 0 2 0,
     .gangConfigWrite 1 0, .haltScriptWrite 0 3 0, .timetableShadowWrite 2 2 0, .rw2StagingWrite 3 2 0, .mailboxDoorbellWrite 0 2 0,
     .configWrite 0 2 0, .reservedPageAccess 3 false, .reservedPageAccess 8 true, .wsReservedInstruction 0, .scrubLapEnd (.halt 3),
     .scrubFloorEngage (.halt 3), .ledgerWindowClose (.halt 3), .snapshotStart (.halt 3), .protectionPassEnd (.halt 3), .lgLagClear (.halt 3) 0,
     .protectionPass (.halt 3) 0, .spLogClr (.halt 3) 0, .spLogClrAll (.halt 3) 0, .rowRetire (.halt 3) 0, .rowUnretire (.halt 3) 0,
     .injectionArm (.halt 3) 0].all (fun i : Instr => !i.wf) = true := by decide
theorem test_well_formed :
    [.meshCredit 24 0, .memoryCompletion 4 0 false 0, .boxAgeTick 4, .mbistGo 20 0 0, .waitTimeout 0 383, .configWrite 0 0xFFC 0,
     .reservedPageAccess 4 false, .reservedPageAccess 0x3F true, .wsReservedInstruction 15, .scrubLapEnd .jct, .supplyRemoved].all Instr.wf = true := by decide
/-- No word of the table's spells a command: its rows have no bits (spec/opcode_table.json). -/
theorem test_decode : decodeTableWord 32 0 = none ∧ rdy.withFetchWord 32 5 = rdy := by decide +kernel

/-! ### Witnesses: for each statement, what meets the hypotheses of each of its clauses -/

theorem wit_IdleStepLetsOneFclkPass :
  (∃ (s : State), s.pending = []) ∧
  (∃ (s : State), s.pending = [] ∧ s.still = true) ∧
  (∃ (s : State) (p : Nat) (c : Nat), s.pending = [] ∧ s.still = true ∧ s.su.step ≠ 0 ∧ p < 25 ∧ c < 3 ∧ tget 0 s.granted (3 * p + c) < (if c = 0 then 16 else 8)) ∧
  (∃ (s : State), s.pending = [] ∧ s.still = true) :=
  ⟨⟨rdy, by decide +kernel⟩,
   ⟨rdy, by decide +kernel⟩,
   ⟨rdy, 24, 0, by decide +kernel⟩,
   ⟨(rdy.putB F.LG_STAT_HELD true 2).putB F.TT_STAT_HOLDING true, by decide +kernel⟩⟩

theorem wit_ResetFilterAndSweep :
  (∃ (s : State), s.su.step ≠ 0) ∧
  (∃ (s : State), s.su.step = 0) ∧
  (∃ (_pos : BitVec 2) (s : State), s.su.step = 0) ∧
  (∃ (s : State), s.su.step = 1 ∧ s.su.swept = false) :=
  ⟨⟨rdy, by decide +kernel⟩,
   ⟨State.reset, by decide +kernel⟩,
   ⟨3, State.reset, by decide +kernel⟩,
   ⟨suWith (fun u => { u with step := 1, swept := false }), by decide +kernel⟩⟩

theorem wit_ChainMembersLatchAndForward :
  (∃ (err : Word32) (f0 : Word32) (s : State), s.rolling = true ∧ s.su.frame = some f0 ∧ s.su.chainPos < 20 ∧ frameOk (f0 ^^^ err) = true ∧ frField (f0 ^^^ err) 0 4 = 5) ∧
  (∃ (err : Word32) (f0 : Word32) (s : State), s.identing = true ∧ s.su.frame = some f0 ∧ s.su.chainPos < 20 ∧ frameOk (f0 ^^^ err) = true ∧ frField (f0 ^^^ err) 0 4 = 10) ∧
  (∃ (err : Word32) (f0 : Word32) (s : State), s.rolling = true ∧ s.su.frame = some f0 ∧ s.su.chainPos < 20 ∧ frameOk (f0 ^^^ err) = false) ∧
  (∃ (_err : Word32) (f0 : Word32) (s : State), s.su.step = 2 ∧ s.su.rcState = 1 ∧ s.su.frame = some f0 ∧ s.su.chainPos < 20) ∧
  (∃ (_err : Word32) (f0 : Word32) (s : State), s.su.step ≠ 15 ∧ s.su.rcState = 2 ∧ s.su.frame = some f0 ∧ s.su.chainPos < 20) :=
  ⟨⟨0, mkFrame 5 1 15 3 19 0, suWith (fun u => { u with step := 2, rcState := 1, chainPos := 19, frame := some (mkFrame 5 1 15 3 19 0) }), by decide +kernel⟩,
   ⟨0, mkFrame 10 0 0 0 0 7, suWith (fun u => { u with rcState := 2, chainPos := 0, frame := some (mkFrame 10 0 0 0 0 7) }), by decide +kernel⟩,
   ⟨1, mkFrame 5 1 15 3 19 0, suWith (fun u => { u with step := 2, rcState := 1, chainPos := 19, frame := some (mkFrame 5 1 15 3 19 0) }), by decide +kernel⟩,
   ⟨1, mkFrame 5 1 0 0 19 0, suWith (fun u => { u with step := 2, rcState := 1, rcAttempts := 1, chainPos := 19, frame := some (mkFrame 5 1 0 0 19 0) }), by decide +kernel⟩,
   ⟨1, mkFrame 10 0 0 0 19 7, suWith (fun u => { u with rcState := 2, identTries := 0, chainPos := 19, frame := some (mkFrame 10 0 0 0 19 7) }), by decide +kernel⟩⟩

theorem wit_RollCallPassesOrIsTriedAgain :
  (∃ (err : Word32) (f0 : Word32) (s : State), s.rolling = true ∧ s.su.chainPos = 20 ∧ s.su.frame = some f0 ∧ frameOk (f0 ^^^ err) = true ∧ frField (f0 ^^^ err) 12 5 = 20 ∧ frField (f0 ^^^ err) 10 2 = 0 ∧ frField (f0 ^^^ err) 6 4 = 0) ∧
  (∃ (err : Word32) (f0 : Word32) (s : State), s.rolling = true ∧ s.su.chainPos = 20 ∧ s.su.frame = some f0 ∧ frameOk (f0 ^^^ err) = false) ∧
  (∃ (err : Word32) (f0 : Word32) (s : State), s.su.step = 2 ∧ s.su.rcState = 1 ∧ s.su.chainPos = 20 ∧ s.su.frame = some f0 ∧ frameOk (f0 ^^^ err) = true ∧ (frField (f0 ^^^ err) 12 5 ≠ 20 ∨ frField (f0 ^^^ err) 10 2 ≠ 0 ∨ frField (f0 ^^^ err) 6 4 ≠ 0)) ∧
  (∃ (s : State), s.rolling = true) ∧
  (∃ (err : Word32) (f0 : Word32) (s : State), s.identing = true ∧ s.su.chainPos = 20 ∧ s.su.frame = some f0 ∧ frameOk (f0 ^^^ err) = true ∧ frField (f0 ^^^ err) 12 5 = 20) ∧
  (∃ (err : Word32) (f0 : Word32) (s : State), s.su.step ≠ 15 ∧ s.su.rcState = 2 ∧ s.su.chainPos = 20 ∧ s.su.frame = some f0 ∧ (frameOk (f0 ^^^ err) = false ∨ frField (f0 ^^^ err) 12 5 ≠ 20)) ∧
  (∃ (f0 : Word32) (s : State), s.su.step ≠ 15 ∧ s.su.rcState = 2 ∧ s.su.frame = some f0) ∧
  (∃ (_w : Word32) (s : State), s.cfgOpen 0x00 0x044 = true ∧ s.su.pkgValid = false) ∧
  (∃ (w : Word32) (s : State), s.cfgOpen 0x00 0x044 = true ∧ s.su.pkgValid = true ∧ w.extractLsb' 0 7 ≠ s.su.pkg) :=
  ⟨⟨0, mkFrame 5 1 0 0 20 0, suWith (fun u => { u with step := 2, rcState := 1, rcAttempts := 1, chainPos := 20, frame := some (mkFrame 5 1 0 0 20 0) }), by decide +kernel⟩,
   ⟨1, mkFrame 5 1 0 0 20 0, suWith (fun u => { u with step := 2, rcState := 1, rcAttempts := 2, chainPos := 20, frame := some (mkFrame 5 1 0 0 20 0) }), by decide +kernel⟩,
   ⟨0, mkFrame 5 1 0 0 19 0, suWith (fun u => { u with step := 2, rcState := 1, rcAttempts := 1, chainPos := 20, frame := some (mkFrame 5 1 0 0 19 0) }), by decide +kernel⟩,
   ⟨suWith (fun u => { u with step := 2, rcState := 1, rcAttempts := 2, chainPos := 20, frame := some (mkFrame 5 1 0 0 20 0) }), by decide +kernel⟩,
   ⟨0, mkFrame 10 0 0 0 20 7, suWith (fun u => { u with rcState := 2, chainPos := 20, frame := some (mkFrame 10 0 0 0 20 7) }), by decide +kernel⟩,
   ⟨1, mkFrame 10 0 0 0 20 7, suWith (fun u => { u with rcState := 2, identTries := 2, chainPos := 20, frame := some (mkFrame 10 0 0 0 20 7) }), by decide +kernel⟩,
   ⟨mkFrame 10 0 0 0 20 7, suWith (fun u => { u with rcState := 2, identTries := 2, chainPos := 20, frame := some (mkFrame 10 0 0 0 20 7) }), by decide +kernel⟩,
   ⟨0x85, suWith (fun u => { u with pkgValid := false }), by decide +kernel⟩,
   ⟨0x85, rdy, by decide +kernel⟩⟩

theorem wit_CalibrationMeasuresEveryBranch :
  (∃ (h : BitVec 4) (s : State), s.calibrating h = true ∧ s.su.calPings = s.su.calRts.length) ∧
  (∃ (h : BitVec 4) (rtt : BitVec 5) (s : State), s.calibrating h = true ∧ s.su.calPings = s.su.calRts.length + 1 ∧ s.su.calRts.length = 15 ∧ (∀ r ∈ s.su.calRts, r = rtt.toNat) ∧ badRt rtt.toNat = false) ∧
  (∃ (h : BitVec 4) (s : State), s.calibrating h = true ∧ s.su.calPings = s.su.calRts.length + 1) ∧
  (∃ (x : BitVec 2) (s : State), s.su.lineState = 1 ∧ s.su.lineStn = x ∧ tget 0 s.su.linePings x.toNat = (tget [] s.su.lineRts x.toNat).length) ∧
  (∃ (x : BitVec 2) (rtt : BitVec 5) (s : State), s.su.lineState = 1 ∧ s.su.lineStn = x ∧ (tget [] s.su.lineRts x.toNat).length = 15 ∧ tget 0 s.su.linePings x.toNat = 16 ∧ (∀ r ∈ tget [] s.su.lineRts x.toNat, r = rtt.toNat) ∧ badRt rtt.toNat = false) ∧
  (∃ (x : BitVec 2) (s : State), s.su.lineState = 1 ∧ s.su.lineStn = x ∧ tget 0 s.su.linePings x.toNat = (tget [] s.su.lineRts x.toNat).length + 1) ∧
  (∃ (h : BitVec 4) (_rtt : BitVec 5) (s : State), s.calibrating h = true ∧ s.su.calPings = s.su.calRts.length + 1 ∧ s.su.calRts.length < 15) ∧
  (∃ (h : BitVec 4) (rtt : BitVec 5) (s : State), s.calibrating h = true ∧ s.su.calPings = s.su.calRts.length + 1 ∧ s.su.calRts.length = 15 ∧ (badRt rtt.toNat = true ∨ ∃ r ∈ s.su.calRts, badRt r = true ∨ r ≠ rtt.toNat)) ∧
  (∃ (x : BitVec 2) (_rtt : BitVec 5) (s : State), s.su.lineState = 1 ∧ s.su.lineStn = x ∧ (tget [] s.su.lineRts x.toNat).length < 15 ∧ tget 0 s.su.linePings x.toNat = (tget [] s.su.lineRts x.toNat).length + 1) ∧
  (∃ (x : BitVec 2) (rtt : BitVec 5) (s : State), s.su.lineState = 1 ∧ s.su.lineStn = x ∧ (tget [] s.su.lineRts x.toNat).length = 15 ∧ tget 0 s.su.linePings x.toNat = 16 ∧ (badRt rtt.toNat = true ∨ ∃ r ∈ tget [] s.su.lineRts x.toNat, badRt r = true ∨ r ≠ rtt.toNat)) :=
  ⟨⟨15, suWith (fun u => { u with step := 3, calState := 1, calHalt := 15, calPings := 3, calRts := List.replicate 3 5 }), by decide +kernel⟩,
   ⟨15, 5, suWith (fun u => { u with step := 3, calState := 1, calHalt := 15, calPings := 16, calRts := List.replicate 15 5 }), by decide +kernel⟩,
   ⟨0, suWith (fun u => { u with step := 3, calState := 1, calHalt := 0, calPings := 4, calRts := List.replicate 3 5 }), by decide +kernel⟩,
   ⟨3, suWith (fun u => { u with step := 1, lineState := 1, lineStn := 3, linePings := [(3, 2)], lineRts := [(3, List.replicate 2 7)] }), by decide +kernel⟩,
   ⟨3, 7, suWith (fun u => { u with step := 1, lineState := 1, lineStn := 3, linePings := [(3, 16)], lineRts := [(3, List.replicate 15 7)] }), by decide +kernel⟩,
   ⟨3, suWith (fun u => { u with step := 1, lineState := 1, lineStn := 3, linePings := [(3, 3)], lineRts := [(3, List.replicate 2 7)] }), by decide +kernel⟩,
   ⟨15, 5, suWith (fun u => { u with step := 3, calState := 1, calHalt := 15, calPings := 4, calRts := List.replicate 3 5 }), by decide +kernel⟩,
   ⟨15, 6, suWith (fun u => { u with step := 3, calState := 1, calHalt := 15, calPings := 16, calRts := List.replicate 15 5 }), by decide +kernel⟩,
   ⟨3, 7, suWith (fun u => { u with step := 1, lineState := 1, lineStn := 3, linePings := [(3, 4)], lineRts := [(3, List.replicate 3 7)] }), by decide +kernel⟩,
   ⟨3, 6, suWith (fun u => { u with step := 1, lineState := 1, lineStn := 3, linePings := [(3, 16)], lineRts := [(3, List.replicate 15 7)] }), by decide +kernel⟩⟩

theorem wit_StartUpReachesReady :
  (∃ (_w : Word32) (s : State), s.cfgOpen 0x2A 0x040 = true ∧ s.su.step = 4 ∧ s.su.mbistHold = false) ∧
  (∃ (_w : Word32) (s : State), s.cfgOpen 0x2A 0x040 = true ∧ s.su.step.toNat < 4) ∧
  (∃ (s : State), s.su.pkgDone = true ∧ s.su.dup = false) ∧
  (∃ (s : State), s.su.step = 5 ∧ s.su.pkgDone = true ∧ s.job 6 = none) :=
  ⟨⟨1, suWith (fun u => { u with step := 4, up := false, ready := false, everReady := false }), by decide +kernel⟩,
   ⟨33, suWith (fun u => { u with step := 3, ready := false }), by decide +kernel⟩,
   ⟨suWith (fun u => { u with step := 6, up := false, ready := false }), by decide +kernel⟩,
   ⟨suWith (fun u => { u with step := 5, ready := false }), by decide +kernel⟩⟩

theorem wit_PageHeaderCommands :
  (∃ (p : BitVec 7) (q : Nat) (_w : Word32) (s : State), s.shownPage p.toNat = some q ∧ s.cfgOpen q 0x014 = true) ∧
  (∃ (p : BitVec 7) (q : Nat) (_w : Word32) (s : State), s.shownPage p.toNat = some q ∧ s.cfgOpen q 0x01C = true) ∧
  (∃ (p : BitVec 7) (q : Nat) (_w : Word32) (s : State), s.shownPage p.toNat = some q ∧ s.cfgOpen q 0x00C = true) ∧
  (∃ (p : BitVec 7) (q : Nat) (_w : Word32) (s : State), s.shownPage p.toNat = some q ∧ s.cfgOpen q 0x024 = true) ∧
  (∃ (p : BitVec 7) (q : Nat) (_w : Word32) (s : State), s.shownPage p.toNat = some q ∧ s.cfgOpen q 0x024 = true) ∧
  (∃ (p : BitVec 7) (q : Nat) (_w : Word32) (s : State), s.shownPage p.toNat = some q ∧ s.cfgOpen q 0x010 = true) ∧
  (∃ (p : BitVec 7) (_w : Word32) (s : State), s.shownPage p.toNat = none) ∧
  (∃ (p : BitVec 7) (_wr : Bool) (s : State), pageOk p.toNat = false ∧ s.parked = false) :=
  ⟨⟨0x2A, 0x2A, 2, rdy.evt 0x2A 1, by decide +kernel⟩,
   ⟨0x7F, 0x7F, 0xFFFFFFFF, rdy, by decide +kernel⟩,
   ⟨0x08, 0x08, 0xA501, rdy, by decide +kernel⟩,
   ⟨0, 0, 1, rdy, by decide +kernel⟩,
   ⟨0, 0, 1, rdy, by decide +kernel⟩,
   ⟨0, 0, 0, rdy.put F.PAGE_STAT_REFUSED 5 0, by decide +kernel⟩,
   ⟨8, 7, suWith (fun u => { u with stnIds := [(0, ⟨3, 1, 0, true, true, 2⟩)] }), by decide +kernel⟩,
   ⟨0x3F, true, rdy, by decide +kernel⟩⟩

theorem wit_CounterClears :
  (∃ (_w : Word32) (s : State), s.cfgOpen 0x00 0x080 = true) ∧
  (∃ (h : BitVec 4) (_w : Word32) (s : State), s.cfgOpen (0x18 + h.toNat) 0x050 = true) ∧
  (∃ (h : BitVec 4) (_w : Word32) (s : State), s.cfgOpen (0x18 + h.toNat) 0x054 = true) ∧
  (∃ (x : BitVec 2) (_w : Word32) (s : State), s.cfgOpen (0x08 + x.toNat) 0x060 = true) ∧
  (∃ (h : BitVec 4) (_w : Word32) (s : State), s.cfgOpen (0x18 + h.toNat) 0x060 = true) ∧
  (∃ (h : BitVec 4) (_w : Word32) (s : State), s.cfgOpen (0x18 + h.toNat) 0x068 = true) ∧
  (∃ (b : BitVec 3) (_w : Word32) (s : State), b.toNat < 5 ∧ s.cfgOpen (boxPage b.toNat) 0x048 = true) ∧
  (∃ (_w : Word32) (s : State), s.cfgOpen 0x01 0x050 = true) ∧
  (∃ (_w : Word32) (s : State), s.cfgOpen 0x01 0x058 = true) ∧
  (∃ (_w : Word32) (s : State), s.cfgOpen 0x02 0x080 = true) ∧
  (∃ (x : BitVec 2) (_w : Word32) (s : State), s.cfgOpen (0x08 + x.toNat) 0x114 = true) ∧
  (∃ (_w : Word32) (s : State), s.cfgOpen 0x29 0x06C = true) :=
  ⟨⟨0x1, rdy, by decide +kernel⟩,
   ⟨15, 1, rdy, by decide +kernel⟩,
   ⟨15, 1, rdy, by decide +kernel⟩,
   ⟨3, 1, rdy, by decide +kernel⟩,
   ⟨15, 1, rdy, by decide +kernel⟩,
   ⟨15, 1, rdy, by decide +kernel⟩,
   ⟨4, 1, rdy, by decide +kernel⟩,
   ⟨0x1, rdy, by decide +kernel⟩,
   ⟨0x1, rdy, by decide +kernel⟩,
   ⟨0x1, rdy, by decide +kernel⟩,
   ⟨3, 0, rdy, by decide +kernel⟩,
   ⟨0x1, rdy, by decide +kernel⟩⟩

theorem wit_CountersAndTrace :
  (∃ (_w : Word32) (s : State), s.cfgOpen 0x2D 0x040 = true) ∧
  (∃ (n : BitVec 3) (_w : Word32) (s : State), s.cfgOpen 0x2D (0x080 + 16 * n.toNat) = true) ∧
  (∃ (_n : BitVec 3) (s : State), s.parked = false) ∧
  (∃ (_w : Word32) (s : State), s.cfgOpen 0x2C 0x040 = true) ∧
  (∃ (n : BitVec 2) (s : State), s.traceDue n.toNat = true) ∧
  (∃ (w : Word32) (rest : List Word32) (s : State), s.trace = w :: rest) ∧
  (∃ (s : State), s.trace = []) :=
  ⟨⟨1, { rdy with perf := [(0, 5)] }, by decide +kernel⟩,
   ⟨7, 0x80000041, { rdy with perf := [(7, 5), (3, 2)] }, by decide +kernel⟩,
   ⟨7, { rdy with perf := [(7, 2 ^ 32 + 5)] }, by decide +kernel⟩,
   ⟨1, rdy, by decide +kernel⟩,
   ⟨3, ((rdy.putB F.OB_CTL_EN true).put F.OB_SEL_EVENT 0x21 0 3).putB F.OB_SEL_EN true 0 3, by decide +kernel⟩,
   ⟨7, [8], { rdy with trace := [7, 8] }, by decide +kernel⟩,
   ⟨rdy, by decide +kernel⟩⟩

theorem wit_MeshCreditsAndDiscards :
  (∃ (p : BitVec 5) (_m : BitVec 3) (s : State), p.toNat < 25 ∧ s.su.step ≠ 0) ∧
  (∃ (p : BitVec 5) (k : BitVec 3) (s : State), p.toNat < 25 ∧ s.su.step ≠ 0 ∧ discarded p.toNat k.toNat = true) :=
  ⟨⟨24, 7, rdy, by decide +kernel⟩,
   ⟨16, 0, rdy, by decide +kernel⟩⟩

theorem wit_TestAccess :
  (∃ (c : BitVec 4) (s : State), reservedInstr c.toNat = true ∧ s.su.wInstr.underTest = false) ∧
  (∃ (g : BitVec 5) (ram : BitVec 5) (_a : BitVec 2) (s : State), s.su.wInstr = .ijtag ∧ g.toNat < 21 ∧ (s.mbist g.toNat).busy = false ∧ (s.su.step = 4 ∨ s.su.step = 15) ∧ ramIs (segPart g.toNat) ram.toNat = true) ∧
  (∃ (g : BitVec 5) (_ram : BitVec 5) (_a : BitVec 2) (s : State), s.su.wInstr = .ijtag ∧ g.toNat < 21 ∧ (s.mbist g.toNat).busy = false ∧ s.su.step ≠ 4 ∧ s.su.step ≠ 15) ∧
  (∃ (g : BitVec 5) (_f : Bool) (_r : BitVec 16) (s : State), (s.mbist g.toNat).busy = true) :=
  ⟨⟨11, rdy, by decide +kernel⟩,
   ⟨0, 0x18, 0, { rdy with su := { rdy.su with wInstr := .ijtag, step := 4 } }, by decide +kernel⟩,
   ⟨0, 0, 0, { rdy with su := { rdy.su with wInstr := .ijtag } }, by decide +kernel⟩,
   ⟨20, true, 9, { rdy with su := { rdy.su with mbist := [(20, ⟨0x18, 0, true, false, false, 0⟩)] } }, by decide +kernel⟩⟩

theorem wit_ReservedTagsAreDenied :
  (∃ (_op : BitVec 6) (r : CoreReq) (s : State), s.hears r = true ∧ (r.q = 22 ∨ r.q = 23)) ∧
  (∃ (_op : BitVec 6) (r : CoreReq) (_s : State), 24 ≤ r.q.toNat) :=
  ⟨⟨1, { ask true 0 with q := 22 }, rdy, by decide +kernel⟩,
   ⟨63, { ask true 0 with q := 24 }, rdy, by decide +kernel⟩⟩

theorem wit_NopFenceAndReservedCodes :
  (∃ (r : CoreReq) (s : State), s.takes 0 { r with ret := false } = true) ∧
  (∃ (r : CoreReq) (s : State), s.takes 0 { r with ret := true } = true ∧ tget 0 (s.halt (rHalt r)).unacked (rReg r) = 0 ∧ (s.halt (rHalt r)).lostPosted.contains (rReg r) = false) ∧
  (∃ (r : CoreReq) (s : State), s.takes 0 { r with ret := true } = true ∧ tget 0 (s.halt (rHalt r)).unacked (rReg r) ≠ 0) ∧
  (∃ (op : BitVec 6) (r : CoreReq) (s : State), s.hears r = true ∧ r.q.toNat < 22 ∧ (s.wait (rHalt r) (rReg r)).v = false ∧ opKnown op = false) ∧
  (∃ (c : Instr) (r : CoreReq) (s : State), c ∈ [Instr.lockForce r, Instr.move r] ∧ s.hears r = true ∧ r.q.toNat < 22 ∧ (s.wait (rHalt r) (rReg r)).v = false ∧ s.isSupv (rHalt r) r.core r.q = false) :=
  ⟨⟨ask false 0, pav5, by decide +kernel⟩,
   ⟨ask true 0, pav5, by decide +kernel⟩,
   ⟨ask true 0, pav5.modHalt 1 (fun h => { h with unacked := [(76, 2)] }), by decide +kernel⟩,
   ⟨0x3F, ask true 0, pav5, by decide +kernel⟩,
   ⟨.lockForce (ask true 0), ask true 0, pav5, by decide +kernel⟩⟩

theorem wit_HaltStatusesOfRequests :
  (∃ (r : CoreReq) (s : State), s.hears r = true ∧ r.q.toNat < 22 ∧ (s.wait (rHalt r) (rReg r)).v = false ∧ r.ret = true ∧ r.gen ≠ s.gen r.pav) ∧
  (∃ (r : CoreReq) (s : State), s.hears r = true ∧ r.q.toNat < 22 ∧ (s.wait (rHalt r) (rReg r)).v = false ∧ r.gen = s.gen r.pav ∧ s.pavFrozen r.pav = true) ∧
  (∃ (r : CoreReq) (s : State), s.hears r = true ∧ r.q.toNat < 22 ∧ (s.wait (rHalt r) (rReg r)).v = false ∧ r.gen = s.gen r.pav ∧ s.pavFrozen r.pav = false ∧ (r.ret = true → s.staleMark (rHalt r) (rReg r) = false) ∧ s.flag F.REC_STAT_FAILED (rHalt r / 4) = false ∧ s.room (rPart r) = false) ∧
  (∃ (r : CoreReq) (st : Status) (s : State), s.takes 0x01 r = true ∧ s.translate (rHalt r / 4) r.pav r.handle (rCtx r) false (tget 0 (s.halt (rHalt r)).bases (rReg r)) = .error st) ∧
  (∃ (r : CoreReq) (x : BitVec 2) (pon : Nat) (s : State), s.takes 0x01 r = true ∧ s.finds r x pon = true ∧ s.flag F.REC_STAT_FAILED x.toNat = false ∧ s.withholding x.toNat = false ∧ (s.stnId x.toNat).pkg = s.su.pkg ∧ (s.stnId x.toNat).die = s.su.die ∧ (s.stnId x.toNat).stn = x) :=
  ⟨⟨{ ask true 0 with gen := 1 }, pav5, by decide +kernel⟩,
   ⟨ask true 0, pav5.put F.PAV_STAT_STATE 2 0 5, by decide +kernel⟩,
   ⟨ask false 3, ((obj 9 (ob .counter 5 0)).modHalt 1 (fun h => { h with orig := { h.orig with ret := (List.range 64).map (fun i => ⟨BitVec.ofNat 8 i, false, 0, asked 1 (ask false 3), none, true⟩) } })), by decide +kernel⟩,
   ⟨ask true 0, .unmapped, rdy, by decide +kernel⟩,
   ⟨ask true 0, 2, 9, obj 9 Slot.free, by decide +kernel⟩⟩

theorem wit_CountersAndWaits :
  (∃ (r : CoreReq) (x : BitVec 2) (pon : Nat) (s : State), s.meets 0x01 r x pon = true ∧ r.operand ≠ 0 ∧ (s.slot x.toNat pon).val.toNat + r.operand.toNat < 2 ^ 64 ∧ (∀ e ∈ (s.mem x.toNat).boundList, e.1 ≠ pon)) ∧
  (∃ (r : CoreReq) (x : BitVec 2) (pon : Nat) (s : State), s.meets 0x01 r x pon = true ∧ 2 ^ 64 ≤ (s.slot x.toNat pon).val.toNat + r.operand.toNat) ∧
  (∃ (r : CoreReq) (x : BitVec 2) (pon : Nat) (s : State), s.meets 0x02 r x pon = true ∧ s.firstWait r (s.addrOf x.toNat pon) = true ∧ (s.slot x.toNat pon).kind = .counter ∧ r.operand.toNat ≤ (s.slot x.toNat pon).val.toNat) ∧
  (∃ (r : CoreReq) (x : BitVec 2) (pon : Nat) (s : State), s.meets 0x02 r x pon = true ∧ s.firstWait r (s.addrOf x.toNat pon) = true ∧ (s.slot x.toNat pon).val.toNat < r.operand.toNat ∧ (s.slot x.toNat pon).orphan = false ∧ (∀ w ∈ (s.mem x.toNat).watches, w.pon = pon → (s.slot x.toNat pon).val.toNat < w.exp.toNat) ∧ (s.admitRow x.toNat (s.slot x.toNat pon).pav).isSome = true) ∧
  (∃ (r : CoreReq) (x : BitVec 2) (pon : Nat) (e : Word64) (s : State), s.takes 0x02 r = true ∧ s.finds r x pon = true ∧ s.haltLowest (rHalt r) (s.addrOf x.toNat pon) = some e) ∧
  (∃ (r : CoreReq) (x : BitVec 2) (pon : Nat) (s : State), s.meets 0x02 r x pon = true ∧ s.firstWait r (s.addrOf x.toNat pon) = true ∧ (s.slot x.toNat pon).val.toNat < r.operand.toNat ∧ (s.slot x.toNat pon).orphan = true) ∧
  (∃ (r : CoreReq) (x : BitVec 2) (pon : Nat) (s : State), s.meets 0x04 r x pon = true) :=
  ⟨⟨ask true 0xFFFFFFFFFFFFFFFA, 2, 9, obj 9 (ob .counter 5 0), by decide +kernel⟩,
   ⟨ask true 0xFFFFFFFFFFFFFFFB, 2, 9, obj 9 (ob .counter 5 0), by decide +kernel⟩,
   ⟨ask true 5, 2, 9, obj 9 (ob .counter 5 0), by decide +kernel⟩,
   ⟨ask true 6, 2, 9, obj 9 (ob .counter 5 0), by decide +kernel⟩,
   ⟨ask true 3, 2, 9, 2, waitingAt 2, by decide +kernel⟩,
   ⟨ask true 6, 2, 9, obj 9 { ob .counter 5 0 with orphan := true }, by decide +kernel⟩,
   ⟨ask true 0, 2, 9, obj 9 (ob .counter 5 0), by decide +kernel⟩⟩

theorem wit_SemDecNeverWaits :
  (∃ (r : CoreReq) (x : BitVec 2) (pon : Nat) (s : State), s.meets 0x0A r x pon = true) :=
  ⟨ask true 3, 2, 9, (obj 9 (ob .sem 0 0x43)).setEnt 2 9 ({ SemEnt.init with count := 3 }), by decide +kernel⟩

theorem wit_SemaphorePostAndTake :
  (∃ (r : CoreReq) (x : BitVec 2) (pon : Nat) (s : State), s.meets 0x08 r x pon = true ∧ r.operand.extractLsb' 0 32 ≠ 0 ∧ (s.ent x.toNat pon).count.toNat + (r.operand.extractLsb' 0 32).toNat < 2 ^ 31) ∧
  (∃ (r : CoreReq) (x : BitVec 2) (pon : Nat) (s : State), s.meets 0x08 r x pon = true ∧ 2 ^ 31 ≤ (s.ent x.toNat pon).count.toNat + (r.operand.extractLsb' 0 32).toNat ∧ r.operand.extractLsb' 0 32 ≠ 0) ∧
  (∃ (r : CoreReq) (x : BitVec 2) (pon : Nat) (s : State), s.meets 0x09 r x pon = true ∧ r.operand.extractLsb' 0 32 ≠ 0 ∧ (r.operand.extractLsb' 0 32).toNat < 2 ^ 31 ∧ s.waitersOf x.toNat pon = [] ∧ (r.operand.extractLsb' 0 32).toNat ≤ (s.ent x.toNat pon).count.toNat) ∧
  (∃ (r : CoreReq) (x : BitVec 2) (pon : Nat) (s : State), s.meets 0x09 r x pon = true ∧ r.operand.extractLsb' 0 32 ≠ 0 ∧ (r.operand.extractLsb' 0 32).toNat < 2 ^ 31 ∧ (s.waitersOf x.toNat pon ≠ [] ∨ (s.ent x.toNat pon).count.toNat < (r.operand.extractLsb' 0 32).toNat) ∧ (s.admitRow x.toNat r.pav).isSome = true) ∧
  (∃ (r : CoreReq) (x : BitVec 2) (pon : Nat) (s : State), s.meets 0x09 r x pon = true ∧ 2 ^ 31 ≤ (r.operand.extractLsb' 0 32).toNat) :=
  ⟨⟨ask true 0x7FFFFFFC, 2, 9, (obj 9 (ob .sem 0 0x43)).setEnt 2 9 ({ SemEnt.init with count := 3 }), by decide +kernel⟩,
   ⟨ask true 0x7FFFFFFD, 2, 9, (obj 9 (ob .sem 0 0x43)).setEnt 2 9 ({ SemEnt.init with count := 3 }), by decide +kernel⟩,
   ⟨ask true 3, 2, 9, (obj 9 (ob .sem 0 0x43)).setEnt 2 9 ({ SemEnt.init with count := 3 }), by decide +kernel⟩,
   ⟨ask true 4, 2, 9, (obj 9 (ob .sem 0 0x43)).setEnt 2 9 ({ SemEnt.init with count := 3 }), by decide +kernel⟩,
   ⟨ask true 0x80000000, 2, 9, (obj 9 (ob .sem 0 0x43)).setEnt 2 9 ({ SemEnt.init with count := 3 }), by decide +kernel⟩⟩

theorem wit_LocksAreHeldQueuedAndReleased :
  (∃ (r : CoreReq) (x : BitVec 2) (pon : Nat) (s : State), s.meets 0x0C r x pon = true ∧ (s.ent x.toNat pon).held = false) ∧
  (∃ (r : CoreReq) (x : BitVec 2) (pon : Nat) (s : State), s.meets 0x0E r x pon = true ∧ (s.ent x.toNat pon).held = false) ∧
  (∃ (r : CoreReq) (x : BitVec 2) (pon : Nat) (s : State), s.meets 0x0C r x pon = true ∧ (s.ent x.toNat pon).held = true ∧ (s.ent x.toNat pon).holder ≠ s.identOf (rWho r) ∧ (s.admitRow x.toNat r.pav).isSome = true) ∧
  (∃ (r : CoreReq) (x : BitVec 2) (pon : Nat) (s : State), s.meets 0x0C r x pon = true ∧ (s.ent x.toNat pon).held = true ∧ (s.ent x.toNat pon).holder = s.identOf (rWho r)) ∧
  (∃ (r : CoreReq) (x : BitVec 2) (pon : Nat) (s : State), s.meets 0x0E r x pon = true ∧ (s.ent x.toNat pon).held = true) ∧
  (∃ (r : CoreReq) (x : BitVec 2) (pon : Nat) (s : State), s.meets 0x0D r x pon = true ∧ (s.ent x.toNat pon).held = true ∧ (s.ent x.toNat pon).holder = s.identOf (rWho r)) ∧
  (∃ (r : CoreReq) (x : BitVec 2) (pon : Nat) (s : State), s.meets 0x0D r x pon = true ∧ ((s.ent x.toNat pon).held = false ∨ (s.ent x.toNat pon).holder ≠ s.identOf (rWho r))) ∧
  (∃ (r : CoreReq) (x : BitVec 2) (pon : Nat) (s : State), s.meets 0x0F r x pon = true ∧ (s.ent x.toNat pon).held = true) :=
  ⟨⟨ask true 2, 2, 9, (obj 9 (ob .glock 0 0x43)).setEnt 2 9 ({ SemEnt.init with lock := true }), by decide +kernel⟩,
   ⟨ask true 2, 2, 9, (obj 9 (ob .glock 0 0x43)).setEnt 2 9 ({ SemEnt.init with lock := true }), by decide +kernel⟩,
   ⟨ask true 2, 2, 9, (obj 9 (ob .glock 0 0x43)).setEnt 2 9 ({ heldEnt with holder := 0x123 }), by decide +kernel⟩,
   ⟨ask true 2, 2, 9, (obj 9 (ob .glock 0 0x43)).setEnt 2 9 (heldEnt), by decide +kernel⟩,
   ⟨ask true 2, 2, 9, (obj 9 (ob .glock 0 0x43)).setEnt 2 9 (heldEnt), by decide +kernel⟩,
   ⟨ask true 0, 2, 9, (obj 9 (ob .glock 0 0x43)).setEnt 2 9 (heldEnt), by decide +kernel⟩,
   ⟨ask true 0, 2, 9, (obj 9 (ob .glock 0 0x43)).setEnt 2 9 ({ SemEnt.init with lock := true }), by decide +kernel⟩,
   ⟨ask true 0, 2, 9, ((obj 9 (ob .glock 0 0x43)).setEnt 2 9 ({ heldEnt with holder := 0x123 })).put F.HALT_SUPV_MASK 0x10 1 3, by decide +kernel⟩⟩

theorem wit_TurnstileArrivals :
  (∃ (r : CoreReq) (x : BitVec 2) (pon : Nat) (s : State), s.meets 0x10 r x pon = true ∧ (s.turnMask (s.turn x.toNat pon)).getLsbD r.core.toNat = true ∧ (s.turn x.toNat pon).cur.getLsbD r.core.toNat = false ∧ ((s.turn x.toNat pon).cur ||| 1#384 <<< r.core.toNat) ≠ s.turnMask (s.turn x.toNat pon)) ∧
  (∃ (r : CoreReq) (x : BitVec 2) (pon : Nat) (s : State), s.meets 0x10 r x pon = true ∧ (s.turnMask (s.turn x.toNat pon)).getLsbD r.core.toNat = true ∧ (s.turn x.toNat pon).cur.getLsbD r.core.toNat = false ∧ ((s.turn x.toNat pon).cur ||| 1#384 <<< r.core.toNat) = s.turnMask (s.turn x.toNat pon) ∧ (s.turn x.toNat pon).nxt ≠ s.turnMask (s.turn x.toNat pon) ∧ (s.slot x.toNat pon).val.toNat < 2 ^ 64 - 1 ∧ (s.mem x.toNat).drift = []) ∧
  (∃ (r : CoreReq) (x : BitVec 2) (pon : Nat) (s : State), s.meets 0x10 r x pon = true ∧ (s.turnMask (s.turn x.toNat pon)).getLsbD r.core.toNat = true ∧ (s.turn x.toNat pon).cur.getLsbD r.core.toNat = true ∧ (s.turn x.toNat pon).nxt.getLsbD r.core.toNat = false ∧ (s.turn x.toNat pon).cur ≠ s.turnMask (s.turn x.toNat pon)) ∧
  (∃ (r : CoreReq) (x : BitVec 2) (pon : Nat) (s : State), s.meets 0x10 r x pon = true ∧ (s.turnMask (s.turn x.toNat pon)).getLsbD r.core.toNat = true ∧ (s.turn x.toNat pon).cur.getLsbD r.core.toNat = true ∧ (s.turn x.toNat pon).nxt.getLsbD r.core.toNat = true) ∧
  (∃ (r : CoreReq) (x : BitVec 2) (pon : Nat) (s : State), s.meets 0x10 r x pon = true ∧ (s.turnMask (s.turn x.toNat pon)).getLsbD r.core.toNat = false) ∧
  (∃ (r : CoreReq) (x : BitVec 2) (pon : Nat) (s : State), s.meets 0x11 r x pon = true ∧ (s.turnMask (s.turn x.toNat pon)).getLsbD r.core.toNat = true ∧ (s.turn x.toNat pon).cur.getLsbD r.core.toNat = false ∧ ((s.turn x.toNat pon).cur ||| 1#384 <<< r.core.toNat) ≠ s.turnMask (s.turn x.toNat pon)) ∧
  (∃ (r : CoreReq) (x : BitVec 2) (pon : Nat) (s : State), s.meets 0x11 r x pon = true ∧ (s.turnMask (s.turn x.toNat pon)).getLsbD r.core.toNat = true ∧ (s.turn x.toNat pon).cur.getLsbD r.core.toNat = false ∧ ((s.turn x.toNat pon).cur ||| 1#384 <<< r.core.toNat) = s.turnMask (s.turn x.toNat pon) ∧ (s.turn x.toNat pon).nxt ≠ s.turnMask (s.turn x.toNat pon) ∧ (s.slot x.toNat pon).val.toNat < 2 ^ 64 - 1 ∧ (s.mem x.toNat).drift = []) ∧
  (∃ (r : CoreReq) (x : BitVec 2) (pon : Nat) (s : State), s.meets 0x11 r x pon = true ∧ (s.turnMask (s.turn x.toNat pon)).getLsbD r.core.toNat = true ∧ (s.turn x.toNat pon).cur.getLsbD r.core.toNat = true ∧ (s.turn x.toNat pon).nxt.getLsbD r.core.toNat = false ∧ (s.turn x.toNat pon).cur ≠ s.turnMask (s.turn x.toNat pon)) ∧
  (∃ (r : CoreReq) (x : BitVec 2) (pon : Nat) (s : State), s.meets 0x11 r x pon = true ∧ (s.turnMask (s.turn x.toNat pon)).getLsbD r.core.toNat = true ∧ (s.turn x.toNat pon).cur.getLsbD r.core.toNat = true ∧ (s.turn x.toNat pon).nxt.getLsbD r.core.toNat = true) ∧
  (∃ (r : CoreReq) (x : BitVec 2) (pon : Nat) (s : State), s.meets 0x11 r x pon = true ∧ (s.turnMask (s.turn x.toNat pon)).getLsbD r.core.toNat = false) :=
  ⟨⟨ask true 0, 2, 9, (obj 9 (ob .turnstile 8 0)).setTurn 2 9 { TurnRec.init with cmask := 0xC0000, cur := 0, nxt := 0 }, by decide +kernel⟩,
   ⟨ask true 0, 2, 9, (obj 9 (ob .turnstile 8 0)).setTurn 2 9 { TurnRec.init with cmask := 0xC0000, cur := 0x40000, nxt := 0 }, by decide +kernel⟩,
   ⟨ask true 0, 2, 9, (obj 9 (ob .turnstile 8 0)).setTurn 2 9 { TurnRec.init with cmask := 0xC0000, cur := 0x80000, nxt := 0 }, by decide +kernel⟩,
   ⟨ask true 0, 2, 9, (obj 9 (ob .turnstile 8 0)).setTurn 2 9 { TurnRec.init with cmask := 0xC0000, cur := 0x80000, nxt := 0x80000 }, by decide +kernel⟩,
   ⟨ask true 0, 2, 9, (obj 9 (ob .turnstile 8 0)).setTurn 2 9 { TurnRec.init with cmask := 0x40000, cur := 0, nxt := 0 }, by decide +kernel⟩,
   ⟨ask false 0, 2, 9, (obj 9 (ob .turnstile 8 0)).setTurn 2 9 { TurnRec.init with cmask := 0xC0000, cur := 0, nxt := 0 }, by decide +kernel⟩,
   ⟨ask true 0, 2, 9, (obj 9 (ob .turnstile 8 0)).setTurn 2 9 { TurnRec.init with cmask := 0xC0000, cur := 0x40000, nxt := 0 }, by decide +kernel⟩,
   ⟨ask true 0, 2, 9, (obj 9 (ob .turnstile 8 0)).setTurn 2 9 { TurnRec.init with cmask := 0xC0000, cur := 0x80000, nxt := 0 }, by decide +kernel⟩,
   ⟨ask true 0, 2, 9, (obj 9 (ob .turnstile 8 0)).setTurn 2 9 { TurnRec.init with cmask := 0xC0000, cur := 0x80000, nxt := 0x80000 }, by decide +kernel⟩,
   ⟨ask true 0, 2, 9, (obj 9 (ob .turnstile 8 0)).setTurn 2 9 { TurnRec.init with cmask := 0x40000, cur := 0, nxt := 0 }, by decide +kernel⟩⟩

theorem wit_TicketsAndBatches :
  (∃ (r : CoreReq) (x : BitVec 2) (pon : Nat) (s : State), s.meets 0x14 r x pon = true ∧ s.batchFor (rHalt r) (haltReq 0x14 r) = none ∧ (r.operand.extractLsb' 0 32).toNat ≠ 0 ∧ tickBv (s.slot x.toNat pon).link = false ∧ (s.slot x.toNat pon).val.toNat + (r.operand.extractLsb' 0 32).toNat < 2 ^ 64) ∧
  (∃ (r : CoreReq) (x : BitVec 2) (pon : Nat) (s : State), s.meets 0x14 r x pon = true ∧ s.batchFor (rHalt r) (haltReq 0x14 r) = none ∧ 2 ^ 64 ≤ (s.slot x.toNat pon).val.toNat + (r.operand.extractLsb' 0 32).toNat) ∧
  (∃ (r : CoreReq) (x : BitVec 2) (pon : Nat) (s : State) (b : Nat), s.meets 0x14 r x pon = true ∧ s.batchFor (rHalt r) (haltReq 0x14 r) = none ∧ (r.operand.extractLsb' 0 32).toNat ≠ 0 ∧ tickBv (s.slot x.toNat pon).link = true ∧ s.tickBound x.toNat (s.slot x.toNat pon).link = some b ∧ (s.slot x.toNat pon).val.toNat + (r.operand.extractLsb' 0 32).toNat < 2 ^ 64) ∧
  (∃ (r : CoreReq) (n : Nat) (s : State), s.takes 0x14 r = true ∧ s.batchFor (rHalt r) (haltReq 0x14 r) = some n) ∧
  (∃ (h : BitVec 4) (n : BitVec 2) (a : BitVec 8 × BitVec 5 × Word32) (b : BitVec 8 × BitVec 5 × Word32) (l : List (BitVec 8 × BitVec 5 × Word32)) (s : State), (tget Batch.init (s.halt h.toNat).batches n.toNat).members = a :: b :: l ∧ (tget Batch.init (s.halt h.toNat).batches n.toNat).sent = false ∧ s.rowsGood = true ∧ s.room (.halt h) = true) ∧
  (∃ (h : BitVec 4) (y : BitVec 2) (x : BitVec 2) (rq : HReq) (pon : Nat) (s : State), s.head? (.halt h) (.stn y) = some (.batch rq) ∧ pon < 16384 ∧ s.srcOf (.halt h) = s.dieSrc ∧ rq.req.op = 0x15 ∧ rq.who = .queue h rq.req.core rq.req.qtag ∧ rq.replay = false ∧ s.flag F.REC_STAT_FAILED y.toNat = false ∧ rq.req.gen = s.gen rq.req.pav ∧ rq.req.ctxl = false ∧ (match s.translate y.toNat rq.req.pav rq.req.handle false false 0 with | .ok a => decide (a = s.addrOf x.toNat pon) | .error _ => false) = true ∧ s.admits 0x15 rq.req.pav x pon = true ∧ (s.slot x.toNat pon).kind = .ticket ∧ tickBv (s.slot x.toNat pon).link = false ∧ tickN rq ≠ 0 ∧ (s.slot x.toNat pon).val.toNat + tickN rq < 2 ^ 64) :=
  ⟨⟨ask true 0x100000003, 2, 9, obj 9 (ob .ticket 8 5), by decide +kernel⟩,
   ⟨ask true 0x100000003, 2, 9, obj 9 (ob .ticket 0xFFFFFFFFFFFFFFFD 5), by decide +kernel⟩,
   ⟨ask true 0x100000003, 2, 9, (obj 9 (ob .ticket 3 (512 + 20 * 1024))).modSlot 2 20 (fun _ => ob .counter 16 0), 16, by decide +kernel⟩,
   ⟨ask true 2, 0, ((obj 9 (ob .ticket 3 0)).put F.HALT_TICK_WINDOW 4 1).modHalt 1 (fun h => { h with batches := [(0, ⟨5, 0, 7, [(0x12, 3, 1)], false⟩)] }), by decide +kernel⟩,
   ⟨1, 3, (0x12, 3, 1), (0x13, 4, 2), [], pav5.modHalt 1 (fun h => { h with batches := [(3, ⟨5, 0, 7, [(0x12, 3, 1), (0x13, 4, 2)], false⟩)] }), by decide +kernel⟩,
   ⟨1, 0, 2, ⟨⟨0x15, 5, 0, 7, 0x13, 4, false, true, false, 1, 3⟩, 0, .queue 1 0x13 4, false, none, false, none⟩, 9, { obj 9 (ob .ticket 3 0) with net := [⟨.halt 1, .stn 0, .batch ⟨⟨0x15, 5, 0, 7, 0x13, 4, false, true, false, 1, 3⟩, 0, .queue 1 0x13 4, false, none, false, none⟩⟩] }, by decide +kernel⟩⟩

theorem wit_RingMessages :
  (∃ (r : CoreReq) (x : BitVec 2) (pon : Nat) (s : State), s.meets 0x1C r x pon = true ∧ s.ringMOk x.toNat pon (r.operand.extractLsb' 0 32).toNat = true ∧ s.ringBase x.toNat pon ≠ 0 ∧ (s.reserveDecide x.toNat pon (r.operand.extractLsb' 0 32).toNat).2.2 = true ∧ s.waitersOf x.toNat pon = [] ∧ s.ringR x.toNat pon + (s.reserveDecide x.toNat pon (r.operand.extractLsb' 0 32).toNat).2.1 + (r.operand.extractLsb' 0 32).toNat < 2 ^ 64) ∧
  (∃ (r : CoreReq) (x : BitVec 2) (pon : Nat) (s : State), s.meets 0x1C r x pon = true ∧ s.ringMOk x.toNat pon (r.operand.extractLsb' 0 32).toNat = true ∧ s.ringBase x.toNat pon ≠ 0 ∧ ((s.reserveDecide x.toNat pon (r.operand.extractLsb' 0 32).toNat).2.2 = false ∨ s.waitersOf x.toNat pon ≠ []) ∧ s.ringR x.toNat pon + (s.reserveDecide x.toNat pon (r.operand.extractLsb' 0 32).toNat).2.1 + (r.operand.extractLsb' 0 32).toNat < 2 ^ 64 ∧ (s.admitRow x.toNat r.pav).isSome = true) ∧
  (∃ (r : CoreReq) (x : BitVec 2) (pon : Nat) (s : State), s.meets 0x1C r x pon = true ∧ s.ringMOk x.toNat pon (r.operand.extractLsb' 0 32).toNat = false) ∧
  (∃ (r : CoreReq) (x : BitVec 2) (pon : Nat) (s : State) (v : Nat) (c : Bool), s.meets 0x1D r x pon = true ∧ s.ringMOk x.toNat pon (r.operand.extractLsb' 0 32).toNat = true ∧ s.waitersOf x.toNat (pon + 1) = [] ∧ (∀ e ∈ (s.mem x.toNat).boundList, e.1 ≠ pon ∧ e.1 ≠ pon + 1 ∧ e.1 ≠ pon + 2) ∧ s.ringFate x.toNat pon true (asked 0x1D r) = .apply v c) ∧
  (∃ (r : CoreReq) (x : BitVec 2) (pon : Nat) (s : State) (st : Status), s.meets 0x1D r x pon = true ∧ s.ringMOk x.toNat pon (r.operand.extractLsb' 0 32).toNat = true ∧ s.ringFate x.toNat pon true (asked 0x1D r) = .refuse st) ∧
  (∃ (r : CoreReq) (x : BitVec 2) (pon : Nat) (s : State), s.meets 0x1D r x pon = true ∧ s.ringMOk x.toNat pon (r.operand.extractLsb' 0 32).toNat = true ∧ s.ringFate x.toNat pon true (asked 0x1D r) = .hold ∧ (s.admitRow x.toNat r.pav).isSome = true) ∧
  (∃ (r : CoreReq) (x : BitVec 2) (pon : Nat) (s : State) (v : Nat) (c : Bool), s.meets 0x1E r x pon = true ∧ s.ringMOk x.toNat pon (r.operand.extractLsb' 0 32).toNat = true ∧ s.waitersOf x.toNat (pon + 2) = [] ∧ (∀ e ∈ (s.mem x.toNat).boundList, e.1 ≠ pon ∧ e.1 ≠ pon + 1 ∧ e.1 ≠ pon + 2) ∧ s.ringFate x.toNat pon false (asked 0x1E r) = .apply v c) ∧
  (∃ (r : CoreReq) (x : BitVec 2) (pon : Nat) (s : State) (st : Status), s.meets 0x1E r x pon = true ∧ s.ringMOk x.toNat pon (r.operand.extractLsb' 0 32).toNat = true ∧ s.ringFate x.toNat pon false (asked 0x1E r) = .refuse st) ∧
  (∃ (r : CoreReq) (x : BitVec 2) (pon : Nat) (s : State), s.meets 0x1E r x pon = true ∧ s.ringMOk x.toNat pon (r.operand.extractLsb' 0 32).toNat = true ∧ s.ringFate x.toNat pon false (asked 0x1E r) = .hold ∧ (s.admitRow x.toNat r.pav).isSome = true) :=
  ⟨⟨ask true 8, 2, 8, ringAt 0 0 0, by decide +kernel⟩,
   ⟨ask true 16, 2, 8, ringAt 56 0 0, by decide +kernel⟩,
   ⟨ask true 3, 2, 8, ringAt 0 0 0, by decide +kernel⟩,
   ⟨ask true 8, 2, 8, ringAt 16 0 0, 8, false, by decide +kernel⟩,
   ⟨ask true 24, 2, 8, ringAt 16 0 0, .denied, by decide +kernel⟩,
   ⟨ask true 0x800000008, 2, 8, ringAt 16 0 0, by decide +kernel⟩,
   ⟨ask true 8, 2, 8, ringAt 16 16 0, 8, false, by decide +kernel⟩,
   ⟨ask true 24, 2, 8, ringAt 32 16 0, .underflow, by decide +kernel⟩,
   ⟨ask true 0x800000008, 2, 8, ringAt 16 16 0, by decide +kernel⟩⟩

theorem wit_MoveFreezesThenLeavesMoved :
  (∃ (r : CoreReq) (x : BitVec 2) (pon : Nat) (s : State), s.meets 0x20 r x pon = true ∧ (s.slot x.toNat pon).kind ∉ [.ring, .ringPart] ∧ s.moveRefusal x.toNat pon (asked 0x20 r) = none) ∧
  (∃ (r : CoreReq) (x : BitVec 2) (pon : Nat) (s : State) (st : Status), s.meets 0x20 r x pon = true ∧ s.moveRefusal x.toNat pon (asked 0x20 r) = some st) ∧
  (∃ (y : BitVec 2) (x : BitVec 2) (h : BitVec 4) (a : GAddr) (d : GAddr) (rq : HReq) (s : State), s.head? (.stn y) (.stn x) = some (.moveAck a d rq) ∧ (s.slot x.toNat (aPon a)).kind ∉ [.ring, .ringPart] ∧ (¬(aStn d = x ∧ aPon d = aPon a)) ∧ (s.mem x.toNat).freezeQ = [] ∧ (s.stn x.toNat).backlog = [] ∧ (s.stn x.toNat).beats = [] ∧ rq.load = none ∧ rq.posted = false ∧ (∃ c q, rq.who = .queue h c q)) ∧
  (∃ (src : Part) (h : BitVec 4) (a : GAddr) (d : GAddr) (i : Nat) (s : State), s.head? src (.halt h) = some (.moveNotice a d) ∧ s.rowsGood = true ∧ (s.wait h.toNat i).v = true ∧ (s.wait h.toNat i).addrV = true ∧ (s.wait h.toNat i).addr = a) ∧
  (∃ (src : Part) (a : GAddr) (d : GAddr) (s : State), s.head? src .jct = some (.moveNotice a d) ∧ s.rowsGood = true ∧ s.jct.ttBound = some a) :=
  ⟨⟨ask true ((pav5.addrOf 3 16383).setWidth 64), 2, 9, (obj 9 (ob .counter 3 0)).put F.HALT_SUPV_MASK 0x10 1 3, by decide +kernel⟩,
   ⟨ask true ((pav5.addrOf 2 9).setWidth 64), 2, 9, (obj 9 (ob .counter 3 0)).put F.HALT_SUPV_MASK 0x10 1 3, .denied, by decide +kernel⟩,
   ⟨3, 2, 2, pav5.addrOf 2 9, pav5.addrOf 3 1, (waiter 0 9 0x20 0).rq, { (obj 9 { ob .counter 3 0 with frozen := true }).modSlot 3 1 (fun _ => { ob .counter 3 0 with frozen := true }) with net := [⟨.stn 3, .stn 2, .moveAck (pav5.addrOf 2 9) (pav5.addrOf 3 1) (waiter 0 9 0x20 0).rq⟩] }, (by decide +kernel), (by decide +kernel), (by decide +kernel), (by decide +kernel), (by decide +kernel), (by decide +kernel), (by decide +kernel), (by decide +kernel), ⟨_, _, rfl⟩⟩,
   ⟨.stn 2, 1, pav5.addrOf 2 9, pav5.addrOf 3 1, 383, { pav5.modWait 1 383 (fun _ => { WaitReg.init with v := true, addrV := true, addr := pav5.addrOf 2 9, op := 2 }) with net := [⟨.stn 2, .halt 1, .moveNotice (pav5.addrOf 2 9) (pav5.addrOf 3 1)⟩] }, by decide +kernel⟩,
   ⟨.stn 2, pav5.addrOf 2 9, pav5.addrOf 3 1, { pav5.modJct (fun j => { j with ttBound := some (pav5.addrOf 2 9) }) with net := [⟨.stn 2, .jct, .moveNotice (pav5.addrOf 2 9) (pav5.addrOf 3 1)⟩] }, by decide +kernel⟩⟩

theorem wit_OrAndLanes :
  (∃ (fmt : Nat) (_sc : Nat) (lane : Nat) (x : Nat) (_sat : Bool), fmt ∈ [9, 10, 11, 12] ∧ lane < 2 ^ (8 * fmtWidth fmt) ∧ x < 2 ^ (8 * fmtWidth fmt)) :=
  ⟨9, 0, 5, 10, false, by decide +kernel⟩

theorem wit_FoldContributions :
  (∃ (r : CoreReq) (x : BitVec 2) (pon : Nat) (s : State), s.meets 0x18 r x pon = true ∧ (s.hdr x.toNat pon).v = true ∧ (s.hdr x.toNat pon).wide = false ∧ (r.operand.extractLsb' 32 8).toNat = (s.hdr x.toNat pon).r % 256 ∧ (s.hdr x.toNat pon).rel = false ∧ (s.hdr x.toNat pon).arr.toNat + 1 < (s.hdr x.toNat pon).target.toNat ∧ s.lanesOff x.toNat (laneSize (cfgOp (s.hdr x.toNat pon).cfg.toNat) (cfgIn (s.hdr x.toNat pon).cfg.toNat)) ((s.hdr x.toNat pon).base (foldFirst (s.slot x.toNat pon)) false) (List.range (s.hdr x.toNat pon).lanes) = false) ∧
  (∃ (r : CoreReq) (x : BitVec 2) (pon : Nat) (s : State), s.meets 0x18 r x pon = true ∧ (s.hdr x.toNat pon).v = true ∧ (s.hdr x.toNat pon).wide = false ∧ (r.operand.extractLsb' 32 8).toNat = (s.hdr x.toNat pon).r % 256 ∧ (s.hdr x.toNat pon).rel = false ∧ (s.hdr x.toNat pon).arr.toNat + 1 = (s.hdr x.toNat pon).target.toNat ∧ (s.hdr x.toNat pon).resAddr = 0 ∧ (s.hdr x.toNat pon).arrNx.toNat < (s.hdr x.toNat pon).target.toNat ∧ s.lanesOff x.toNat (laneSize (cfgOp (s.hdr x.toNat pon).cfg.toNat) (cfgIn (s.hdr x.toNat pon).cfg.toNat)) ((s.hdr x.toNat pon).base (foldFirst (s.slot x.toNat pon)) false) (List.range (s.hdr x.toNat pon).lanes) = false) ∧
  (∃ (r : CoreReq) (x : BitVec 2) (pon : Nat) (s : State), s.meets 0x18 r x pon = true ∧ (s.hdr x.toNat pon).v = true ∧ (s.hdr x.toNat pon).wide = false ∧ (r.operand.extractLsb' 32 8).toNat = (s.hdr x.toNat pon).r % 256 ∧ (s.hdr x.toNat pon).target.toNat ≤ (s.hdr x.toNat pon).arr.toNat) ∧
  (∃ (r : CoreReq) (x : BitVec 2) (pon : Nat) (s : State), s.meets 0x18 r x pon = true ∧ (s.hdr x.toNat pon).v = true ∧ 2 ≤ ((r.operand.extractLsb' 32 8).toNat + 256 - (s.hdr x.toNat pon).r % 256) % 256 ∧ ((r.operand.extractLsb' 32 8).toNat + 256 - (s.hdr x.toNat pon).r % 256) % 256 < 253) ∧
  (∃ (r : CoreReq) (x : BitVec 2) (pon : Nat) (s : State), s.meets 0x18 r x pon = true ∧ (s.hdr x.toNat pon).v = true ∧ (s.hdr x.toNat pon).wide = false ∧ (r.operand.extractLsb' 32 8).toNat = (s.hdr x.toNat pon).r % 256 ∧ (s.hdr x.toNat pon).rel = false ∧ (s.hdr x.toNat pon).arr.toNat + 1 ≤ (s.hdr x.toNat pon).target.toNat ∧ s.lanesOff x.toNat (laneSize (cfgOp (s.hdr x.toNat pon).cfg.toNat) (cfgIn (s.hdr x.toNat pon).cfg.toNat)) ((s.hdr x.toNat pon).base (foldFirst (s.slot x.toNat pon)) false) (List.range (s.hdr x.toNat pon).lanes) = true) :=
  ⟨⟨ask true 0xF0F0, 2, 9, foldAt (orHdr 1), by decide +kernel⟩,
   ⟨ask true 0xF0F0, 2, 9, foldAt (orHdr 2), by decide +kernel⟩,
   ⟨ask true 0xF0F0, 2, 9, foldAt (orHdr 3), by decide +kernel⟩,
   ⟨ask true 0x0500000001, 2, 9, foldAt (orHdr 1), by decide +kernel⟩,
   ⟨ask true 0xF0F0, 2, 9, (foldAt (orHdr 1)).put F.PW_FB_STAT_GATED 0xFFFF 0 2, by decide +kernel⟩⟩

theorem wit_FoldBeatsAndApply :
  (∃ (b : BeatWrite) (x : BitVec 2) (pon : Nat) (s : State), s.serving = true ∧ s.withholding b.stn.toNat = false ∧ s.flag F.REC_STAT_FAILED b.stn.toNat = false ∧ s.srcOf (.stn b.stn) = s.dieSrc ∧ b.tag = s.gen (b.addr.extractLsb' 28 6) ∧ pon < 16384 ∧ (match s.translate b.stn.toNat (b.addr.extractLsb' 28 6) (BitVec.ofNat 20 (b.addr.extractLsb' 16 10).toNat) false false 0 with | .ok a => decide (a = s.addrOf x.toNat pon) | .error _ => false) = true ∧ s.admits 0x18 (b.addr.extractLsb' 28 6) x pon = true ∧ s.saving (b.addr.extractLsb' 28 6) = false ∧ (s.hdr x.toNat pon).v = true ∧ (s.hdr x.toNat pon).wide = true ∧ b.be = BitVec.allOnes 64 ∧ (b.addr.extractLsb' 0 16).toNat % 64 = 0 ∧ (b.addr.extractLsb' 0 16).toNat < 64 * (s.hdr x.toNat pon).bpc ∧ (b.addr.extractLsb' 26 2).toNat = (s.hdr x.toNat pon).r % 4 ∧ (s.hdr x.toNat pon).rel = false ∧ (s.hdr x.toNat pon).beats.toNat < (s.hdr x.toNat pon).target.toNat * (s.hdr x.toNat pon).bpc ∧ (s.hdr x.toNat pon).beats.toNat + 1 < 2 ^ 32 ∧ min (s.hdr x.toNat pon).ann.toNat (((s.hdr x.toNat pon).beats.toNat + 1) / (s.hdr x.toNat pon).bpc) ≠ (s.hdr x.toNat pon).target.toNat ∧ s.lanesOff x.toNat (laneSize (cfgOp (s.hdr x.toNat pon).cfg.toNat) (cfgIn (s.hdr x.toNat pon).cfg.toNat)) ((s.hdr x.toNat pon).base (foldFirst (s.slot x.toNat pon)) false) ((beatItems (s.hdr x.toNat pon) ⟨.port b.stn b.isCore b.core b.rtn b.txid b.portB, 0, (b.addr.extractLsb' 28 6), b.tag, b.addr.extractLsb' 26 2, b.addr.extractLsb' 0 16, b.be, b.data⟩).map (·.1)) = false) ∧
  (∃ (b : BeatWrite) (x : BitVec 2) (pon : Nat) (s : State), s.serving = true ∧ s.withholding b.stn.toNat = false ∧ s.flag F.REC_STAT_FAILED b.stn.toNat = false ∧ s.srcOf (.stn b.stn) = s.dieSrc ∧ b.tag = s.gen (b.addr.extractLsb' 28 6) ∧ pon < 16384 ∧ (match s.translate b.stn.toNat (b.addr.extractLsb' 28 6) (BitVec.ofNat 20 (b.addr.extractLsb' 16 10).toNat) false false 0 with | .ok a => decide (a = s.addrOf x.toNat pon) | .error _ => false) = true ∧ s.admits 0x18 (b.addr.extractLsb' 28 6) x pon = true ∧ s.saving (b.addr.extractLsb' 28 6) = false ∧ (s.hdr x.toNat pon).v = true ∧ (s.hdr x.toNat pon).wide = true ∧ b.be = BitVec.allOnes 64 ∧ (b.addr.extractLsb' 0 16).toNat % 64 = 0 ∧ (b.addr.extractLsb' 0 16).toNat < 64 * (s.hdr x.toNat pon).bpc ∧ (b.addr.extractLsb' 26 2).toNat = (s.hdr x.toNat pon).r % 4 ∧ (s.hdr x.toNat pon).target.toNat * (s.hdr x.toNat pon).bpc ≤ (s.hdr x.toNat pon).beats.toNat ∧ (s.hdr x.toNat pon).aborted 0 4 = false) ∧
  (∃ (b : BeatWrite) (x : BitVec 2) (pon : Nat) (s : State), s.serving = true ∧ s.withholding b.stn.toNat = false ∧ s.flag F.REC_STAT_FAILED b.stn.toNat = false ∧ s.srcOf (.stn b.stn) = s.dieSrc ∧ b.tag ≠ s.gen (b.addr.extractLsb' 28 6) ∧ pon < 16384 ∧ (match s.translate b.stn.toNat (b.addr.extractLsb' 28 6) (BitVec.ofNat 20 (b.addr.extractLsb' 16 10).toNat) false false 0 with | .ok a => decide (a = s.addrOf x.toNat pon) | .error _ => false) = true ∧ s.admits 0x18 (b.addr.extractLsb' 28 6) x pon = true ∧ s.saving (b.addr.extractLsb' 28 6) = false ∧ (s.hdr x.toNat pon).v = true ∧ (s.hdr x.toNat pon).wide = true ∧ b.be = BitVec.allOnes 64 ∧ (b.addr.extractLsb' 0 16).toNat % 64 = 0 ∧ (b.addr.extractLsb' 0 16).toNat < 64 * (s.hdr x.toNat pon).bpc) ∧
  (∃ (b : BeatWrite) (a : GAddr) (s : State), s.serving = true ∧ s.withholding b.stn.toNat = false ∧ s.flag F.REC_STAT_FAILED b.stn.toNat = false ∧ s.rowsGood = true ∧ b.tag ≠ s.gen (b.addr.extractLsb' 28 6) ∧ (match s.translate b.stn.toNat (b.addr.extractLsb' 28 6) (BitVec.ofNat 20 (b.addr.extractLsb' 16 10).toNat) false false 0 with | .ok g => decide (g = a) | .error _ => false) = true ∧ aSrc a ≠ s.srcOf (.stn b.stn)) ∧
  (∃ (x : BitVec 2) (_w : Word32) (s : State), s.cfgOpen (0x0C + x.toNat) 0x058 = true) :=
  ⟨⟨⟨2, true, 0x99, 0x55, 7, BitVec.ofNat 34 (5 * 2 ^ 28 + 7 * 2 ^ 16 + 0), 0, BitVec.allOnes 64, 0xFF, false⟩, 2, 9, foldAt { orHdr 0 with cfg := 0xCCE, lanes := 128, resAddr := 0x4000 }, by decide +kernel⟩,
   ⟨⟨2, true, 0x99, 0x55, 7, BitVec.ofNat 34 (5 * 2 ^ 28 + 7 * 2 ^ 16 + 0), 0, BitVec.allOnes 64, 0xFF, false⟩, 2, 9, foldAt { { orHdr 0 with cfg := 0xCCE, lanes := 128, resAddr := 0x4000 } with beats := 3 * 64 }, by decide +kernel⟩,
   ⟨⟨2, true, 0x99, 0x55, 7, BitVec.ofNat 34 (5 * 2 ^ 28 + 7 * 2 ^ 16 + 0), 1, BitVec.allOnes 64, 0xFF, false⟩, 2, 9, foldAt { orHdr 0 with cfg := 0xCCE, lanes := 128, resAddr := 0x4000 }, by decide +kernel⟩,
   ⟨⟨2, true, 0x99, 0x55, 7, BitVec.ofNat 34 (5 * 2 ^ 28 + 7 * 2 ^ 16 + 0), 1, BitVec.allOnes 64, 0xFF, false⟩, farObj, (List.range 4).foldl (fun s si => s.modMem si (fun m => { m with hmap := [(71, hmWord farObj true false)], rights := [(64 + 5, 15)] })) pav5, by decide +kernel⟩,
   ⟨2, 1, rdy, by decide +kernel⟩⟩

theorem wit_SignalSpaceAndContextBases :
  (∃ (a : SsAccess) (x : BitVec 2) (pon : Nat) (s : State), s.haltStalled a.halt.toNat = false ∧ s.rowsGood = true ∧ s.srcOf (.halt a.halt) = s.dieSrc ∧ s.ssRefusal a false = none ∧ s.translate (a.halt.toNat / 4) (ssPav a) (ssHandle a) ((ssHandle a).toNat / 2 ^ 16 = 0xF) true 0 = .ok (s.addrOf x.toNat pon) ∧ pon < 16384 ∧ (s.slot x.toNat pon).kind ≠ .moved) ∧
  (∃ (a : SsAccess) (x : BitVec 2) (pon : Nat) (s : State), s.haltStalled a.halt.toNat = false ∧ s.rowsGood = true ∧ s.srcOf (.halt a.halt) = s.dieSrc ∧ s.ssRefusal a true = none ∧ (s.halt a.halt.toNat).orig.ret.length < 64 ∧ s.translate (a.halt.toNat / 4) (ssPav a) (ssHandle a) ((ssHandle a).toNat / 2 ^ 16 = 0xF) true 0 = .ok (s.addrOf x.toNat pon) ∧ pon < 16384 ∧ (s.slot x.toNat pon).kind ≠ .moved) ∧
  (∃ (a : SsAccess) (s : State), s.haltStalled a.halt.toNat = false ∧ ssValid a = false) ∧
  (∃ (y : BitVec 2) (a : SsAccess) (x : BitVec 2) (pon : Nat) (s : State), s.head? (.stn y) (.halt a.halt) = some (.kind a false .done (s.addrOf x.toNat pon) .counter) ∧ s.su.wInstr.underTest = false ∧ s.srcOf (.halt a.halt) = s.dieSrc ∧ (s.halt a.halt.toNat).ssHeld = [] ∧ pon < 16384 ∧ s.admits 0x04 (ssPav a) x pon = true ∧ (s.slot x.toNat pon).kind = .counter) ∧
  (∃ (y : BitVec 2) (a : SsAccess) (x : BitVec 2) (pon : Nat) (s : State), s.head? (.stn y) (.halt a.halt) = some (.kind a true .done (s.addrOf x.toNat pon) .counter) ∧ pon < 16384 ∧ s.srcOf (.halt a.halt) = s.dieSrc ∧ (s.halt a.halt.toNat).ssHeld = [] ∧ s.admits 0x01 (ssPav a) x pon = true ∧ (s.slot x.toNat pon).kind = .counter ∧ a.data ≠ 0 ∧ (s.slot x.toNat pon).val.toNat + a.data.toNat < 2 ^ 64 ∧ (∀ e ∈ (s.mem x.toNat).boundList, e.1 ≠ pon)) ∧
  (∃ (y : BitVec 2) (a : SsAccess) (g : GAddr) (k : Kind) (s : State), s.head? (.stn y) (.halt a.halt) = some (.kind a true .done g k) ∧ (s.halt a.halt.toNat).ssHeld = [] ∧ k ∉ [.counter, .sem, .glock, .mlock]) ∧
  (∃ (_c : BitVec 8) (q : BitVec 5) (_w : Word32) (_s : State), q.toNat < 24) ∧
  (∃ (_c : BitVec 8) (q : BitVec 5) (s : State), q.toNat < 24 ∧ s.su.wInstr.underTest = false) ∧
  (∃ (c : BitVec 8) (q : BitVec 5) (_w : Word32) (s : State), q.toNat < 24 ∧ waitIdx c q ∈ (s.halt (c.toNat / 16)).asking) ∧
  (∃ (c : BitVec 8) (q : BitVec 5) (_w : Word32) (s : State), waitIdx c q ∉ (s.halt (c.toNat / 16)).asking) :=
  ⟨⟨⟨1, true, 0x99, 0x55, 7, 0x5000070, 8, 3⟩, 2, 9, obj 9 (ob .counter 5 0), by decide +kernel⟩,
   ⟨⟨1, true, 0x99, 0x55, 7, 0x5000070, 8, 3⟩, 2, 9, obj 9 (ob .counter 5 0), by decide +kernel⟩,
   ⟨⟨1, true, 0x99, 0x55, 7, 0x5000070, 4, 3⟩, rdy, by decide +kernel⟩,
   ⟨0, ⟨1, true, 0x99, 0x55, 7, 0x5000070, 8, 3⟩, 2, 9, { obj 9 (ob .counter 5 0) with net := [⟨.stn 0, .halt 1, .kind ⟨1, true, 0x99, 0x55, 7, 0x5000070, 8, 3⟩ false .done (rdy.addrOf 2 9) .counter⟩] }, by decide +kernel⟩,
   ⟨0, ⟨1, true, 0x99, 0x55, 7, 0x5000070, 8, 3⟩, 2, 9, { obj 9 (ob .counter 5 0) with net := [⟨.stn 0, .halt 1, .kind ⟨1, true, 0x99, 0x55, 7, 0x5000070, 8, 3⟩ true .done (rdy.addrOf 2 9) .counter⟩] }, by decide +kernel⟩,
   ⟨0, ⟨1, true, 0x99, 0x55, 7, 0x5000070, 8, 3⟩, rdy.addrOf 2 9, .turnstile, { obj 9 (ob .counter 5 0) with net := [⟨.stn 0, .halt 1, .kind ⟨1, true, 0x99, 0x55, 7, 0x5000070, 8, 3⟩ true .done (rdy.addrOf 2 9) .turnstile⟩] }, by decide +kernel⟩,
   ⟨0x13, 4, 0x80010000, rdy, by decide +kernel⟩,
   ⟨0x13, 23, rdy, by decide +kernel⟩,
   ⟨0x13, 4, 0x80010000, rdy.modHalt 1 (fun h => { h with asking := [76] }), by decide +kernel⟩,
   ⟨0x13, 4, 0x80010000, rdy, by decide +kernel⟩⟩

theorem wit_GangsEnableReleaseHoldDerail :
  (∃ (w : Word32) (s : State), s.cfgOpen 0x00 0x10C = true ∧ w.getLsbD 1 = false ∧ s.gangCode (s.get F.GANG_SEL_GANG) = 0) ∧
  (∃ (w : Word32) (s : State), s.cfgOpen 0x00 0x10C = true ∧ (w.getLsbD 1 = true ∨ s.gangCode (s.get F.GANG_SEL_GANG) ≠ 0)) ∧
  (∃ (w : Word32) (s : State), s.cfgOpen 0x00 0x10C = true ∧ w.getLsbD 0 = false ∧ (s.gangWaits (s.get F.GANG_SEL_GANG) = [] ∨ w.getLsbD 2 = true) ∧ s.gangState (s.get F.GANG_SEL_GANG) ≠ 0) ∧
  (∃ (w : Word32) (s : State), s.cfgOpen 0x00 0x10C = true ∧ w.getLsbD 0 = false ∧ s.gangWaits (s.get F.GANG_SEL_GANG) ≠ [] ∧ w.getLsbD 2 = false ∧ s.gangState (s.get F.GANG_SEL_GANG) ≠ 0) ∧
  (∃ (_w : Word32) (s : State), s.cfgOpen 0x00 0x104 = true ∧ s.gangState (s.get F.GANG_SEL_GANG) = 0) ∧
  (∃ (o : BitVec 12) (_w : Word32) (s : State), (o = 0x104 ∨ o = 0x108) ∧ s.cfgOpen 0x00 o.toNat = true ∧ s.gangState (s.get F.GANG_SEL_GANG) ≠ 0) ∧
  (∃ (g : BitVec 5) (src : Part) (dst : Part) (s : State), s.head? src dst = some (.gangFire g) ∧ s.gangState g.toNat ≠ 0) ∧
  (∃ (c : BitVec 8) (n : BitVec 4) (g : Nat) (s : State), n ≠ 0 ∧ n.toNat < 8 ∧ s.gangOfCore c.toNat = some g ∧ s.gangState g = 2 ∧ tget 0 s.jct.holds g % 16 = 0) ∧
  (∃ (c : BitVec 8) (n : BitVec 4) (g : Nat) (m : Nat) (s : State), n.toNat < 8 ∧ s.gangOfCore c.toNat = some g ∧ s.gangState g = 2 ∧ m ≠ 0 ∧ m < n.toNat ∧ tget 0 s.jct.holds g = s.fclk * 16 + m) ∧
  (∃ (c : BitVec 8) (n : BitVec 4) (g : Nat) (m : Nat) (s : State), 8 ≤ n.toNat ∧ s.gangOfCore c.toNat = some g ∧ s.gangState g = 2 ∧ m ≠ 0 ∧ m < 16 ∧ tget 0 s.jct.holds g = s.fclk * 16 + m) ∧
  (∃ (g : Nat) (n : Nat) (s : State), s.pending = [] ∧ s.su.wInstr.underTest = false ∧ (∀ i < 5, (s.prot i).due = []) ∧ tget 0 s.jct.wires g = n ∧ n ≠ 0 ∧ n ≤ 16) ∧
  (∃ (c : BitVec 8) (n : BitVec 4) (g : Nat) (s : State), 8 ≤ n.toNat ∧ s.gangOfCore c.toNat = some g ∧ s.gangState g = 2 ∧ tget 0 s.jct.holds g % 16 = 0) ∧
  (∃ (c : BitVec 8) (n : BitVec 4) (s : State), n ≠ 0 ∧ s.gangOfCore c.toNat = none) :=
  ⟨⟨1, gangAt 0, by decide +kernel⟩,
   ⟨3, gangAt 0, by decide +kernel⟩,
   ⟨2, gangAt 2, by decide +kernel⟩,
   ⟨2, (gangAt 1).modWait 1 76 (fun _ => { WaitReg.init with v := true, gang := some 0 }), by decide +kernel⟩,
   ⟨0x14106, gangAt 0, by decide +kernel⟩,
   ⟨0x104, 0, gangAt 1, by decide +kernel⟩,
   ⟨0, .stn 2, .jct, { gangAt 1 with net := [⟨.stn 2, .jct, .gangFire 0⟩] }, by decide +kernel⟩,
   ⟨0x13, 7, 0, gangAt 2, by decide +kernel⟩,
   ⟨0x13, 7, 0, 6, (gangAt 2).modJct (fun j => { j with holds := [(0, (gangAt 2).fclk * 16 + 6)] }), by decide +kernel⟩,
   ⟨0x13, 8, 0, 6, ((gangAt 2).modJct (fun j => { j with holds := [(0, (gangAt 2).fclk * 16 + 6)] })).put F.GANG_HOLDS_COUNT 1, by decide +kernel⟩,
   ⟨0, 1, (gangAt 2).modJct (fun j => { j with wires := [(0, 1)] }), by decide +kernel⟩,
   ⟨0x13, 8, 0, gangAt 2, by decide +kernel⟩,
   ⟨0x14, 2, gangAt 2, by decide +kernel⟩⟩

theorem wit_WatchMessages :
  (∃ (h : BitVec 4) (x : BitVec 2) (pon : Nat) (e : Word64) (p : BitVec 6) (s : State), s.head? (.halt h) (.stn x) = some (.reg (s.addrOf x.toNat pon) e p) ∧ pon < 16384 ∧ s.admits 0x02 (s.slot x.toNat pon).pav x pon = true ∧ p = (s.slot x.toNat pon).pav ∧ (s.slot x.toNat pon).orphan = false) ∧
  (∃ (h : BitVec 4) (x : BitVec 2) (pon : Nat) (s : State), s.head? (.halt h) (.stn x) = some (.cancel (s.addrOf x.toNat pon) none) ∧ pon < 16384 ∧ (s.slot x.toNat pon).kind ≠ .moved) ∧
  (∃ (src : Part) (h : BitVec 4) (i : Nat) (a : GAddr) (v : Word64) (word : Option Word64) (s : State), s.head? src (.halt h) = some (.notify a v .done word) ∧ s.rowsGood = true ∧ waitsOn a (s.wait h.toNat i) = true ∧ (s.wait h.toNat i).exp.toNat ≤ v.toNat) ∧
  (∃ (src : Part) (h : BitVec 4) (i : Nat) (a : GAddr) (v : Word64) (word : Option Word64) (s : State), s.head? src (.halt h) = some (.notify a v .done word) ∧ s.rowsGood = true ∧ (∀ e ∈ (s.halt h.toNat).waits, e.1 = i → ¬(waitsOn a e.2 = true ∧ e.2.exp.toNat ≤ v.toNat))) ∧
  (∃ (src : Part) (h : BitVec 4) (i : Nat) (a : GAddr) (e : Word64) (s : State), s.head? src (.halt h) = some (.refusal a e) ∧ s.rowsGood = true ∧ waitsOn a (s.wait h.toNat i) = true) ∧
  (∃ (h : BitVec 4) (i : Nat) (a : GAddr) (s : State), waitsOn a (s.wait h.toNat i) = true ∧ (s.wait h.toNat i).refused = true) ∧
  (∃ (src : Part) (h : BitVec 4) (a : GAddr) (e : Word64) (s : State), s.head? src (.halt h) = some (.refusal a e) ∧ s.rowsGood = true ∧ (scriptWaits (s.halt h.toNat) a).isSome = true) ∧
  (∃ (h : BitVec 4) (a : GAddr) (s : State), (s.halt h.toNat).scriptRefused = true ∧ (scriptWaits (s.halt h.toNat) a).isSome = true) :=
  ⟨⟨1, 2, 9, 3, 5, { obj 9 (ob .counter 5 0) with net := [⟨.halt 1, .stn 2, .reg (rdy.addrOf 2 9) 3 5⟩] }, by decide +kernel⟩,
   ⟨1, 2, 9, { (obj 9 (ob .counter 5 0)).modMem 2 (fun m => { m with watches := [⟨0, 9, 1, 9, 5⟩, ⟨1, 9, 2, 9, 5⟩] }) with net := [⟨.halt 1, .stn 2, .cancel (rdy.addrOf 2 9) none⟩] }, by decide +kernel⟩,
   ⟨.stn 2, 1, 76, rdy.addrOf 2 9, 5, none, { pav5.modWait 1 76 (fun _ => { WaitReg.init with v := true, addrV := true, addr := rdy.addrOf 2 9, op := 2, exp := 5, pav := 5, ret := true }) with net := [⟨.stn 2, .halt 1, .notify (rdy.addrOf 2 9) 5 .done none⟩] }, by decide +kernel⟩,
   ⟨.stn 2, 1, 76, rdy.addrOf 2 9, 4, none, { pav5.modWait 1 76 (fun _ => { WaitReg.init with v := true, addrV := true, addr := rdy.addrOf 2 9, op := 2, exp := 5, pav := 5, ret := true }) with net := [⟨.stn 2, .halt 1, .notify (rdy.addrOf 2 9) 4 .done none⟩] }, by decide +kernel⟩,
   ⟨.stn 2, 1, 76, rdy.addrOf 2 9, 5, { pav5.modWait 1 76 (fun _ => { WaitReg.init with v := true, addrV := true, addr := rdy.addrOf 2 9, op := 2, exp := 5, pav := 5, ret := true }) with net := [⟨.stn 2, .halt 1, .refusal (rdy.addrOf 2 9) 5⟩] }, by decide +kernel⟩,
   ⟨1, 76, rdy.addrOf 2 9, pav5.modWait 1 76 (fun _ => { { WaitReg.init with v := true, addrV := true, addr := rdy.addrOf 2 9, op := 2, exp := 5, pav := 5, ret := true } with refused := true }), by decide +kernel⟩,
   ⟨.stn 2, 1, rdy.addrOf 2 9, 5, { (pav5.modHalt 1 (fun h => { h with  script := { h.script with state := .waiting, cmp := some (rdy.addrOf 2 9, 5), wait := some { thAsk 2 5 with who := .thread (.script 1) } } })) with net := [⟨.stn 2, .halt 1, .refusal (rdy.addrOf 2 9) 5⟩] }, by decide +kernel⟩,
   ⟨1, rdy.addrOf 2 9, pav5.modHalt 1 (fun h => { h with scriptRefused := true, script := { h.script with state := .waiting, cmp := some (rdy.addrOf 2 9, 5), wait := some { thAsk 2 5 with who := .thread (.script 1) } } }), by decide +kernel⟩⟩

theorem wit_AnswersAtTheHalt :
  (∃ (src : Part) (h : BitVec 4) (c : BitVec 8) (q : BitVec 5) (rq : HReq) (st : Status) (s : State), s.head? src (.halt h) = some (.ack rq st) ∧ rq.who = .queue h c q ∧ s.rowsGood = true ∧ q.toNat < 24 ∧ tget 0 (s.halt h.toNat).unacked (waitIdx c q) ≠ 0 ∧ rq.req.gen = s.gen rq.req.pav) ∧
  (∃ (src : Part) (h : BitVec 4) (c : BitVec 8) (q : BitVec 5) (rq : HReq) (st : Status) (v : Word64) (aux : Word64) (m : BitVec 9) (s : State), s.head? src (.halt h) = some (.compl rq st v aux m) ∧ rq.who = .queue h c q ∧ s.rowsGood = true ∧ rq.req.op ≠ 0x15 ∧ q.toNat < 24 ∧ (s.wait h.toNat (waitIdx c q)).v = true ∧ (s.wait h.toNat (waitIdx c q)).stale = false ∧ (s.wait h.toNat (waitIdx c q)).op = rq.req.op ∧ (s.wait h.toNat (waitIdx c q)).sided = false ∧ ((s.wait h.toNat (waitIdx c q)).addrV = true → (s.wait h.toNat (waitIdx c q)).addr = rq.addr)) ∧
  (∃ (src : Part) (h : BitVec 4) (c : BitVec 8) (q : BitVec 5) (rq : HReq) (st : Status) (v : Word64) (aux : Word64) (m : BitVec 9) (s : State), s.head? src (.halt h) = some (.compl rq st v aux m) ∧ rq.who = .queue h c q ∧ s.rowsGood = true ∧ rq.req.op ≠ 0x15 ∧ rq.req.op ≠ 0x14 ∧ (∀ e ∈ (s.halt h.toNat).waits, e.2.v = false)) ∧
  (∃ (src : Part) (h : BitVec 4) (c : BitVec 8) (q : BitVec 5) (rq : HReq) (st : Status) (v : Word64) (aux : Word64) (m : BitVec 9) (n : Nat) (s : State), s.head? src (.halt h) = some (.compl rq st v aux m) ∧ rq.who = .queue h c q ∧ rq.req.core = c ∧ rq.req.qtag = q ∧ s.rowsGood = true ∧ rq.req.op = 0x15 ∧ s.batchOf h.toNat c q false = some n) :=
  ⟨⟨.stn 2, 1, 0x13, 4, asked 1 (ask false 3), .done, { pav5.modHalt 1 (fun h => { h with unacked := [(76, 1)] }) with net := [⟨.stn 2, .halt 1, .ack (asked 1 (ask false 3)) .done⟩] }, by decide +kernel⟩,
   ⟨.stn 2, 1, 0x13, 4, asked 4 (ask true 3), .done, 9, 0, 0, { pav5.modWait 1 76 (fun _ => { { WaitReg.init with v := true, addrV := true, addr := rdy.addrOf 2 9, op := 2, exp := 5, pav := 5, ret := true } with op := 4, addrV := false }) with net := [⟨.stn 2, .halt 1, .compl (asked 4 (ask true 3)) .done 9 0 0⟩] }, by decide +kernel⟩,
   ⟨.stn 2, 1, 0x13, 4, asked 4 (ask true 3), .done, 9, 0, 0, { pav5.modWait 1 76 (fun _ => { { WaitReg.init with v := true, addrV := true, addr := rdy.addrOf 2 9, op := 2, exp := 5, pav := 5, ret := true } with op := 4, v := false, stale := true }) with net := [⟨.stn 2, .halt 1, .compl (asked 4 (ask true 3)) .done 9 0 0⟩] }, by decide +kernel⟩,
   ⟨.stn 0, 1, 0x13, 4, ⟨⟨0x15, 5, 0, 7, 0x13, 4, false, true, false, 1, 3⟩, 0, .queue 1 0x13 4, false, none, false, none⟩, .done, 3, 3, 0, 3, { (List.foldl (fun s i => s.modWait 1 i (fun _ => { WaitReg.init with v := true, op := 0x14, pav := 5, ret := true })) (pav5.modHalt 1 (fun h => { h with batches := [(3, ⟨5, 0, 7, [(0x13, 4, 1), (0x12, 3, 2)], true⟩)] })) [76, 51]) with net := [⟨.stn 0, .halt 1, .compl ⟨⟨0x15, 5, 0, 7, 0x13, 4, false, true, false, 1, 3⟩, 0, .queue 1 0x13 4, false, none, false, none⟩ .done 3 3 0⟩] }, by decide +kernel⟩⟩

theorem wit_HaltAndWaiterTimers :
  (∃ (h : BitVec 4) (reg : BitVec 9) (s : State), (s.wait h.toNat reg.toNat).v = true ∧ reg.toNat < 384 ∧ reg.toNat % 24 < 16 ∧ (s.wait h.toNat reg.toNat).luisk = true ∧ (s.wait h.toNat reg.toNat).op ∈ [0x02, 0x09, 0x10] ∧ (s.wait h.toNat (24 * (reg.toNat / 24) + 22)).v = false ∧ (s.wait h.toNat (24 * (reg.toNat / 24) + 22)).stale = false) ∧
  (∃ (h : BitVec 4) (reg : BitVec 9) (s : State), reg.toNat < 384 ∧ (s.wait h.toNat reg.toNat).v = true ∧ agedByHalt (s.wait h.toNat reg.toNat).op = true ∧ s.waitLimit (s.wait h.toNat reg.toNat).pav ≠ 0 ∧ s.waitLimit (s.wait h.toNat reg.toNat).pav ≤ (s.wait h.toNat reg.toNat).age.toNat) ∧
  (∃ (h : BitVec 4) (reg : BitVec 9) (s : State), (s.wait h.toNat reg.toNat).stale = true) ∧
  (∃ (c : BitVec 8) (q : BitVec 5) (s : State), s.jct.remoteStale.any (fun e => e.1 = c.toNat * 32 + q.toNat) = true ∧ s.jct.remoteHeld = []) ∧
  (∃ (x : BitVec 2) (row : BitVec 13) (w : Waiter) (s : State), (s.mem x.toNat).waiters.find? (fun w => w.row = row.toNat) = some w ∧ s.recordLimit w ≠ 0 ∧ s.recordLimit w ≤ w.age.toNat ∧ (s.slot x.toNat w.pon).kind ∉ [.sem, .ticket, .ring] ∧ w.rq.load = none ∧ w.rq.posted = false ∧ (∃ h c q, w.rq.who = .queue h c q)) :=
  ⟨⟨1, 76, (pav5.modWait 1 76 (fun _ => { WaitReg.init with v := true, addrV := true, addr := rdy.addrOf 2 9, op := 2, exp := 5, pav := 5, ret := true, luisk := true })).put F.WAIT_CFG_LUISK 1 0 5, by decide +kernel⟩,
   ⟨1, 76, (pav5.modWait 1 76 (fun _ => { { WaitReg.init with v := true, addrV := true, addr := rdy.addrOf 2 9, op := 2, exp := 5, pav := 5, ret := true } with age := 7 })).put F.WAIT_CFG_LIMIT 7 0 5, by decide +kernel⟩,
   ⟨1, 76, pav5.modWait 1 76 (fun _ => { { WaitReg.init with v := true, addrV := true, addr := rdy.addrOf 2 9, op := 2, exp := 5, pav := 5, ret := true } with v := false, stale := true }), by decide +kernel⟩,
   ⟨0x13, 4, rdy.modJct (fun j => { j with remoteStale := [(0x13 * 32 + 4, 0)] }), by decide +kernel⟩,
   ⟨2, 3, ({ waiter 3 9 0x0C 2 with age := 5 }), ((obj 9 (ob .glock 0 0x43)).put F.LOCK_CFG_LIMIT 5 0 5).modMem 2 (fun m => { m with waiters := [{ waiter 3 9 0x0C 2 with age := 5 }] }), (by decide +kernel), (by decide +kernel), (by decide +kernel), (by decide +kernel), (by decide +kernel), (by decide +kernel), ⟨_, _, _, rfl⟩⟩⟩

theorem wit_DurabilityAndRelease :
  (∃ (src : Part) (dst : Part) (str : BitVec 15) (q : BitVec 8) (home : BitVec 11) (s : State), s.head? src dst = some (.dur str q home) ∧ str.extractLsb' 0 9 = s.dieSrc ∧ (∀ h, dst = .halt h → (s.halt h.toNat).ssHeld = [])) ∧
  (∃ (src : Part) (str : BitVec 15) (q : BitVec 8) (home : BitVec 11) (s : State), s.head? src .jct = some (.dur str q home) ∧ str.extractLsb' 0 9 ≠ s.dieSrc) ∧
  (∃ (src : Part) (x : BitVec 2) (str : BitVec 15) (q : BitVec 8) (p : BitVec 8) (s : State), s.head? src (.stn x) = some (.release str q p)) :=
  ⟨⟨.stn 2, .halt 1, (rdy.dieSrc.setWidth 15), 9, 0, { rdy.modHalt 1 (fun h => { h with orig := ⟨4, [⟨4, false, 0, { asked 1 (ask false 3) with addr := rdy.addrOf 2 9 }, none, true⟩], []⟩ }) with net := [⟨.stn 2, .halt 1, .dur (rdy.dieSrc.setWidth 15) 9 0⟩] }, by decide +kernel⟩,
   ⟨.stn 2, 16, 9, 6, { rdy with net := [⟨.stn 2, .jct, .dur 16 9 6⟩] }, by decide +kernel⟩,
   ⟨.halt 1, 2, (rdy.dieSrc.setWidth 15), 8, 7, { rdy.modMem 2 (fun m => { m with origins := [(rdy.dieSrc.toNat, 8)] }) with net := [⟨.halt 1, .stn 2, .release (rdy.dieSrc.setWidth 15) 8 7⟩] }, by decide +kernel⟩⟩

theorem wit_FramesAreCheckedInOrder :
  (∃ (c : Instr) (k : Nat) (f : Line) (pos : BitVec 16) (s : State), (c, k) ∈ [(Instr.reqRecord f pos, 1), (.cplRecord f, 2), (.regRecord f, 3), (.canRecord f, 4), (.ntfRecord f, 5), (.durRecord f, 7), (.noteRecord f, 8), (.rfsRecord f, 9), (.rlsRecord f pos, 10), (.beatFrame f, 16), (.partFrame f, 17), (.ctrlFrame f, 18), (.resync f, 19)] ∧ s.stopped .jct = false ∧ s.parked = false ∧ fGood f = false) ∧
  (∃ (c : Instr) (k : Nat) (f : Line) (pos : BitVec 16) (s : State), (c, k) ∈ [(Instr.reqRecord f pos, 1), (.cplRecord f, 2), (.regRecord f, 3), (.canRecord f, 4), (.ntfRecord f, 5), (.durRecord f, 7), (.noteRecord f, 8), (.rfsRecord f, 9), (.rlsRecord f pos, 10), (.beatFrame f, 16), (.partFrame f, 17), (.ctrlFrame f, 18), (.resync f, 19)] ∧ s.stopped .jct = false ∧ s.parked = false ∧ fGood f = true ∧ fDst f = s.dieSrc ∧ fKind f = some k ∧ s.rxReady (fVc f) = true ∧ fVc f ≠ 3 ∧ fSeq f ≠ tget 0 s.jct.rxSeq (peerVc (fSrc f) (fVc f)) ∧ (tget 0 s.jct.rxSeq (peerVc (fSrc f) (fVc f)) + 65536 - fSeq f) % 65536 ≤ 32768) ∧
  (∃ (c : Instr) (k : Nat) (f : Line) (pos : BitVec 16) (s : State), (c, k) ∈ [(Instr.reqRecord f pos, 1), (.cplRecord f, 2), (.regRecord f, 3), (.canRecord f, 4), (.ntfRecord f, 5), (.durRecord f, 7), (.noteRecord f, 8), (.rfsRecord f, 9), (.rlsRecord f pos, 10), (.beatFrame f, 16), (.partFrame f, 17), (.ctrlFrame f, 18), (.resync f, 19)] ∧ s.stopped .jct = false ∧ s.parked = false ∧ fGood f = true ∧ fDst f = s.dieSrc ∧ fKind f = some k ∧ s.rxReady (fVc f) = true ∧ fVc f ≠ 3 ∧ 32768 < (tget 0 s.jct.rxSeq (peerVc (fSrc f) (fVc f)) + 65536 - fSeq f) % 65536) ∧
  (∃ (c : Instr) (k : Nat) (f : Line) (pos : BitVec 16) (s : State), (c, k) ∈ [(Instr.reqRecord f pos, 1), (.cplRecord f, 2), (.regRecord f, 3), (.canRecord f, 4), (.ntfRecord f, 5), (.durRecord f, 7), (.noteRecord f, 8), (.rfsRecord f, 9), (.rlsRecord f pos, 10), (.beatFrame f, 16), (.partFrame f, 17), (.ctrlFrame f, 18), (.resync f, 19)] ∧ s.stopped .jct = false ∧ s.parked = false ∧ fGood f = true ∧ fDst f = s.dieSrc ∧ fKind f = some k ∧ s.rxReady (fVc f) = false) :=
  ⟨⟨.cplRecord ((far 1 1 [(recCpl 9 .done false 7 0x13 4 0)]) ^^^ (1#512 <<< 490)), 2, (far 1 1 [(recCpl 9 .done false 7 0x13 4 0)]) ^^^ (1#512 <<< 490), 0, rdy, by decide +kernel⟩,
   ⟨.cplRecord (far 1 1 [(recCpl 9 .done false 7 0x13 4 0)]), 2, far 1 1 [(recCpl 9 .done false 7 0x13 4 0)], 0, link (fun j => { j with rxSeq := [(peerVc 2 1, 1)] }), by decide +kernel⟩,
   ⟨.cplRecord (far 1 1 [(recCpl 9 .done false 7 0x13 4 0)]), 2, far 1 1 [(recCpl 9 .done false 7 0x13 4 0)], 0, link (fun j => { j with rxSeq := [(peerVc 2 1, 65535)] }), by decide +kernel⟩,
   ⟨.reqRecord (far 1 0 [recReq { asked 1 { ask false 3 with pav := 9 } with addr := rdy.addrOf 2 9 } 0]) 0, 1, far 1 0 [recReq { asked 1 { ask false 3 with pav := 9 } with addr := rdy.addrOf 2 9 } 0], 0, (imp.modStn 2 (fun n => { n with backlog := [(0, asked 1 (ask false 3))] })).modJct (fun j => { j with pool := [⟨2, 0, 512, 512, [asked 1 (ask false 3)], [], []⟩] }), by decide +kernel⟩⟩

theorem wit_RecordsOfOtherDies :
  (∃ (f : Line) (r : BitVec 128) (_pos : BitVec 16) (p : BitVec 6) (x : BitVec 2) (pon : Nat) (s : State), s.takesFrame f 1 = true ∧ fRecs f = [r] ∧ recBits r 124 4 = 1 ∧ s.importPav (fSrc f) (recBits r 103 6) = some p ∧ s.pavFrozen p = false ∧ (s.importReq (fSrc f) r p (fReplay f)).req.op = 0x01 ∧ (s.importReq (fSrc f) r p (fReplay f)).addr = s.addrOf x.toNat pon ∧ pon < 16384 ∧ s.admits 0x01 p x pon = true ∧ s.isReplayDone x.toNat (s.importReq (fSrc f) r p (fReplay f)) = false ∧ (s.importReq (fSrc f) r p (fReplay f)).req.operand ≠ 0 ∧ (s.slot x.toNat pon).val.toNat + (s.importReq (fSrc f) r p (fReplay f)).req.operand.toNat < 2 ^ 64 ∧ (∀ e ∈ (s.mem x.toNat).boundList, e.1 ≠ pon)) ∧
  (∃ (f : Line) (r : BitVec 128) (s : State), s.takesFrame f 2 = true ∧ fRecs f = [r] ∧ recBits r 124 4 = 2 ∧ recBits r 85 5 < 24 ∧ recBits r 68 1 = 0 ∧ s.jct.remoteStale.find? (fun e => e.1 = recBits r 77 8 * 32 + recBits r 85 5) = none) ∧
  (∃ (f : Line) (r : BitVec 128) (p : BitVec 6) (s : State), s.takesFrame f 3 = true ∧ fRecs f = [r] ∧ recBits r 124 4 = 3 ∧ s.importPav (fSrc f) (recBits r 89 6) = some p ∧ s.pavFrozen p = false ∧ (s.slot (aStn (s.resolve (BitVec.ofNat 25 (recBits r 64 25)) moveFuel)).toNat (aPon (s.resolve (BitVec.ofNat 25 (recBits r 64 25)) moveFuel))).pav = p ∧ (s.jct.proxies.any (fun e => !e.far && e.addr = BitVec.ofNat 25 (recBits r 64 25) && e.peer = fSrc f) = true ∨ (s.proxyRow p).isSome = true)) ∧
  (∃ (f : Line) (r : BitVec 128) (p : BitVec 6) (s : State), s.takesFrame f 3 = true ∧ fRecs f = [r] ∧ recBits r 124 4 = 3 ∧ s.importPav (fSrc f) (recBits r 89 6) = some p ∧ s.pavFrozen p = false ∧ (s.slot (aStn (s.resolve (BitVec.ofNat 25 (recBits r 64 25)) moveFuel)).toNat (aPon (s.resolve (BitVec.ofNat 25 (recBits r 64 25)) moveFuel))).pav ≠ p ∧ kindAccepts (s.slot (aStn (s.resolve (BitVec.ofNat 25 (recBits r 64 25)) moveFuel)).toNat (aPon (s.resolve (BitVec.ofNat 25 (recBits r 64 25)) moveFuel))).kind 2 = true) ∧
  (∃ (f : Line) (r : BitVec 128) (s : State), s.takesFrame f 4 = true ∧ fRecs f = [r] ∧ recBits r 124 4 = 4) ∧
  (∃ (f : Line) (r : BitVec 128) (e : Proxy) (s : State), s.takesFrame f 5 = true ∧ fRecs f = [r] ∧ recBits r 124 4 = 5 ∧ recBits r 89 4 = 0 ∧ recBits r 93 1 = 0 ∧ e ∈ s.farChain (BitVec.ofNat 25 (recBits r 64 25)) ∧ e.exp.toNat ≤ recBits r 0 64 ∧ e.peer.toNat ≠ 16) ∧
  (∃ (f : Line) (r : BitVec 128) (e : Retained) (s : State), s.takesFrame f 7 = true ∧ fRecs f = [r] ∧ recBits r 124 4 = 7 ∧ (s.origin (tagHome (BitVec.ofNat 8 (recBits r 8 8)) (BitVec.ofNat 5 (recBits r 16 5)))).ret.find? (fun e => e.stamped && e.seq = BitVec.ofNat 8 (recBits r 0 8) && aSrc e.rq.addr ≠ s.dieSrc) = some e ∧ (∃ h c q, e.rq.who = .queue h c q)) ∧
  (∃ (f : Line) (r : BitVec 128) (s : State), s.takesFrame f 8 = true ∧ fRecs f = [r] ∧ recBits r 124 4 = 8 ∧ s.su.wInstr.underTest = false) ∧
  (∃ (f : Line) (r : BitVec 128) (s : State), s.takesFrame f 9 = true ∧ fRecs f = [r] ∧ recBits r 124 4 = 9 ∧ recBits r 89 4 = 9) ∧
  (∃ (f : Line) (r : BitVec 128) (_pos : BitVec 16) (s : State), s.takesFrame f 10 = true ∧ fRecs f = [r] ∧ recBits r 124 4 = 10) :=
  ⟨⟨far 1 0 [(recReq { asked 1 { ask false 3 with pav := 9 } with addr := rdy.addrOf 2 9 } 0)], (recReq { asked 1 { ask false 3 with pav := 9 } with addr := rdy.addrOf 2 9 } 0), 0, 5, 2, 9, imp, by decide +kernel⟩,
   ⟨far 1 1 [(recCpl 9 .done false 7 0x13 4 0)], (recCpl 9 .done false 7 0x13 4 0), rdy, by decide +kernel⟩,
   ⟨far 1 0 [(recReg (rdy.addrOf 2 9) 8 9)], (recReg (rdy.addrOf 2 9) 8 9), 5, imp.put F.SH_PROXY_SHARE 2 0 69, by decide +kernel⟩,
   ⟨far 1 0 [(recReg (rdy.addrOf 2 9) 8 9)], (recReg (rdy.addrOf 2 9) 8 9), 5, imp.modSlot 2 9 (fun sl => { sl with pav := 6 }), by decide +kernel⟩,
   ⟨far 1 0 [(recCan (rdy.addrOf 2 9))], (recCan (rdy.addrOf 2 9)), link (fun j => { j with proxies := [home, subscriber] }), by decide +kernel⟩,
   ⟨far 1 1 [(recNtf farObj 6 .done false)], (recNtf farObj 6 .done false), subscriber, link (fun j => { j with proxies := [home, subscriber] }), by decide +kernel⟩,
   ⟨far 1 1 [(recDur 4 0x13 4)], (recDur 4 0x13 4), ⟨4, false, 0, { asked 1 (ask false 3) with addr := farObj }, none, true⟩, rdy.modHalt 1 (fun h => { h with orig := ⟨4, [⟨4, false, 0, { asked 1 (ask false 3) with addr := farObj }, none, true⟩], []⟩ }), (by decide +kernel), (by decide +kernel), (by decide +kernel), (by decide +kernel), ⟨_, _, _, rfl⟩⟩,
   ⟨far 1 1 [(mkRec [(0, 7), (28, 0x13), (36, 4), (124, 8)])], (mkRec [(0, 7), (28, 0x13), (36, 4), (124, 8)]), rdy, by decide +kernel⟩,
   ⟨far 1 1 [(mkRec [(64, farObj.toNat), (89, 9), (124, 9)])], (mkRec [(64, farObj.toNat), (89, 9), (124, 9)]), link (fun j => { j with farHeads := [⟨farObj, 5, false⟩] }), by decide +kernel⟩,
   ⟨far 1 0 [(recRls 8 7 0x13 4 false 2)], (recRls 8 7 0x13 4 false 2), 0, rdy.modMem 2 (fun m => { m with origins := [(2 + 2 ^ 9, 8)] }), by decide +kernel⟩⟩

theorem wit_BulkAndControlFrames :
  (∃ (f : Line) (s : State), s.takesFrame f 16 = true ∧ fType f = 2 ∧ recBits ((fRecs f).headD 0) 57 1 = 0) ∧
  (∃ (f : Line) (l : List (BitVec 128)) (s : State), s.takesFrame f 16 = true ∧ fType f = 3 ∧ tget [] s.jct.rxPart (fSrc f).toNat = 2 :: l ∧ 5 ≤ l.length + (fRecs f).length) ∧
  (∃ (f : Line) (s : State), s.takesFrame f 17 = true ∧ fType f = 4 ∧ (fRecs f).length < 1 + partRecs ((fRecs f).headD 0)) ∧
  (∃ (f : Line) (s : State), s.linkHears = true ∧ fDst f = s.dieSrc ∧ fGood f = true ∧ fKind f = some 18 ∧ f.getLsbD 467 = true) ∧
  (∃ (f : Line) (s : State), s.stopped .jct = false ∧ s.parked = false ∧ fDst f = s.dieSrc ∧ fGood f = true ∧ fKind f = some 19 ∧ f.getLsbD 467 = false) :=
  ⟨⟨far 2 2 [(mkRec [(0, 5)]), (mkRec [(0, 5)])], rdy, by decide +kernel⟩,
   ⟨far 3 2 [(mkRec [(0, 5)]), (mkRec [(0, 5)]), (mkRec [(0, 5)])], [1, 2], link (fun j => { j with rxPart := [(2, [2, 1, 2])] }), by decide +kernel⟩,
   ⟨far 4 2 [(mkRec [(40, 4), (33, 6), (36, 9)])], rdy, by decide +kernel⟩,
   ⟨((peer.modJct (fun j => { j with acks := [(rdy.dieSrc, 0)], rxSeq := [(peerVc rdy.dieSrc 0, 1)] })).buildFrame ⟨rdy.dieSrc, 3, 0, [], false, none, [], false⟩ 0).1, link (fun j => { j with retained := [{ frameTo with seq := some 0, own := [7] }] }), by decide +kernel⟩,
   ⟨far 6 3 [], link (fun j => { j with retained := [{ frameTo with seq := some 0 }], txSeq := [(peerVc 2 0, 1)], rxSeq := [(peerVc 2 1, 1)] }), by decide +kernel⟩⟩

theorem wit_LinkEvents :
  (∃ (e : TxFrame) (rest : List TxFrame) (s : State), s.jct.txq = e :: rest ∧ s.hasCredit e = true ∧ s.hasRoom e = true ∧ e.seq = none ∧ e.vc ≠ 3 ∧ e.recs.length ≤ 3 ∧ tget 0 s.jct.txSeq (peerVc e.peer e.vc) < 65536 ∧ s.su.wInstr.underTest = false) ∧
  (∃ (e : TxFrame) (s : State), s.jct.txq = [e] ∧ s.hasCredit e = false) ∧
  (∃ (die : BitVec 9) (s : State), s.jct.pool = [] ∧ (s.jct.acks.any (fun e => e.1 = die) = true ∨ tget 0 s.jct.creditsDue (die.toNat * 2) ≠ 0 ∨ tget 0 s.jct.creditsDue (die.toNat * 2 + 1) ≠ 0)) ∧
  (∃ (h : HeldFrame) (s : State), s.jct.held = [h] ∧ h.failed = false) ∧
  (∃ (h : HeldFrame) (rest : List HeldFrame) (pos : BitVec 16) (s : State), s.jct.held = h :: rest ∧ h.confirmed = false ∧ h.failed = false ∧ pos ≠ h.pos) ∧
  (∃ (h : HeldFrame) (r : BitVec 128) (s : State), s.jct.held.find? (fun x => x.vc = h.vc) = some h ∧ r ∈ h.recs ∧ (recBits r 124 4 = 1 ∨ recBits r 124 4 = 10)) ∧
  (∃ (a : GAddr) (hd : FarHead) (e : Word64) (s : State), hd ∈ s.jct.farHeads ∧ hd.addr = a ∧ hd.retry = true ∧ lowestExp (s.farChain a) = some e) ∧
  (∃ (src : Part) (a : GAddr) (v : Word64) (st : Status) (word : Option Word64) (e : Proxy) (s : State), s.head? src .jct = some (.notify a v st word) ∧ s.epochOf a v st = false ∧ s.rowsGood = true ∧ e ∈ s.jct.proxies ∧ e.far = false ∧ e.loc = a ∧ (st ≠ .done ∨ e.exp.toNat ≤ v.toNat)) ∧
  (∃ (src : Part) (a : GAddr) (e : Word64) (s : State), s.head? src .jct = some (.refusal a e)) :=
  ⟨⟨frameTo, [], link (fun j => { j with txq := [frameTo] }), by decide +kernel⟩,
   ⟨frameTo, link (fun j => { j with txq := [frameTo], uncredited := [(4, 128)] }), by decide +kernel⟩,
   ⟨2, link (fun j => { j with acks := [(2, 1)] }), by decide +kernel⟩,
   ⟨heldFrame, link (fun j => { j with held := [heldFrame] }), by decide +kernel⟩,
   ⟨heldFrame, [{ heldFrame with pos := 41 }], 41, link (fun j => { j with held := [heldFrame, { heldFrame with pos := 41 }] }), by decide +kernel⟩,
   ⟨heldFrame, (mkRec [(124, 1)]), link (fun j => { j with held := [heldFrame] }), by decide +kernel⟩,
   ⟨farObj, ⟨farObj, 5, true⟩, 5, link (fun j => { j with proxies := [subscriber], farHeads := [⟨farObj, 5, true⟩] }), by decide +kernel⟩,
   ⟨.stn 2, rdy.addrOf 2 9, 6, .done, none, home, { link (fun j => { j with proxies := [home] }) with net := [⟨.stn 2, .jct, .notify (rdy.addrOf 2 9) 6 .done none⟩] }, by decide +kernel⟩,
   ⟨.stn 2, rdy.addrOf 2 9, 7, { link (fun j => { j with proxies := [home] }) with net := [⟨.stn 2, .jct, .refusal (rdy.addrOf 2 9) 7⟩] }, by decide +kernel⟩⟩

theorem wit_MemoryPorts :
  (∃ (p : BitVec 3) (r : MemReq) (rest : List MemReq) (s : State), (s.port p.toNat).queue = r :: rest ∧ (s.port p.toNat).blocked r = false ∧ s.su.wInstr.underTest = false ∧ (∃ g : BitVec 7, g.getLsbD 6 = !r.wr ∧ ∀ x ∈ (s.port p.toNat).taken, x.tag ≠ g)) ∧
  (∃ (p : BitVec 3) (s : State), (∀ r ∈ (s.port p.toNat).queue, ∃ x pon, r.why = .mlock x pon ∧ ∃ q ∈ (s.port p.toNat).taken, q.why = r.why)) ∧
  (∃ (p : BitVec 3) (tag : BitVec 7) (_err : Bool) (_d : Line) (s : State), (s.port p.toNat).taken.find? (fun x => x.tag = tag) = none ∧ s.su.step = 7 ∧ s.su.ready = true ∧ s.get F.PW_PARK_CTL_STATE ∉ [2, 3, 4]) ∧
  (∃ (p : BitVec 3) (tag : BitVec 7) (_d : Line) (r : MemReq) (s : State), (s.port p.toNat).taken.find? (fun x => x.tag = tag) = some r ∧ s.su.step ≠ 5 ∧ r.wr = true ∧ r.tries < 3 ∧ r.why.write.isSome = true ∧ (∀ x pon, r.why ≠ .mlock x pon)) ∧
  (∃ (p : BitVec 3) (tag : BitVec 7) (_d : Line) (r : MemReq) (x : Nat) (pon : Nat) (s : State), (s.port p.toNat).taken.find? (fun x => x.tag = tag) = some r ∧ s.su.step ≠ 5 ∧ r.wr = true ∧ r.tries < 3 ∧ r.why = .mlock x pon) ∧
  (∃ (p : BitVec 3) (tag : BitVec 7) (_d : Line) (r : MemReq) (x : Nat) (pon : Nat) (s : State), (s.port p.toNat).taken.find? (fun x => x.tag = tag) = some r ∧ s.su.step ≠ 5 ∧ r.wr = true ∧ 3 ≤ r.tries ∧ r.why = .mlock x pon ∧ p.toNat < 4) ∧
  (∃ (p : BitVec 3) (tag : BitVec 7) (_d : Line) (r : MemReq) (s : State), (s.port p.toNat).taken.find? (fun x => x.tag = tag) = some r ∧ s.su.step ≠ 5 ∧ r.wr = true ∧ (∃ k, r.why = .census k)) ∧
  (∃ (p : BitVec 3) (tag : BitVec 7) (_err : Bool) (_d : Line) (r : MemReq) (l : Nat) (j : Job) (s : State), (s.port p.toNat).taken.find? (fun x => x.tag = tag) = some r ∧ s.su.step ≠ 5 ∧ r.wr = false ∧ r.why = .job 0 l ∧ s.job 0 = some j ∧ 2 ≤ j.left) :=
  ⟨⟨2, mreq true (.mlock 2 9) 0, [], { rdy with ports := [(2, ⟨[mreq true (.mlock 2 9) 0], []⟩)] }, by decide +kernel⟩,
   ⟨2, { rdy with ports := [(2, ⟨[mreq true (.mlock 2 9) 0], [mreq true (.mlock 2 9) 0]⟩)] }, (fun r h => ⟨2, 9, by revert r; decide +kernel⟩)⟩,
   ⟨2, 3, false, 0, rdy, by decide +kernel⟩,
   ⟨2, 3, 0, mreq true (.census 2) 2, { rdy with ports := [(2, ⟨[mreq true (.mlock 2 9) 0, mreq true (.mlock 2 10) 0], [mreq true (.census 2) 2]⟩)] }, (by decide +kernel), (by decide +kernel), (by decide +kernel), (by decide +kernel), (by decide +kernel), (fun _ _ h => by cases h)⟩,
   ⟨2, 3, 0, mreq true (.mlock 2 9) 0, 2, 9, { rdy with ports := [(2, ⟨[mreq true (.mlock 2 10) 0, mreq true (.mlock 2 11) 0, mreq true (.mlock 2 9) 0], [mreq true (.mlock 2 9) 0]⟩)] }, by decide +kernel⟩,
   ⟨2, 3, 0, mreq true (.mlock 2 9) 3, 2, 9, takenAt rdy 2 (mreq true (.mlock 2 9) 3), by decide +kernel⟩,
   ⟨2, 3, 0, mreq true (.census 2) 0, takenAt rdy 2 (mreq true (.census 2) 0), (by decide +kernel), (by decide +kernel), (by decide +kernel), ⟨_, rfl⟩⟩,
   ⟨4, 67, false, 5, mreq false (.job 0 7) 0, 7, ⟨5, 0, 2, [], [], false⟩, { takenAt rdy 4 (mreq false (.job 0 7) 0) with jobs := [(0, some ⟨5, 0, 2, [], [], false⟩)] }, by decide +kernel⟩⟩

theorem wit_FoldBankPower :
  (∃ (w : Word32) (s : State), s.cfgOpen 0x2A 0x054 = true ∧ wbit w 1 = false) ∧
  (∃ (w : Word32) (s : State), s.cfgOpen 0x2A 0x054 = true ∧ wbit w 0 = false) ∧
  (∃ (x : BitVec 2) (b : BitVec 4) (s : State), s.flag F.PW_FB_CTL_AUTO 0 x.toNat = true ∧ s.waking x.toNat b.toNat = false ∧ s.bankCold x.toNat b.toNat = true ∧ s.bankSaved x.toNat b.toNat = true) ∧
  (∃ (x : BitVec 2) (b : BitVec 4) (s : State), (s.flag F.PW_FB_CTL_AUTO 0 x.toNat = false ∨ s.bankCold x.toNat b.toNat = false ∨ s.bankSaved x.toNat b.toNat = false)) ∧
  (∃ (x : BitVec 2) (b : BitVec 4) (s : State), s.waking x.toNat b.toNat = true ∧ s.su.everReady = true ∧ (∀ i, i < 5 → (s.prot i).bad = []) ∧ (s.stn x.toNat).wakeQ = []) ∧
  (∃ (_w : Word32) (s : State), s.cfgOpen 0x2A 0x064 = true) :=
  ⟨⟨1, rdy, by decide +kernel⟩,
   ⟨2, rdy.put F.PW_FB_STAT_GATED 1 0 0, by decide +kernel⟩,
   ⟨2, 1, rdy.put F.PW_FB_CTL_AUTO 1 0 2, by decide +kernel⟩,
   ⟨2, 1, rdy, by decide +kernel⟩,
   ⟨0, 0, rdy.put F.PW_FB_STAT_WAKING 1 0 0, by decide +kernel⟩,
   ⟨0x80000000, rdy.put F.PW_FB_WQ_HIGH 3 0 0, by decide +kernel⟩⟩

theorem wit_ParkRequestsAndWrites :
  (∃ (_w : Word32) (s : State), s.cfgOpen 0x2A 0x080 = true ∧ s.su.step = 7 ∧ s.su.ready = true ∧ s.get F.PW_PARK_CTL_STATE = 0 ∧ s.flag F.PW_PARK_CTL_BUSY = true) ∧
  (∃ (w : Word32) (s : State), s.cfgOpen 0x2A 0x080 = true ∧ s.su.step = 7 ∧ s.su.ready = true ∧ s.get F.PW_PARK_CTL_STATE = 0 ∧ s.flag F.PW_PARK_CTL_BUSY = false ∧ wbit w 1 = false ∧ wbit w 2 = s.flag F.PW_PARK_CTL_NV ∧ s.parkCode false ≠ 0) ∧
  (∃ (w : Word32) (s : State), s.cfgOpen 0x2A 0x080 = true ∧ s.su.step = 7 ∧ s.flag F.PW_PARK_CTL_BUSY = false ∧ wbit w 1 = false ∧ wbit w 2 = s.flag F.PW_PARK_CTL_NV ∧ s.parkCode false = 0) ∧
  (∃ (s : State), s.parked = false ∧ s.su.step = 7 ∧ s.job 5 = none ∧ s.parkCode true = 0) ∧
  (∃ (s : State), s.parked = false ∧ s.su.step = 7 ∧ s.su.ready = true ∧ s.get F.PW_PARK_CTL_STATE = 0 ∧ s.job 5 = none ∧ s.parkCode true ≠ 0) ∧
  (∃ (j : Job) (s : State), s.get F.PW_PARK_CTL_STATE = 2 ∧ s.su.step = 8 ∧ s.quiesced = true ∧ s.job 5 = some j) ∧
  (∃ (s : State), s.get F.PW_PARK_CTL_STATE = 2 ∧ s.su.step = 8 ∧ s.su.ready = false ∧ s.quiesced = false) ∧
  (∃ (j : Job) (s : State), s.get F.PW_PARK_CTL_STATE = 2 ∧ s.su.step = 8 ∧ s.quiesced = false ∧ s.job 5 = some j ∧ j.args.getD 0 0 = 1) ∧
  (∃ (p : BitVec 3) (tag : BitVec 7) (_d : Line) (r : MemReq) (j : Job) (s : State), (s.port p.toNat).taken.find? (fun x => x.tag = tag) = some r ∧ s.su.step = 8 ∧ r.wr = true ∧ r.why = .job 5 4 ∧ s.job 5 = some j) :=
  ⟨⟨1, rdy.put F.PW_PARK_CTL_BUSY 1, by decide +kernel⟩,
   ⟨1, rdy, by decide +kernel⟩,
   ⟨1, lgOn, by decide +kernel⟩,
   ⟨lgOn, by decide +kernel⟩,
   ⟨rdy, by decide +kernel⟩,
   ⟨jobOf parking 5, parking, by decide +kernel⟩,
   ⟨{ parking with net := [someMsg] }, by decide +kernel⟩,
   ⟨jobOf parkingF 5, { parkingF with net := [someMsg] }, by decide +kernel⟩,
   ⟨4, 3, 0, mreq true (.job 5 4) 0, jobOf parking 5, takenAt parking 4 (mreq true (.job 5 4) 0), by decide +kernel⟩⟩

theorem wit_ConfigurationWrites :
  (∃ (f : Fld) (p : BitVec 7) (_w : Word32) (s : State), f ∈ F.all ∧ f.page = p.toNat ∧ p ∈ [0x01, 0x02, 0x2A] ∧ 0x040 ≤ f.off ∧ (p.toNat, f.off) ∉ [(0x01, 0x04C), (0x01, 0x050), (0x01, 0x058), (0x01, 0x104), (0x01, 0x108), (0x01, 0x10C), (0x02, 0x060), (0x02, 0x080), (0x02, 0x0C4), (0x02, 0x0C8), (0x2A, 0x040), (0x2A, 0x054), (0x2A, 0x064), (0x2A, 0x080)] ∧ s.cfgOpen p.toNat f.off = true ∧ s.noPark = true) ∧
  (∃ (p : BitVec 7) (_off : BitVec 12) (_w : Word32) (s : State), pageOk p.toNat = false ∧ s.parked = false ∧ s.noPark = true) ∧
  (∃ (p : BitVec 7) (_off : BitVec 12) (_w : Word32) (s : State) (q : Nat) (x : Nat), s.shownPage p.toNat = some q ∧ pageStn q = some x ∧ s.parked = false ∧ s.noPark = true ∧ 1 ≤ s.get F.REC_STAT_PHASE x ∧ s.get F.REC_STAT_PHASE x ≤ 5) ∧
  (∃ (p : BitVec 7) (_off : BitVec 12) (_w : Word32) (s : State), s.shownPage p.toNat = none ∧ s.noPark = true) ∧
  (∃ (p : BitVec 7) (_off : BitVec 12) (_w : Word32) (s : State) (q : Nat) (h : Nat), s.shownPage p.toNat = some q ∧ pageHalt q = some h ∧ s.parked = false ∧ s.noPark = true ∧ s.viewHalt h = true) ∧
  (∃ (p : BitVec 7) (off : BitVec 12) (_w : Word32) (s : State), pageOk p.toNat = true ∧ pageStn p.toNat = none ∧ pageHalt p.toNat = none ∧ s.parked = false ∧ s.noPark = true ∧ ((s.flag F.PAGE_LOCK_LOCK p.toNat = true ∧ (off.toNat / 4 * 4) ∉ [0x010, 0x014, 0x018]) ∨ (0x400 ≤ (off.toNat / 4 * 4) ∧ s.flag F.PAGE_CTL_EXPERT p.toNat = false))) ∧
  (∃ (w : Word32) (_s : State), wbit w 0 = true) :=
  ⟨⟨F.TT_POLICY_MISS, 2, 1, rdy, by decide +kernel⟩,
   ⟨5, 0, 0, rdy, by decide +kernel⟩,
   ⟨0x0A, 0x040, 1, rdy.put F.REC_STAT_PHASE 1 2, 0x0A, 2, by decide +kernel⟩,
   ⟨8, 0x040, 7, suWith (fun u => { u with stnIds := [(0, ⟨3, 1, 0, true, true, 2⟩)] }), by decide +kernel⟩,
   ⟨0x19, 0x040, 1, rdy.modHalt 1 (fun h => { h with phase := 2 }), 0x19, 1, by decide +kernel⟩,
   ⟨0x2A, 0x040, 1, rdy.put F.PAGE_LOCK_LOCK 1 0x2A, by decide +kernel⟩,
   ⟨3, lgOn, by decide +kernel⟩⟩

theorem wit_TwoPartyChangesAndMailboxes :
  (∃ (p : BitVec 7) (off : BitVec 12) (_w : Word32) (sel : Nat) (s : State), s.stageSel p.toNat off.toNat = some sel ∧ s.cfgOpen p.toNat off.toNat = true ∧ s.proposed = false ∧ s.jct.staged.any (fun e => e.page = p.toNat && e.off = off.toNat && e.sel = sel) = false ∧ s.jct.staged.length < 32) ∧
  (∃ (p : BitVec 7) (off : BitVec 12) (_w : Word32) (sel : Nat) (s : State), s.stageSel p.toNat off.toNat = some sel ∧ s.cfgOpen p.toNat off.toNat = true ∧ (s.proposed = true ∨ (s.jct.staged.any (fun e => e.page = p.toNat && e.off = off.toNat && e.sel = sel) = false ∧ 32 ≤ s.jct.staged.length))) ∧
  (∃ (w : Word32) (s : State), s.cfgOpen 0x03 0x120 = true ∧ wbit w 17 = false ∧ s.proposed = false ∧ w.toNat % 2 ^ 16 = (s.get F.TP_STAT_LAST_SEQ + 1) % 2 ^ 16 ∧ s.jct.staged ≠ []) ∧
  (∃ (w : Word32) (s : State), s.cfgOpen 0x03 0x120 = true ∧ wbit w 17 = false ∧ s.proposed = false ∧ (w.toNat % 2 ^ 16 ≠ (s.get F.TP_STAT_LAST_SEQ + 1) % 2 ^ 16 ∨ s.jct.staged = [])) ∧
  (∃ (_w : Word32) (s : State), s.cfgOpen 0x03 0x120 = true) ∧
  (∃ (_w : Word32) (s : State), s.cfgOpen 0x03 0x124 = true) ∧
  (∃ (w : Word32) (e : Staged) (f : Fld) (s : State), s.cfgOpen 0x03 0x124 = true ∧ s.proposed = true ∧ s.fclk - s.jct.proposedAt < s.get F.TP_WINDOW_FCLK ∧ w.toNat % 2 ^ 16 = (s.get F.TP_STAT_LAST_SEQ + 1) % 2 ^ 16 ∧ s.jct.staged = [e] ∧ (e.page, e.off) ∈ [(0x03, 0x080), (0x03, 0x084), (0x03, 0x088), (0x03, 0x0C4), (0x03, 0x0C8), (0x03, 0x12C), (0x01, 0x04C)] ∧ e.sel < 65536 ∧ f ∈ fieldsAt e.page e.off) ∧
  (∃ (w : Word32) (e : Staged) (s : State), s.cfgOpen 0x03 0x124 = true ∧ s.proposed = true ∧ s.fclk - s.jct.proposedAt < s.get F.TP_WINDOW_FCLK ∧ w.toNat % 2 ^ 16 = (s.get F.TP_STAT_LAST_SEQ + 1) % 2 ^ 16 ∧ s.jct.staged = [e] ∧ e.page = 0x03 ∧ e.off = 0x114) ∧
  (∃ (_w : Word32) (s : State), s.cfgOpen 0x03 0x124 = true ∧ s.proposed = true) ∧
  (∃ (s : State), s.proposed = true) ∧
  (∃ (p : BitVec 6) (off : BitVec 12) (_w : Word32) (s : State), s.cfgOpen (0x40 + p.toNat) off.toNat = true ∧ 0x040 ≤ off.toNat ∧ off.toNat < 0x080) ∧
  (∃ (p : BitVec 6) (off : BitVec 12) (_w : Word32) (s : State), s.cfgOpen (0x40 + p.toNat) off.toNat = true ∧ 0x080 ≤ off.toNat ∧ off.toNat < 0x0C0) :=
  ⟨⟨3, 0x080, 7, 0, rdy, by decide +kernel⟩,
   ⟨3, 0x080, 7, 0, ((rdy.put F.TP_STAT_STATE 1).put F.TP_WINDOW_FCLK 100).modJct (fun j => { j with staged := [⟨3, 0x080, 5, 0x1234567⟩] }), by decide +kernel⟩,
   ⟨1, rdy.modJct (fun j => { j with staged := [⟨3, 0x080, 5, 0x1234567⟩] }), by decide +kernel⟩,
   ⟨1, rdy, by decide +kernel⟩,
   ⟨0x20000, ((rdy.put F.TP_STAT_STATE 1).put F.TP_WINDOW_FCLK 100).modJct (fun j => { j with staged := [⟨3, 0x080, 5, 0x1234567⟩] }), by decide +kernel⟩,
   ⟨1, ((rdy.put F.TP_STAT_STATE 1).put F.TP_WINDOW_FCLK 100).modJct (fun j => { j with staged := [⟨3, 0x080, 5, 0x1234567⟩] }), by decide +kernel⟩,
   ⟨1, ⟨3, 0x080, 5, 0x1234567⟩, (fieldsAt 3 0x080).headD F.TT_POLICY_MISS, ((rdy.put F.TP_STAT_STATE 1).put F.TP_WINDOW_FCLK 100).modJct (fun j => { j with staged := [⟨3, 0x080, 5, 0x1234567⟩] }), by decide +kernel⟩,
   ⟨1, ⟨3, 0x114, 2 + 1 * 4 + 5 * 256, 9⟩, ((rdy.put F.TP_STAT_STATE 1).put F.TP_WINDOW_FCLK 100).modJct (fun j => { j with staged := [⟨3, 0x114, 2 + 1 * 4 + 5 * 256, 9⟩] }), by decide +kernel⟩,
   ⟨1, ((rdy.put F.TP_STAT_STATE 1).put F.TP_WINDOW_FCLK 0).modJct (fun j => { j with staged := [⟨3, 0x080, 5, 0x1234567⟩] }), by decide +kernel⟩,
   ⟨((rdy.put F.TP_STAT_STATE 1).put F.TP_WINDOW_FCLK 100).modJct (fun j => { j with staged := [⟨3, 0x080, 5, 0x1234567⟩] }), by decide +kernel⟩,
   ⟨5, 0x044, 9, rdy, by decide +kernel⟩,
   ⟨5, 0x0BC, 9, rdy, by decide +kernel⟩⟩

theorem wit_TimetableCommandsAndBoundaries :
  (∃ (w : Word32) (s : State), s.cfgOpen 0x02 0x060 = true ∧ wbit w 0 = false ∧ wbit w 2 = false ∧ wbit w 3 = false ∧ wbit w 4 = false ∧ wbit w 5 = false ∧ s.flag F.TT_STAT_HOLDING = false) ∧
  (∃ (w : Word32) (s : State), s.cfgOpen 0x02 0x060 = true ∧ wbit w 0 = false ∧ wbit w 2 = false ∧ wbit w 3 = false ∧ wbit w 4 = false ∧ wbit w 5 = false ∧ s.flag F.TT_STAT_HOLDING = true ∧ s.flag F.TT_STAT_COMMITTED = false ∧ s.jct.ttRecover = false ∧ s.recovering = false ∧ s.jct.ttBound ≠ none) ∧
  (∃ (w : Word32) (s : State), s.cfgOpen 0x02 0x060 = true ∧ wbit w 0 = false ∧ wbit w 2 = false ∧ wbit w 3 = false ∧ wbit w 4 = false ∧ wbit w 5 = false ∧ s.flag F.TT_STAT_HOLDING = true ∧ s.flag F.TT_STAT_COMMITTED = false ∧ s.jct.ttRecover = false ∧ s.recovering = true ∧ s.jct.ttBound ≠ none) ∧
  (∃ (w : Word32) (s : State), s.cfgOpen 0x02 0x060 = true ∧ wbit w 0 = false ∧ wbit w 2 = false ∧ wbit w 3 = false ∧ wbit w 4 = false ∧ wbit w 5 = false ∧ s.flag F.TT_STAT_HOLDING = true ∧ s.jct.ttBound = none) ∧
  (∃ (s : State), s.flag F.TT_STAT_HOLDING = true ∧ s.jct.ttBound = none) ∧
  (∃ (w : Word32) (s : State), s.cfgOpen 0x02 0x060 = true ∧ wbit w 0 = false ∧ wbit w 1 = false ∧ wbit w 3 = false ∧ wbit w 4 = false ∧ wbit w 5 = false) ∧
  (∃ (w : Word32) (s : State), s.cfgOpen 0x02 0x060 = true ∧ wbit w 0 = false ∧ wbit w 1 = false ∧ wbit w 2 = false ∧ wbit w 4 = false ∧ wbit w 5 = false) ∧
  (∃ (w : Word32) (s : State), s.cfgOpen 0x02 0x060 = true ∧ wbit w 0 = false ∧ wbit w 1 = false ∧ wbit w 2 = false ∧ wbit w 3 = false ∧ wbit w 5 = false) ∧
  (∃ (w : Word32) (s : State), s.cfgOpen 0x02 0x060 = true ∧ wbit w 0 = false ∧ wbit w 1 = false ∧ wbit w 2 = false ∧ wbit w 3 = false ∧ wbit w 4 = false ∧ s.flag F.TT_STAT_COMMITTED = false) ∧
  (∃ (w : Word32) (s : State), s.cfgOpen 0x02 0x060 = true ∧ wbit w 0 = false ∧ wbit w 1 = false ∧ wbit w 2 = false ∧ wbit w 3 = false ∧ wbit w 4 = false ∧ s.flag F.TT_STAT_COMMITTED = true) ∧
  (∃ (w : Word32) (s : State), s.cfgOpen 0x02 0x060 = true ∧ wbit w 1 = false ∧ wbit w 2 = false ∧ wbit w 3 = false ∧ wbit w 4 = false ∧ wbit w 5 = false ∧ s.bindOk (BitVec.ofNat 25 (s.get F.TT_EPOCH_OBJ_ADDR)) = false) ∧
  (∃ (w : Word32) (s : State), s.cfgOpen 0x02 0x060 = true ∧ wbit w 1 = false ∧ wbit w 2 = false ∧ wbit w 3 = false ∧ wbit w 4 = false ∧ wbit w 5 = false ∧ s.bindOk (BitVec.ofNat 25 (s.get F.TT_EPOCH_OBJ_ADDR)) = true ∧ s.flag F.TT_STAT_HOLDING = false ∧ s.jct.ttBound = none) ∧
  (∃ (src : Part) (a : GAddr) (v : Word64) (word : Option Word64) (s : State), s.head? src .jct = some (.notify a v .done word) ∧ s.rowsGood = true ∧ s.epochOf a v .done = true ∧ s.flag F.TT_STAT_HOLDING = false ∧ s.recovering = false ∧ (s.flag F.TT_STAT_ARMED = false ∨ v.toNat < s.swapAt)) ∧
  (∃ (src : Part) (a : GAddr) (v : Word64) (word : Option Word64) (s : State), s.head? src .jct = some (.notify a v .done word) ∧ s.rowsGood = true ∧ s.epochOf a v .done = true ∧ s.flag F.TT_STAT_HOLDING = false ∧ s.recovering = false ∧ s.flag F.TT_STAT_ARMED = true ∧ s.swapAt ≤ v.toNat ∧ s.flag F.TT_STAT_COMMITTED = true) ∧
  (∃ (src : Part) (a : GAddr) (v : Word64) (word : Option Word64) (s : State), s.head? src .jct = some (.notify a v .done word) ∧ s.rowsGood = true ∧ s.epochOf a v .done = true ∧ s.flag F.TT_STAT_HOLDING = false ∧ s.recovering = false ∧ s.flag F.TT_STAT_ARMED = true ∧ s.swapAt ≤ v.toNat ∧ s.flag F.TT_STAT_COMMITTED = false) ∧
  (∃ (src : Part) (a : GAddr) (v : Word64) (word : Option Word64) (s : State), s.head? src .jct = some (.notify a v .done word) ∧ s.rowsGood = true ∧ s.epochOf a v .done = true ∧ s.flag F.TT_STAT_HOLDING = true) ∧
  (∃ (src : Part) (a : GAddr) (v : Word64) (word : Option Word64) (s : State), s.head? src .jct = some (.notify a v .done word) ∧ s.rowsGood = true ∧ s.epochOf a v .done = true ∧ s.flag F.TT_STAT_HOLDING = false ∧ s.recovering = true) ∧
  (∃ (src : Part) (a : GAddr) (v : Word64) (st : Status) (word : Option Word64) (s : State), s.head? src .jct = some (.notify a v st word) ∧ s.rowsGood = true ∧ s.epochOf a v st = true ∧ st ≠ .done) ∧
  (∃ (s : State), s.flag F.TT_STAT_HOLDING = true ∧ s.jct.ttRecover = false ∧ s.recovering = false ∧ s.jct.ttBound ≠ none) ∧
  (∃ (_w : Word32) (s : State), s.cfgOpen 0x02 0x0C4 = true ∧ s.flag F.SH_SEL_BANK = false ∧ s.flag F.TT_STAT_COMMITTED = false) ∧
  (∃ (b : Nat) (_w : Word32) (off : BitVec 12) (s : State), b < 5 ∧ off.toNat ∈ [0x0C4, 0x0C8, 0x0CC, 0x0D0] ∧ s.cfgOpen (boxPage b) off.toNat = true ∧ s.flag F.ENT_SEL_BANK (boxInst b) = false ∧ s.flag F.TT_STAT_COMMITTED = false) ∧
  (∃ (b : Nat) (_w : Word32) (off : BitVec 12) (s : State), b < 5 ∧ off.toNat ∈ [0x0C4, 0x0C8, 0x0CC, 0x0D0] ∧ s.cfgOpen (boxPage b) off.toNat = true ∧ (s.flag F.ENT_SEL_BANK (boxInst b) = true ∨ s.flag F.TT_STAT_COMMITTED = true)) :=
  ⟨⟨2, rdy, by decide +kernel⟩,
   ⟨2, (((rdy.modJct (fun j => { j with ttBound := some (rdy.addrOf 2 9) })).put F.TT_STAT_HOLDING 1).put F.TT_STAT_ARMED 1).put F.SH_WATCH_SHARE 5 0 7, by decide +kernel⟩,
   ⟨2, (((rdy.modJct (fun j => { j with ttBound := some (rdy.addrOf 2 9) })).put F.TT_STAT_HOLDING 1).put F.TT_STAT_ARMED 1).put F.REC_STAT_PHASE 3 1, by decide +kernel⟩,
   ⟨2, (rdy.put F.TT_STAT_HOLDING 1).put F.TT_STAT_ARMED 1, by decide +kernel⟩,
   ⟨rdy.put F.TT_STAT_HOLDING 1, by decide +kernel⟩,
   ⟨4, rdy.put F.TT_STAT_COMMITTED 1, by decide +kernel⟩,
   ⟨8, rdy, by decide +kernel⟩,
   ⟨16, rdy.put F.TT_STAT_ARMED 1, by decide +kernel⟩,
   ⟨32, rdy.put F.SH_WATCH_SHARE 5 0 71, by decide +kernel⟩,
   ⟨32, rdy.put F.TT_STAT_COMMITTED 1, by decide +kernel⟩,
   ⟨1, rdy, by decide +kernel⟩,
   ⟨1, (obj 9 (ob .counter 5 0)).put F.TT_EPOCH_OBJ_ADDR ((rdy.addrOf 2 9).toNat), by decide +kernel⟩,
   ⟨.stn 2, rdy.addrOf 2 9, 5, none, { ((obj 9 (ob .counter 5 0)).modJct (fun j => { j with ttBound := some (rdy.addrOf 2 9) })) with net := [⟨.stn 2, .jct, .notify (rdy.addrOf 2 9) 5 .done none⟩] }, by decide +kernel⟩,
   ⟨.stn 2, rdy.addrOf 2 9, 5, none, { (((((obj 9 (ob .counter 5 0)).modJct (fun j => { j with ttBound := some (rdy.addrOf 2 9) })).put F.TT_STAT_ARMED 1).put F.TT_STAT_COMMITTED 1).put F.SH_WATCH_SHARE 5 0 7) with net := [⟨.stn 2, .jct, .notify (rdy.addrOf 2 9) 5 .done none⟩] }, by decide +kernel⟩,
   ⟨.stn 2, rdy.addrOf 2 9, 5, none, { (((obj 9 (ob .counter 5 0)).modJct (fun j => { j with ttBound := some (rdy.addrOf 2 9) })).put F.TT_STAT_ARMED 1) with net := [⟨.stn 2, .jct, .notify (rdy.addrOf 2 9) 5 .done none⟩] }, by decide +kernel⟩,
   ⟨.stn 2, rdy.addrOf 2 9, 5, none, { (((obj 9 (ob .counter 5 0)).modJct (fun j => { j with ttBound := some (rdy.addrOf 2 9) })).put F.TT_STAT_HOLDING 1) with net := [⟨.stn 2, .jct, .notify (rdy.addrOf 2 9) 5 .done none⟩] }, by decide +kernel⟩,
   ⟨.stn 2, rdy.addrOf 2 9, 5, none, { (((obj 9 (ob .counter 5 0)).modJct (fun j => { j with ttBound := some (rdy.addrOf 2 9) })).put F.REC_STAT_PHASE 3 1) with net := [⟨.stn 2, .jct, .notify (rdy.addrOf 2 9) 5 .done none⟩] }, by decide +kernel⟩,
   ⟨.stn 2, rdy.addrOf 2 9, 0, .flushed, none, { ((obj 9 (ob .counter 5 0)).modJct (fun j => { j with ttBound := some (rdy.addrOf 2 9) })) with net := [⟨.stn 2, .jct, .notify (rdy.addrOf 2 9) 0 .flushed none⟩] }, by decide +kernel⟩,
   ⟨(rdy.modJct (fun j => { j with ttBound := some (rdy.addrOf 2 9) })).put F.TT_STAT_HOLDING 1, by decide +kernel⟩,
   ⟨77, rdy.put F.SH_SEL_PAV 5, by decide +kernel⟩,
   ⟨2, 0x123, 0x0C4, rdy, by decide +kernel⟩,
   ⟨2, 0x123, 0x0C4, rdy.put F.ENT_SEL_BANK 1 (boxInst 2), by decide +kernel⟩⟩

theorem wit_ObjectsAreAllocatedAndFreed :
  (∃ (x : BitVec 2) (w : Word32) (k : Kind) (pon : Nat) (s : State), s.cfgOpen (corePage x) 0x050 = true ∧ s.rowsGood = true ∧ s.allocDecide x.toNat none (bitsOf w.toNat 4 4) (BitVec.ofNat 6 (bitsOf w.toNat 8 6)) (wbit w 14) (s.get F.OBJ_LINK_LINK x.toNat) = .ok (k, pon)) ∧
  (∃ (x : BitVec 2) (w : Word32) (k : Kind) (pon : Nat) (s : State), s.cfgOpen (corePage x) 0x050 = true ∧ s.rowsGood = true ∧ s.allocDecide x.toNat (some (bitsOf w.toNat 16 14)) (bitsOf w.toNat 4 4) (BitVec.ofNat 6 (bitsOf w.toNat 8 6)) (wbit w 14) (s.get F.OBJ_LINK_LINK x.toNat) = .ok (k, pon)) ∧
  (∃ (x : BitVec 2) (w : Word32) (c : Nat) (s : State), s.cfgOpen (corePage x) 0x050 = true ∧ s.rowsGood = true ∧ s.allocDecide x.toNat none (bitsOf w.toNat 4 4) (BitVec.ofNat 6 (bitsOf w.toNat 8 6)) (wbit w 14) (s.get F.OBJ_LINK_LINK x.toNat) = .error c) ∧
  (∃ (x : BitVec 2) (w : Word32) (c : Nat) (s : State), s.cfgOpen (corePage x) 0x050 = true ∧ s.rowsGood = true ∧ s.allocDecide x.toNat (some (bitsOf w.toNat 16 14)) (bitsOf w.toNat 4 4) (BitVec.ofNat 6 (bitsOf w.toNat 8 6)) (wbit w 14) (s.get F.OBJ_LINK_LINK x.toNat) = .error c) ∧
  (∃ (x : BitVec 2) (w : Word32) (s : State), s.cfgOpen (corePage x) 0x050 = true ∧ s.rowsGood = true ∧ (s.slot x.toNat (bitsOf w.toNat 16 14)).kind ≠ .free ∧ (s.slot x.toNat (bitsOf w.toNat 16 14)).kind ≠ .retired ∧ s.pavBusy (s.slot x.toNat (bitsOf w.toNat 16 14)).pav = false ∧ (∀ y ∈ s.slotGroup x.toNat (bitsOf w.toNat 16 14), s.slotBusy x.toNat y = false)) ∧
  (∃ (x : BitVec 2) (w : Word32) (c : Nat) (s : State), s.cfgOpen (corePage x) 0x050 = true ∧ s.rowsGood = true ∧ (((s.slot x.toNat (bitsOf w.toNat 16 14)).kind = .retired ∧ c = 7) ∨ (s.slotFree x.toNat (bitsOf w.toNat 16 14) = true ∧ c = 0) ∨ (((s.slot x.toNat (bitsOf w.toNat 16 14)).kind.live = true ∨ (s.slot x.toNat (bitsOf w.toNat 16 14)).kind = .moved) ∧ (s.pavBusy (s.slot x.toNat (bitsOf w.toNat 16 14)).pav = true ∨ ∃ y ∈ s.slotGroup x.toNat (bitsOf w.toNat 16 14), s.slotBusy x.toNat y = true) ∧ c = 5))) ∧
  (∃ (x : BitVec 2) (w : Word32) (s : State), s.cfgOpen (corePage x) 0x050 = true ∧ s.rowsGood = true ∧ (∀ y ∈ s.slotGroup x.toNat (bitsOf w.toNat 16 14), s.slotFree x.toNat y = true ∨ ((s.slot x.toNat y).kind = .moved ∧ s.pavBusy (s.slot x.toNat y).pav = false))) ∧
  (∃ (x : BitVec 2) (w : Word32) (y : Nat) (s : State), s.cfgOpen (corePage x) 0x050 = true ∧ s.rowsGood = true ∧ y ∈ s.slotGroup x.toNat (bitsOf w.toNat 16 14) ∧ s.slotFree x.toNat y = false ∧ ((s.slot x.toNat y).kind ≠ .moved ∨ s.pavBusy (s.slot x.toNat y).pav = true)) ∧
  (∃ (x : BitVec 2) (w : Word32) (s : State), s.cfgOpen (corePage x) 0x050 = true ∧ s.rowsGood = true ∧ (s.slot x.toNat (bitsOf w.toNat 16 14)).kind = .retired) ∧
  (∃ (x : BitVec 2) (w : Word32) (s : State), s.cfgOpen (corePage x) 0x050 = true ∧ s.rowsGood = true ∧ (s.slot x.toNat (bitsOf w.toNat 16 14)).kind ≠ .retired) :=
  ⟨⟨2, 1296, .counter, 0, pav5, by decide +kernel⟩,
   ⟨2, 607504, .counter, 9, pav5, by decide +kernel⟩,
   ⟨2, 1520, 3, pav5, by decide +kernel⟩,
   ⟨2, 591120, 5, obj 9 (ob .counter 5 0), by decide +kernel⟩,
   ⟨2, 589824, obj 9 (ob .counter 5 0), by decide +kernel⟩,
   ⟨2, 589824, 0, pav5, by decide +kernel⟩,
   ⟨2, 589824, pav5, by decide +kernel⟩,
   ⟨2, 589824, 9, obj 9 (ob .counter 5 0), by decide +kernel⟩,
   ⟨2, 589824, pav5.modSlot 2 9 (fun _ => { Slot.free with kind := .retired }), by decide +kernel⟩,
   ⟨2, 589824, obj 9 (ob .counter 5 0), by decide +kernel⟩⟩

theorem wit_StationCommands :
  (∃ (_w : Word32) (s : State), s.cfgOpen 0x03 0x0D4 = true) ∧
  (∃ (_w : Word32) (s : State), s.parked = false ∧ s.flag F.PAGE_LOCK_LOCK 3 = false ∧ s.jct.hmWait.isSome = true) ∧
  (∃ (x : BitVec 2) (_w : Word32) (s : State), s.cfgOpen (corePage x) 0x090 = true ∧ (s.slot x.toNat (s.get F.TS_SEL_PON x.toNat)).kind = .turnstile ∧ (s.turn x.toNat (s.get F.TS_SEL_PON x.toNat)).cur = 0 ∧ (s.turn x.toNat (s.get F.TS_SEL_PON x.toNat)).nxt = 0 ∧ (s.turn x.toNat (s.get F.TS_SEL_PON x.toNat)).gang.toNat < 32) ∧
  (∃ (x : BitVec 2) (_w : Word32) (s : State), s.cfgOpen (corePage x) 0x090 = true ∧ ((s.slot x.toNat (s.get F.TS_SEL_PON x.toNat)).kind ≠ .turnstile ∨ (s.turn x.toNat (s.get F.TS_SEL_PON x.toNat)).cur ≠ 0 ∨ (s.turn x.toNat (s.get F.TS_SEL_PON x.toNat)).nxt ≠ 0 ∨ 32 ≤ (s.turn x.toNat (s.get F.TS_SEL_PON x.toNat)).gang.toNat)) ∧
  (∃ (x : BitVec 2) (_w : Word32) (s : State), s.cfgOpen (corePage x) 0x0A4 = true) ∧
  (∃ (x : BitVec 2) (_w : Word32) (s : State), s.cfgOpen (corePage x) 0x0AC = true) ∧
  (∃ (x : BitVec 2) (_w : Word32) (s : State), s.cfgOpen (corePage x) 0x0B0 = true) ∧
  (∃ (x : BitVec 2) (w : Word32) (s : State), s.cfgOpen (corePage x) 0x0A8 = true ∧ (s.drift x.toNat (s.get F.DRIFT_SEL_PAIR x.toNat)).mode = 0 ∧ w.extractLsb' 0 2 ∈ ([1, 2] : List (BitVec 2))) ∧
  (∃ (x : BitVec 2) (w : Word32) (pon : Nat) (s : State), s.cfgOpen (corePage x) 0x0D0 = true ∧ s.semSlot x.toNat (bitsOf w.toNat 0 12) = some pon ∧ s.waitersOf x.toNat pon = []) ∧
  (∃ (x : BitVec 2) (w : Word32) (s : State), s.cfgOpen (corePage x) 0x0D0 = true ∧ s.semSlot x.toNat (bitsOf w.toNat 0 12) = none) ∧
  (∃ (x : BitVec 2) (w : Word32) (pon : Nat) (s : State), s.cfgOpen (corePage x) 0x0D0 = true ∧ s.semSlot x.toNat (bitsOf w.toNat 0 12) = some pon ∧ (s.slot x.toNat pon).kind = .sem) ∧
  (∃ (x : BitVec 2) (_w : Word32) (s : State), s.cfgOpen (corePage x) 0x0CC = true ∧ (s.slot x.toNat (s.get F.MLOCK_PON_PON x.toNat)).kind = .mlock ∧ (s.ent x.toNat (s.get F.MLOCK_PON_PON x.toNat)).held = false ∧ s.waitersOf x.toNat (s.get F.MLOCK_PON_PON x.toNat) = []) ∧
  (∃ (x : BitVec 2) (_w : Word32) (s : State), s.cfgOpen (corePage x) 0x0CC = true ∧ ((s.slot x.toNat (s.get F.MLOCK_PON_PON x.toNat)).kind ≠ .mlock ∨ (s.ent x.toNat (s.get F.MLOCK_PON_PON x.toNat)).held = true ∨ s.waitersOf x.toNat (s.get F.MLOCK_PON_PON x.toNat) ≠ [])) ∧
  (∃ (x : BitVec 2) (_w : Word32) (s : State), s.cfgOpen (corePage x) 0x0EC = true ∧ (s.slot x.toNat (s.get F.RING_PON_PON x.toNat)).kind = .ring ∧ s.ringR x.toNat (s.get F.RING_PON_PON x.toNat) = s.ringL x.toNat (s.get F.RING_PON_PON x.toNat) ∧ (∀ i, i < 4 → s.waitersOf x.toNat ((s.get F.RING_PON_PON x.toNat) + i) = [])) ∧
  (∃ (x : BitVec 2) (_w : Word32) (s : State), s.cfgOpen (corePage x) 0x0EC = true ∧ ((s.slot x.toNat (s.get F.RING_PON_PON x.toNat)).kind ≠ .ring ∨ s.ringR x.toNat (s.get F.RING_PON_PON x.toNat) ≠ s.ringL x.toNat (s.get F.RING_PON_PON x.toNat) ∨ ∃ i ∈ List.range 4, s.waitersOf x.toNat ((s.get F.RING_PON_PON x.toNat) + i) ≠ [])) ∧
  (∃ (_w : Word32) (s : State), s.cfgOpen 0x03 0x11C = true ∧ (List.range 4).flatMap (fun si => (s.heldLocks si (s.get F.ORPH_ID_HOLDER) (s.get F.ORPH_ID_PAV) (s.flag F.ORPH_ID_ANY)).map (fun p => (si, p))) = []) ∧
  (∃ (_w : Word32) (si : Nat) (pon : Nat) (s : State), s.cfgOpen 0x03 0x11C = true ∧ (List.range 4).flatMap (fun si => (s.heldLocks si (s.get F.ORPH_ID_HOLDER) (s.get F.ORPH_ID_PAV) (s.flag F.ORPH_ID_ANY)).map (fun p => (si, p))) = [(si, pon)] ∧ s.waitersOf si pon = []) :=
  ⟨⟨0xFFFFFFFF, (rdy.put F.HM_IDX_IDX 65535).put F.HM_IDX_INC 1, by decide +kernel⟩,
   ⟨0xFFFFFFFF, rdy.modJct (fun j => { j with hmWait := some (5, 0x2000009) }), by decide +kernel⟩,
   ⟨2, 1, (((obj 9 (ob .turnstile 8 0)).setTurn 2 9 { TurnRec.init with cur := 0, gang := 0 }).put F.TS_SEL_PON 9 2).modStn 2 (fun n => { n with stage := [(0, 7), (8, 9), (12, 3)] }), by decide +kernel⟩,
   ⟨2, 1, rdy, by decide +kernel⟩,
   ⟨2, 0x000B000A, rdy, by decide +kernel⟩,
   ⟨2, 77, rdy, by decide +kernel⟩,
   ⟨2, 0x20, rdy.modMem 2 (fun m => { m with drift := [(0, ⟨1, 2, 1, 0, 0, 0, 0, false, true, 0, 0, 0⟩)] }), by decide +kernel⟩,
   ⟨2, 1, rdy, by decide +kernel⟩,
   ⟨2, 0x43, 9, ((obj 9 (ob .sem 0 0x43)).setEnt 2 9 { SemEnt.init with count := 3 }).put F.SEMF_N_N 5 2, by decide +kernel⟩,
   ⟨2, 0x44, (obj 9 (ob .sem 0 0x43)).setEnt 2 9 { SemEnt.init with count := 3 }, by decide +kernel⟩,
   ⟨2, 0x43, 9, ((obj 9 (ob .sem 0 0x43)).setEnt 2 9 { SemEnt.init with count := 3 }).modMem 2 (fun m => { m with waiters := [waiter 3 9 0x09 5] }), by decide +kernel⟩,
   ⟨2, 1, (((obj 9 (ob .mlock 0 0)).setEnt 2 9 { SemEnt.init with lock := true }).put F.MLOCK_PON_PON 9 2).put F.MLOCK_ADDR_LO_ADDR 0x100 2, by decide +kernel⟩,
   ⟨2, 1, rdy, by decide +kernel⟩,
   ⟨2, 1, ((ringAt 16 16 16).put F.RING_PON_PON 8 2).put F.RING_BASE_LO_ADDR 0x100 2, by decide +kernel⟩,
   ⟨2, 1, (ringAt 16 16 8).put F.RING_PON_PON 8 2, by decide +kernel⟩,
   ⟨1, rdy, by decide +kernel⟩,
   ⟨1, 2, 9, (((obj 9 (ob .glock 0 0x43)).setEnt 2 9 heldEnt).put F.ORPH_ID_PAV 5).put F.ORPH_ID_ANY 1, by decide +kernel⟩⟩

theorem wit_LeverRegisterAndBranchInstructions :
  (∃ (th : ThreadId) (s : State), s.issues th 0x1D = true) ∧
  (∃ (th : ThreadId) (s : State), s.issues th 0x1E = true) ∧
  (∃ (th : ThreadId) (s : State), s.issues th 0x40 = true) ∧
  (∃ (th : ThreadId) (s : State), s.issues th 0x41 = true) ∧
  (∃ (th : ThreadId) (s : State), s.issues th 0x42 = true) ∧
  (∃ (th : ThreadId) (s : State), s.issues th 0x43 = true) ∧
  (∃ (th : ThreadId) (s : State), s.issues th 0x44 = true) ∧
  (∃ (th : ThreadId) (s : State), s.issues th 0x18 = true) ∧
  (∃ (th : ThreadId) (s : State), s.issues th 0x19 = true) ∧
  (∃ (th : ThreadId) (s : State), s.issues th 0x1A = true) ∧
  (∃ (th : ThreadId) (s : State), s.issues th 0x1B = true) ∧
  (∃ (th : ThreadId) (s : State), s.issues th 0x1C = true ∧ s.spans th (if (s.th th).reg (lvReg (s.fetchLever th)) ≠ 1 then lvImm (s.fetchLever th) % 4096 else ((s.th th).pc).toNat + 1) = true) ∧
  (∃ (th : ThreadId) (c : Instr) (k : Nat) (s : State), (c, k) ∈ [(Instr.leverEnd th, 0x00), (.leverStop th, 0x01), (.leverWait th, 0x04), (.leverRead th, 0x05), (.leverSig th, 0x08), (.leverPost th, 0x09), (.leverDec th, 0x0A), (.leverArrive th, 0x0B), (.leverFold th, 0x0C), (.leverTick th, 0x10), (.leverRsv th, 0x11), (.leverCmt th, 0x12), (.leverRel th, 0x13), (.leverKick th, 0x14), (.leverKickw th, 0x15), (.leverBeq th, 0x18), (.leverBne th, 0x19), (.leverBz th, 0x1A), (.leverB th, 0x1B), (.leverLoop th, 0x1C), (.leverSeti th, 0x1D), (.leverAddi th, 0x1E), (.leverTrap th, 0x20), (.leverAluAdd th, 0x40), (.leverAluSub th, 0x41), (.leverAluAnd th, 0x42), (.leverAluShl th, 0x43), (.leverAluShr th, 0x44)] ∧ s.rowsGood = true ∧ s.thServed th = true ∧ (s.th th).state = .running ∧ (s.th th).spin ≠ 65536 ∧ lvKey (s.fetchLever th) = k ∧ lvLegal th (s.fetchLever th) = false) ∧
  (∃ (th : ThreadId) (s : State), s.issues th 0x20 = true) ∧
  (∃ (th : ThreadId) (s : State), (s.th th).state = .running ∧ (s.th th).spin = 65536) ∧
  (∃ (th : ThreadId) (s : State), s.issues th 0x01 = true ∧ (s.th th).unacked = 0) ∧
  (∃ (th : ThreadId) (c : Instr) (k : Nat) (s : State), (c, k) ∈ [(Instr.leverEnd th, 0x00), (.leverStop th, 0x01)] ∧ s.issues th k = true ∧ (s.th th).unacked ≠ 0) ∧
  (∃ (th : ThreadId) (s : State), s.issues th 0x00 = true ∧ (s.th th).unacked = 0 ∧ ((s.activeEntry th).v && (s.activeEntry th).trigV) = false) ∧
  (∃ (th : ThreadId) (s : State), s.issues th 0x00 = true ∧ (s.th th).unacked = 0 ∧ (s.activeEntry th).v = true ∧ (s.activeEntry th).trigV = true ∧ (s.activeEntry th).malformed = false ∧ (∀ n, th = .jct n → (s.atEntry ((s.activeEntry th).obj.toNat % 256) (s.activeEntry th).pav).isSome = true)) ∧
  (∃ (th : ThreadId) (s : State), s.issues th 0x00 = true ∧ (s.th th).unacked = 0 ∧ (s.activeEntry th).v = true ∧ (s.activeEntry th).trigV = true ∧ (s.activeEntry th).malformed = true) ∧
  (∃ (th : ThreadId) (d : Doorbell) (s : State), s.issues th 0x14 = true ∧ d = tget Doorbell.init (s.box (thPart th)).doorbells (lvImm (s.fetchLever th) % 64) ∧ d.v = true ∧ d.pav = (s.entryOf th).pav ∧ s.pavFrozen d.pav = false ∧ s.credits (partEndpoint (thPart th)) 2 ≠ 0 ∧ s.spans th (((s.th th).pc).toNat + 1) = true) ∧
  (∃ (th : ThreadId) (d : Doorbell) (s : State), s.issues th 0x15 = true ∧ d = tget Doorbell.init (s.box (thPart th)).doorbells (lvImm (s.fetchLever th) % 64) ∧ d.v = true ∧ d.pav = (s.entryOf th).pav ∧ s.pavFrozen d.pav = false ∧ s.credits (partEndpoint (thPart th)) 2 ≠ 0 ∧ s.spans th (((s.th th).pc).toNat + 1) = true) ∧
  (∃ (th : ThreadId) (c : Instr) (k : Nat) (d : Doorbell) (s : State), (c, k) ∈ [(Instr.leverKick th, 0x14), (.leverKickw th, 0x15)] ∧ s.issues th k = true ∧ d = tget Doorbell.init (s.box (thPart th)).doorbells (lvImm (s.fetchLever th) % 64) ∧ s.pavFrozen (s.entryOf th).pav = false ∧ (d.v = false ∨ d.pav ≠ (s.entryOf th).pav)) :=
  ⟨⟨th3, runs (lw 29 1 (2 ^ 22 - 5)), by decide +kernel⟩,
   ⟨th3, runs (lw 30 1 (2 ^ 22 - 5)), by decide +kernel⟩,
   ⟨th3, runs (lw 31 1 (0 * 2 ^ 19 + 2)), by decide +kernel⟩,
   ⟨th3, runs (lw 31 1 (1 * 2 ^ 19 + 2)), by decide +kernel⟩,
   ⟨th3, runs (lw 31 1 (2 * 2 ^ 19 + 2)), by decide +kernel⟩,
   ⟨th3, runs (lw 31 1 (3 * 2 ^ 19 + 8 * 63 + 2)), by decide +kernel⟩,
   ⟨th3, runs (lw 31 1 (4 * 2 ^ 19 + 8 * 63 + 2)), by decide +kernel⟩,
   ⟨th3, runs (lw 24 1 (0x2014)), by decide +kernel⟩,
   ⟨th3, runs (lw 25 1 (0x2014)), by decide +kernel⟩,
   ⟨th3, runs (lw 26 1 (0x14)), by decide +kernel⟩,
   ⟨th3, runs (lw 27 1 (0x17)), by decide +kernel⟩,
   ⟨th3, runs (lw 28 1 18), by decide +kernel⟩,
   ⟨th3, .leverWait th3, 0x04, runs (lw 4 9 7), by decide +kernel⟩,
   ⟨th3, runs (lw 32 0 77), by decide +kernel⟩,
   ⟨th3, lever 0 (fun t => { t with spin := 65536 }) (ob .counter 5 0) false, by decide +kernel⟩,
   ⟨th3, runs (lw 1 0 0), by decide +kernel⟩,
   ⟨th3, .leverEnd th3, 0, lever (lw 0 0 0) (fun t => { t with unacked := 1 }) (ob .counter 5 0) false, by decide +kernel⟩,
   ⟨th3, runs (lw 0 0 0), by decide +kernel⟩,
   ⟨th3, lever (lw 0 0 0) id (ob .counter 5 0) true, by decide +kernel⟩,
   ⟨th3, (runs 0).modMem 2 (fun m => { m with box := { m.box with active := [(3, { entryAt true with entry := 0x18 })], threads := [(3, { Thread.init with state := .running, pc := 0x10, run := some (entryAt true) })] } }), by decide +kernel⟩,
   ⟨th3, ⟨0x1000, 5, true⟩, (runs (lw 20 1 5)).modMem 2 (fun m => { m with box := { m.box with doorbells := [(5, ⟨0x1000, 5, true⟩)] } }), by decide +kernel⟩,
   ⟨th3, ⟨0x1000, 5, true⟩, (runs (lw 21 1 5)).modMem 2 (fun m => { m with box := { m.box with doorbells := [(5, ⟨0x1000, 5, true⟩)] } }), by decide +kernel⟩,
   ⟨th3, .leverKick th3, 0x14, ⟨0, 0, false⟩, runs (lw 20 1 5), by decide +kernel⟩⟩

theorem wit_LeverObjectInstructions :
  (∃ (th : ThreadId) (s : State), s.sends th 0x04 = true) ∧
  (∃ (th : ThreadId) (s : State), s.sends th 0x05 = true) ∧
  (∃ (th : ThreadId) (s : State), s.sends th 0x0A = true) ∧
  (∃ (th : ThreadId) (s : State), s.sends th 0x10 = true) ∧
  (∃ (th : ThreadId) (s : State), s.sends th 0x11 = true) ∧
  (∃ (th : ThreadId) (s : State), s.sends th 0x08 = true) ∧
  (∃ (th : ThreadId) (s : State), s.sends th 0x09 = true) ∧
  (∃ (th : ThreadId) (s : State), s.sends th 0x0B = true) ∧
  (∃ (th : ThreadId) (s : State), s.sends th 0x0C = true) ∧
  (∃ (th : ThreadId) (s : State), s.sends th 0x12 = true) ∧
  (∃ (th : ThreadId) (s : State), s.sends th 0x13 = true) ∧
  (∃ (th : ThreadId) (c : Instr) (k : Nat) (s : State), (c, k) ∈ [(Instr.leverWait th, 0x04), (.leverRead th, 0x05), (.leverSig th, 0x08), (.leverPost th, 0x09), (.leverDec th, 0x0A), (.leverArrive th, 0x0B), (.leverFold th, 0x0C), (.leverTick th, 0x10), (.leverRsv th, 0x11), (.leverCmt th, 0x12), (.leverRel th, 0x13)] ∧ s.issues th k = true ∧ s.pavFrozen (s.entryOf th).pav = true) ∧
  (∃ (n : BitVec 4) (th : ThreadId) (c : Instr) (k : Nat) (s : State), th = .jct n ∧ (c, k) ∈ [(Instr.leverWait th, 0x04), (.leverRead th, 0x05), (.leverSig th, 0x08), (.leverPost th, 0x09), (.leverDec th, 0x0A), (.leverArrive th, 0x0B), (.leverFold th, 0x0C), (.leverTick th, 0x10), (.leverRsv th, 0x11), (.leverCmt th, 0x12), (.leverRel th, 0x13)] ∧ s.issues th k = true ∧ s.pavFrozen (s.entryOf th).pav = false ∧ s.atEntry (lvImm (s.fetchLever th) % 2 ^ 20 % 256) (s.entryOf th).pav = none) ∧
  (∃ (th : ThreadId) (c : Instr) (k : Nat) (s : State), (c, k) ∈ [(Instr.leverWait th, 0x04), (.leverRead th, 0x05), (.leverSig th, 0x08), (.leverPost th, 0x09), (.leverDec th, 0x0A), (.leverArrive th, 0x0B), (.leverFold th, 0x0C), (.leverTick th, 0x10), (.leverRsv th, 0x11), (.leverCmt th, 0x12), (.leverRel th, 0x13)] ∧ s.issues th k = true ∧ s.pavFrozen (s.entryOf th).pav = false ∧ (∀ n, th = .jct n → (s.thAddr th (lvImm (s.fetchLever th) % 2 ^ 20) (s.entryOf th).pav).isSome = true) ∧ s.thNoRoom th (lvSync k).1 (s.thAddr th (lvImm (s.fetchLever th) % 2 ^ 20) (s.entryOf th).pav) = true) ∧
  (∃ (x : BitVec 2) (n : BitVec 4) (th : ThreadId) (pon : Nat) (s : State), th = .stn x n ∧ s.issues th 0x08 = true ∧ s.pavFrozen (s.entryOf th).pav = false ∧ s.thAddr th (lvImm (s.fetchLever th) % 2 ^ 20) (s.entryOf th).pav = some (s.addrOf x.toNat pon) ∧ pon < 16384 ∧ s.admits 0x01 (s.entryOf th).pav x pon = true ∧ (s.th th).reg (lvReg (s.fetchLever th)) ≠ 0 ∧ (s.slot x.toNat pon).val.toNat + ((s.th th).reg (lvReg (s.fetchLever th))).toNat < 2 ^ 64 ∧ (∀ e ∈ (s.mem x.toNat).boundList, e.1 ≠ pon)) ∧
  (∃ (x : BitVec 2) (n : BitVec 4) (th : ThreadId) (pon : Nat) (s : State), th = .stn x n ∧ s.issues th 0x05 = true ∧ s.pavFrozen (s.entryOf th).pav = false ∧ s.thAddr th (lvImm (s.fetchLever th) % 2 ^ 20) (s.entryOf th).pav = some (s.addrOf x.toNat pon) ∧ pon < 16384 ∧ s.admits 0x04 (s.entryOf th).pav x pon = true) :=
  ⟨⟨th3, runs (lw 4 1 7), by decide +kernel⟩,
   ⟨th3, runs (lw 5 1 7), by decide +kernel⟩,
   ⟨th3, runs (lw 10 1 7), by decide +kernel⟩,
   ⟨th3, runs (lw 16 1 7), by decide +kernel⟩,
   ⟨th3, runs (lw 17 1 7), by decide +kernel⟩,
   ⟨th3, runs (lw 8 1 7), by decide +kernel⟩,
   ⟨th3, runs (lw 9 1 7), by decide +kernel⟩,
   ⟨th3, runs (lw 11 1 7), by decide +kernel⟩,
   ⟨th3, runs (lw 12 1 7), by decide +kernel⟩,
   ⟨th3, runs (lw 18 1 7), by decide +kernel⟩,
   ⟨th3, runs (lw 19 1 7), by decide +kernel⟩,
   ⟨th3, .leverSig th3, 0x08, (runs (lw 8 1 7)).put F.PAV_STAT_STATE 2 0 5, by decide +kernel⟩,
   ⟨3, .jct 3, .leverWait (.jct 3), 0x04, leverJ (lw 4 1 7), by decide +kernel⟩,
   ⟨th3, .leverSig th3, 0x08, (List.range 4).foldl (fun s si => s.modMem si (fun m => { m with hmap := [(71, hmWord (rdy.addrOf 2 9) true false), (72, hmWord (rdy.addrOf 1 9) true false)] })) (((runs (lw 8 1 8)).modMem 0 (fun m => m)).modStn 2 (fun n => { n with boxOrig := ⟨40, (List.range 32).map (fun i => ⟨BitVec.ofNat 8 (9 + i), false, 0, thAsk 1 3, none, true⟩), []⟩ })), by decide +kernel⟩,
   ⟨2, 3, th3, 9, runs (lw 8 1 7), by decide +kernel⟩,
   ⟨2, 3, th3, 9, runs (lw 5 1 7), by decide +kernel⟩⟩

theorem wit_LeverEventsAndCommands :
  (∃ (th : ThreadId) (st : Status) (v : Word64) (s : State), (s.th th).state = .waiting ∧ s.thMsg th = none ∧ s.thReached th = some (st, v) ∧ st ≠ .fault ∧ s.spans th (((s.th th).pc).toNat + 1) = true) ∧
  (∃ (th : ThreadId) (m : InFlight) (rq : HReq) (q : HReq) (st : Status) (v : Word64) (aux : Word64) (mods : BitVec 9) (s : State), (s.th th).state = .waiting ∧ (s.th th).cancelled.all (fun w => decide (w.req ≠ rq.req)) = true ∧ s.thMsg th = some m ∧ m.msg = .compl rq st v aux mods ∧ (s.th th).wait = some q ∧ q.req = rq.req ∧ st ≠ .fault ∧ s.spans th (((s.th th).pc).toNat + 1) = true) ∧
  (∃ (th : ThreadId) (m : InFlight) (rq : HReq) (q : HReq) (v : Word64) (aux : Word64) (mods : BitVec 9) (s : State), (s.th th).state = .waiting ∧ (s.th th).cancelled.all (fun w => decide (w.req ≠ rq.req)) = true ∧ s.thMsg th = some m ∧ m.msg = .compl rq .fault v aux mods ∧ (s.th th).wait = some q ∧ q.req = rq.req) ∧
  (∃ (th : ThreadId) (m : InFlight) (rq : HReq) (st : Status) (s : State), s.thMsg th = some m ∧ m.msg = .ack rq st ∧ st ≠ .fault) ∧
  (∃ (th : ThreadId) (m : InFlight) (rq : HReq) (st : Status) (v : Word64) (aux : Word64) (mods : BitVec 9) (s : State), (s.th th).state ≠ .armed ∧ s.thMsg th = some m ∧ m.msg = .compl rq st v aux mods ∧ rq.req.op = 0x04 ∧ (∃ w ∈ (s.th th).cancelled, w.req = rq.req)) ∧
  (∃ (th : ThreadId) (m : InFlight) (core : BitVec 8) (qt : BitVec 5) (seq : BitVec 8) (q : HReq) (st : Status) (v : Word64) (mods : BitVec 9) (s : State), (s.th th).state = .waiting ∧ s.thMsg th = some m ∧ m.msg = .remoteAnswer core qt false seq st v mods ∧ (s.th th).wait = some q ∧ opRetained q.req.op = true ∧ aSrc q.addr ≠ s.dieSrc ∧ q.req.seq = seq ∧ st ≠ .fault ∧ s.spans th (((s.th th).pc).toNat + 1) = true) ∧
  (∃ (th : ThreadId) (st : Status) (v : Word64) (s : State), (s.th th).state = .armed ∧ s.thAnswer th = none ∧ s.thReached th = some (st, v)) ∧
  (∃ (th : ThreadId) (m : InFlight) (rq : HReq) (q : HReq) (st : Status) (v : Word64) (aux : Word64) (mods : BitVec 9) (s : State), (s.th th).state = .armed ∧ s.thMsg th = some m ∧ m.msg = .compl rq st v aux mods ∧ (s.th th).wait = some q ∧ q.req = rq.req) ∧
  (∃ (th : ThreadId) (s : State), (s.th th).state = .waiting ∧ (s.th th).kickw = true ∧ s.spans th (((s.th th).pc).toNat + 1) = true) ∧
  (∃ (th : ThreadId) (s : State), (s.th th).state = .waiting ∧ (s.th th).kickw = true ∧ (s.entryOf th).retryV = false) ∧
  (∃ (box : BitVec 3) (i : Nat) (q : HReq) (th : ThreadId) (s : State), box.toNat ≤ 4 ∧ i < 16 ∧ th = boxThread box.toNat i ∧ (s.th th).state = .waiting ∧ (s.th th).wait = some q ∧ q.req.op ∈ [0x02, 0x04]) ∧
  (∃ (box : BitVec 3) (_w : Word32) (s : State), s.cfgOpen (boxPage box.toNat) 0x044 = true) ∧
  (∃ (box : BitVec 3) (w : Word32) (s : State), s.cfgOpen (boxPage box.toNat) 0x084 = true ∧ wbit w 1 = false ∧ wbit w 2 = false ∧ wbit w 6 = false ∧ s.armCode (boxThread (min box.toNat 4) (s.get F.THR_SEL_THR (boxInst (min box.toNat 4)))) = 0 ∧ (s.activeEntry (boxThread (min box.toNat 4) (s.get F.THR_SEL_THR (boxInst (min box.toNat 4))))).malformed = false ∧ (s.activeEntry (boxThread (min box.toNat 4) (s.get F.THR_SEL_THR (boxInst (min box.toNat 4))))).trigV = false) ∧
  (∃ (box : BitVec 3) (w : Word32) (s : State), s.cfgOpen (boxPage box.toNat) 0x084 = true ∧ wbit w 1 = false ∧ wbit w 2 = false ∧ wbit w 6 = false ∧ s.armCode (boxThread (min box.toNat 4) (s.get F.THR_SEL_THR (boxInst (min box.toNat 4)))) ≠ 0) ∧
  (∃ (box : BitVec 3) (w : Word32) (s : State), s.cfgOpen (boxPage box.toNat) 0x084 = true ∧ wbit w 0 = false ∧ wbit w 2 = false ∧ (s.th (boxThread (min box.toNat 4) (s.get F.THR_SEL_THR (boxInst (min box.toNat 4))))).state ≠ .stopped) ∧
  (∃ (box : BitVec 3) (w : Word32) (s : State), s.cfgOpen (boxPage box.toNat) 0x084 = true ∧ wbit w 0 = false ∧ wbit w 1 = false ∧ (s.th (boxThread (min box.toNat 4) (s.get F.THR_SEL_THR (boxInst (min box.toNat 4))))).state = .stopped) ∧
  (∃ (box : BitVec 3) (hi : Bool) (_w : Word32) (s : State), s.cfgOpen (boxPage box.toNat) (if hi then 0x098 else 0x094) = true) ∧
  (∃ (h : BitVec 4) (_w : Word32) (s : State), s.cfgOpen (0x18 + h.toNat) 0x084 = true ∧ ((s.halt h.toNat).script).idle = true) ∧
  (∃ (h : BitVec 4) (off : BitVec 12) (_w : Word32) (s : State), off.toNat ∈ [0x084, 0x088, 0x08C, 0x090, 0x09C, 0x0A0] ∧ s.cfgOpen (0x18 + h.toNat) off.toNat = true ∧ ((s.halt h.toNat).script).idle = false) ∧
  (∃ (h : BitVec 4) (w : Word32) (s : State), s.cfgOpen (0x18 + h.toNat) 0x094 = true ∧ wbit w 1 = false ∧ wbit w 2 = false ∧ s.armCode (.script h) = 0 ∧ (s.activeEntry (.script h)).malformed = false ∧ (s.activeEntry (.script h)).trigV = false) ∧
  (∃ (h : BitVec 4) (w : Word32) (s : State), s.cfgOpen (0x18 + h.toNat) 0x094 = true ∧ wbit w 0 = false ∧ wbit w 2 = false ∧ ((s.halt h.toNat).script).state ≠ .stopped) ∧
  (∃ (h : BitVec 4) (w : Word32) (s : State), s.cfgOpen (0x18 + h.toNat) 0x094 = true ∧ wbit w 0 = false ∧ wbit w 1 = false ∧ ((s.halt h.toNat).script).state = .stopped) :=
  ⟨⟨th3, .done, 5, waits (fun t => { t with cmp := some (rdy.addrOf 2 9, 3) }) 2, by decide +kernel⟩,
   ⟨th3, ⟨.stn 2, .stn 2, .compl (thAsk 4 9) .done 5 0 0⟩, thAsk 4 9, thAsk 4 9, .done, 5, 0, 0, { waits (id) 4 with net := [⟨.stn 2, .stn 2, .compl (thAsk 4 9) .done 5 0 0⟩] }, by decide +kernel⟩,
   ⟨th3, ⟨.stn 2, .stn 2, .compl (thAsk 4 9) .fault 5 0 0⟩, thAsk 4 9, thAsk 4 9, 5, 0, 0, { waits (id) 4 with net := [⟨.stn 2, .stn 2, .compl (thAsk 4 9) .fault 5 0 0⟩] }, by decide +kernel⟩,
   ⟨th3, ⟨.stn 2, .stn 2, .ack (thAsk 1 9) .done⟩, thAsk 1 9, .done, { waits (fun t => { t with unacked := 1 }) 4 with net := [⟨.stn 2, .stn 2, .ack (thAsk 1 9) .done⟩] }, by decide +kernel⟩,
   ⟨th3, ⟨.stn 2, .stn 2, .compl (thAsk 4 9) .done 5 0 0⟩, thAsk 4 9, .done, 5, 0, 0, { waits (fun t => { t with state := .running, wait := none, cancelled := [thAsk 4 9] }) 4 with net := [⟨.stn 2, .stn 2, .compl (thAsk 4 9) .done 5 0 0⟩] }, by decide +kernel⟩,
   ⟨th3, ⟨.jct, .stn 2, .remoteAnswer 0x23 26 false 0 .done 5 0⟩, 0x23, 26, 0, { thAsk 1 9 with addr := farObj }, .done, 5, 0, { waits (fun t => { t with wait := some { thAsk 1 9 with addr := farObj } }) 4 with net := [⟨.jct, .stn 2, .remoteAnswer 0x23 26 false 0 .done 5 0⟩] }, by decide +kernel⟩,
   ⟨th3, .done, 5, waits (fun t => { t with state := .armed, cmp := some (rdy.addrOf 2 9, 3) }) 2, by decide +kernel⟩,
   ⟨th3, ⟨.stn 2, .stn 2, .compl (thAsk 2 9) .done 5 0 0⟩, thAsk 2 9, thAsk 2 9, .done, 5, 0, 0, { waits (fun t => { t with state := .armed }) 2 with net := [⟨.stn 2, .stn 2, .compl (thAsk 2 9) .done 5 0 0⟩] }, by decide +kernel⟩,
   ⟨th3, waits (fun t => { t with wait := none, kickw := true }) 2, by decide +kernel⟩,
   ⟨th3, waits (fun t => { t with wait := none, kickw := true }) 2, by decide +kernel⟩,
   ⟨2, 3, thAsk 2 9, th3, waits id 2, by decide +kernel⟩,
   ⟨2, 77, rdy.put F.SB_PW_IDX_IDX 5 2, by decide +kernel⟩,
   ⟨2, 1, (lever 0 (fun _ => Thread.init) (ob .counter 5 0) false).put F.THR_SEL_THR 3 2, by decide +kernel⟩,
   ⟨2, 1, rdy, by decide +kernel⟩,
   ⟨2, 2, (runs 0).put F.THR_SEL_THR 3 2, by decide +kernel⟩,
   ⟨2, 4, (lever 0 (fun t => { t with state := .stopped, cause := 3 }) (ob .counter 5 0) false).put F.THR_SEL_THR 3 2, by decide +kernel⟩,
   ⟨2, true, 77, rdy.put F.THR_REG_SEL_REG 3 2, by decide +kernel⟩,
   ⟨1, 77, rdy.put F.HS_IDX_IDX 3 1, by decide +kernel⟩,
   ⟨1, 0x088, 77, rdy.modHalt 1 (fun h => { h with script := { Thread.init with state := .running } }), by decide +kernel⟩,
   ⟨1, 1, (pav5.put F.HS_ENT_PAV 5 1).put F.HS_ENT_ENTRY 3 1, by decide +kernel⟩,
   ⟨1, 2, rdy.modHalt 1 (fun h => { h with script := { Thread.init with state := .running } }), by decide +kernel⟩,
   ⟨1, 4, rdy.modHalt 1 (fun h => { h with script := { Thread.init with state := .stopped } }), by decide +kernel⟩⟩

theorem wit_PavilionCommands :
  (∃ (w : Word32) (s : State), s.cfgOpen 0x03 0x044 = true ∧ s.job 0 = none ∧ (∀ i, i < 6 → i ≠ 0 → wbit w i = false) ∧ s.pavState (BitVec.ofNat 6 (s.get F.PAV_SEL_PAV)) ≠ 1) ∧
  (∃ (w : Word32) (s : State), s.cfgOpen 0x03 0x044 = true ∧ s.job 0 = none ∧ (∀ i, i < 6 → i ≠ 1 → wbit w i = false) ∧ (s.pavState (BitVec.ofNat 6 (s.get F.PAV_SEL_PAV)) < 2 ∨ 4 < s.pavState (BitVec.ofNat 6 (s.get F.PAV_SEL_PAV)))) ∧
  (∃ (w : Word32) (s : State), s.cfgOpen 0x03 0x044 = true ∧ s.job 0 = none ∧ (∀ i, i < 6 → i ≠ 3 → wbit w i = false) ∧ (s.pavState (BitVec.ofNat 6 (s.get F.PAV_SEL_PAV)) ≠ 0 ∨ s.hasSlots (BitVec.ofNat 6 (s.get F.PAV_SEL_PAV)) = true)) ∧
  (∃ (w : Word32) (s : State), s.cfgOpen 0x03 0x044 = true ∧ s.job 0 = none ∧ (∀ i, i < 6 → i ≠ 4 → wbit w i = false) ∧ (s.pavState (BitVec.ofNat 6 (s.get F.PAV_SEL_PAV)) = 5 ∨ s.pavState (BitVec.ofNat 6 (s.get F.PAV_SEL_PAV)) = 6)) ∧
  (∃ (w : Word32) (s : State), s.cfgOpen 0x03 0x044 = true ∧ s.job 0 = none ∧ (∀ i, i < 6 → i ≠ 4 → wbit w i = false) ∧ s.pavState (BitVec.ofNat 6 (s.get F.PAV_SEL_PAV)) ≠ 5 ∧ s.pavState (BitVec.ofNat 6 (s.get F.PAV_SEL_PAV)) ≠ 6 ∧ (tget 0 s.jct.lastReset (BitVec.ofNat 6 (s.get F.PAV_SEL_PAV)).toNat) ≠ 0 ∧ s.fclk + 1 < (tget 0 s.jct.lastReset (BitVec.ofNat 6 (s.get F.PAV_SEL_PAV)).toNat) + 2 ^ 21) ∧
  (∃ (w : Word32) (s : State), s.cfgOpen 0x03 0x044 = true ∧ s.job 0 = none ∧ (∀ i, i < 6 → i ≠ 5 → wbit w i = false) ∧ s.pavState (BitVec.ofNat 6 (s.get F.PAV_SEL_PAV)) ≠ 4) ∧
  (∃ (w : Word32) (i : Nat) (j : Nat) (s : State), s.cfgOpen 0x03 0x044 = true ∧ s.job 0 = none ∧ i < j ∧ j < 6 ∧ wbit w i = true ∧ wbit w j = true) ∧
  (∃ (_w : Word32) (j : Job) (s : State), s.cfgOpen 0x03 0x044 = true ∧ s.job 0 = some j) ∧
  (∃ (w : Word32) (s : State), s.cfgOpen 0x03 0x044 = true ∧ s.job 0 = none ∧ (∀ i, i < 6 → i ≠ 0 → wbit w i = false) ∧ s.pavState (BitVec.ofNat 6 (s.get F.PAV_SEL_PAV)) = 1 ∧ (∀ e, e < 64 → (s.comb e).count = 0)) ∧
  (∃ (w : Word32) (s : State), s.cfgOpen 0x03 0x044 = true ∧ s.job 0 = none ∧ (∀ i, i < 6 → i ≠ 1 → wbit w i = false) ∧ 2 ≤ s.pavState (BitVec.ofNat 6 (s.get F.PAV_SEL_PAV)) ∧ s.pavState (BitVec.ofNat 6 (s.get F.PAV_SEL_PAV)) ≤ 4 ∧ (∀ h, h < 16 → s.heldOf h (BitVec.ofNat 6 (s.get F.PAV_SEL_PAV)) = []) ∧ s.jct.parked = []) ∧
  (∃ (w : Word32) (s : State), s.cfgOpen 0x03 0x044 = true ∧ s.job 0 = none ∧ (∀ i, i < 6 → i ≠ 2 → wbit w i = false) ∧ s.pavState (BitVec.ofNat 6 (s.get F.PAV_SEL_PAV)) ≠ 3) ∧
  (∃ (w : Word32) (c : Nat) (s : State), s.cfgOpen 0x03 0x044 = true ∧ s.job 0 = none ∧ (∀ i, i < 6 → i ≠ 2 → wbit w i = false) ∧ s.pavState (BitVec.ofNat 6 (s.get F.PAV_SEL_PAV)) = 3 ∧ ((s.gangsOf (BitVec.ofNat 6 (s.get F.PAV_SEL_PAV)) ≠ [] ∧ c = 4) ∨ (s.gangsOf (BitVec.ofNat 6 (s.get F.PAV_SEL_PAV)) = [] ∧ s.threadsOf (BitVec.ofNat 6 (s.get F.PAV_SEL_PAV)) ≠ [] ∧ c = 5))) ∧
  (∃ (w : Word32) (s : State), s.cfgOpen 0x03 0x044 = true ∧ s.job 0 = none ∧ (∀ i, i < 6 → i ≠ 2 → wbit w i = false) ∧ s.rowsGood = true ∧ s.saveCode (BitVec.ofNat 6 (s.get F.PAV_SEL_PAV)) = 0 ∧ s.get F.PAV_IMG_LEN_LEN 0 (BitVec.ofNat 6 (s.get F.PAV_SEL_PAV)).toNat < (s.imageParts (BitVec.ofNat 6 (s.get F.PAV_SEL_PAV))).2 ∧ (s.imageParts (BitVec.ofNat 6 (s.get F.PAV_SEL_PAV))).2 < 2 ^ 32) ∧
  (∃ (w : Word32) (s : State), s.cfgOpen 0x03 0x044 = true ∧ s.job 0 = none ∧ (∀ i, i < 6 → i ≠ 2 → wbit w i = false) ∧ s.rowsGood = true ∧ s.saveCode (BitVec.ofNat 6 (s.get F.PAV_SEL_PAV)) = 0 ∧ (s.imageParts (BitVec.ofNat 6 (s.get F.PAV_SEL_PAV))).2 ≤ s.get F.PAV_IMG_LEN_LEN 0 (BitVec.ofNat 6 (s.get F.PAV_SEL_PAV)).toNat ∧ s.pavQuiet (BitVec.ofNat 6 (s.get F.PAV_SEL_PAV)) = true) ∧
  (∃ (w : Word32) (s : State), s.cfgOpen 0x03 0x044 = true ∧ s.job 0 = none ∧ (∀ i, i < 6 → i ≠ 3 → wbit w i = false) ∧ s.rowsGood = true ∧ s.pavState (BitVec.ofNat 6 (s.get F.PAV_SEL_PAV)) = 0 ∧ s.hasSlots (BitVec.ofNat 6 (s.get F.PAV_SEL_PAV)) = false) ∧
  (∃ (w : Word32) (s : State), s.cfgOpen 0x03 0x044 = true ∧ s.job 0 = none ∧ (∀ i, i < 6 → i ≠ 4 → wbit w i = false) ∧ s.pavState (BitVec.ofNat 6 (s.get F.PAV_SEL_PAV)) ≠ 5 ∧ s.pavState (BitVec.ofNat 6 (s.get F.PAV_SEL_PAV)) ≠ 6 ∧ ((tget 0 s.jct.lastReset (BitVec.ofNat 6 (s.get F.PAV_SEL_PAV)).toNat) = 0 ∨ (tget 0 s.jct.lastReset (BitVec.ofNat 6 (s.get F.PAV_SEL_PAV)).toNat) + 2 ^ 21 ≤ s.fclk + 1) ∧ s.recovering = false) ∧
  (∃ (w : Word32) (s : State), s.cfgOpen 0x03 0x044 = true ∧ s.job 0 = none ∧ (∀ i, i < 6 → i ≠ 4 → wbit w i = false) ∧ s.pavState (BitVec.ofNat 6 (s.get F.PAV_SEL_PAV)) ≠ 5 ∧ s.pavState (BitVec.ofNat 6 (s.get F.PAV_SEL_PAV)) ≠ 6 ∧ ((tget 0 s.jct.lastReset (BitVec.ofNat 6 (s.get F.PAV_SEL_PAV)).toNat) = 0 ∨ (tget 0 s.jct.lastReset (BitVec.ofNat 6 (s.get F.PAV_SEL_PAV)).toNat) + 2 ^ 21 ≤ s.fclk + 1) ∧ s.pavQuiet (BitVec.ofNat 6 (s.get F.PAV_SEL_PAV)) = true ∧ s.recovering = false ∧ (∀ si, si < 4 → s.heldLocks si 0 (BitVec.ofNat 6 (s.get F.PAV_SEL_PAV)).toNat true = [])) ∧
  (∃ (w : Word32) (s : State), s.cfgOpen 0x03 0x044 = true ∧ s.job 0 = none ∧ (∀ i, i < 6 → i ≠ 4 → wbit w i = false) ∧ s.pavState (BitVec.ofNat 6 (s.get F.PAV_SEL_PAV)) ≠ 5 ∧ s.pavState (BitVec.ofNat 6 (s.get F.PAV_SEL_PAV)) ≠ 6 ∧ ((tget 0 s.jct.lastReset (BitVec.ofNat 6 (s.get F.PAV_SEL_PAV)).toNat) = 0 ∨ (tget 0 s.jct.lastReset (BitVec.ofNat 6 (s.get F.PAV_SEL_PAV)).toNat) + 2 ^ 21 ≤ s.fclk + 1) ∧ s.pavQuiet (BitVec.ofNat 6 (s.get F.PAV_SEL_PAV)) = true ∧ s.recovering = true) ∧
  (∃ (w : Word32) (s : State), s.cfgOpen 0x03 0x044 = true ∧ s.job 0 = none ∧ (∀ i, i < 6 → i ≠ 5 → wbit w i = false) ∧ s.rowsGood = true ∧ s.pavState (BitVec.ofNat 6 (s.get F.PAV_SEL_PAV)) = 4 ∧ s.pavQuiet (BitVec.ofNat 6 (s.get F.PAV_SEL_PAV)) = true ∧ s.slotsWf = true) ∧
  (∃ (p : BitVec 6) (s : State), s.pavState p = 2 ∧ s.pavIsDrained p = true ∧ s.recovering = false) ∧
  (∃ (p : BitVec 6) (s : State), (s.pavState p ≠ 2 ∨ s.pavIsDrained p = false ∨ s.recovering = true)) ∧
  (∃ (p : BitVec 6) (s : State), s.pavState p = 2) ∧
  (∃ (p : BitVec 6) (s : State), s.pavState p ≠ 2) ∧
  (∃ (p : BitVec 6) (s : State), s.pavQuiet p = true ∧ (∀ h, h < 16 → tget 0 (s.halt h).unackedPav p.toNat = 0) ∧ s.jct.respWait = [] ∧ s.jct.remoteHeld = [] ∧ s.jct.retWait = [] ∧ s.jct.beatWait = [] ∧ s.jct.rxPart = [] ∧ (∀ h, h < 16 → (s.halt h).ssHeld = []) ∧ (∀ th ∈ allThreads, (s.th th).unacked = 0) ∧ (∀ k, k < 4 → (s.mem k).freezeQ = [] ∧ (s.stn k).backlog = [] ∧ (s.stn k).beats = [])) ∧
  (∃ (p : BitVec 3) (tag : BitVec 7) (_d : Line) (r : MemReq) (l : Nat) (j : Job) (s : State), (s.port p.toNat).taken.find? (fun x => x.tag = tag) = some r ∧ s.su.step ≠ 5 ∧ r.wr = true ∧ r.why = .job 0 l ∧ s.job 0 = some j ∧ j.left = 1 ∧ j.bad = false ∧ j.phase = 2 ∧ s.recovering = false) :=
  ⟨⟨1, pavAt 2, by decide +kernel⟩,
   ⟨2, pavAt 1, by decide +kernel⟩,
   ⟨8, pavAt 1, by decide +kernel⟩,
   ⟨16, pavAt 5, by decide +kernel⟩,
   ⟨16, (pavAt 2).modJct (fun j => { j with lastReset := [(5, 1)] }), by decide +kernel⟩,
   ⟨32, pavAt 1, by decide +kernel⟩,
   ⟨3, 0, 1, pavAt 1, by decide +kernel⟩,
   ⟨2, aJob, { pavAt 2 with jobs := [(0, some aJob)] }, by decide +kernel⟩,
   ⟨1, pavAt 1, by decide +kernel⟩,
   ⟨2, pavAt 2, by decide +kernel⟩,
   ⟨4, pavAt 2, by decide +kernel⟩,
   ⟨4, 4, ((pavAt 3).put F.GANG_STAT_STATE 1 0 7).put F.GANG_CFG_PAV 5 0 7, by decide +kernel⟩,
   ⟨4, (pavAt 3).put F.PAV_IMG_LEN_LEN 0 0 5, by decide +kernel⟩,
   ⟨4, (pavAt 3).put F.PAV_IMG_LEN_LEN 100000 0 5, by decide +kernel⟩,
   ⟨8, emptyPav 0, by decide +kernel⟩,
   ⟨16, pavAt 1, by decide +kernel⟩,
   ⟨16, pavAt 2, by decide +kernel⟩,
   ⟨16, rec3 (pavAt 2), by decide +kernel⟩,
   ⟨32, pavAt 4, by decide +kernel⟩,
   ⟨5, pavAt 2, by decide +kernel⟩,
   ⟨5, pavAt 1, by decide +kernel⟩,
   ⟨5, pavAt 2, by decide +kernel⟩,
   ⟨5, pavAt 1, by decide +kernel⟩,
   ⟨5, pavAt 2, by decide +kernel⟩,
   ⟨4, 3, 0, mreq true (.job 0 7) 0, 7, ⟨5, 2, 1, [], [], false⟩, { takenAt (pavAt 3) 4 (mreq true (.job 0 7) 0) with jobs := [(0, some ⟨5, 2, 1, [], [], false⟩)] }, by decide +kernel⟩⟩

theorem wit_RunsAndContexts :
  (∃ (w : Word32) (s : State), s.cfgOpen 0x03 0x0E0 = true ∧ s.job 4 = none ∧ wbit w 9 = false ∧ 1 ≤ s.pavState (w.extractLsb' 0 6) ∧ s.pavState (w.extractLsb' 0 6) ≤ 4) ∧
  (∃ (w : Word32) (s : State), s.cfgOpen 0x03 0x0E0 = true ∧ s.job 4 = none ∧ wbit w 9 = false ∧ 4 < s.pavState (w.extractLsb' 0 6)) ∧
  (∃ (w : Word32) (s : State), s.cfgOpen 0x03 0x0E0 = true ∧ s.job 4 = none ∧ wbit w 9 = true) ∧
  (∃ (w : Word32) (s : State), s.cfgOpen 0x03 0x0E0 = true ∧ s.job 4 = none ∧ wbit w 8 = false ∧ (s.pavState (w.extractLsb' 0 6) = 0 ∨ 4 < s.pavState (w.extractLsb' 0 6))) ∧
  (∃ (w : Word32) (s : State), s.cfgOpen 0x03 0x0E0 = true ∧ s.job 4 = none ∧ wbit w 8 = false ∧ wbit w 10 = false ∧ 2 ≤ s.pavState (w.extractLsb' 0 6) ∧ s.pavState (w.extractLsb' 0 6) ≤ 4) ∧
  (∃ (_w : Word32) (j : Job) (s : State), s.cfgOpen 0x03 0x0E0 = true ∧ s.job 4 = some j) ∧
  (∃ (w : Word32) (s : State), s.cfgOpen 0x03 0x0E0 = true ∧ s.job 4 = none ∧ s.rowsGood = true ∧ wbit w 9 = false ∧ s.pavState (w.extractLsb' 0 6) = 0 ∧ s.recovering = false) ∧
  (∃ (w : Word32) (s : State), s.cfgOpen 0x03 0x0E0 = true ∧ s.job 4 = none ∧ s.rowsGood = true ∧ wbit w 9 = false ∧ s.pavState (w.extractLsb' 0 6) = 0 ∧ s.recovering = false ∧ s.slotsWf = true ∧ (∀ o ∈ s.objectsOf (w.extractLsb' 0 6), (s.slot o.1 o.2).kind ≠ .foldCounter)) ∧
  (∃ (w : Word32) (s : State), s.cfgOpen 0x03 0x0E0 = true ∧ s.job 4 = none ∧ s.rowsGood = true ∧ wbit w 9 = false ∧ s.pavState (w.extractLsb' 0 6) = 0 ∧ s.recovering = true) ∧
  (∃ (w : Word32) (s : State), s.cfgOpen 0x03 0x0E0 = true ∧ s.job 4 = none ∧ s.rowsGood = true ∧ wbit w 8 = false ∧ wbit w 10 = false ∧ s.pavState (w.extractLsb' 0 6) = 1 ∧ s.recovering = false ∧ s.hasWork (w.extractLsb' 0 6) = false ∧ s.gangsOf (w.extractLsb' 0 6) = []) ∧
  (∃ (w : Word32) (s : State), s.cfgOpen 0x03 0x0E0 = true ∧ s.job 4 = none ∧ s.rowsGood = true ∧ wbit w 8 = false ∧ wbit w 10 = false ∧ s.pavState (w.extractLsb' 0 6) = 1 ∧ s.recovering = false ∧ s.hasWork (w.extractLsb' 0 6) = false) ∧
  (∃ (w : Word32) (s : State), s.cfgOpen 0x03 0x0E0 = true ∧ s.job 4 = none ∧ s.rowsGood = true ∧ wbit w 8 = false ∧ wbit w 10 = false ∧ s.pavState (w.extractLsb' 0 6) = 1 ∧ s.recovering = false ∧ s.hasWork (w.extractLsb' 0 6) = true) ∧
  (∃ (w : Word32) (s : State), s.cfgOpen 0x03 0x0E0 = true ∧ s.job 4 = none ∧ s.rowsGood = true ∧ wbit w 8 = false ∧ wbit w 10 = true ∧ 1 ≤ s.pavState (w.extractLsb' 0 6) ∧ s.pavState (w.extractLsb' 0 6) ≤ 4 ∧ s.recovering = false ∧ s.pavQuiet (w.extractLsb' 0 6) = true) ∧
  (∃ (w : Word32) (s : State), s.cfgOpen 0x03 0x0E0 = true ∧ s.job 4 = none ∧ s.rowsGood = true ∧ wbit w 8 = false ∧ s.pavState (w.extractLsb' 0 6) = 1 ∧ s.recovering = true) ∧
  (∃ (w : Word32) (s : State), s.cfgOpen 0x03 0x0FC = true ∧ s.job 1 = none ∧ wbit w 1 = false ∧ wbit w 2 = false ∧ s.pavState (BitVec.ofNat 6 (s.get F.CTX_PAV_PAV)) ≠ 1) ∧
  (∃ (w : Word32) (s : State), s.cfgOpen 0x03 0x0FC = true ∧ s.job 1 = none ∧ wbit w 0 = false ∧ wbit w 2 = false ∧ s.pavState (BitVec.ofNat 6 (s.get F.CTX_PAV_PAV)) ≠ 1) ∧
  (∃ (w : Word32) (s : State), s.cfgOpen 0x03 0x0FC = true ∧ s.job 1 = none ∧ wbit w 0 = false ∧ wbit w 1 = false ∧ s.pavState (BitVec.ofNat 6 (s.get F.CTX_PAV_PAV)) ≠ 1) ∧
  (∃ (w : Word32) (s : State), s.cfgOpen 0x03 0x0FC = true ∧ ((s.job 1).isSome = true ∨ ∃ i ∈ List.range 3, i ≠ 0 ∧ wbit w i = true)) ∧
  (∃ (w : Word32) (s : State), s.cfgOpen 0x03 0x0FC = true ∧ ((s.job 1).isSome = true ∨ ∃ i ∈ List.range 3, i ≠ 1 ∧ wbit w i = true)) ∧
  (∃ (w : Word32) (s : State), s.cfgOpen 0x03 0x0FC = true ∧ ((s.job 1).isSome = true ∨ ∃ i ∈ List.range 3, i ≠ 2 ∧ wbit w i = true)) ∧
  (∃ (w : Word32) (s : State), s.cfgOpen 0x03 0x0FC = true ∧ s.job 1 = none ∧ wbit w 1 = false ∧ wbit w 2 = false ∧ s.pavState (BitVec.ofNat 6 (s.get F.CTX_PAV_PAV)) = 1 ∧ s.recovering = false ∧ s.ctxSaveCode (s.get F.CTX_RANGE_MAP_OFF) (s.rangeOf (s.get F.CTX_RANGE_MAP_OFF) (s.get F.CTX_RANGE_COUNT)) ≠ 0) ∧
  (∃ (w : Word32) (s : State), s.cfgOpen 0x03 0x0FC = true ∧ s.job 1 = none ∧ wbit w 1 = false ∧ wbit w 2 = false ∧ s.pavState (BitVec.ofNat 6 (s.get F.CTX_PAV_PAV)) = 1 ∧ s.recovering = false ∧ s.ctxSaveCode (s.get F.CTX_RANGE_MAP_OFF) (s.rangeOf (s.get F.CTX_RANGE_MAP_OFF) (s.get F.CTX_RANGE_COUNT)) = 0) ∧
  (∃ (w : Word32) (s : State), s.cfgOpen 0x03 0x0FC = true ∧ s.job 1 = none ∧ wbit w 0 = false ∧ wbit w 2 = false ∧ s.pavState (BitVec.ofNat 6 (s.get F.CTX_PAV_PAV)) = 1) ∧
  (∃ (w : Word32) (s : State), s.cfgOpen 0x03 0x0FC = true ∧ s.job 1 = none ∧ wbit w 1 = false ∧ wbit w 2 = false ∧ s.pavState (BitVec.ofNat 6 (s.get F.CTX_PAV_PAV)) = 1 ∧ s.recovering = true) ∧
  (∃ (w : Word32) (s : State), s.cfgOpen 0x03 0x0FC = true ∧ s.job 1 = none ∧ wbit w 0 = false ∧ wbit w 1 = false ∧ s.pavState (BitVec.ofNat 6 (s.get F.CTX_PAV_PAV)) = 1 ∧ s.recovering = true) ∧
  (∃ (w : Word32) (s : State), s.cfgOpen 0x03 0x0FC = true ∧ s.job 1 = none ∧ wbit w 0 = false ∧ wbit w 1 = false ∧ s.pavState (BitVec.ofNat 6 (s.get F.CTX_PAV_PAV)) = 1 ∧ s.recovering = false ∧ (∀ k, k < 4 → (s.mem k).watches = [])) :=
  ⟨⟨0x105, pavAt 1, by decide +kernel⟩,
   ⟨0x105, pavAt 5, by decide +kernel⟩,
   ⟨0x305, pavAt 0, by decide +kernel⟩,
   ⟨0x205, pavAt 0, by decide +kernel⟩,
   ⟨0x205, pavAt 3, by decide +kernel⟩,
   ⟨0x105, aJob, { pavAt 2 with jobs := [(4, some aJob)] }, by decide +kernel⟩,
   ⟨0x105, emptyPav 0, by decide +kernel⟩,
   ⟨0x105, pavAt 0, by decide +kernel⟩,
   ⟨0x105, rec3 (pavAt 0), by decide +kernel⟩,
   ⟨0x205, pavAt 1, by decide +kernel⟩,
   ⟨0x005, emptyPav 1, by decide +kernel⟩,
   ⟨0x205, (pavAt 1).modMem 2 (fun m => { m with watches := [⟨0, 9, 1, 9, 5⟩] }), by decide +kernel⟩,
   ⟨0x605, pavAt 1, by decide +kernel⟩,
   ⟨0x205, rec3 (pavAt 1), by decide +kernel⟩,
   ⟨1, ctxAt (pavAt 2), by decide +kernel⟩,
   ⟨2, ctxAt (pavAt 2), by decide +kernel⟩,
   ⟨4, ctxAt (pavAt 2), by decide +kernel⟩,
   ⟨3, ctxAt (pavAt 1), by decide +kernel⟩,
   ⟨3, ctxAt (pavAt 1), by decide +kernel⟩,
   ⟨5, ctxAt (pavAt 1), by decide +kernel⟩,
   ⟨1, ctxAt (obj 9 (ob .sem 5 0)), by decide +kernel⟩,
   ⟨1, ctxAt (obj 9 { ob .counter 5 71 with ctxl := true }), by decide +kernel⟩,
   ⟨2, ctxAt (pavAt 1), by decide +kernel⟩,
   ⟨1, rec3 (ctxAt (pavAt 1)), by decide +kernel⟩,
   ⟨4, rec3 (ctxAt (pavAt 1)), by decide +kernel⟩,
   ⟨4, ctxAt (pavAt 1), by decide +kernel⟩⟩

theorem wit_ScrubReadsAndLaps :
  (∃ (p : Part) (ram : BitVec 5) (row : BitVec 20) (syn : List (Nat × Byte)) (s : State), s.scrubs p ram row = true ∧ s.scrubClear p ram.toNat row.toNat = true ∧ s.noPark = true ∧ classify (s.syndromes (protOf p) ram.toNat row.toNat syn) = .clean) ∧
  (∃ (p : Part) (ram : BitVec 5) (row : BitVec 20) (syn : List (Nat × Byte)) (s : State), s.scrubs p ram row = true ∧ s.scrubClear p ram.toNat row.toNat = true ∧ s.noPark = true ∧ classify (s.syndromes (protOf p) ram.toNat row.toNat syn) = .corr) ∧
  (∃ (n : Nat) (p : Part) (ram : BitVec 5) (row : BitVec 20) (syn : List (Nat × Byte)) (s : State), s.scrubs p ram row = true ∧ s.scrubClear p ram.toNat row.toNat = true ∧ s.noPark = true ∧ classify (s.syndromes (protOf p) ram.toNat row.toNat syn) = .corr ∧ ((s.prot (protOf p)).log.any (fun e => e.2.any (fun r => decide (r.ram = ram ∧ r.row.toNat = row.toNat))) = false) ∧ (s.prot (protOf p)).victim = some n) ∧
  (∃ (n : Nat) (r : LogRow) (p : Part) (syn : List (Nat × Byte)) (s : State), s.scrubs p r.ram (BitVec.ofNat 20 r.row.toNat) = true ∧ s.scrubClear p r.ram.toNat r.row.toNat = true ∧ s.noPark = true ∧ classify (s.syndromes (protOf p) r.ram.toNat r.row.toNat syn) = .corr ∧ (s.prot (protOf p)).log = [(n, some r)]) ∧
  (∃ (p : Part) (ram : BitVec 5) (row : BitVec 20) (syn : List (Nat × Byte)) (s : State) (x : BitVec 2), s.scrubs p ram row = true ∧ s.scrubClear p ram.toNat row.toNat = true ∧ s.noPark = true ∧ s.su.everReady = true ∧ classify (s.syndromes (protOf p) ram.toNat row.toNat syn) ≠ .clean ∧ classify (s.syndromes (protOf p) ram.toNat row.toNat syn) ≠ .corr ∧ s.uncorrOf (protOf p) ram.toNat row.toNat (classify (s.syndromes (protOf p) ram.toNat row.toNat syn)) = .reset ∧ s.job 5 = none ∧ s.net = [] ∧ p = .stn x ∧ s.flag F.REC_STAT_FAILED x.toNat = false ∧ s.get F.REC_STAT_PHASE x.toNat = 0 ∧ s.unprot (.stn x) = false ∧ (s.mem x.toNat).freezeQ = [] ∧ (s.stn x.toNat).wakeQ = []) ∧
  (∃ (p : Part) (ram : BitVec 5) (row : BitVec 20) (syn : List (Nat × Byte)) (s : State) (h : BitVec 4), s.scrubs p ram row = true ∧ s.scrubClear p ram.toNat row.toNat = true ∧ s.noPark = true ∧ s.su.everReady = true ∧ classify (s.syndromes (protOf p) ram.toNat row.toNat syn) ≠ .clean ∧ classify (s.syndromes (protOf p) ram.toNat row.toNat syn) ≠ .corr ∧ p = .halt h) ∧
  (∃ (p : Part) (ram : BitVec 5) (row : BitVec 20) (syn : List (Nat × Byte)) (s : State) (x : BitVec 2), s.scrubs p ram row = true ∧ s.scrubClear p ram.toNat row.toNat = true ∧ s.noPark = true ∧ s.su.everReady = true ∧ classify (s.syndromes (protOf p) ram.toNat row.toNat syn) ≠ .clean ∧ classify (s.syndromes (protOf p) ram.toNat row.toNat syn) ≠ .corr ∧ p = .stn x ∧ s.uncorrOf (protOf p) ram.toNat row.toNat (classify (s.syndromes (protOf p) ram.toNat row.toNat syn)) = .idle) ∧
  (∃ (p : Part) (ram : BitVec 5) (row : BitVec 20) (syn : List (Nat × Byte)) (s : State) (x : BitVec 2) (pon : Nat), s.scrubs p ram row = true ∧ s.scrubClear p ram.toNat row.toNat = true ∧ s.noPark = true ∧ s.su.everReady = true ∧ classify (s.syndromes (protOf p) ram.toNat row.toNat syn) ≠ .clean ∧ classify (s.syndromes (protOf p) ram.toNat row.toNat syn) ≠ .corr ∧ p = .stn x ∧ s.uncorrOf (protOf p) ram.toNat row.toNat (classify (s.syndromes (protOf p) ram.toNat row.toNat syn)) = .lane pon) ∧
  (∃ (p : Part) (ram : BitVec 5) (row : BitVec 20) (r : Nat) (s : State), s.scrubs p ram row = true ∧ s.noPark = true ∧ (s.prot (protOf p)).due = [] ∧ (s.prot (protOf p)).armed = false ∧ s.passBad (protOf p) ram.toNat (tget 0 (s.prot (protOf p)).pos ram.toNat) (row.toNat - tget 0 (s.prot (protOf p)).pos ram.toNat) = [r] ∧ s.rowSkipped (protOf p) ram.toNat r = false ∧ classify (s.syndromes (protOf p) ram.toNat r []) = .corr ∧ classify (s.syndromes (protOf p) ram.toNat row.toNat []) = .clean) ∧
  (∃ (p : Part) (ram : BitVec 5) (row : BitVec 20) (syn : List (Nat × Byte)) (s : State), s.scrubs p ram row = true ∧ s.scrubClear p ram.toNat row.toNat = true ∧ s.noPark = true ∧ s.su.everReady = false ∧ classify (s.syndromes (protOf p) ram.toNat row.toNat syn) ≠ .clean ∧ classify (s.syndromes (protOf p) ram.toNat row.toNat syn) ≠ .corr ∧ s.su.step ≠ 15) ∧
  (∃ (p : Part) (ram : BitVec 5) (row : BitVec 20) (_syn : List (Nat × Byte)) (s : State), s.scrubs p ram row = false) ∧
  (∃ (p : Part) (s : State), (∀ h, p ≠ .halt h) ∧ s.flag F.SP_SWEEP_DONE (protOf p) = true ∧ s.parked = false ∧ s.noPark = true ∧ (ramsOf (protOf p)).all (fun x => s.scrubClear p x.1 x.2) = true) ∧
  (∃ (p : Part) (s : State), (∀ h, p ≠ .halt h) ∧ s.flag F.SP_SWEEP_DONE (protOf p) = true ∧ s.flag F.SP_LAP_FLOOR (protOf p) = false) ∧
  (∃ (p : Part) (s : State), ((∃ h, p = .halt h) ∨ s.flag F.SP_SWEEP_DONE (protOf p) = false ∨ s.flag F.SP_LAP_FLOOR (protOf p) = true)) ∧
  (∃ (p : Part) (s : State), ((∃ h, p = .halt h) ∨ s.flag F.SP_SWEEP_DONE (protOf p) = false ∨ s.parked = true)) ∧
  (∃ (x : BitVec 2) (w : Word32) (m : BitVec 5) (s : State), s.cfgOpen (corePage x) 0x050 = true ∧ (s.prot x.toNat).bad = [(1, bitsOf w.toNat 16 14, m)] ∧ (s.prot x.toNat).armed = false ∧ classify (s.syndromes x.toNat 1 (bitsOf w.toNat 16 14) []) = .corr) ∧
  (∃ (x : BitVec 2) (w : Word32) (m : BitVec 5) (s : State), s.cfgOpen (corePage x) 0x050 = true ∧ (s.prot x.toNat).bad = [(1, bitsOf w.toNat 16 14, m)] ∧ (s.prot x.toNat).armed = false ∧ (s.prot x.toNat).due = [] ∧ s.su.everReady = true ∧ classify (s.syndromes x.toNat 1 (bitsOf w.toNat 16 14) []) ≠ .clean ∧ classify (s.syndromes x.toNat 1 (bitsOf w.toNat 16 14) []) ≠ .corr) ∧
  (∃ (x : BitVec 2) (d : Nat) (s : State), s.pending = [] ∧ (s.prot x.toNat).due = [(.stn x, d)] ∧ (∀ i, i < 5 → i ≠ x.toNat → (s.prot i).due = []) ∧ s.su.everReady = true ∧ s.job 5 = none ∧ s.flag F.REC_STAT_FAILED x.toNat = false ∧ s.get F.REC_STAT_PHASE x.toNat = 0 ∧ s.unprot (.stn x) = false ∧ s.net = [] ∧ (s.mem x.toNat).freezeQ = [] ∧ (s.stn x.toNat).wakeQ = [] ∧ s.jct.wires = [] ∧ s.jct.pool = [] ∧ s.jct.retWait = [] ∧ s.jct.beatWait = [] ∧ (∀ h, h < 16 → (s.halt h).ssHeld = [])) :=
  ⟨⟨.stn 2, 2, 5, [], swept, by decide +kernel⟩,
   ⟨.stn 2, 2, 5, [(0, 1)], swept, by decide +kernel⟩,
   ⟨0, .stn 2, 2, 5, [(0, 1)], swept, by decide +kernel⟩,
   ⟨0, ⟨2, 5, 1, 3, 0, false⟩, .stn 2, [(0, 1)], logOf ⟨2, 5, 1, 3, 0, false⟩, by decide +kernel⟩,
   ⟨.stn 2, 2, 5, [(0, 3)], sweptLed, 2, by decide +kernel⟩,
   ⟨.halt 1, 0x11, 5, [(0, 3)], swept, 1, by decide +kernel⟩,
   ⟨.stn 2, 7, 5, [(0, 3)], swept, 2, by decide +kernel⟩,
   ⟨.stn 2, 7, 101, [(0, 3)], [0, 1, 2, 3, 0x80].foldl (fun s i => s.put F.SP_SWEEP_DONE 1 i) ((foldAt (orHdr 1)).modMem 2 (fun m => { m with lanes := [(101, some 5)] })), 2, 9, by decide +kernel⟩,
   ⟨.stn 2, 2, 6, 5, badRow, by decide +kernel⟩,
   ⟨.stn 2, 2, 5, [(0, 3)], { swept with su := { swept.su with everReady := false, ready := false, step := 5 } }, by decide +kernel⟩,
   ⟨.stn 2, 2, 4096, [(0, 3)], swept, by decide +kernel⟩,
   ⟨.stn 2, swept, by decide +kernel⟩,
   ⟨.stn 2, swept, by decide +kernel⟩,
   ⟨.halt 1, swept, by decide +kernel⟩,
   ⟨.halt 1, swept, by decide +kernel⟩,
   ⟨2, 0x90001, 1, { (obj 9 (ob .counter 5 0)) with prots := [(2, { Prot.init with bad := [(1, 9, 1)] })] }, by decide +kernel⟩,
   ⟨2, 0x90001, 3, { (obj 9 (ob .counter 5 0)) with prots := [(2, { Prot.init with bad := [(1, 9, 3)] })] }, by decide +kernel⟩,
   ⟨2, 77, { sweptLed with prots := [(2, { Prot.init with due := [(.stn 2, 77)] })] }, by decide +kernel⟩⟩

theorem wit_PassesLogRetirementAndInjection :
  (∃ (p : Part) (_w : Word32) (s : State), s.spOpen p 0x070 = true ∧ s.flag F.SP_PASS_CTL_BUSY (protOf p) = true) ∧
  (∃ (p : Part) (_w : Word32) (s : State), s.spOpen p 0x070 = true ∧ s.flag F.SP_PASS_CTL_BUSY (protOf p) = false ∧ s.passCode (protOf p) ≠ 0) ∧
  (∃ (p : Part) (_w : Word32) (s : State), s.spOpen p 0x070 = true ∧ s.flag F.SP_PASS_CTL_BUSY (protOf p) = false ∧ s.passCode (protOf p) = 0) ∧
  (∃ (p : Part) (s : State), (∀ h, p ≠ .halt h) ∧ s.parked = false ∧ s.noPark = true ∧ s.flag F.SP_PASS_CTL_BUSY (protOf p) = true ∧ s.passBad (protOf p) (s.get F.SP_PASS_RAM_RAM (protOf p)) (s.get F.SP_PASS_FIRST_ROW (protOf p)) (s.get F.SP_PASS_N_N (protOf p)) = []) ∧
  (∃ (p : Part) (r : Nat) (s : State), (∀ h, p ≠ .halt h) ∧ s.parked = false ∧ s.noPark = true ∧ s.flag F.SP_PASS_CTL_BUSY (protOf p) = true ∧ s.passBad (protOf p) (s.get F.SP_PASS_RAM_RAM (protOf p)) (s.get F.SP_PASS_FIRST_ROW (protOf p)) (s.get F.SP_PASS_N_N (protOf p)) = [r] ∧ r < 2 ^ 16 ∧ s.rowSkipped (protOf p) (s.get F.SP_PASS_RAM_RAM (protOf p)) r = false ∧ classify (s.syndromes (protOf p) (s.get F.SP_PASS_RAM_RAM (protOf p)) r []) = .corr ∧ s.get F.SP_PASS_SUM_CORR (protOf p) = 0 ∧ s.get F.SP_PASS_SUM_UNCORR (protOf p) = 0) ∧
  (∃ (p : Part) (s : State), ((∃ h, p = .halt h) ∨ s.parked = true ∨ (s.flag F.SP_PASS_CTL_BUSY (protOf p) = false ∧ s.noPark = true))) ∧
  (∃ (p : Part) (w : Word32) (s : State), s.spOpen p 0x08C = true ∧ wbit w 1 = false) ∧
  (∃ (p : Part) (_w : Word32) (s : State), s.spOpen p 0x08C = true) ∧
  (∃ (p : Part) (w : Word32) (s : State), s.spOpen p 0x094 = true ∧ wbit w 1 = false ∧ s.retCode (protOf p) (s.get F.SP_RET_SEL_RAM (protOf p)) (s.get F.SP_RET_SEL_ROW (protOf p)) true = 0) ∧
  (∃ (p : Part) (w : Word32) (s : State), s.spOpen p 0x094 = true ∧ wbit w 0 = false ∧ s.retCode (protOf p) (s.get F.SP_RET_SEL_RAM (protOf p)) (s.get F.SP_RET_SEL_ROW (protOf p)) false = 0) ∧
  (∃ (p : Part) (w : Word32) (s : State), s.spOpen p 0x094 = true ∧ wbit w 1 = false ∧ s.retCode (protOf p) (s.get F.SP_RET_SEL_RAM (protOf p)) (s.get F.SP_RET_SEL_ROW (protOf p)) true ≠ 0) ∧
  (∃ (p : Part) (w : Word32) (s : State), s.spOpen p 0x094 = true ∧ wbit w 0 = false ∧ s.retCode (protOf p) (s.get F.SP_RET_SEL_RAM (protOf p)) (s.get F.SP_RET_SEL_ROW (protOf p)) false ≠ 0) ∧
  (∃ (p : Part) (w : Word32) (s : State), s.spOpen p 0x400 = true ∧ bitsOf w.toNat 21 5 ≠ 0 ∧ (rowSame s s (min (protOf p) 4) (bitsOf w.toNat 0 5) (bitsOf w.toNat 5 16)).isSome = true) ∧
  (∃ (p : Part) (w : Word32) (s : State), s.spOpen p 0x400 = true ∧ bitsOf w.toNat 21 5 = 0 ∧ (s.prot (protOf p)).armed = false) ∧
  (∃ (h : BitVec 4) (w : Word32) (_s : State) (c : Instr), c ∈ [.protectionPass (.halt h) w, .spLogClr (.halt h) w, .spLogClrAll (.halt h) w, .rowRetire (.halt h) w, .rowUnretire (.halt h) w, .injectionArm (.halt h) w]) :=
  ⟨⟨.stn 2, 1, rdy.put F.SP_PASS_CTL_BUSY 1 2, by decide +kernel⟩,
   ⟨.stn 2, 1, rdy, by decide +kernel⟩,
   ⟨.stn 2, 1, ((badRow.put F.SP_PASS_RAM_RAM 2 2).put F.SP_PASS_FIRST_ROW 0 2).put F.SP_PASS_N_N 16 2, by decide +kernel⟩,
   ⟨.stn 2, (((badRow.put F.SP_PASS_RAM_RAM 2 2).put F.SP_PASS_FIRST_ROW 6 2).put F.SP_PASS_N_N 16 2).put F.SP_PASS_CTL_BUSY 1 2, by decide +kernel⟩,
   ⟨.stn 2, 5, (((badRow.put F.SP_PASS_RAM_RAM 2 2).put F.SP_PASS_FIRST_ROW 0 2).put F.SP_PASS_N_N 16 2).put F.SP_PASS_CTL_BUSY 1 2, by decide +kernel⟩,
   ⟨.halt 1, rdy, by decide +kernel⟩,
   ⟨.stn 2, 1, logOf ⟨2, 5, 1, 3, 0, false⟩, by decide +kernel⟩,
   ⟨.stn 2, 2, logOf ⟨2, 5, 1, 3, 0, false⟩, by decide +kernel⟩,
   ⟨.stn 2, 1, (badRow.put F.SP_RET_SEL_RAM 2 2).put F.SP_RET_SEL_ROW 6 2, by decide +kernel⟩,
   ⟨.stn 2, 2, ((badRow.put F.SP_RET_SEL_RAM 2 2).put F.SP_RET_SEL_ROW 6 2).modStn 2 (fun n => { n with retiredRows := [(2, 6)] }), by decide +kernel⟩,
   ⟨.stn 2, 1, rdy, by decide +kernel⟩,
   ⟨.stn 2, 2, (badRow.put F.SP_RET_SEL_RAM 2 2).put F.SP_RET_SEL_ROW 6 2, by decide +kernel⟩,
   ⟨.stn 2, 18874530, swept.put F.PAGE_CTL_EXPERT 1 0x16, by decide +kernel⟩,
   ⟨.stn 2, 0x62, swept.put F.PAGE_CTL_EXPERT 1 0x16, by decide +kernel⟩,
   ⟨1, 1, rdy, .protectionPass (.halt 1) 1, by decide +kernel⟩⟩

theorem wit_StationAndHaltRecoveryPhases :
  (∃ (x : BitVec 2) (s : State), s.noPark = true ∧ (s.get F.REC_STAT_PHASE x.toNat = 0 ∨ 7 ≤ s.get F.REC_STAT_PHASE x.toNat ∨ (s.get F.REC_STAT_PHASE x.toNat = 1 ∧ (s.port x.toNat).taken ≠ []) ∨ (s.get F.REC_STAT_PHASE x.toNat = 5 ∧ s.stopped .jct = true))) ∧
  (∃ (x : BitVec 2) (s : State), s.noPark = true ∧ s.get F.REC_STAT_PHASE x.toNat = 1 ∧ (s.port x.toNat).taken = []) ∧
  (∃ (x : BitVec 2) (s : State), s.noPark = true ∧ s.get F.REC_STAT_PHASE x.toNat = 2 ∧ s.rowsGood = true) ∧
  (∃ (x : BitVec 2) (s : State), s.noPark = true ∧ s.get F.REC_STAT_PHASE x.toNat = 3 ∧ s.flag F.LG_STAT_SNAP_VALID x.toNat = true) ∧
  (∃ (x : BitVec 2) (s : State), s.noPark = true ∧ s.get F.REC_STAT_PHASE x.toNat = 3 ∧ s.flag F.LG_STAT_SNAP_VALID x.toNat = false ∧ (s.stn x.toNat).backlog = [] ∧ (s.stn x.toNat).beats = [] ∧ (∃ y ∈ List.range 4, y ≠ x.toNat ∧ s.get F.REC_STAT_PHASE y ≠ 0)) ∧
  (∃ (x : BitVec 2) (s : State), s.noPark = true ∧ s.get F.REC_STAT_PHASE x.toNat = 4) ∧
  (∃ (x : BitVec 2) (s : State), s.noPark = true ∧ s.get F.REC_STAT_PHASE x.toNat = 5 ∧ s.stopped .jct = false ∧ (∀ e ∈ (s.mem x.toNat).slots, e.2.kind ∉ [.foldCounter, .mlock, .ring]) ∧ (∀ i, i < 16 → (s.th (boxThread x.toNat i)).state ∈ [.off, .armed, .stopped]) ∧ (s.stn x.toNat).backlog = [] ∧ (s.stn x.toNat).beats = []) ∧
  (∃ (x : BitVec 2) (s : State), s.noPark = true ∧ s.get F.REC_STAT_PHASE x.toNat = 6) ∧
  (∃ (h : BitVec 4) (s : State), s.noPark = true ∧ (s.halt h.toNat).phase = 1) ∧
  (∃ (h : BitVec 4) (s : State), s.noPark = true ∧ (s.halt h.toNat).phase = 2) ∧
  (∃ (h : BitVec 4) (s : State), s.noPark = true ∧ (s.halt h.toNat).phase = 3 ∧ (s.halt h.toNat).purges = []) ∧
  (∃ (h : BitVec 4) (s : State), s.noPark = true ∧ (s.halt h.toNat).phase = 4 ∧ s.job 2 = none ∧ s.job 3 = none) ∧
  (∃ (h : BitVec 4) (s : State), s.noPark = true ∧ ((s.halt h.toNat).phase = 0 ∨ 4 < (s.halt h.toNat).phase.toNat ∨ ((s.halt h.toNat).phase = 3 ∧ (s.halt h.toNat).purges ≠ []))) :=
  ⟨⟨2, rdy, by decide +kernel⟩,
   ⟨2, (obj 9 (ob .counter 5 0)).put F.REC_STAT_PHASE 1 2, by decide +kernel⟩,
   ⟨2, recAt 2 2, by decide +kernel⟩,
   ⟨2, (recAt 2 3).put F.LG_STAT_SNAP_VALID 1 2, by decide +kernel⟩,
   ⟨2, (recAt 2 3).put F.REC_STAT_PHASE 1 0, by decide +kernel⟩,
   ⟨2, { recAt 2 4 with ledgers := [(2, { Ledger.init with durable := (obj 9 { ob .counter 5 0 with frozen := true }).mem 2 })] }, by decide +kernel⟩,
   ⟨2, (obj 9 (ob .counter 5 0)).put F.REC_STAT_PHASE 5 2, by decide +kernel⟩,
   ⟨2, recAt 2 6, by decide +kernel⟩,
   ⟨1, (haltAt 1).put F.HALT_SUPV_MASK 0x10 1 3, by decide +kernel⟩,
   ⟨1, haltAt 2, by decide +kernel⟩,
   ⟨1, haltAt 3, by decide +kernel⟩,
   ⟨1, haltAt 4, by decide +kernel⟩,
   ⟨1, rdy, by decide +kernel⟩⟩

theorem wit_JunctionRecoveryAndReports :
  (∃ (s : State), s.noPark = true ∧ (s.get F.FD_JREC_PHASE = 0 ∨ 5 < s.get F.FD_JREC_PHASE)) ∧
  (∃ (s : State), s.noPark = true ∧ s.get F.FD_JREC_PHASE = 1) ∧
  (∃ (s : State), s.noPark = true ∧ s.get F.FD_JREC_PHASE = 2 ∧ s.flag F.LG_STAT_SNAP_VALID 0x80 = true) ∧
  (∃ (s : State), s.noPark = true ∧ s.get F.FD_JREC_PHASE = 2 ∧ s.flag F.LG_STAT_SNAP_VALID 0x80 = false) ∧
  (∃ (s : State), s.noPark = true ∧ s.get F.FD_JREC_PHASE = 3) ∧
  (∃ (s : State), s.noPark = true ∧ s.get F.FD_JREC_PHASE = 4 ∧ (∀ p ∈ allParts, (s.origin p).ret = []) ∧ (∀ h, h < 16 → (s.halt h).waits = [] ∧ (s.halt h).script.cmp = none) ∧ (∀ th ∈ allThreads, (s.th th).state ∈ [.off, .stopped]) ∧ s.homeObjects = [] ∧ s.jct.respWait = []) ∧
  (∃ (s : State), s.noPark = true ∧ s.get F.FD_JREC_PHASE = 5 ∧ s.unprot .jct = true ∧ s.job 2 = none ∧ s.job 3 = none) ∧
  (∃ (x : BitVec 2) (p : Part) (s : State), s.head? (.stn x) p = some (.reloaded x)) ∧
  (∃ (x : BitVec 2) (h : BitVec 4) (s : State), s.head? (.stn x) (.halt h) = some (.reloaded x) ∧ s.noPark = true ∧ (s.halt h.toNat).orig.ret = [] ∧ (s.halt h.toNat).waits = [] ∧ (s.halt h.toNat).script.cmp = none ∧ (s.th (.script h)).state ≠ .waiting ∧ (s.th (.script h)).state ≠ .armed ∧ (s.th (.script h)).cancelled = []) ∧
  (∃ (src : Part) (dst : Part) (s : State), s.head? src dst = none ∧ s.noPark = true) ∧
  (∃ (x : BitVec 2) (p : Part) (s : State), s.head? p (.stn x) = some (.replayDone x) ∧ s.noPark = true ∧ ((s.stn x.toNat).due ≠ [p] ∨ s.get F.REC_STAT_PHASE x.toNat < 6)) ∧
  (∃ (x : BitVec 2) (p : Part) (s : State), s.head? p (.stn x) = some (.replayDone x) ∧ s.noPark = true ∧ (s.stn x.toNat).due = [p] ∧ 6 ≤ s.get F.REC_STAT_PHASE x.toNat ∧ s.unprot (.stn x) = true ∧ (∀ k, k < 5 → s.job k = none) ∧ s.jct.ttRecover = false) ∧
  (∃ (x : BitVec 2) (h : BitVec 4) (s : State), s.head? (.halt h) (.stn x) = some (.purge h)) ∧
  (∃ (x : BitVec 2) (h : BitVec 4) (s : State), s.head? (.halt h) (.stn x) = some (.purge h) ∧ s.noPark = true ∧ (∀ w ∈ (s.mem x.toNat).waiters, (fun w : Waiter => match w.rq.who with | .queue _ core _ => decide (core.toNat / 16 = h.toNat) | _ => false) w = true → (s.slot x.toNat w.pon).kind ∉ [.sem, .ticket, .ring])) ∧
  (∃ (p : Part) (h : BitVec 4) (s : State), s.head? p (.halt h) = some (.purgeAck h) ∧ s.noPark = true) :=
  ⟨⟨rdy, by decide +kernel⟩,
   ⟨(jrec 1).modJct (fun j => { j with proxies := [home] }), by decide +kernel⟩,
   ⟨(jrec 2).put F.LG_STAT_SNAP_VALID 1 0x80, by decide +kernel⟩,
   ⟨jrec 2, by decide +kernel⟩,
   ⟨jrec 3, by decide +kernel⟩,
   ⟨jrec 4, by decide +kernel⟩,
   ⟨jrec 5, by decide +kernel⟩,
   ⟨2, .halt 1, msgTo (.stn 2) (.halt 1) (.reloaded 2) rdy, by decide +kernel⟩,
   ⟨2, 1, msgTo (.stn 2) (.halt 1) (.reloaded 2) rdy, by decide +kernel⟩,
   ⟨.stn 2, .jct, rdy, by decide +kernel⟩,
   ⟨2, .halt 1, (msgTo (.halt 1) (.stn 2) (.replayDone 2) (recAt 2 7)).modStn 2 (fun n => { n with due := [.jct, .halt 1] }), by decide +kernel⟩,
   ⟨2, .halt 1, (msgTo (.halt 1) (.stn 2) (.replayDone 2) (recAt 2 7)).modStn 2 (fun n => { n with due := [.halt 1] }), by decide +kernel⟩,
   ⟨2, 1, msgTo (.halt 1) (.stn 2) (.purge 1) rdy, by decide +kernel⟩,
   ⟨2, 2, msgTo (.halt 2) (.stn 2) (.purge 2) ((obj 9 (ob .glock 0 0x43)).modMem 2 (fun m => { m with waiters := [waiter 3 9 0x0C 2], watches := [⟨0, 9, 2, 9, 5⟩] })), by decide +kernel⟩,
   ⟨.jct, 1, msgTo .jct (.halt 1) (.purgeAck 1) ((haltAt 3).modHalt 1 (fun h => { h with purges := [.jct] })), by decide +kernel⟩⟩

theorem wit_LedgerCommandsAndWindows :
  (∃ (w : Word32) (s : State), s.cfgOpen 0x00 0x068 = true ∧ s.rowsGood = true ∧ s.flag F.LG_CTL_EN = false ∧ wbit w 1 = false ∧ wbit w 2 = false ∧ wbit w 3 = false ∧ (∀ k ∈ ledgerKeys, (s.ledger k).snap = none)) ∧
  (∃ (w : Word32) (s : State), s.cfgOpen 0x00 0x068 = true ∧ s.flag F.LG_CTL_EN = true ∧ wbit w 1 = false ∧ wbit w 2 = false ∧ wbit w 3 = false) ∧
  (∃ (w : Word32) (s : State), s.cfgOpen 0x00 0x068 = true ∧ s.rowsGood = true ∧ (wbit w 0 = s.flag F.LG_CTL_EN) ∧ wbit w 2 = false ∧ wbit w 3 = false ∧ (∀ k ∈ ledgerKeys, (s.ledger k).snap = none)) ∧
  (∃ (w : Word32) (s : State), s.cfgOpen 0x00 0x068 = true ∧ (wbit w 0 = s.flag F.LG_CTL_EN) ∧ wbit w 1 = false ∧ wbit w 3 = false) ∧
  (∃ (w : Word32) (s : State), s.cfgOpen 0x00 0x068 = true ∧ s.rowsGood = true ∧ (wbit w 0 = s.flag F.LG_CTL_EN) ∧ wbit w 1 = false ∧ wbit w 2 = false) ∧
  (∃ (p : Part) (k : Nat) (s : State), ledgerKey p = some k ∧ s.unprot p = false ∧ s.partDown k = false ∧ s.parked = false ∧ s.ledgerDirty k = true ∧ s.ledgerHeld k = false) ∧
  (∃ (p : Part) (k : Nat) (s : State), ledgerKey p = some k ∧ s.unprot p = false ∧ s.partDown k = false ∧ s.parked = false ∧ s.ledgerDirty k = true ∧ s.ledgerHeld k = true) ∧
  (∃ (p : Part) (s : State), (ledgerKey p = none ∨ s.unprot p = true ∨ s.parked = true ∨ ∃ k, ledgerKey p = some k ∧ (s.partDown k = true ∨ s.ledgerDirty k = false))) ∧
  (∃ (p : Part) (k : Nat) (s : State), ledgerKey p = some k ∧ s.unprot p = false ∧ s.partDown k = false ∧ s.parked = false ∧ s.rowsGood = true ∧ s.flag F.LG_STAT_FAIL (keyInst k) = false ∧ (s.ledger k).snap = none) ∧
  (∃ (p : Part) (s : State), (ledgerKey p = none ∨ s.unprot p = true ∨ s.parked = true ∨ ∃ k, ledgerKey p = some k ∧ (s.partDown k = true ∨ s.flag F.LG_STAT_FAIL (keyInst k) = true ∨ (s.ledger k).snap ≠ none))) :=
  ⟨⟨1, rdy, by decide +kernel⟩,
   ⟨1, lgOn, by decide +kernel⟩,
   ⟨3, led.put F.LG_STAT_FAIL 1 2, by decide +kernel⟩,
   ⟨5, led.put F.LG_STAT_FAIL 1 2, by decide +kernel⟩,
   ⟨9, led, by decide +kernel⟩,
   ⟨.stn 2, 2, led, by decide +kernel⟩,
   ⟨.stn 2, 2, led.put F.LG_STAT_HELD 1 2, by decide +kernel⟩,
   ⟨.halt 1, led, (Or.inl (by decide +kernel))⟩,
   ⟨.stn 2, 2, led, by decide +kernel⟩,
   ⟨.halt 1, led, (Or.inl (by decide +kernel))⟩⟩

theorem wit_PostMortemCommands :
  (∃ (_w : Word32) (s : State), s.cfgOpen 0x29 0x09C = true ∧ s.noWaits = true ∧ (∀ y, y < 4 → (s.mem y).waiters = [])) ∧
  (∃ (_w : Word32) (x : BitVec 2) (u : Waiter) (s : State), s.cfgOpen 0x29 0x09C = true ∧ s.noWaits = true ∧ (∀ y, y < 4 → y ≠ x.toNat → (s.mem y).waiters = []) ∧ (s.mem x.toNat).waiters = [u] ∧ (s.get F.SC_SIZE_N 0 x.toNat) ≠ 0 ∧ ((s.get F.SC_WR_IDX 0 x.toNat) + 65536 - (s.get F.SC_RD_IDX 0 x.toNat)) % 65536 ≠ (s.get F.SC_SIZE_N 0 x.toNat)) ∧
  (∃ (_w : Word32) (x : BitVec 2) (u : Waiter) (s : State), s.cfgOpen 0x29 0x09C = true ∧ s.noWaits = true ∧ (∀ y, y < 4 → y ≠ x.toNat → (s.mem y).waiters = []) ∧ (s.mem x.toNat).waiters = [u] ∧ ((s.get F.SC_SIZE_N 0 x.toNat) = 0 ∨ ((s.get F.SC_WR_IDX 0 x.toNat) + 65536 - (s.get F.SC_RD_IDX 0 x.toNat)) % 65536 = (s.get F.SC_SIZE_N 0 x.toNat))) ∧
  (∃ (_w : Word32) (j : Job) (s : State), s.cfgOpen 0x29 0x0C4 = true ∧ s.job 3 = some j) ∧
  (∃ (_w : Word32) (s : State), s.cfgOpen 0x29 0x0C4 = true ∧ s.job 3 = none ∧ s.onDie (BitVec.ofNat 25 (s.get F.DV_ADDR_ADDR)) = false) ∧
  (∃ (_w : Word32) (s : State), s.cfgOpen 0x29 0x0C4 = true ∧ s.job 3 = none ∧ s.onDie (BitVec.ofNat 25 (s.get F.DV_ADDR_ADDR)) = true ∧ s.get F.REC_STAT_PHASE ((aStn (BitVec.ofNat 25 (s.get F.DV_ADDR_ADDR))).toNat) = 0 ∧ s.get F.FD_JREC_PHASE = 0 ∧ s.flag F.REC_STAT_FAILED ((aStn (BitVec.ofNat 25 (s.get F.DV_ADDR_ADDR))).toNat) = false ∧ ((s.slot (aStn (BitVec.ofNat 25 (s.get F.DV_ADDR_ADDR))).toNat (aPon (BitVec.ofNat 25 (s.get F.DV_ADDR_ADDR)))).kind = .free ∨ (s.slot (aStn (BitVec.ofNat 25 (s.get F.DV_ADDR_ADDR))).toNat (aPon (BitVec.ofNat 25 (s.get F.DV_ADDR_ADDR)))).kind = .retired)) ∧
  (∃ (w : Word32) (s : State), s.cfgOpen 0x29 0x0C4 = true ∧ s.job 3 = none ∧ s.onDie (BitVec.ofNat 25 (s.get F.DV_ADDR_ADDR)) = true ∧ s.get F.REC_STAT_PHASE ((aStn (BitVec.ofNat 25 (s.get F.DV_ADDR_ADDR))).toNat) = 0 ∧ s.get F.FD_JREC_PHASE = 0 ∧ s.flag F.REC_STAT_FAILED ((aStn (BitVec.ofNat 25 (s.get F.DV_ADDR_ADDR))).toNat) = false ∧ (s.slot (aStn (BitVec.ofNat 25 (s.get F.DV_ADDR_ADDR))).toNat (aPon (BitVec.ofNat 25 (s.get F.DV_ADDR_ADDR)))).kind ≠ .free ∧ (s.slot (aStn (BitVec.ofNat 25 (s.get F.DV_ADDR_ADDR))).toNat (aPon (BitVec.ofNat 25 (s.get F.DV_ADDR_ADDR)))).kind ≠ .retired ∧ wbit w 1 = false) ∧
  (∃ (w : Word32) (s : State), s.cfgOpen 0x29 0x0C4 = true ∧ s.job 3 = none ∧ s.onDie (BitVec.ofNat 25 (s.get F.DV_ADDR_ADDR)) = true ∧ s.get F.REC_STAT_PHASE ((aStn (BitVec.ofNat 25 (s.get F.DV_ADDR_ADDR))).toNat) = 0 ∧ s.get F.FD_JREC_PHASE = 0 ∧ s.flag F.REC_STAT_FAILED ((aStn (BitVec.ofNat 25 (s.get F.DV_ADDR_ADDR))).toNat) = false ∧ (s.slot (aStn (BitVec.ofNat 25 (s.get F.DV_ADDR_ADDR))).toNat (aPon (BitVec.ofNat 25 (s.get F.DV_ADDR_ADDR)))).kind ≠ .free ∧ (s.slot (aStn (BitVec.ofNat 25 (s.get F.DV_ADDR_ADDR))).toNat (aPon (BitVec.ofNat 25 (s.get F.DV_ADDR_ADDR)))).kind ≠ .retired ∧ wbit w 1 = true) ∧
  (∃ (_w : Word32) (s : State), s.cfgOpen 0x29 0x0C4 = true ∧ s.job 3 = none ∧ s.onDie (BitVec.ofNat 25 (s.get F.DV_ADDR_ADDR)) = true ∧ (s.get F.REC_STAT_PHASE ((aStn (BitVec.ofNat 25 (s.get F.DV_ADDR_ADDR))).toNat) ≠ 0 ∨ s.get F.FD_JREC_PHASE ≠ 0)) ∧
  (∃ (_w : Word32) (s : State), s.cfgOpen 0x29 0x110 = true ∧ (s.job 2).isSome = true) ∧
  (∃ (_w : Word32) (s : State), s.cfgOpen 0x29 0x110 = true ∧ s.job 2 = none ∧ s.anyRecovery = true) ∧
  (∃ (_w : Word32) (s : State), s.cfgOpen 0x29 0x110 = true ∧ s.job 2 = none ∧ s.anyRecovery = false ∧ s.dumpLen < 2 ^ 32 ∧ s.get F.DU_LEN_LEN < s.dumpLen) ∧
  (∃ (_w : Word32) (s : State), s.cfgOpen 0x29 0x110 = true ∧ s.job 2 = none ∧ s.anyRecovery = false ∧ s.dumpLen ≤ s.get F.DU_LEN_LEN) ∧
  (∃ (_w : Word32) (s : State), s.cfgOpen 0x29 0x04C = true) ∧
  (∃ (_w : Word32) (s : State), s.cfgOpen 0x29 0x0C4 = true ∧ s.job 3 = none ∧ s.onDie (BitVec.ofNat 25 (s.get F.DV_ADDR_ADDR)) = true ∧ s.get F.REC_STAT_PHASE ((aStn (BitVec.ofNat 25 (s.get F.DV_ADDR_ADDR))).toNat) = 0 ∧ s.get F.FD_JREC_PHASE = 0 ∧ s.flag F.REC_STAT_FAILED ((aStn (BitVec.ofNat 25 (s.get F.DV_ADDR_ADDR))).toNat) = true) :=
  ⟨⟨1, rdy, by decide +kernel⟩,
   ⟨1, 2, waiter 3 9 0x0C 2, ((obj 9 (ob .glock 0 0x43)).modMem 2 (fun m => { m with waiters := [waiter 3 9 0x0C 2] })).put F.SC_SIZE_N 16 0 2, by decide +kernel⟩,
   ⟨1, 2, waiter 3 9 0x0C 2, (obj 9 (ob .glock 0 0x43)).modMem 2 (fun m => { m with waiters := [waiter 3 9 0x0C 2] }), by decide +kernel⟩,
   ⟨1, aJob, { rdy with jobs := [(3, some aJob)] }, by decide +kernel⟩,
   ⟨1, rdy, by decide +kernel⟩,
   ⟨1, (rdy).put F.DV_ADDR_ADDR (rdy.addrOf 2 9).toNat, by decide +kernel⟩,
   ⟨1, (obj 9 (ob .counter 5 0)).put F.DV_ADDR_ADDR (rdy.addrOf 2 9).toNat, by decide +kernel⟩,
   ⟨3, (obj 9 (ob .counter 5 0)).put F.DV_ADDR_ADDR (rdy.addrOf 2 9).toNat, by decide +kernel⟩,
   ⟨1, (recAt 2 3).put F.DV_ADDR_ADDR (rdy.addrOf 2 9).toNat, by decide +kernel⟩,
   ⟨1, { rdy with jobs := [(2, some aJob)] }, by decide +kernel⟩,
   ⟨1, recAt 2 3, by decide +kernel⟩,
   ⟨1, obj 9 (ob .counter 5 0), by decide +kernel⟩,
   ⟨1, (obj 9 (ob .counter 5 0)).put F.DU_LEN_LEN 0x100000, by decide +kernel⟩,
   ⟨1, rdy, by decide +kernel⟩,
   ⟨1, (rdy.putB F.REC_STAT_FAILED true 2).put F.DV_ADDR_ADDR (rdy.addrOf 2 9).toNat, by decide +kernel⟩⟩
theorem wit_StepKeepsTheInvariant : ∃ s t, Inv s ∧ step s = .next t := ⟨rdy, _, ⟨by decide +kernel, by decide +kernel⟩, rfl⟩
theorem wit_OnlyNamedCommandsChangeStartUp : ∃ c s t, exec c s = .next t := ⟨.supplyRemoved, State.reset, _, rfl⟩

end Sys2Proof.Tests
end

/-! Proofs for 01 (halts, stations and junction): which registers a configuration write or a counted event changes. -/

namespace Sys2Proof.Machine

/-! ### Fields beside those that are written -/

/-- Fields at different places of a page have different keys. -/
theorem Fld.key_ne_of_place {f g : Fld} {i n : Nat} (hp : f.page = g.page) (h : 32 * f.off + f.lo ≠ 32 * g.off + g.lo) :
    f.key i n ≠ g.key i n := by
  unfold Fld.key
  rw [hp]
  omega

theorem RegsBut.congr {s t u : State} {ks : List Nat} (h : RegsBut s t ks) (e : u.regs = t.regs) : RegsBut s u ks :=
  h.trans (.of_regs e ks)

theorem State.flag_put_ne (s : State) (f g : Fld) (v i n j m : Nat) (h : g.key j m ≠ f.key i n) : (s.put f v i n).flag g j m = s.flag g j m := by
  unfold State.flag
  rw [State.get_put_ne _ _ _ _ _ _ _ _ h]
theorem State.flag_putB_ne (s : State) (f g : Fld) (b : Bool) (i n j m : Nat) (h : g.key j m ≠ f.key i n) :
    (s.putB f b i n).flag g j m = s.flag g j m := s.flag_put_ne f g _ i n j m h
theorem State.flag_bump_ne (s : State) (f g : Fld) (i n k j m : Nat) (h : g.key j m ≠ f.key i n) :
    (s.bump f i n k).flag g j m = s.flag g j m := s.flag_put_ne f g _ i n j m h
theorem State.flag_evt_ne (s : State) (g : Fld) (p b j m : Nat) (h : g.key j m ≠ F.EVT_STAT_EVT.key p 0) :
    (s.evt p b).flag g j m = s.flag g j m := s.flag_put_ne _ g _ p 0 j m h

/-! ### Commands that only write registers through the configuration port -/

/-- `t` is `s` but for the register fields under the keys `ks`. -/
def RegWrites (s t : State) (ks : List Nat) : Prop := t = { s with regs := t.regs } ∧ RegsBut s t ks

theorem RegWrites.refl (s : State) (ks : List Nat) : RegWrites s s ks := ⟨rfl, .refl s ks⟩
theorem RegWrites.put {s t : State} {ks : List Nat} (h : RegWrites s t ks) (f : Fld) (v i n : Nat) (hm : f.key i n ∈ ks) :
    RegWrites s (t.put f v i n) ks := by
  obtain ⟨he, hk⟩ := h
  refine ⟨?_, hk.put f v i n hm⟩
  unfold State.put
  rw [he]
theorem RegWrites.putB {s t : State} {ks : List Nat} (h : RegWrites s t ks) (f : Fld) (b : Bool) (i n : Nat) (hm : f.key i n ∈ ks) :
    RegWrites s (t.putB f b i n) ks := h.put f _ i n hm
theorem RegWrites.bump {s t : State} {ks : List Nat} (h : RegWrites s t ks) (f : Fld) (i n k : Nat) (hm : f.key i n ∈ ks) :
    RegWrites s (t.bump f i n k) ks := h.put f _ i n hm
theorem RegWrites.evt {s t : State} {ks : List Nat} (h : RegWrites s t ks) (p b : Nat) (hm : F.EVT_STAT_EVT.key p 0 ∈ ks) :
    RegWrites s (t.evt p b) ks := h.put _ _ p 0 hm
theorem RegWrites.ite {s t u : State} {ks : List Nat} {c : Prop} [Decidable c] (ht : RegWrites s t ks) (hu : RegWrites s u ks) :
    RegWrites s (if c then t else u) ks := by
  split
  · exact ht
  · exact hu

/-- A command that only writes registers is answered, and keeps every part. -/
theorem RegWrites.answered {s t : State} {ks : List Nat} (h : RegWrites s.quiet t ks) :
    CfgAnswered s (s.keep (t.drive (.cfRsp 0))) ∧ OnlyRegs s (s.keep (t.drive (.cfRsp 0))) ks := by
  obtain ⟨he, hk⟩ := h
  have hk' : RegsBut s t ks := hk
  refine ⟨CfgAnswered.keep_drive s t (by rw [he]; rfl) (by rw [he]; rfl), (hk'.drive _).keep, ?_⟩
  rw [he]
  simp [PartsKept, State.quiet]

@[simp] theorem State.quiet_shownPage (s : State) (p : Nat) : s.quiet.shownPage p = s.shownPage p := rfl

/-- A write that a page takes (17 R460, 01 R35) does what its register does, and is answered. -/
theorem RegWrites.pageAccess {s : State} {p q off : Nat} {f : State → Nat → State} {ks : List Nat} (h : RegWrites s.quiet (f s.quiet q) ks)
    (hs : s.shownPage p = some q) (ho : s.cfgOpen q off = true) :
    (s.keep (s.quiet.pageAccess p off f)).regs = (f s.quiet q).regs ∧
      CfgAnswered s (s.keep (s.quiet.pageAccess p off f)) ∧ OnlyRegs s (s.keep (s.quiet.pageAccess p off f)) ks := by
  have he : s.quiet.pageAccess p off f = (f s.quiet q).drive (.cfRsp 0) := by
    simp [State.pageAccess, hs, State.cfgAccess_open, ho]
  rw [he]
  exact ⟨by simp, h.answered⟩

/-- A write to a page that no part holds is answered (assumption log 77). -/
theorem pageAccess_none {s : State} {p : Nat} (off : Nat) (f : State → Nat → State) (hs : s.shownPage p = none) :
    CfgAnswered s (s.keep (s.quiet.pageAccess p off f)) ∧ OnlyRegs s (s.keep (s.quiet.pageAccess p off f)) [] := by
  have he : s.quiet.pageAccess p off f = s.quiet.drive (.cfRsp 0) := by simp [State.pageAccess, hs]
  rw [he]
  exact (RegWrites.refl s.quiet []).answered

/-! ### Fields and command bits of a word -/

theorem bitsOf_toNat (w : Word32) (lo len : Nat) : bitsOf w.toNat lo len = (w.extractLsb' lo len).toNat := by
  simp [bitsOf, BitVec.extractLsb'_toNat]

/-- A row's command bit is set in its word, and the others are those of the data. -/
theorem wbit_withBit (w : Word32) (i j : Nat) (hj : j < 32) : wbit (withBit w i) j = (w.getLsbD j || decide (i = j)) := by
  rw [wbit, withBit, BitVec.getLsbD_or, BitVec.getLsbD_ofNat, Nat.testBit_two_pow]
  simp [hj]

end Sys2Proof.Machine

/-! Proofs for 01: a request that its halt refuses. -/

namespace Sys2Proof.Machine

/-! ### Counted events and the registers of other pages -/

/-- OVF flags and events of the performance counters leave every other register. -/
theorem RegsBut.overflowFlags {s t : State} {ks : List Nat} (h : RegsBut s t ks) (l : List Nat)
    (hovf : ∀ i ∈ l, F.PC_CFG_OVF.key 0 i ∈ ks) (hevt : F.EVT_STAT_EVT.key 0x2D 0 ∈ ks) :
    RegsBut s (l.foldl (fun (u : State) i => (u.putB F.PC_CFG_OVF true 0 i).evt 0x2D i) t) ks := by
  induction l generalizing t with
  | nil => exact h
  | cons i l ih =>
    exact ih ((h.putB _ _ _ _ (hovf i (by simp))).evt _ _ hevt) (fun j hj => hovf j (by simp [hj]))

/-- The registers that a counted event may change: the OVF flags of the eight counters, and their page's events. -/
def counterKeys : List Nat := F.EVT_STAT_EVT.key 0x2D 0 :: (List.range 8).map (F.PC_CFG_OVF.key 0)

/-- A counted event changes no register but those of the performance counter page (15 R422). -/
theorem State.occur_regsBut (s : State) (p : Part) (c n : Nat) : RegsBut s (s.occur p c n) counterKeys := by
  unfold State.occur
  split
  · exact RegsBut.refl s _
  · refine fun f i k hk => (RegsBut.overflowFlags (RegsBut.refl s counterKeys) _ ?_ (by simp [counterKeys])) f i k hk
    intro j hj
    simp only [List.mem_filter] at hj
    obtain ⟨⟨hlt, -⟩, -⟩ := hj
    exact List.mem_cons_of_mem _ (List.mem_map_of_mem hlt)

/-- A field of a halt page is none of the performance counter page's. -/
theorem haltKey_not_counterKeys (f : Fld) (h : Nat) (hp : f.page = 0x18) (ho : f.off < 4096) (hl : f.lo < 32) (hh : h < 16) :
    f.key h 0 ∉ counterKeys := by
  simp only [counterKeys, List.mem_cons, List.mem_map, List.mem_range, Fld.key, F.EVT_STAT_EVT, F.PC_CFG_OVF, hp]
  rintro (h | ⟨i, hi, h⟩) <;> omega

/-! ### A request that its halt refuses -/

theorem rHalt_lt (r : CoreReq) : rHalt r < 16 := by
  have := r.core.isLt
  unfold rHalt
  omega

theorem State.underTest_of_hears {s : State} {r : CoreReq} (h : s.hears r = true) : s.su.wInstr.underTest = false := by
  simp only [State.hears, Bool.and_eq_true, Bool.not_eq_true'] at h
  obtain ⟨⟨⟨-, hstall⟩, -⟩, -⟩ := h
  simp only [State.haltStalled, State.serving, Bool.or_eq_false_iff, Bool.not_eq_false', Bool.and_eq_true, Bool.not_eq_true'] at hstall
  obtain ⟨⟨⟨⟨⟨-, ht⟩, -⟩, -⟩, -⟩, -⟩ := hstall
  exact ht

/-- A request with a tag of 24 to 31 does not arrive (01 R13). -/
theorem State.present_of_tag_ge {s : State} {op : BitVec 6} {r : CoreReq} (h : 24 ≤ r.q.toNat) : s.present op r = s := by
  unfold State.present
  simp [h]

/-- What a halt does with a request that it refuses for a reason of its own, counted in field `f` of HALT_REJ (03 R73): it
accepts it, counts it and ends it with DENIED. -/
def State.refuse (s : State) (f : Fld) (r : CoreReq) (posted : Bool) : State :=
  ((s.acc r.core r.q).bump f (rHalt r)).endAtHalt (rHalt r) r.core r.q posted .denied

/-- A request that the halt hears, on a queue that waits for no answer, and has a reason to refuse, it refuses. -/
theorem State.present_of_rejected {s : State} {op : BitVec 6} {r : CoreReq} {f : Fld} (hh : s.hears r = true)
    (hw : (s.wait (rHalt r) (rReg r)).v = true → 22 ≤ r.q.toNat) (hf : s.rejectField (rHalt r) op r.core r.q = some f) :
    s.present op r = s.refuse f r (opPosted op r.ret) := by
  simp only [State.refuse, State.hears, Bool.and_eq_true, Bool.not_eq_true', decide_eq_true_eq, rHalt, rReg, rCtx] at hh hw hf ⊢
  obtain ⟨⟨⟨⟨hq, hrows⟩, hstall⟩, hheld⟩, hask⟩ := hh
  have hread : s.readPresent (haltReq op r) = (true, s) := by simp [State.readPresent, State.readMap, hrows]
  unfold State.present
  rw [if_neg]
  · simp [hread, hf]
  · rintro (h | h | ⟨hv, hlt⟩ | h | ⟨hctx, -, h⟩)
    · omega
    · simp [hstall] at h
    · have := hw hv
      omega
    · simp [hheld] at h
    · simp only [haltReq, decide_eq_true_eq] at hctx
      simp only [List.contains_iff_mem] at h
      simp only [Bool.and_eq_false_iff, decide_eq_false_iff_not] at hask
      exact hask.elim (· hctx) (by simp [h])

/-! ### What acceptance and the end of a request leave -/

section
variable (s : State) (core : BitVec 8) (q : BitVec 5) (st : Status) (v : Word64) (h : Nat) (posted : Bool)

@[simp] theorem State.acc_su : (s.acc core q).su = s.su := by simp [State.acc]
@[simp] theorem State.acc_stns : (s.acc core q).stns = s.stns := by simp [State.acc]
@[simp] theorem State.acc_jct : (s.acc core q).jct = s.jct := by simp [State.acc]
@[simp] theorem State.acc_net : (s.acc core q).net = s.net := by simp [State.acc]

theorem State.acc_out (ht : s.su.wInstr.underTest = false) : (s.acc core q).out = s.out ++ [.acc core q] := by
  unfold State.acc
  rw [State.drive_out _ _ (by simpa using ht)]
  simp

/-- An acceptance changes no register but those that its counted event may (15 R423). -/
theorem State.acc_regsBut : RegsBut s (s.acc core q) counterKeys :=
  ((s.occur_regsBut _ 0x10 1).congr (State.modHalt_regs _ _ _)).drive _

@[simp] theorem State.releaseQ_su : (s.releaseQ core q st v).su = s.su := by simp [State.releaseQ]
@[simp] theorem State.releaseQ_stns : (s.releaseQ core q st v).stns = s.stns := by simp [State.releaseQ]
@[simp] theorem State.releaseQ_jct : (s.releaseQ core q st v).jct = s.jct := by simp [State.releaseQ]
@[simp] theorem State.releaseQ_net : (s.releaseQ core q st v).net = s.net := by simp [State.releaseQ]

theorem State.releaseQ_out (ht : s.su.wInstr.underTest = false) : (s.releaseQ core q st v).out = s.out ++ [.release core q st v] := by
  unfold State.releaseQ
  rw [State.drive_out _ _ (by simpa using ht)]
  simp

theorem State.releaseQ_regsBut : RegsBut s (s.releaseQ core q st v) counterKeys := (s.occur_regsBut _ 0x15 1).drive _

/-- A posted request that fails is recorded in its halt's error registers and in the halt alone (03 R75, R102). -/
theorem State.endAtHalt_posted : ∃ hs, s.endAtHalt h core q true st = { s.postedCount h core q st with halts := hs } := by
  simp only [State.endAtHalt, if_true, State.postedFail]
  generalize s.postedCount h core q st = t
  split
  · exact ⟨t.halts, rfl⟩
  · exact ⟨_, rfl⟩
@[simp] theorem State.endAtHalt_posted_regs : (s.endAtHalt h core q true st).regs = (s.postedCount h core q st).regs := by
  obtain ⟨hs, e⟩ := s.endAtHalt_posted core q st h
  rw [e]
@[simp] theorem State.endAtHalt_posted_out : (s.endAtHalt h core q true st).out = s.out := by
  obtain ⟨hs, e⟩ := s.endAtHalt_posted core q st h
  rw [e]
  rfl
/-- A blocking one releases its queue (03 R73). -/
theorem State.endAtHalt_blocking : s.endAtHalt h core q false st = s.releaseQ core q st 0 := rfl

/-- Neither sends a message or reaches another part. -/
theorem State.endAtHalt_parts : (s.endAtHalt h core q posted st).net = s.net ∧ (s.endAtHalt h core q posted st).stns = s.stns ∧
    (s.endAtHalt h core q posted st).jct = s.jct := by
  cases posted with
  | false => simp [State.endAtHalt_blocking]
  | true =>
    obtain ⟨hs, e⟩ := s.endAtHalt_posted core q st h
    rw [e]
    exact ⟨rfl, rfl, rfl⟩

end

/-- The registers in which a halt records the failure of a posted request (03 R102). -/
def perrKeys (h : Nat) : List Nat :=
  [F.HALT_PERR_COUNT.key h 0, F.HALT_PERR_LAST.key h 0, F.HALT_PERR_QTAG.key h 0, F.HALT_PERR_CORE.key h 0]

theorem State.postedCount_regsBut (s : State) (h : Nat) (core : BitVec 8) (q : BitVec 5) (st : Status) :
    RegsBut s (s.postedCount h core q st) (perrKeys h) :=
  ((((RegsBut.refl s (perrKeys h)).bump _ _ _ _ (by simp [perrKeys])).put _ _ _ _ (by simp [perrKeys])).put _ _ _ _
    (by simp [perrKeys])).put _ _ _ _ (by simp [perrKeys])

/-- The failure of a posted request is counted, -/
theorem State.postedCount_count (s : State) (h : Nat) (core : BitVec 8) (q : BitVec 5) (st : Status) :
    (s.postedCount h core q st).get F.HALT_PERR_COUNT h = min (s.get F.HALT_PERR_COUNT h + 1) 65535 := by
  unfold State.postedCount
  rw [State.get_put_ne, State.get_put_ne, State.get_put_ne, State.get_bump]
  · rfl
  all_goals exact Fld.key_ne_of_place rfl (by decide)

/-- and held as the latest. -/
theorem State.postedCount_last (s : State) (h : Nat) (core : BitVec 8) (q : BitVec 5) (st : Status) :
    (s.postedCount h core q st).get F.HALT_PERR_LAST h = st.code := by
  unfold State.postedCount
  rw [State.get_put_ne, State.get_put_ne, State.get_put]
  · cases st <;> rfl
  all_goals exact Fld.key_ne_of_place rfl (by decide)

/-- The end of a request at its halt changes no register but those of counted events and of posted failures. -/
theorem State.endAtHalt_regsBut (s : State) (h : Nat) (core : BitVec 8) (q : BitVec 5) (posted : Bool) (st : Status) :
    RegsBut s (s.endAtHalt h core q posted st) (counterKeys ++ perrKeys h) := by
  intro f i k hk
  simp only [List.mem_append, not_or] at hk
  cases posted with
  | false => exact s.releaseQ_regsBut core q st 0 f i k hk.1
  | true => exact (s.postedCount_regsBut h core q st).congr (s.endAtHalt_posted_regs core q st h) f i k hk.2

/-! ### What a refusal leaves -/

section
variable (s : State) (r : CoreReq) (f : Fld)

/-- No message leaves the halt, and no other part changes. -/
theorem State.refuse_parts (posted : Bool) :
    (s.refuse f r posted).net = s.net ∧ (s.refuse f r posted).stns = s.stns ∧ (s.refuse f r posted).jct = s.jct := by
  obtain ⟨hn, hs, hj⟩ := ((s.acc r.core r.q).bump f (rHalt r)).endAtHalt_parts r.core r.q .denied (rHalt r) posted
  exact ⟨hn.trans (by simp), hs.trans (by simp), hj.trans (by simp)⟩

/-- The refusal is counted under its reason, -/
theorem State.refuse_count (posted : Bool) (hp : f.page = 0x18) (ho : f.off = 0x050) (hl : f.lo < 32) :
    (s.refuse f r posted).get f (rHalt r) = min (s.get f (rHalt r) + 1) (2 ^ f.len - 1) := by
  have hc := haltKey_not_counterKeys f (rHalt r) hp (by omega) hl (rHalt_lt r)
  have hpe : f.key (rHalt r) 0 ∉ perrKeys (rHalt r) := by
    have hne (g : Fld) (hg : g.page = 0x18) (hlt : 0x050 < g.off) : f.key (rHalt r) 0 ≠ g.key (rHalt r) 0 :=
      Fld.key_ne_of_place (hp.trans hg.symm) (by omega)
    simp [perrKeys, hne, F.HALT_PERR_COUNT, F.HALT_PERR_LAST, F.HALT_PERR_QTAG, F.HALT_PERR_CORE]
  unfold State.refuse
  rw [State.endAtHalt_regsBut _ _ _ _ _ _ f _ _ (by simp [hc, hpe]), State.get_bump, s.acc_regsBut _ _ f _ _ hc]

/-- releases the queue of a blocking request with DENIED, -/
theorem State.refuse_blocking_out (ht : s.su.wInstr.underTest = false) :
    (s.refuse f r false).out = s.out ++ [.acc r.core r.q, .release r.core r.q .denied 0] := by
  simp [State.refuse, State.endAtHalt_blocking, State.releaseQ_out, State.acc_out, ht]

/-- and drives nothing but the acceptance for a posted one, -/
theorem State.refuse_posted_out (ht : s.su.wInstr.underTest = false) : (s.refuse f r true).out = s.out ++ [.acc r.core r.q] := by
  simp [State.refuse, State.acc_out, ht]

/-- whose failure it records. -/
theorem State.refuse_posted_perr (hp : f.page = 0x18) (ho : f.off = 0x050) (hl : f.lo < 32) :
    (s.refuse f r true).get F.HALT_PERR_LAST (rHalt r) = Status.denied.code ∧
      (s.refuse f r true).get F.HALT_PERR_COUNT (rHalt r) = min (s.get F.HALT_PERR_COUNT (rHalt r) + 1) 65535 := by
  have hc := haltKey_not_counterKeys F.HALT_PERR_COUNT (rHalt r) rfl (by decide) (by decide) (rHalt_lt r)
  have hregs := ((s.acc r.core r.q).bump f (rHalt r)).endAtHalt_posted_regs r.core r.q .denied (rHalt r)
  unfold State.refuse
  rw [State.get_congr _ _ hregs, State.get_congr _ _ hregs, State.postedCount_last, State.postedCount_count, State.get_bump_ne,
    s.acc_regsBut _ _ _ _ _ hc]
  · exact ⟨rfl, rfl⟩
  · exact Fld.key_ne_of_place hp.symm (by simp only [F.HALT_PERR_COUNT]; omega)

end

theorem execSyncReservedOp_eq (op : BitVec 6) (r : CoreReq) (s : State) :
    exec (.syncReservedOp op r) s = .next (s.keep (s.quiet.present op r)) := rfl

/-- Settles O18: the halt refuses the request under RSVD_TAG whatever its operation, and a larger tag stands for no wire. -/
theorem reservedTagsAreDenied : Obligations.ReservedTagsAreDenied := by
  unfold Obligations.ReservedTagsAreDenied
  refine ⟨fun op r s hh hq => ?_, fun op r s hq => ?_⟩
  · have ht : s.quiet.su.wInstr.underTest = false := State.underTest_of_hears hh
    have hq' : r.q.toNat = 22 ∨ r.q.toNat = 23 := hq.imp (by rintro h; simp [h]) (by rintro h; simp [h])
    have hpres : s.quiet.present op r = s.quiet.refuse F.HALT_REJ_RSVD_TAG r (opPosted op r.ret) :=
      State.present_of_rejected (s := s.quiet) hh (fun _ => by omega) (by simp [State.rejectField, hq'])
    refine ⟨_, execSyncReservedOp_eq op r s, ?_⟩
    rw [hpres]
    obtain ⟨hn, hst, hj⟩ := State.refuse_parts s.quiet r F.HALT_REJ_RSVD_TAG (opPosted op r.ret)
    refine ⟨by simpa using hn, by simpa using hst, by simpa using hj, ?_, fun hp => ?_, fun hp => ?_⟩
    · rw [State.keep_get]
      exact State.refuse_count s.quiet r _ _ rfl rfl (by decide)
    · rw [hp, State.keep_out]
      exact State.refuse_blocking_out s.quiet r _ ht
    · rw [hp, State.keep_out, State.keep_get, State.keep_get]
      exact ⟨State.refuse_posted_out s.quiet r _ ht, State.refuse_posted_perr s.quiet r _ rfl rfl (by decide)⟩
  · refine ⟨_, execSyncReservedOp_eq op r s, ?_⟩
    rw [State.present_of_tag_ge hq]
    simp

end Sys2Proof.Machine

/-! Proofs for 01 and 17: the page header. -/

namespace Sys2Proof.Machine

/-! ### The registers of the page header (17 R454 to R458) -/

section
variable (s : State) (q : Nat) (w : Word32)

theorem State.evtClear_eq : s.evtClear q w =
    s.put F.EVT_STAT_EVT (s.get F.EVT_STAT_EVT q &&& (2 ^ 32 - 1 - bitsOf w.toNat 0 32)) q := rfl

theorem State.evtClear_bit (b : Nat) (hb : b < 32) :
    ((s.evtClear q w).get F.EVT_STAT_EVT q).testBit b = ((s.get F.EVT_STAT_EVT q).testBit b && !w.getLsbD b) := by
  have hv : bitsOf w.toNat 0 32 = w.toNat := by simp [bitsOf_toNat]
  have hc : (2 ^ 32 - 1 - w.toNat).testBit b = !w.getLsbD b := by
    rw [Nat.sub_sub, Nat.add_comm 1, Nat.testBit_two_pow_sub_succ w.isLt, BitVec.testBit_toNat]
    simp [hb]
  rw [State.evtClear_eq, State.get_put, hv, show F.EVT_STAT_EVT.len = 32 from rfl, Nat.testBit_mod_two_pow, Nat.testBit_and, hc]
  simp [hb]

theorem State.evtSet_bit (b : Nat) (hb : b < 32) :
    ((s.evtSet q w).get F.EVT_STAT_EVT q).testBit b = ((s.get F.EVT_STAT_EVT q).testBit b || (w.getLsbD b && (evtMask q).testBit b)) := by
  unfold State.evtSet
  rw [State.get_put, show F.EVT_STAT_EVT.len = 32 from rfl, Nat.testBit_mod_two_pow, Nat.testBit_or, Nat.testBit_and, BitVec.testBit_toNat]
  simp [hb]

theorem State.pageCtl_writes : RegWrites s (s.pageCtl q w) [F.PAGE_CTL_EXPERT.key q 0, F.PAGE_STAT_REFUSED.key q 0] := by
  have h := RegWrites.refl s [F.PAGE_CTL_EXPERT.key q 0, F.PAGE_STAT_REFUSED.key q 0]
  exact h.ite ((h.putB _ _ _ _ (by simp)).ite ((h.putB _ _ _ _ (by simp)).ite (h.bump _ _ _ _ (by simp))))

/-- A mailbox page has no PAGE_CTL. -/
theorem State.pageCtl_mailbox (hq : 0x40 ≤ q) : s.pageCtl q w = s := by simp [State.pageCtl, hq]

theorem State.pageCtl_clear (hq : q < 0x40) (hw : w.getLsbD 0 = false) : s.pageCtl q w = s.putB F.PAGE_CTL_EXPERT false q := by
  simp [-BitVec.getLsbD_eq_getElem, State.pageCtl, wbit, hw, Nat.not_le.mpr hq]

theorem State.pageCtl_set (hq : q < 0x40) (hw : w.getLsbD 0 = true) : s.pageCtl q w =
    if w.extractLsb' 8 8 = 0xA5 ∧ pageExp q = true ∧ s.flag F.PAGE_LOCK_NOEXP q = false then s.putB F.PAGE_CTL_EXPERT true q
    else s.bump F.PAGE_STAT_REFUSED q := by
  have hk : bitsOf w.toNat 8 8 = 0xA5 ↔ w.extractLsb' 8 8 = 0xA5 := by
    rw [bitsOf_toNat, ← BitVec.toNat_inj]
    rfl
  simp [-BitVec.getLsbD_eq_getElem, State.pageCtl, wbit, hw, Nat.not_le.mpr hq, hk, State.cfgRefused]

theorem State.pageLock_writes : RegWrites s (s.pageLock q w)
    [F.PAGE_LOCK_LOCK.key q 0, F.PAGE_LOCK_NOEXP.key q 0, F.PAGE_CTL_EXPERT.key q 0] := by
  have h := RegWrites.refl s [F.PAGE_LOCK_LOCK.key q 0, F.PAGE_LOCK_NOEXP.key q 0, F.PAGE_CTL_EXPERT.key q 0]
  have hn := (h.putB F.PAGE_LOCK_NOEXP true q 0 (by simp)).ite (c := wbit w 1 = true) h
  exact h.ite (((hn.putB _ _ _ _ (by simp)).putB _ _ _ _ (by simp)).ite hn)

/-- A mailbox page has no PAGE_LOCK. -/
theorem State.pageLock_mailbox (hq : 0x40 ≤ q) : s.pageLock q w = s := by simp [State.pageLock, hq]

theorem State.pageStat_writes : RegWrites s (s.pageStat q w) [F.PAGE_STAT_REFUSED.key q 0] := by
  have h := RegWrites.refl s [F.PAGE_STAT_REFUSED.key q 0]
  exact (h.put _ _ _ _ (by simp)).ite h

/-- PAGE_LOCK with LOCK written 1 (17 R457). -/
theorem State.pageLock_lock (hq : q < 0x40) (hw : wbit w 0 = true) :
    (s.pageLock q w).flag F.PAGE_LOCK_LOCK q = true ∧ (s.pageLock q w).flag F.PAGE_CTL_EXPERT q = false := by
  simp only [State.pageLock, Nat.not_le.mpr hq, hw, if_true, if_false]
  refine ⟨?_, State.flag_putB _ _ _ _ _ (by decide)⟩
  rw [State.flag_putB_ne _ F.PAGE_CTL_EXPERT F.PAGE_LOCK_LOCK _ _ _ _ _ (Fld.key_ne_of_place rfl (by decide))]
  exact State.flag_putB _ _ _ _ _ (by decide)

/-- PAGE_LOCK with NOEXP written 1 (17 R457). -/
theorem State.pageLock_noexp (hq : q < 0x40) (hw : wbit w 1 = true) : (s.pageLock q w).flag F.PAGE_LOCK_NOEXP q = true := by
  have hn : (s.putB F.PAGE_LOCK_NOEXP true q).flag F.PAGE_LOCK_NOEXP q = true := State.flag_putB _ _ _ _ _ (by decide)
  simp only [State.pageLock, Nat.not_le.mpr hq, hw, if_true, if_false]
  split
  · rw [State.flag_putB_ne _ F.PAGE_CTL_EXPERT F.PAGE_LOCK_NOEXP _ _ _ _ _ (Fld.key_ne_of_place rfl (by decide)),
      State.flag_putB_ne _ F.PAGE_LOCK_LOCK F.PAGE_LOCK_NOEXP _ _ _ _ _ (Fld.key_ne_of_place rfl (by decide))]
    exact hn
  · exact hn

end

/-- An access to a reserved page (17 R465) is counted in JG_CFGERR with its page and direction, and sets its event. -/
theorem State.cfgReserved_writes (s : State) (p : Nat) (wr : Bool) : RegWrites s (s.cfgReserved p wr)
    [F.JG_CFGERR_COUNT.key 0 0, F.JG_CFGERR_PAGE.key 0 0, F.JG_CFGERR_WR.key 0 0, F.EVT_STAT_EVT.key 0 0] :=
  ((((RegWrites.refl s _).bump _ _ _ _ (by simp)).put _ _ _ _ (by simp)).putB _ _ _ _ (by simp)).evt _ _ (by simp)

theorem State.cfgReserved_fields (s : State) (p : Nat) (wr : Bool) (hp : p < 128) :
    (s.cfgReserved p wr).get F.JG_CFGERR_COUNT = min (s.get F.JG_CFGERR_COUNT + 1) (2 ^ F.JG_CFGERR_COUNT.len - 1) ∧
      (s.cfgReserved p wr).get F.JG_CFGERR_PAGE = p ∧ (s.cfgReserved p wr).flag F.JG_CFGERR_WR = wr ∧
      ((s.cfgReserved p wr).get F.EVT_STAT_EVT 0).testBit 0 = true := by
  unfold State.cfgReserved
  refine ⟨?_, ?_, ?_, State.evt_bit _ _ _ (by decide)⟩
  · rw [State.get_evt_ne _ _ _ _ _ _ (by decide), State.get_putB_ne _ _ _ _ _ _ _ _ (by decide),
      State.get_put_ne _ _ _ _ _ _ _ _ (by decide), State.get_bump]
  · rw [State.get_evt_ne _ _ _ _ _ _ (by decide), State.get_putB_ne _ _ _ _ _ _ _ _ (by decide), State.get_put]
    exact Nat.mod_eq_of_lt hp
  · rw [State.flag_evt_ne _ _ _ _ _ _ (by decide)]
    exact State.flag_putB _ _ _ _ _ (by decide)

/-- Settles O13: each register of the header is a lemma of its own, and `RegWrites` gives the frame of its write. -/
theorem pageHeaderCommands : Obligations.PageHeaderCommands := by
  unfold Obligations.PageHeaderCommands
  refine ⟨fun p q w s hs ho => ?_, fun p q w s hs ho => ?_, fun p q w s hs ho => ?_, fun p q w s hs ho => ?_, fun p q w s hs ho => ?_,
    fun p q w s hs ho => ?_, fun p w s hs c hc => ?_, fun p wr s hp hpk => ?_⟩
  case refine_1 =>
    obtain ⟨hr, ha, hk⟩ := ((RegWrites.refl s.quiet [F.EVT_STAT_EVT.key q 0]).put _ _ _ _ (by simp)).pageAccess
      (f := fun s p => s.evtClear p w) hs ho
    refine ⟨_, rfl, ha, hk, fun b hb => ?_⟩
    rw [State.get_congr _ _ hr]
    exact State.evtClear_bit s.quiet q w b hb
  case refine_2 =>
    obtain ⟨hr, ha, hk⟩ := ((RegWrites.refl s.quiet [F.EVT_STAT_EVT.key q 0]).put _ _ _ _ (by simp)).pageAccess
      (f := fun s p => s.evtSet p w) hs ho
    refine ⟨_, rfl, ha, hk, fun b hb => ?_⟩
    rw [State.get_congr _ _ hr]
    exact State.evtSet_bit s.quiet q w b hb
  case refine_3 =>
    obtain ⟨hr, ha, hk⟩ := (s.quiet.pageCtl_writes q w).pageAccess (f := fun s p => s.pageCtl p w) hs ho
    refine ⟨_, rfl, ha, hk, fun hq => ?_, fun hq hw => ?_, fun hq hw => ?_⟩
    · rw [hr, State.pageCtl_mailbox _ _ _ hq]
      rfl
    · rw [State.flag_congr _ _ hr, State.pageCtl_clear _ _ _ hq hw]
      exact State.flag_putB _ _ _ _ _ (by decide)
    · have hset := State.pageCtl_set s.quiet q w hq hw
      split
      next hkey =>
        rw [State.flag_congr _ _ hr, hset.trans (if_pos hkey)]
        exact State.flag_putB _ _ _ _ _ (by decide)
      next hkey =>
        rw [State.flag_congr _ _ hr, State.get_congr _ _ hr, hset.trans (if_neg hkey)]
        exact ⟨State.flag_bump_ne _ _ _ _ _ _ _ _ (Fld.key_ne_of_place rfl (by decide)), State.get_bump _ _ _ _ _⟩
  case refine_4 =>
    obtain ⟨hr, ha, hk⟩ := (s.quiet.pageLock_writes q (withBit w 0)).pageAccess (f := fun s p => s.pageLock p (withBit w 0)) hs ho
    refine ⟨_, rfl, ha, hk, fun hq => ?_, fun hq => ?_⟩
    · rw [hr, State.pageLock_mailbox _ _ _ hq]
      rfl
    · rw [State.flag_congr _ _ hr, State.flag_congr _ _ hr]
      exact State.pageLock_lock _ _ _ hq (by simp [wbit_withBit])
  case refine_5 =>
    obtain ⟨hr, ha, hk⟩ := (s.quiet.pageLock_writes q (withBit w 1)).pageAccess (f := fun s p => s.pageLock p (withBit w 1)) hs ho
    refine ⟨_, rfl, ha, hk, fun hq => ?_, fun hq => ?_⟩
    · rw [hr, State.pageLock_mailbox _ _ _ hq]
      rfl
    · rw [State.flag_congr _ _ hr]
      exact State.pageLock_noexp _ _ _ hq (by simp [wbit_withBit])
  case refine_6 =>
    obtain ⟨hr, ha, hk⟩ := (s.quiet.pageStat_writes q (withBit w 16)).pageAccess (f := fun s p => s.pageStat p (withBit w 16)) hs ho
    refine ⟨_, rfl, ha, hk, ?_⟩
    rw [State.get_congr _ _ hr]
    simp [State.pageStat, wbit_withBit]
  case refine_7 =>
    simp only [List.mem_cons, List.not_mem_nil, or_false] at hc
    rcases hc with rfl | rfl | rfl | rfl | rfl | rfl
    all_goals exact ⟨_, rfl, pageAccess_none _ _ hs⟩
  case refine_8 =>
    have he : exec (.reservedPageAccess p wr) s = .next (s.keep ((s.quiet.cfgReserved p.toNat wr).drive (.cfRsp 0))) := by
      show execReservedPageAccess p wr s = _
      have hpk' : s.quiet.parked = false := hpk
      simp [execReservedPageAccess, hp, hpk']
    obtain ⟨ha, hk⟩ := (s.quiet.cfgReserved_writes p.toNat wr).answered
    refine ⟨_, he, ha, hk, ?_⟩
    have hr : (s.keep ((s.quiet.cfgReserved p.toNat wr).drive (.cfRsp 0))).regs = (s.quiet.cfgReserved p.toNat wr).regs := by simp
    rw [State.get_congr _ _ hr, State.get_congr _ _ hr, State.get_congr _ _ hr, State.flag_congr _ _ hr]
    exact s.quiet.cfgReserved_fields _ _ p.isLt

end Sys2Proof.Machine

/-! Proofs for 01: roll call and the IDENT frame. -/

namespace Sys2Proof.Machine

/-! ### Attempts of roll call and of the IDENT frame (01 R21, R25) -/

section
variable (s : State)

/-- What a failed roll call leaves of the start-up state (01 R21, 14 R399). -/
@[simp] theorem State.rollFailed_su : s.rollFailed.su =
    { s.su with rcState := 3, step := 15, err := true, code := 1, frame := none, ready := false } := rfl
@[simp] theorem State.sendRoll_su : s.sendRoll.su = { s.su with
    rcState := 1, rcAttempts := s.su.rcAttempts + 1, frame := some (mkFrame 5 s.su.die.toNat 0 0 0 0), chainPos := 0 } := rfl
@[simp] theorem State.sendIdent_su : s.sendIdent.su = { s.su with
    identTries := s.su.identTries + 1, frame := some (mkFrame 10 s.su.die.toNat 0 0 0 s.su.pkg.toNat), chainPos := 0 } := rfl
@[simp] theorem State.returned_su (f : Word32) (b : Bool) : (s.returned f b).su =
    { s.su with rcMembers := f.extractLsb' 12 5, rcNoReturn := false, rcBadCheck := !frameOk f, rcBadCount := b } := rfl
@[simp] theorem State.becomeReady_su : s.becomeReady.su = { s.su with step := 7, ready := true, everReady := true } := rfl

/-! The next attempt, and the end of start-up, leave what RC_STAT says of the frame that has failed, and JG_PKG.DONE. -/

@[simp] theorem State.attemptFailed_rcBadCheck : s.attemptFailed.su.rcBadCheck = s.su.rcBadCheck := by
  unfold State.attemptFailed; split <;> split <;> rfl
@[simp] theorem State.attemptFailed_rcBadCount : s.attemptFailed.su.rcBadCount = s.su.rcBadCount := by
  unfold State.attemptFailed; split <;> split <;> rfl
@[simp] theorem State.attemptFailed_rcMembers : s.attemptFailed.su.rcMembers = s.su.rcMembers := by
  unfold State.attemptFailed; split <;> split <;> rfl
@[simp] theorem State.attemptFailed_rcNoReturn : s.attemptFailed.su.rcNoReturn = s.su.rcNoReturn := by
  unfold State.attemptFailed; split <;> split <;> rfl
@[simp] theorem State.attemptFailed_pkgDone : s.attemptFailed.su.pkgDone = s.su.pkgDone := by
  unfold State.attemptFailed; split <;> split <;> rfl

/-- A ROLL attempt that fails is followed by another, the third by none (01 R21). -/
theorem State.attemptFailed_roll (h : s.su.rcState = 1) :
    (s.su.rcAttempts.toNat < 3 → s.attemptFailed.su.rcState = 1 ∧ s.attemptFailed.su.rcAttempts = s.su.rcAttempts + 1 ∧
      s.attemptFailed.su.chainPos = 0) ∧
    (s.su.rcAttempts = 3 → s.attemptFailed.su.rcState = 3 ∧ s.attemptFailed.su.step = 15 ∧ s.attemptFailed.su.err = true ∧
      s.attemptFailed.su.code = 1) := by
  refine ⟨fun hn => ?_, fun hn => ?_⟩
  · simp [State.attemptFailed, h, hn]
  · simp [State.attemptFailed, h, hn]

/-- An IDENT frame that fails is sent again, three times in all (01 R25). -/
theorem State.attemptFailed_ident (h : s.su.rcState = 2) :
    (s.su.identTries < 3 → s.attemptFailed.su.identTries = s.su.identTries + 1 ∧
      s.attemptFailed.su.frame = some (mkFrame 10 s.su.die.toNat 0 0 0 s.su.pkg.toNat) ∧ s.attemptFailed.su.chainPos = 0) ∧
    (3 ≤ s.su.identTries → s.attemptFailed.su.rcState = 3 ∧ s.attemptFailed.su.step = 15 ∧ s.attemptFailed.su.err = true ∧
      s.attemptFailed.su.code = 1) := by
  refine ⟨fun hn => ?_, fun hn => ?_⟩
  · simp [State.attemptFailed, h, hn]
  · simp [State.attemptFailed, h, Nat.not_lt.mpr hn]

end

/-! ### A frame that returns, or does not -/

section
variable {s : State} {err f0 : Word32}

theorem State.rcState_of_rolling (h : s.rolling = true) : s.su.rcState = 1 := by
  simp only [State.rolling, Bool.and_eq_true, decide_eq_true_eq] at h
  obtain ⟨⟨hst, -⟩, -⟩ := h
  exact hst
theorem State.rolling_of_frame (hf : s.su.frame = some f0) (h : s.su.rcState = 1) (h2 : s.su.step = 2) : s.rolling = true := by
  simp [State.rolling, hf, h, h2]
theorem State.identing_of_frame (hf : s.su.frame = some f0) (h : s.su.rcState = 2) (h15 : s.su.step ≠ 15) : s.identing = true := by
  simpa [State.identing, hf, h] using h15
@[simp] theorem State.quiet_rolling (s : State) : s.quiet.rolling = s.rolling := rfl
@[simp] theorem State.quiet_identing (s : State) : s.quiet.identing = s.identing := rfl

/-- A ROLL frame that returns as it should passes roll call, and the IDENT frame that waits for it leaves (01 R21, R25). -/
theorem exec_rollFrameReturn_pass (hr : s.rolling = true) (hp : s.su.chainPos = 20) (hf : s.su.frame = some f0)
    (hok : frameOk (f0 ^^^ err) = true) (hc : frField (f0 ^^^ err) 12 5 = 20) (hn : frField (f0 ^^^ err) 10 2 = 0)
    (hh : frField (f0 ^^^ err) 6 4 = 0) :
    ∃ t, exec (.rollFrameReturn err) s = .next (s.keepQ t) ∧
      t.su.rcState = 2 ∧ t.su.step = 3 ∧ t.su.calState = 1 ∧ t.su.calHalt = 0 := by
  refine ⟨_, rfl, ?_⟩
  simp only [State.quiet_su, State.quiet_rolling, hr, hp, hf, hok, hc, hn, hh, Option.getD_some, and_self, if_true, ne_eq, not_true_eq_false,
    or_self, not_false_eq_true]
  split
  · exact ⟨rfl, rfl, rfl, rfl⟩
  · exact ⟨rfl, rfl, rfl, rfl⟩

/-- A ROLL frame that returns otherwise has failed. -/
theorem exec_rollFrameReturn_fail (hr : s.rolling = true) (hp : s.su.chainPos = 20) (hf : s.su.frame = some f0)
    (hbad : frameOk (f0 ^^^ err) = false ∨ frField (f0 ^^^ err) 12 5 ≠ 20 ∨ frField (f0 ^^^ err) 10 2 ≠ 0 ∨ frField (f0 ^^^ err) 6 4 ≠ 0) :
    exec (.rollFrameReturn err) s = .next (s.keepQ (s.quiet.returned (f0 ^^^ err)
      (decide (frField (f0 ^^^ err) 12 5 ≠ 20 ∨ frField (f0 ^^^ err) 10 2 ≠ 0 ∨ frField (f0 ^^^ err) 6 4 ≠ 0))).attemptFailed) := by
  show execRollFrameReturn err s = _
  unfold execRollFrameReturn
  simp only [State.quiet_su, State.quiet_rolling, hr, hp, hf, Option.getD_some, and_self, if_true]
  rw [if_neg]
  rintro ⟨hok, hc⟩
  exact hbad.elim (by simp [hok]) hc

/-- An IDENT frame that returns as it should sets JG_PKG.DONE, and ends a step 6 whose link is up (01 R25). -/
theorem exec_identFrameReturn_pass (hr : s.identing = true) (hp : s.su.chainPos = 20) (hf : s.su.frame = some f0)
    (hok : frameOk (f0 ^^^ err) = true) (hc : frField (f0 ^^^ err) 12 5 = 20) :
    ∃ u, u.su = { (s.returned (f0 ^^^ err) false).su with pkgDone := true, frame := none } ∧
      exec (.identFrameReturn err) s = .next (s.keepQ (if u.su.step = 6 ∧ u.su.up then u.becomeReady else u)) := by
  refine ⟨(s.quiet.returned (f0 ^^^ err) false).modSu (fun u => { u with pkgDone := true, frame := none }), rfl, ?_⟩
  show execIdentFrameReturn err s = _
  unfold execIdentFrameReturn
  simp [hr, hp, hf, hok, hc]

/-- An IDENT frame that returns otherwise has failed. -/
theorem exec_identFrameReturn_fail (hr : s.identing = true) (hp : s.su.chainPos = 20) (hf : s.su.frame = some f0)
    (hbad : frameOk (f0 ^^^ err) = false ∨ frField (f0 ^^^ err) 12 5 ≠ 20) :
    exec (.identFrameReturn err) s =
      .next (s.keepQ (s.quiet.returned (f0 ^^^ err) (decide (frField (f0 ^^^ err) 12 5 ≠ 20))).attemptFailed) := by
  show execIdentFrameReturn err s = _
  unfold execIdentFrameReturn
  simp only [State.quiet_su, State.quiet_identing, hr, hp, hf, Option.getD_some, and_self, if_true]
  rw [if_neg]
  rintro ⟨hok, hc⟩
  exact hbad.elim (by simp [hok]) (by simpa using hc)

/-- A frame that does not return in time has failed. -/
theorem exec_rollCallTimeout (h : s.rolling = true ∨ s.identing = true) :
    exec .rollCallTimeout s = .next (s.keepQ (s.quiet.modSu (fun u => { u with rcNoReturn := true })).attemptFailed) := by
  show execRollCallTimeout s = _
  unfold execRollCallTimeout
  simp [h]

end

/-! ### JG_PKG (01 R25, R30) -/

/-- The command bit VALID is none of PKG's. -/
theorem pkg_withBit (w : Word32) : (withBit w 8).extractLsb' 0 7 = w.extractLsb' 0 7 := by
  unfold withBit
  rw [BitVec.extractLsb'_or]
  simp

/-- An IDENT frame that leaves keeps the package number. -/
@[simp] theorem State.ite_sendIdent_pkgValid (s : State) (c : Prop) [Decidable c] : (if c then s.sendIdent else s).su.pkgValid = s.su.pkgValid := by
  split <;> rfl
@[simp] theorem State.ite_sendIdent_pkg (s : State) (c : Prop) [Decidable c] : (if c then s.sendIdent else s).su.pkg = s.su.pkg := by
  split <;> rfl

theorem exec_pkgValid {s : State} (w : Word32) (h : s.cfgOpen 0x00 0x044 = true) :
    exec (.pkgValid w) s = .next (s.keepQ ((s.quiet.pkgWrite (withBit w 8)).drive (.cfRsp 0))) := by
  show execPkgValid w s = _
  simp [execPkgValid, State.cfgAccess_open, h]

/-- The first number written is latched, -/
theorem State.pkgWrite_first {s : State} (w : Word32) (h : s.su.pkgValid = false) :
    (s.pkgWrite (withBit w 8)).su.pkgValid = true ∧ (s.pkgWrite (withBit w 8)).su.pkg = w.extractLsb' 0 7 := by
  have hv : wbit (withBit w 8) 8 = true := by simp [wbit_withBit]
  simp [State.pkgWrite, h, hv, pkg_withBit]

/-- and another is refused. -/
theorem State.pkgWrite_later {s : State} (w : Word32) (h : s.su.pkgValid = true) (hne : w.extractLsb' 0 7 ≠ s.su.pkg) :
    (s.pkgWrite (withBit w 8)).su.pkg = s.su.pkg ∧ (s.pkgWrite (withBit w 8)).su.pkgRefused = true := by
  simp [State.pkgWrite, h, pkg_withBit, hne]

/-- Settles O10: a frame that returns as it should, and an attempt that fails, each have their lemmas. -/
theorem rollCallPassesOrIsTriedAgain : Obligations.RollCallPassesOrIsTriedAgain := by
  unfold Obligations.RollCallPassesOrIsTriedAgain
  refine ⟨fun err f0 s hr hp hf hok hc hn hh => ?_, fun err f0 s hr hp hf hok => ?_, fun err f0 s h2 h1 hp hf hok hbad => ?_, fun s hr => ?_,
    fun err f0 s hi hp hf hok hc => ?_, fun err f0 s h15 h2 hp hf hbad => ?_, fun f0 s h15 h2 hf => ?_, fun w s ho hv => ?_, fun w s ho hv hne => ?_⟩
  case refine_1 =>
    obtain ⟨t, ht, hsu⟩ := exec_rollFrameReturn_pass hr hp hf hok hc hn hh
    exact ⟨_, ht, by simpa using hsu⟩
  case refine_2 =>
    refine ⟨_, exec_rollFrameReturn_fail hr hp hf (.inl hok), ?_⟩
    rw [State.keepQ_su]
    exact ⟨by simp [hok], State.attemptFailed_roll (s.quiet.returned _ _) (State.rcState_of_rolling hr)⟩
  case refine_3 =>
    refine ⟨_, exec_rollFrameReturn_fail (State.rolling_of_frame hf h1 h2) hp hf (.inr hbad), ?_⟩
    rw [State.keepQ_su, decide_eq_true hbad]
    exact ⟨by simp [hok], by simp, by simp, State.attemptFailed_roll (s.quiet.returned _ _) h1⟩
  case refine_4 =>
    refine ⟨_, exec_rollCallTimeout (.inl hr), ?_⟩
    rw [State.keepQ_su]
    obtain ⟨hnext, hlast⟩ := State.attemptFailed_roll (s.quiet.modSu (fun u => { u with rcNoReturn := true })) (State.rcState_of_rolling hr)
    refine ⟨by simp, fun hn => ?_, fun hn => ?_⟩
    · obtain ⟨hst, hat, -⟩ := hnext hn
      exact ⟨hst, hat⟩
    · obtain ⟨hst, hstep, -, hcode⟩ := hlast hn
      exact ⟨hst, hstep, hcode⟩
  case refine_5 =>
    obtain ⟨u, hu, ht⟩ := exec_identFrameReturn_pass hi hp hf hok hc
    refine ⟨_, ht, ?_⟩
    rw [State.keepQ_su]
    have hstep : u.su.step = s.su.step := by rw [hu]; rfl
    have hup : u.su.up = s.su.up := by rw [hu]; rfl
    rw [hstep, hup]
    split
    next h =>
      obtain ⟨h6, hu6⟩ := h
      exact ⟨by simp [hu], by simp [hu], fun hn => by simp [h6, hu6] at hn, fun _ _ => ⟨rfl, rfl⟩⟩
    next h => exact ⟨by simp [hu], by simp [hu], fun _ => hstep, fun h6 hu6 => absurd ⟨h6, hu6⟩ h⟩
  case refine_6 =>
    refine ⟨_, exec_identFrameReturn_fail (State.identing_of_frame hf h2 h15) hp hf hbad, ?_⟩
    rw [State.keepQ_su]
    obtain ⟨hnext, hlast⟩ := State.attemptFailed_ident (s.quiet.returned (f0 ^^^ err) (decide (frField (f0 ^^^ err) 12 5 ≠ 20))) h2
    refine ⟨by simp, fun hn => ?_, hlast⟩
    obtain ⟨-, hfr, hpos⟩ := hnext hn
    exact ⟨hfr, hpos⟩
  case refine_7 =>
    refine ⟨_, exec_rollCallTimeout (.inr (State.identing_of_frame hf h2 h15)), ?_⟩
    rw [State.keepQ_su]
    obtain ⟨hnext, hlast⟩ := State.attemptFailed_ident (s.quiet.modSu (fun u => { u with rcNoReturn := true })) h2
    refine ⟨by simp, fun hn => ?_, fun hn => ?_⟩
    · obtain ⟨htr, -, hpos⟩ := hnext hn
      exact ⟨htr, hpos⟩
    · obtain ⟨hst, hstep, -, hcode⟩ := hlast hn
      exact ⟨hst, hstep, hcode⟩
  case refine_8 => exact ⟨_, exec_pkgValid w ho, by simpa using State.pkgWrite_first (s := s.quiet) w hv⟩
  case refine_9 => exact ⟨_, exec_pkgValid w ho, by simpa using State.pkgWrite_later (s := s.quiet) w hv hne⟩

/-! ### An IDENT frame that is disturbed on the chain -/

theorem execIdentFrame_of_identing (err : Word32) (s : State) (h : s.identing = true) :
    exec (.identFrame err) s = .next (s.keepQ (s.quiet.memberFrame err)) := by
  show execIdentFrame err s = _
  simp [execIdentFrame, h]

/-- An IDENT frame on its way from station 0 to halt 0 (01 R25). -/
def identAtHalt0 : State :=
  { State.reset with su := { StartUp.reset with step := 3, rcState := 2, chainPos := 1, frame := some (mkFrame 10 1 0 0 1 7) } }

/-- Errors in KIND and CHECK that make a ROLL frame of good check of an IDENT frame (01 R19). -/
def identToRoll : Word32 := 0xF000000F

/-- The halt meets the disturbed frame as a ROLL frame, and latches its number from it (01 R20). -/
theorem identAtHalt0_latches : (identAtHalt0.quiet.memberFrame identToRoll).su.haltIds ≠ identAtHalt0.su.haltIds := by
  decide

/-- Refutes O9: its last clause says of every frame that IDENT_FRAME leaves the halts' identities, but a frame is what its bits say
when a member receives it. An IDENT frame whose KIND and CHECK arrive inverted is a ROLL frame of good check, and halt 0 latches
its number from it (01 R20). -/
theorem not_chainMembersLatchAndForward : ¬ Obligations.ChainMembersLatchAndForward := by
  unfold Obligations.ChainMembersLatchAndForward
  rintro ⟨-, -, -, -, hident⟩
  obtain ⟨t, ht, -, -, -, hids, -⟩ :=
    hident identToRoll (mkFrame 10 1 0 0 1 7) identAtHalt0 (by decide) rfl rfl (by decide)
  rw [execIdentFrame_of_identing _ _ (by decide)] at ht
  obtain rfl := Host.Outcome.next.inj ht
  exact identAtHalt0_latches (by simpa using hids)

end Sys2Proof.Machine

/-! Proofs for 02: what an operation on a station's objects leaves, and what a configuration command shows after it. -/

namespace Sys2Proof.Machine

/-! ### Operations on the slots of one station -/

/-- `t` is `s` but for the stations, and every object slot is as it was but for slots `ps` of station `x`. -/
def SlotWrites (s t : State) (x : Nat) (ps : List Nat) : Prop :=
  t = { s with stns := t.stns } ∧ ∀ j m, ¬(j = x ∧ m ∈ ps) → t.slot j m = s.slot j m

theorem SlotWrites.refl (s : State) (x : Nat) (ps : List Nat) : SlotWrites s s x ps := ⟨rfl, fun _ _ _ => rfl⟩

theorem SlotWrites.trans {s t u : State} {x : Nat} {ps : List Nat} (h : SlotWrites s t x ps) (k : SlotWrites t u x ps) : SlotWrites s u x ps := by
  obtain ⟨ht, hts⟩ := h
  obtain ⟨hu, hus⟩ := k
  exact ⟨by rw [hu, ht], fun j m hn => (hus j m hn).trans (hts j m hn)⟩

theorem SlotWrites.mono {s t : State} {x : Nat} {ps qs : List Nat} (h : SlotWrites s t x ps) (hs : ∀ y ∈ ps, y ∈ qs) : SlotWrites s t x qs :=
  ⟨h.1, fun j m hn => h.2 j m (fun e => hn ⟨e.1, hs m e.2⟩)⟩

/-- A change of a station's memory beside its slots. -/
theorem SlotWrites.modMem (s : State) (x : Nat) (ps : List Nat) {f : StnMem → StnMem} (hf : ∀ m, (f m).slots = m.slots) :
    SlotWrites s (s.modMem x f) x ps := by
  refine ⟨rfl, fun j m _ => ?_⟩
  unfold State.slot
  by_cases hj : j = x
  · rw [hj, State.mem_modMem, hf]
  · rw [State.mem_modMem_ne _ _ _ _ hj]

theorem SlotWrites.modSlot (s : State) (x n : Nat) (f : Slot → Slot) {ps : List Nat} (hn : n ∈ ps) : SlotWrites s (s.modSlot x n f) x ps := by
  refine ⟨rfl, fun j m hm => State.slot_modSlot_ne s x n j m f ?_⟩
  by_cases hj : j = x
  · exact .inr (fun e => hm ⟨hj, e ▸ hn⟩)
  · exact .inl hj

theorem SlotWrites.regs {s t : State} {x : Nat} {ps : List Nat} (h : SlotWrites s t x ps) : t.regs = s.regs := by
  obtain ⟨he, -⟩ := h
  rw [he]

/-- One operation for each of several slots, each of which writes its own slot alone. -/
theorem SlotWrites.foldl {f : State → Nat → State} {x : Nat} {v : Slot} (hw : ∀ s y, SlotWrites s (f s y) x [y])
    (hv : ∀ s y, (f s y).slot x y = v) (l : List Nat) (s : State) :
    SlotWrites s (l.foldl f s) x l ∧ ∀ y ∈ l, (l.foldl f s).slot x y = v := by
  induction l generalizing s with
  | nil => exact ⟨.refl s x [], fun y hy => nomatch hy⟩
  | cons z l ih =>
    obtain ⟨hl, hlv⟩ := ih (f s z)
    refine ⟨((hw s z).mono (by simp)).trans (hl.mono (by simp +contextual)), fun y hy => ?_⟩
    by_cases hyl : y ∈ l
    · exact hlv y hyl
    · obtain rfl : y = z := by simpa [hyl] using hy
      exact (hl.2 x y (fun e => hyl e.2)).trans (hv s y)

theorem SlotWrites.setEnt (s : State) (x p : Nat) (e : SemEnt) (ps : List Nat) : SlotWrites s (s.setEnt x p e) x ps := by
  unfold State.setEnt
  dsimp only
  split <;> exact .modMem s x ps (fun _ => rfl)

theorem SlotWrites.setTurn (s : State) (x p : Nat) (r : TurnRec) (ps : List Nat) : SlotWrites s (s.setTurn x p r) x ps := .modMem s x ps (fun _ => rfl)

theorem SlotWrites.modHdr (s : State) (x p : Nat) (f : FoldHdr → FoldHdr) (ps : List Nat) : SlotWrites s (s.modHdr x p f) x ps := by
  unfold State.modHdr
  exact .modMem s x ps (fun _ => rfl)

theorem SlotWrites.freshRegion (s : State) (x p : Nat) (ps : List Nat) : SlotWrites s (s.freshRegion x p) x ps := by
  unfold State.freshRegion
  exact .modMem s x ps (fun _ => rfl)

theorem SlotWrites.setBound (s : State) (x p : Nat) (b : Option Nat) (ps : List Nat) : SlotWrites s (s.setBound x p b) x ps := by
  unfold State.setBound
  dsimp only
  split
  · refine SlotWrites.trans ?_ (.modMem _ x ps ?_)
    · exact .modMem s x ps (fun _ => rfl)
    · exact fun _ => rfl
  · exact .modMem s x ps (fun _ => rfl)

/-! ### After a configuration command -/

/-- `t` answers the configuration port, shows the registers and stations of `u`, and keeps every other part of `s`. -/
structure Shows (s u t : State) : Prop where
  answered : CfgAnswered s t
  regs : t.regs = u.regs
  stns : t.stns = u.stns
  parts : u.stns = s.stns → PartsKept s t

theorem Shows.slot {s u t : State} (h : Shows s u t) (j m : Nat) : t.slot j m = u.slot j m := State.slot_congr _ _ h.stns j m
theorem Shows.get {s u t : State} (h : Shows s u t) (f : Fld) (i n : Nat) : t.get f i n = u.get f i n := State.get_congr _ _ h.regs f i n
theorem Shows.flag {s u t : State} (h : Shows s u t) (f : Fld) (i n : Nat) : t.flag f i n = u.flag f i n := State.flag_congr _ _ h.regs f i n
theorem Shows.regsBut {s u t : State} {ks : List Nat} (h : Shows s u t) (hu : RegsBut s u ks) : RegsBut s t ks := hu.congr h.regs
theorem Shows.onlyRegs {s u t : State} {ks : List Nat} (h : Shows s u t) (hu : RegsBut s u ks) (hs : u.stns = s.stns) : OnlyRegs s t ks :=
  ⟨h.regsBut hu, h.parts hs⟩

/-- A command that is let through and writes registers and stations alone (17 R460). -/
theorem shows_of_cfgOpen {s : State} {p off : Nat} {f : State → State} (ho : s.cfgOpen p off = true)
    (hf : f s.quiet = { s.quiet with regs := (f s.quiet).regs, stns := (f s.quiet).stns }) :
    Shows s (f s.quiet) (s.keep (s.quiet.cfgAccess p off f)) := by
  rw [State.cfgAccess_open _ _ _ _ (by simpa using ho)]
  refine ⟨CfgAnswered.keep_drive s _ (by rw [hf]; rfl) (by rw [hf]; rfl), by simp, by simp, fun hs => ?_⟩
  rw [hf] at hs ⊢
  simpa [PartsKept] using hs

/-! ### Fields of a command word -/

/-- A field reads the same in two words that agree on its bits. -/
theorem bitsOf_congr {a b : Nat} {lo len : Nat} (h : ∀ i, lo ≤ i → i < lo + len → a.testBit i = b.testBit i) : bitsOf a lo len = bitsOf b lo len := by
  refine Nat.eq_of_testBit_eq (fun i => ?_)
  simp only [bitsOf, Nat.testBit_mod_two_pow, Nat.testBit_shiftRight]
  by_cases hi : i < len
  · simp [hi, h (lo + i) (by omega) (by omega)]
  · simp [hi]

theorem bitsOf_lt (a lo len : Nat) : bitsOf a lo len < 2 ^ len := Nat.mod_lt _ (Nat.two_pow_pos _)
theorem bitsOf_mod (a lo len : Nat) : bitsOf a lo len % 2 ^ len = bitsOf a lo len := Nat.mod_eq_of_lt (bitsOf_lt a lo len)

/-- The bits of OBJ_CMD as a row writes it: its command, its own fields, GO. -/
theorem objWord_testBit (w : Word32) (cmd i : Nat) (hc : cmd < 16) :
    (objWord w cmd).toNat.testBit i = if i < 4 then cmd.testBit i else if i = 31 then true else w.toNat.testBit i := by
  by_cases hi : i < 32
  · have h15 : ∀ i < 32, (15#32).getLsbD i = decide (i < 4) := by decide
    have hgo : ∀ cmd < 16, ∀ i < 32, (2 ^ 31 + cmd).testBit i = (if i < 4 then cmd.testBit i else decide (i = 31)) := by decide
    change (objWord w cmd).getLsbD i = _
    simp only [objWord, BitVec.getLsbD_or, BitVec.getLsbD_and, BitVec.getLsbD_not, BitVec.getLsbD_ofNat, hi, h15 i hi, hgo cmd hc i hi, decide_true,
      Bool.true_and, BitVec.testBit_toNat]
    split_ifs <;> simp_all
  · have hw : ∀ v : Word32, v.toNat.testBit i = false := fun v =>
      Nat.testBit_lt_two_pow (lt_of_lt_of_le v.isLt (Nat.pow_le_pow_right (by decide) (by omega)))
    rw [hw, hw, if_neg (by omega), if_neg (by omega)]

theorem objWord_cmd (w : Word32) {cmd : Nat} (hc : cmd < 16) : bitsOf (objWord w cmd).toNat 0 4 = cmd := by
  rw [bitsOf_congr (b := cmd) (fun i _ h => by rw [objWord_testBit w cmd i hc, if_pos (by omega)])]
  exact Nat.mod_eq_of_lt hc
theorem objWord_field (w : Word32) {cmd lo len : Nat} (hc : cmd < 16) (hl : 4 ≤ lo) (hh : lo + len ≤ 31) :
    bitsOf (objWord w cmd).toNat lo len = bitsOf w.toNat lo len :=
  bitsOf_congr (fun i h1 h2 => by rw [objWord_testBit w cmd i hc, if_neg (by omega), if_neg (by omega)])
theorem objWord_go (w : Word32) {cmd : Nat} (hc : cmd < 16) : wbit (objWord w cmd) 31 = true := by
  rw [wbit, ← BitVec.testBit_toNat, objWord_testBit w cmd 31 hc]; rfl

end Sys2Proof.Machine

/-! Proofs for 02: the commands of OBJ_CMD. -/

namespace Sys2Proof.Machine

/-! ### What the commands do to the slots -/

theorem lowestFrom_some {p : Nat → Bool} {i n r : Nat} (h : lowestFrom p i n = some r) : p r = true ∧ ∀ y, i ≤ y → y < r → p y = false := by
  induction n generalizing i with
  | zero => simp [lowestFrom] at h
  | succ n ih =>
    simp only [lowestFrom] at h
    split at h
    next hp =>
      obtain rfl := Option.some.inj h
      exact ⟨hp, fun y h1 h2 => absurd h2 (by omega)⟩
    next hp =>
      obtain ⟨hr, hlt⟩ := ih h
      refine ⟨hr, fun y h1 h2 => ?_⟩
      rcases Nat.eq_or_lt_of_le h1 with rfl | h1
      · simpa using hp
      · exact hlt y h1 h2

/-- The slot found is free, and a single one is the lowest. -/
theorem findSlot_some {s : State} {x r : Nat} {ring : Bool} (h : s.findSlot x ring = some r) :
    s.slotFree x r = true ∧ (ring = false → ∀ y, y < r → s.slotFree x y = false) := by
  cases ring with
  | true =>
    simp only [State.findSlot, if_true, Option.map_eq_some_iff] at h
    obtain ⟨g, hg, rfl⟩ := h
    have hall := List.all_eq_true.mp (lowestFrom_some hg).1 0 (by simp)
    exact ⟨by simpa using hall, fun e => nomatch e⟩
  | false =>
    simp only [State.findSlot] at h
    obtain ⟨hr, hlt⟩ := lowestFrom_some h
    exact ⟨hr, fun _ y hy => hlt y (Nat.zero_le y) hy⟩

/-- A check that was passed on the way to a result. -/
theorem of_ite_error {α : Type} {p : Prop} [Decidable p] {e : Nat} {r : Except Nat α} {v : α} (h : (if p then .error e else r) = .ok v) : ¬p ∧ r = .ok v := by
  by_cases hp : p
  · simp [hp] at h
  · exact ⟨hp, by simpa [hp] using h⟩

/-- What an allocation takes (R51): a free slot, the one that ALLOC_AT names, or the lowest. -/
theorem allocDecide_ok {s : State} {x kc link pon : Nat} {at' : Option Nat} {p : BitVec 6} {c : Bool} {k : Kind}
    (h : s.allocDecide x at' kc p c link = .ok (k, pon)) :
    s.slotFree x pon = true ∧ (∀ y, at' = some y → pon = y) ∧ (at' = none → k ≠ .ring → ∀ y, y < pon → s.slotFree x y = false) := by
  unfold State.allocDecide at h
  cases hk : Kind.ofCode kc with
  | none => simp [hk] at h
  | some k' =>
    simp only [hk] at h
    obtain ⟨-, h⟩ := of_ite_error h
    obtain ⟨-, h⟩ := of_ite_error h
    obtain ⟨-, h⟩ := of_ite_error h
    obtain ⟨hfree, h⟩ := of_ite_error h
    cases hx : at'.or (s.findSlot x (decide (k' = .ring))) with
    | none => simp [hx] at h
    | some y =>
      simp only [hx] at h
      obtain ⟨-, h⟩ := of_ite_error h
      obtain ⟨-, h⟩ := of_ite_error h
      obtain ⟨-, h⟩ := of_ite_error h
      obtain ⟨rfl, rfl⟩ : k' = k ∧ y = pon := by simpa using h
      cases at' with
      | none =>
        obtain ⟨hf, hl⟩ := findSlot_some (by simpa using hx)
        exact ⟨hf, by simp, fun _ hr => hl (by simpa using hr)⟩
      | some z =>
        obtain rfl : z = y := by simpa using hx
        refine ⟨?_, by simp, by simp⟩
        by_contra hn
        refine hfree ?_
        have hz : s.slotFree x z = false := by simpa using hn
        by_cases hr : k' = .ring
        · simpa [hr] using .inr ⟨0, by omega, hz⟩
        · simpa [hr] using hz

/-- The slots that a new object of kind `k` at `pon` takes. -/
def newSlots (k : Kind) (pon : Nat) : List Nat := if k = .ring then [pon, pon + 1, pon + 2, pon + 3] else [pon]
theorem mem_newSlots (k : Kind) (pon : Nat) : pon ∈ newSlots k pon := by
  unfold newSlots
  split <;> simp

/-- The parts of a ring beside its first slot. -/
def State.ringParts (s : State) (x pon : Nat) (p : BitVec 6) : State :=
  (List.range 3).foldl (fun s i => s.modSlot x (pon + i + 1) (fun _ => { Slot.free with kind := .ringPart, pav := p, link := BitVec.ofNat 24 (i + 1) })) s

theorem ringParts_eq (s : State) (x pon : Nat) (p : BitVec 6) : s.ringParts x pon p =
    ((s.modSlot x (pon + 1) (fun _ => { Slot.free with kind := .ringPart, pav := p, link := 1 })).modSlot x (pon + 2)
      (fun _ => { Slot.free with kind := .ringPart, pav := p, link := 2 })).modSlot x (pon + 3)
        (fun _ => { Slot.free with kind := .ringPart, pav := p, link := 3 }) := rfl

theorem SlotWrites.ringParts (s : State) (x pon : Nat) (p : BitVec 6) : SlotWrites s (s.ringParts x pon p) x [pon + 1, pon + 2, pon + 3] := by
  rw [ringParts_eq]
  exact ((SlotWrites.modSlot s x _ _ (by simp)).trans (.modSlot _ x _ _ (by simp))).trans (.modSlot _ x _ _ (by simp))

theorem ringParts_slot (s : State) (x pon : Nat) (p : BitVec 6) {i : Nat} (hi : i ∈ [1, 2, 3]) :
    (s.ringParts x pon p).slot x (pon + i) = { Slot.free with kind := .ringPart, pav := p, link := BitVec.ofNat 24 i } := by
  rw [ringParts_eq]
  simp only [List.mem_cons, List.not_mem_nil, or_false] at hi
  rcases hi with rfl | rfl | rfl
  · rw [State.slot_modSlot_ne _ _ _ _ _ _ (by omega), State.slot_modSlot_ne _ _ _ _ _ _ (by omega), State.slot_modSlot]
    rfl
  · rw [State.slot_modSlot_ne _ _ _ _ _ _ (by omega), State.slot_modSlot]
    rfl
  · rw [State.slot_modSlot]
    rfl

/-- The first slot of a new object of kind `k`. -/
def State.newSlot (s : State) (x : Nat) (k : Kind) (p : BitVec 6) (c : Bool) (link : Nat) : Slot :=
  { Slot.free with kind := k, pav := p, ctxl := c, link := BitVec.ofNat 24 (s.linkStored x k c link) }

/-- Beside its first slot, a new object writes the other parts of a ring, and nothing but stations. -/
theorem newObject_rest (s : State) (x pon : Nat) (k : Kind) (p : BitVec 6) (c : Bool) (link : Nat) :
    SlotWrites (s.modSlot x pon (fun _ => s.newSlot x k p c link)) (s.newObject x pon k p c link) x
      (if k = .ring then [pon + 1, pon + 2, pon + 3] else []) := by
  unfold State.newObject
  dsimp only
  split
  · exact .modMem _ x _ (by intro; rfl)
  · exact .modMem _ x _ (by intro; rfl)
  · exact .modMem _ x _ (by intro; rfl)
  · exact .modMem _ x _ (by intro; rfl)
  · exact (SlotWrites.freshRegion _ x pon _).trans (.modHdr _ x pon _ _)
  · split
    · exact .setBound _ x pon _ _
    · exact .refl _ x _
  · exact .ringParts _ x pon p
  · exact .refl _ x _

theorem newObject_writes (s : State) (x pon : Nat) (k : Kind) (p : BitVec 6) (c : Bool) (link : Nat) :
    SlotWrites s (s.newObject x pon k p c link) x (newSlots k pon) := by
  refine (SlotWrites.modSlot s x pon _ (mem_newSlots k pon)).trans ((newObject_rest s x pon k p c link).mono (fun y hy => ?_))
  unfold newSlots
  split_ifs at hy ⊢ <;> simp_all

theorem newObject_slot (s : State) (x pon : Nat) (k : Kind) (p : BitVec 6) (c : Bool) (link : Nat) :
    (s.newObject x pon k p c link).slot x pon = s.newSlot x k p c link := by
  rw [(newObject_rest s x pon k p c link).2 x pon (by split_ifs <;> simp), State.slot_modSlot]

theorem newObject_ringPart (s : State) (x pon : Nat) (p : BitVec 6) (c : Bool) (link : Nat) {i : Nat} (hi : i ∈ [1, 2, 3]) :
    ((s.newObject x pon .ring p c link).slot x (pon + i)).kind = .ringPart ∧ ((s.newObject x pon .ring p c link).slot x (pon + i)).link.toNat = i := by
  have he : s.newObject x pon .ring p c link = (s.modSlot x pon (fun _ => s.newSlot x .ring p c link)).ringParts x pon p := rfl
  rw [he, ringParts_slot _ _ _ _ hi]
  exact ⟨rfl, by
    have hlt : i < 2 ^ 24 := by simp at hi; omega
    simpa using Nat.mod_eq_of_lt hlt⟩

theorem freeSlot_writes (s : State) (x y : Nat) : SlotWrites s (s.freeSlot x y) x [y] := by
  have hend : ∀ t : State, SlotWrites t ((t.setBound x y none).modMem x (fun m =>
      { m with slots := tset Slot.free m.slots y Slot.free, ringMoved := m.ringMoved.filter (· ≠ y - y % 4) })) x [y] := by
    intro t
    refine (SlotWrites.setBound t x y none [y]).trans ⟨rfl, fun j m hn => ?_⟩
    unfold State.slot
    by_cases hj : j = x
    · rw [hj, State.mem_modMem]
      exact tget_tset_ne Slot.free _ _ _ _ _ (fun e => hn ⟨hj, by simp [e]⟩)
    · rw [State.mem_modMem_ne _ _ _ _ hj]
  unfold State.freeSlot
  dsimp only
  split
  · exact (SlotWrites.setEnt s x y _ _).trans (hend _)
  · exact (SlotWrites.setEnt s x y _ _).trans (hend _)
  · exact (SlotWrites.setEnt s x y _ _).trans (hend _)
  · exact (SlotWrites.setTurn s x y _ _).trans (hend _)
  · exact ((SlotWrites.freshRegion s x y _).trans (.modHdr _ x y _ _)).trans (hend _)
  · exact hend s

theorem freeSlot_slot (s : State) (x y : Nat) : (s.freeSlot x y).slot x y = Slot.free := by
  unfold State.freeSlot State.slot
  dsimp only
  rw [State.mem_modMem]
  exact tget_tset_same Slot.free _ _ _

/-- RETIRE of one slot. -/
def State.retireSlot (s : State) (x y : Nat) : State := (s.freeSlot x y).modSlot x y (fun _ => { Slot.free with kind := .retired })

theorem retireSlot_writes (s : State) (x y : Nat) : SlotWrites s (s.retireSlot x y) x [y] :=
  (freeSlot_writes s x y).trans (.modSlot _ x y _ (by simp))
theorem retireSlot_slot (s : State) (x y : Nat) : (s.retireSlot x y).slot x y = { Slot.free with kind := .retired } := State.slot_modSlot _ _ _ _

/-! ### Cases of FREE and RETIRE (R52) -/

theorem freeCmd_idle {s : State} {x y : Nat} (hf : (s.slot x y).kind ≠ .free) (hr : (s.slot x y).kind ≠ .retired) (hp : s.pavBusy (s.slot x y).pav = false)
    (hb : ∀ z ∈ s.slotGroup x y, s.slotBusy x z = false) :
    s.freeCmd x y = (0, (s.slotGroup x y).foldl (fun s z => s.freeSlot x z) s) := by
  have hany : ¬ (s.slotGroup x y).any (fun z => s.slotBusy x z) = true := by simpa using hb
  unfold State.freeCmd
  dsimp only
  rw [if_neg (by simp [hp]), if_neg hr, if_neg (by simp [hf]), if_neg hany]

/-- FREE of a RETIRED slot, of one that is FREE, and of one in use. -/
theorem freeCmd_refused {s : State} {x y c : Nat}
    (h : ((s.slot x y).kind = .retired ∧ c = 7) ∨ (s.slotFree x y = true ∧ c = 0) ∨
      (((s.slot x y).kind.live = true ∨ (s.slot x y).kind = .moved) ∧
        (s.pavBusy (s.slot x y).pav = true ∨ ∃ z ∈ s.slotGroup x y, s.slotBusy x z = true) ∧ c = 5)) :
    s.freeCmd x y = (c, s) := by
  unfold State.freeCmd
  dsimp only
  rcases h with ⟨hk, rfl⟩ | ⟨hk, rfl⟩ | ⟨hk, hb, rfl⟩
  · rw [if_neg (by simp [hk, Kind.live]), if_pos hk]
  · obtain ⟨hfree, hfz⟩ : (s.slot x y).kind = .free ∧ (s.slot x y).frozen = false := by simpa [State.slotFree] using hk
    rw [if_neg (by simp [hfree, Kind.live]), if_neg (by simp [hfree]), if_pos (by simp [hfree, hfz])]
  · obtain ⟨hnr, hnf⟩ : (s.slot x y).kind ≠ .retired ∧ (s.slot x y).kind ≠ .free := by
      rcases hk with hk | hk
      · simp only [Kind.live, Bool.and_eq_true] at hk
        simp_all
      · simp [hk]
    by_cases hp : s.pavBusy (s.slot x y).pav = true
    · rw [if_pos ⟨hk, hp⟩]
    · have hany : (s.slotGroup x y).any (fun z => s.slotBusy x z) = true := by simpa [hp] using hb
      rw [if_neg (fun e => hp e.2), if_neg hnr, if_neg (fun e => hnf e.1), if_pos hany]

theorem retireCmd_idle {s : State} {x y : Nat}
    (h : ∀ z ∈ s.slotGroup x y, s.slotFree x z = true ∨ ((s.slot x z).kind = .moved ∧ s.pavBusy (s.slot x z).pav = false)) :
    s.retireCmd x y = (0, (s.slotGroup x y).foldl (fun s z => s.retireSlot x z) s) := by
  have hall : (s.slotGroup x y).all (fun z => s.slotFree x z || ((s.slot x z).kind = .moved && !s.pavBusy (s.slot x z).pav)) = true := by
    simpa using h
  unfold State.retireCmd
  dsimp only
  rw [if_neg (by simp [hall])]
  rfl

theorem retireCmd_refused {s : State} {x y z : Nat} (hz : z ∈ s.slotGroup x y) (hf : s.slotFree x z = false)
    (h : (s.slot x z).kind ≠ .moved ∨ s.pavBusy (s.slot x z).pav = true) : s.retireCmd x y = (5, s) := by
  have hall : (s.slotGroup x y).all (fun z => s.slotFree x z || ((s.slot x z).kind = .moved && !s.pavBusy (s.slot x z).pav)) = false := by
    rw [List.all_eq_false]
    exact ⟨z, hz, by rcases h with h | h <;> simp [hf, h]⟩
  unfold State.retireCmd
  dsimp only
  rw [if_pos (by simp [hall])]

end Sys2Proof.Machine

/-! Proofs for 02: ALLOC, ALLOC_AT, FREE, RETIRE and UNRETIRE. -/

namespace Sys2Proof.Machine

/-! ### OBJ_CMD as a row writes it -/

/-- OBJ_CMD of station `x` holds the fields of `w`, with command `cmd`. -/
def State.objWritten (s : State) (x cmd : Nat) (w : Word32) : State :=
  ((((s.put F.OBJ_CMD_CMD cmd x).put F.OBJ_CMD_KIND (bitsOf w.toNat 4 4) x).put F.OBJ_CMD_PAV (bitsOf w.toNat 8 6) x).put
    F.OBJ_CMD_CTXL (bitsOf w.toNat 14 1) x).put F.OBJ_CMD_PON (bitsOf w.toNat 16 14) x

theorem writeFields_objWord (s : State) (x : Nat) (w : Word32) {cmd : Nat} (hc : cmd < 16) :
    s.writeFields 0x08 x 0x050 0 (objWord w cmd).toNat = s.objWritten x cmd w := by
  have hfields : fieldsAt 0x08 0x050 = [F.OBJ_CMD_CMD, F.OBJ_CMD_KIND, F.OBJ_CMD_PAV, F.OBJ_CMD_CTXL, F.OBJ_CMD_PON, F.OBJ_CMD_GO] := by decide +kernel
  rw [State.writeFields, hfields]
  simp only [List.foldl_cons, List.foldl_nil, State.writeField, F.OBJ_CMD_CMD, F.OBJ_CMD_KIND, F.OBJ_CMD_PAV, F.OBJ_CMD_CTXL, F.OBJ_CMD_PON, F.OBJ_CMD_GO]
  rw [objWord_cmd w hc, objWord_field w hc (by omega) (by omega), objWord_field w hc (by omega) (by omega), objWord_field w hc (by omega) (by omega),
    objWord_field w hc (by omega) (by omega)]
  rfl

/-- Writing a row of OBJ_CMD runs its command on the fields written. -/
theorem objCmd_objWord (s : State) (x : Nat) (w : Word32) {cmd : Nat} (hc : cmd < 16) :
    s.objCmd x (objWord w cmd) = (s.objWritten x cmd w).objGo x cmd := by
  have hget : (s.objWritten x cmd w).get F.OBJ_CMD_CMD x = cmd := by
    simp (disch := (refine Fld.key_ne_of_place rfl ?_; decide)) only [State.objWritten, State.get_put_ne, State.get_put]
    exact Nat.mod_eq_of_lt hc
  unfold State.objCmd
  rw [writeFields_objWord s x w hc]
  dsimp only
  rw [objWord_go w hc, if_pos rfl, hget]

theorem RegsBut.mono {s t : State} {ks ls : List Nat} (h : RegsBut s t ks) (hs : ∀ k ∈ ks, k ∈ ls) : RegsBut s t ls :=
  fun f i n hk => h f i n (fun hm => hk (hs _ hm))

/-- The fields of OBJ_CMD. -/
def objCmdKeys (x : Nat) : List Nat :=
  [F.OBJ_CMD_CMD.key x 0, F.OBJ_CMD_KIND.key x 0, F.OBJ_CMD_PAV.key x 0, F.OBJ_CMD_CTXL.key x 0, F.OBJ_CMD_PON.key x 0]
/-- The fields of OBJ_RES. -/
def objResKeys (x : Nat) : List Nat := [F.OBJ_RES_PON.key x 0, F.OBJ_RES_DONE.key x 0, F.OBJ_RES_ERR.key x 0, F.OBJ_RES_CODE.key x 0]

theorem objWritten_regWrites (s : State) (x cmd : Nat) (w : Word32) : RegWrites s (s.objWritten x cmd w) (objCmdKeys x) :=
  (((((RegWrites.refl s _).put _ _ _ _ (by simp [objCmdKeys])).put _ _ _ _ (by simp [objCmdKeys])).put _ _ _ _ (by simp [objCmdKeys])).put _ _ _ _
    (by simp [objCmdKeys])).put _ _ _ _ (by simp [objCmdKeys])

theorem objRes_regWrites (s : State) (x pon code : Nat) : RegWrites s (s.objRes x pon code) (objResKeys x) :=
  ((((RegWrites.refl s _).put _ _ _ _ (by simp [objResKeys])).putB _ _ _ _ (by simp [objResKeys])).putB _ _ _ _ (by simp [objResKeys])).put _ _ _ _
    (by simp [objResKeys])

/-- OBJ_RES after a command. -/
theorem objRes_shows (s : State) (x pon code : Nat) (hc : code < 16) :
    (s.objRes x pon code).flag F.OBJ_RES_DONE x = true ∧ (s.objRes x pon code).flag F.OBJ_RES_ERR x = decide (code ≠ 0) ∧
      (s.objRes x pon code).get F.OBJ_RES_CODE x = code ∧ (s.objRes x pon code).get F.OBJ_RES_PON x = pon % 2 ^ 14 := by
  simp (disch := first | decide | (refine Fld.key_ne_of_place rfl ?_; decide)) only [State.objRes, State.flag_put_ne, State.flag_putB_ne, State.flag_putB,
    State.get_put_ne, State.get_putB_ne, State.get_put, true_and]
  exact ⟨Nat.mod_eq_of_lt hc, rfl⟩

/-! ### What the command meets is what the row wrote -/

section
variable (s : State) (x cmd : Nat) (w : Word32)

theorem objWritten_eq : ∃ r, s.objWritten x cmd w = { s with regs := r } := ⟨_, (objWritten_regWrites s x cmd w).1⟩

theorem objWritten_rowsGood (h : s.rowsGood = true) : (s.objWritten x cmd w).rowsGood = true := by
  obtain ⟨r, hr⟩ := objWritten_eq s x cmd w
  rw [hr]
  exact h
theorem objWritten_stns : (s.objWritten x cmd w).stns = s.stns := by simp [State.objWritten]
@[simp] theorem objWritten_slot (i y : Nat) : (s.objWritten x cmd w).slot i y = s.slot i y := State.slot_congr _ _ (objWritten_stns s x cmd w) i y
@[simp] theorem objWritten_slotFree (y : Nat) : (s.objWritten x cmd w).slotFree x y = s.slotFree x y := by
  unfold State.slotFree
  rw [objWritten_slot]
@[simp] theorem objWritten_slotGroup (y : Nat) : (s.objWritten x cmd w).slotGroup x y = s.slotGroup x y := by
  obtain ⟨r, hr⟩ := objWritten_eq s x cmd w
  rw [hr]
  rfl
@[simp] theorem objWritten_slotBusy (y : Nat) : (s.objWritten x cmd w).slotBusy x y = s.slotBusy x y := by
  obtain ⟨r, hr⟩ := objWritten_eq s x cmd w
  rw [hr]
  rfl
@[simp] theorem objWritten_newSlot (k : Kind) (p : BitVec 6) (c : Bool) (link : Nat) :
    (s.objWritten x cmd w).newSlot x k p c link = s.newSlot x k p c link := by
  obtain ⟨r, hr⟩ := objWritten_eq s x cmd w
  rw [hr]
  rfl

/-- A register of page 3 is as it was. -/
theorem objWritten_get_page3 (hx : x < 4) (f : Fld) (hf : f.page = 3 ∧ f.off < 4096 ∧ f.lo < 32) (n : Nat) (hn : n < 64) :
    (s.objWritten x cmd w).get f 0 n = s.get f 0 n := by
  refine (objWritten_regWrites s x cmd w).2 f 0 n ?_
  obtain ⟨hp, ho, hl⟩ := hf
  simp only [objCmdKeys, Fld.key, List.mem_cons, List.not_mem_nil, or_false, hp, F.OBJ_CMD_CMD, F.OBJ_CMD_KIND, F.OBJ_CMD_PAV, F.OBJ_CMD_CTXL,
    F.OBJ_CMD_PON]
  omega

theorem objWritten_pavBusy (hx : x < 4) (p : BitVec 6) : (s.objWritten x cmd w).pavBusy p = s.pavBusy p := by
  unfold State.pavBusy State.pavState
  rw [objWritten_get_page3 s x cmd w hx _ (by decide) _ p.isLt]

theorem objWritten_overQuota (hx : x < 4) (p : BitVec 6) (k : Kind) (link : Nat) : (s.objWritten x cmd w).overQuota x p k link = s.overQuota x p k link := by
  have hobj := objWritten_get_page3 s x cmd w hx F.PQ_OBJ_OBJ (by decide) _ p.isLt
  have hlines := objWritten_get_page3 s x cmd w hx F.PQ_FOLD_LINES (by decide) _ p.isLt
  have hts := objWritten_get_page3 s x cmd w hx F.PQ_RES_TS (by decide) _ p.isLt
  have hmlq := objWritten_get_page3 s x cmd w hx F.PQ_RES_MLQ (by decide) _ p.isLt
  obtain ⟨r, hr⟩ := objWritten_eq s x cmd w
  unfold State.overQuota
  rw [hobj, hlines, hts, hmlq, hr]
  rfl

theorem objWritten_allocDecide (hx : x < 4) (at' : Option Nat) (kc : Nat) (p : BitVec 6) (c : Bool) (link : Nat) :
    (s.objWritten x cmd w).allocDecide x at' kc p c link = s.allocDecide x at' kc p c link := by
  have hq := objWritten_overQuota s x cmd w hx p
  have hb := objWritten_pavBusy s x cmd w hx p
  obtain ⟨r, hr⟩ := objWritten_eq s x cmd w
  unfold State.allocDecide
  simp only [hq, hb]
  rw [hr]
  rfl

theorem objWritten_pon : (s.objWritten x cmd w).get F.OBJ_CMD_PON x = bitsOf w.toNat 16 14 := by
  simp only [State.objWritten, State.get_put]
  exact bitsOf_mod _ _ _
theorem objWritten_kind : (s.objWritten x cmd w).get F.OBJ_CMD_KIND x = bitsOf w.toNat 4 4 := by
  simp (disch := (refine Fld.key_ne_of_place rfl ?_; decide)) only [State.objWritten, State.get_put_ne, State.get_put]
  exact bitsOf_mod _ _ _
theorem objWritten_pav : (s.objWritten x cmd w).get F.OBJ_CMD_PAV x = bitsOf w.toNat 8 6 := by
  simp (disch := (refine Fld.key_ne_of_place rfl ?_; decide)) only [State.objWritten, State.get_put_ne, State.get_put]
  exact bitsOf_mod _ _ _
theorem objWritten_ctxl : (s.objWritten x cmd w).flag F.OBJ_CMD_CTXL x = wbit w 14 := by
  have hbit : bitsOf w.toNat 14 1 = bnat (wbit w 14) := by
    rw [wbit, ← BitVec.testBit_toNat, Nat.testBit_eq_decide_div_mod_eq, bitsOf, Nat.shiftRight_eq_div_pow, Nat.pow_one]
    rcases Nat.mod_two_eq_zero_or_one (w.toNat / 2 ^ 14) with h | h
    · rw [h]; rfl
    · rw [h]; rfl
  unfold State.flag
  simp (disch := (refine Fld.key_ne_of_place rfl ?_; decide)) only [State.objWritten, State.get_put_ne, State.get_put]
  rw [hbit]
  cases wbit w 14 <;> rfl
theorem objWritten_link : (s.objWritten x cmd w).get F.OBJ_LINK_LINK x = s.get F.OBJ_LINK_LINK x := by
  simp (disch := (refine Fld.key_ne_of_place rfl ?_; decide)) only [State.objWritten, State.get_put_ne]
end

/-! ### The command's work (R51, R52) -/

section
variable {s : State} {x : BitVec 2} {w : Word32}

/-- What ALLOC and ALLOC_AT decide on, with `at'` the slot that ALLOC_AT names. -/
def State.allocChoice (s : State) (x : BitVec 2) (w : Word32) (at' : Option Nat) : Except Nat (Kind × Nat) :=
  s.allocDecide x.toNat at' (bitsOf w.toNat 4 4) (BitVec.ofNat 6 (bitsOf w.toNat 8 6)) (wbit w 14) (s.get F.OBJ_LINK_LINK x.toNat)

/-- The new object that `w` asks for. -/
def State.allocated (s : State) (x : BitVec 2) (w : Word32) (k : Kind) (pon : Nat) : State :=
  s.newObject x.toNat pon k (BitVec.ofNat 6 (bitsOf w.toNat 8 6)) (wbit w 14) (s.get F.OBJ_LINK_LINK x.toNat)

/-- The slot that the command ALLOC or ALLOC_AT names. -/
def namedSlot (w : Word32) (cmd : Nat) : Option Nat := if cmd = 2 then some (bitsOf w.toNat 16 14) else none

theorem objGo_alloc_ok {cmd pon : Nat} {k : Kind} (h : s.rowsGood = true) (hc : cmd = 1 ∨ cmd = 2) (hd : s.allocChoice x w (namedSlot w cmd) = .ok (k, pon)) :
    (s.objWritten x.toNat cmd w).objGo x.toNat cmd = ((s.objWritten x.toNat cmd w).allocated x w k pon).objRes x.toNat pon 0 := by
  have hd' := objWritten_allocDecide s x.toNat cmd w x.isLt (namedSlot w cmd) (bitsOf w.toNat 4 4) (BitVec.ofNat 6 (bitsOf w.toNat 8 6)) (wbit w 14)
    (s.get F.OBJ_LINK_LINK x.toNat)
  rw [show s.allocDecide x.toNat _ _ _ _ _ = _ from hd] at hd'
  unfold namedSlot at hd'
  simp only [State.objGo, State.reads_of_rowsGood (objWritten_rowsGood s x.toNat cmd w h), objWritten_pon, objWritten_kind, objWritten_pav, objWritten_ctxl,
    objWritten_link, hc, hd', if_true, Bool.not_true, State.allocated]
  rfl

theorem objGo_alloc_error {cmd c : Nat} (h : s.rowsGood = true) (hc : cmd = 1 ∨ cmd = 2) (hd : s.allocChoice x w (namedSlot w cmd) = .error c) :
    (s.objWritten x.toNat cmd w).objGo x.toNat cmd = (s.objWritten x.toNat cmd w).objRes x.toNat (bitsOf w.toNat 16 14) c := by
  have hd' := objWritten_allocDecide s x.toNat cmd w x.isLt (namedSlot w cmd) (bitsOf w.toNat 4 4) (BitVec.ofNat 6 (bitsOf w.toNat 8 6)) (wbit w 14)
    (s.get F.OBJ_LINK_LINK x.toNat)
  rw [show s.allocDecide x.toNat _ _ _ _ _ = _ from hd] at hd'
  unfold namedSlot at hd'
  simp only [State.objGo, State.reads_of_rowsGood (objWritten_rowsGood s x.toNat cmd w h), objWritten_pon, objWritten_kind, objWritten_pav, objWritten_ctxl,
    objWritten_link, hc, hd', if_true, Bool.not_true]
  rfl

theorem objGo_free {c : Nat} {v : State} (h : s.rowsGood = true) (hd : (s.objWritten x.toNat 3 w).freeCmd x.toNat (bitsOf w.toNat 16 14) = (c, v)) :
    (s.objWritten x.toNat 3 w).objGo x.toNat 3 = v.objRes x.toNat (bitsOf w.toNat 16 14) c := by
  simp [State.objGo, State.reads_of_rowsGood (objWritten_rowsGood s x.toNat 3 w h), objWritten_pon, hd]

theorem objGo_retire {c : Nat} {v : State} (h : s.rowsGood = true) (hd : (s.objWritten x.toNat 4 w).retireCmd x.toNat (bitsOf w.toNat 16 14) = (c, v)) :
    (s.objWritten x.toNat 4 w).objGo x.toNat 4 = v.objRes x.toNat (bitsOf w.toNat 16 14) c := by
  simp [State.objGo, State.reads_of_rowsGood (objWritten_rowsGood s x.toNat 4 w h), objWritten_pon, hd]

theorem objGo_unretire {c : Nat} {v : State} (h : s.rowsGood = true) (hd : (s.objWritten x.toNat 5 w).unretireCmd x.toNat (bitsOf w.toNat 16 14) = (c, v)) :
    (s.objWritten x.toNat 5 w).objGo x.toNat 5 = v.objRes x.toNat (bitsOf w.toNat 16 14) c := by
  simp [State.objGo, State.reads_of_rowsGood (objWritten_rowsGood s x.toNat 5 w h), objWritten_pon, hd]
end

/-! ### The command's answer -/

/-- `t` answers an OBJ_CMD that ended with `code` at slot `pon` of station `x`, and left slots as in `v` and others than `ps` as in `s`. -/
structure ObjDone (s v t : State) (x : BitVec 2) (ps : List Nat) (pon code : Nat) : Prop where
  answered : CfgAnswered s t
  done : t.flag F.OBJ_RES_DONE x.toNat = true
  err : t.flag F.OBJ_RES_ERR x.toNat = decide (code ≠ 0)
  code : t.get F.OBJ_RES_CODE x.toNat = code
  pon : t.get F.OBJ_RES_PON x.toNat = pon % 2 ^ 14
  slot : ∀ j m, t.slot j m = v.slot j m
  slots : SlotsBut s t x ps
  regs : RegsBut s t (objCmdKeys x.toNat ++ objResKeys x.toNat)
  only : v.stns = s.stns → OnlyRegs s t (objCmdKeys x.toNat ++ objResKeys x.toNat)

/-- A row of OBJ_CMD that is let through. -/
def State.afterObjCmd (s : State) (x : BitVec 2) (w : Word32) (cmd : Nat) : State :=
  s.keep (s.quiet.cfgAccess (corePage x) 0x050 (fun s => s.objCmd x.toNat (objWord w cmd)))

theorem afterObjCmd_done {s v : State} {x : BitVec 2} {w : Word32} {ps : List Nat} {cmd pon code : Nat} (ho : s.cfgOpen (corePage x) 0x050 = true)
    (hc : cmd < 16) (hcode : code < 16) (hgo : (s.quiet.objWritten x.toNat cmd w).objGo x.toNat cmd = v.objRes x.toNat pon code)
    (hv : SlotWrites (s.quiet.objWritten x.toNat cmd w) v x.toNat ps) : ObjDone s v (s.afterObjCmd x w cmd) x ps pon code := by
  have hw := objWritten_regWrites s.quiet x.toNat cmd w
  have hf : s.quiet.objCmd x.toNat (objWord w cmd) = v.objRes x.toNat pon code := (objCmd_objWord s.quiet x.toNat w hc).trans hgo
  have hparts : v.objRes x.toNat pon code = { s.quiet with regs := (v.objRes x.toNat pon code).regs, stns := (v.objRes x.toNat pon code).stns } := by
    obtain ⟨hres, -⟩ := objRes_regWrites v x.toNat pon code
    obtain ⟨hslots, -⟩ := hv
    generalize v.objRes x.toNat pon code = v' at hres ⊢
    rw [hslots, hw.1] at hres
    rw [hres]
  have hs : Shows s (v.objRes x.toNat pon code) (s.afterObjCmd x w cmd) := by
    have := shows_of_cfgOpen (f := fun s => s.objCmd x.toNat (objWord w cmd)) ho (by rw [hf]; exact hparts)
    rwa [hf] at this
  have hregs : RegsBut s (v.objRes x.toNat pon code) (objCmdKeys x.toNat ++ objResKeys x.toNat) := by
    have hcmd : RegsBut s v (objCmdKeys x.toNat) := (show RegsBut s _ _ from hw.2).congr hv.regs
    exact (hcmd.mono (by simp +contextual)).trans ((objRes_regWrites v x.toNat pon code).2.mono (by simp +contextual))
  obtain ⟨hdone, herr, hcd, hpon⟩ := objRes_shows v x.toNat pon code hcode
  refine ⟨hs.answered, by rw [hs.flag, hdone], by rw [hs.flag, herr], by rw [hs.get, hcd], by rw [hs.get, hpon], fun j m => hs.slot j m, fun j m hn => ?_,
    hs.regsBut hregs, fun e => hs.onlyRegs hregs e⟩
  exact (hs.slot j m).trans (hv.2 j m hn)

end Sys2Proof.Machine

/-! Proofs for 02: the obligation on OBJ_CMD. -/
namespace Sys2Proof.Machine

@[simp] theorem State.quiet_slot (s : State) (x y : Nat) : s.quiet.slot x y = s.slot x y := rfl
@[simp] theorem State.quiet_slotGroup (s : State) (x y : Nat) : s.quiet.slotGroup x y = s.slotGroup x y := rfl
@[simp] theorem State.quiet_slotBusy (s : State) (x y : Nat) : s.quiet.slotBusy x y = s.slotBusy x y := rfl
@[simp] theorem State.quiet_slotFree (s : State) (x y : Nat) : s.quiet.slotFree x y = s.slotFree x y := rfl
@[simp] theorem State.quiet_pavBusy (s : State) (p : BitVec 6) : s.quiet.pavBusy p = s.pavBusy p := rfl

/-! ### The obligation -/

theorem error_of_ite_error {α : Type} {p : Prop} [Decidable p] {e c : Nat} {r : Except Nat α} (he : e ≠ 0 ∧ e < 16) (h : (if p then .error e else r) = .error c)
    (hr : r = .error c → c ≠ 0 ∧ c < 16) : c ≠ 0 ∧ c < 16 := by
  by_cases hp : p
  · obtain rfl : e = c := by simpa [hp] using h
    exact he
  · exact hr (by simpa [hp] using h)

/-- A failure has a code of R52. -/
theorem allocDecide_error {s : State} {x kc link c : Nat} {at' : Option Nat} {p : BitVec 6} {b : Bool}
    (h : s.allocDecide x at' kc p b link = .error c) : c ≠ 0 ∧ c < 16 := by
  unfold State.allocDecide at h
  cases hk : Kind.ofCode kc with
  | none =>
    obtain rfl : 3 = c := by simpa [hk] using h
    decide
  | some k =>
    simp only [hk] at h
    refine error_of_ite_error (by decide) h fun h => error_of_ite_error (by decide) h fun h => error_of_ite_error (by decide) h fun h =>
      error_of_ite_error (by decide) h fun h => ?_
    cases hx : at'.or (s.findSlot x (decide (k = .ring))) with
    | none =>
      obtain rfl : 1 = c := by simpa [hx] using h
      decide
    | some y =>
      simp only [hx] at h
      exact error_of_ite_error (by decide) h fun h => error_of_ite_error (by decide) h fun h => error_of_ite_error (by decide) h fun h => nomatch h

section
variable {s : State} {x : BitVec 2} {w : Word32}

theorem alloc_ok_done {cmd pon : Nat} {k : Kind} (ho : s.cfgOpen (corePage x) 0x050 = true) (hg : s.rowsGood = true) (hc : cmd = 1 ∨ cmd = 2)
    (hd : s.allocChoice x w (namedSlot w cmd) = .ok (k, pon)) :
    ObjDone s ((s.quiet.objWritten x.toNat cmd w).allocated x w k pon) (s.afterObjCmd x w cmd) x (newSlots k pon) pon 0 :=
  afterObjCmd_done ho (by omega) (by decide) (objGo_alloc_ok (s := s.quiet) hg hc hd) (newObject_writes _ _ _ _ _ _ _)

theorem alloc_error_done {cmd c : Nat} (ho : s.cfgOpen (corePage x) 0x050 = true) (hg : s.rowsGood = true) (hc : cmd = 1 ∨ cmd = 2)
    (hd : s.allocChoice x w (namedSlot w cmd) = .error c) :
    ObjDone s (s.quiet.objWritten x.toNat cmd w) (s.afterObjCmd x w cmd) x [] (bitsOf w.toNat 16 14) c :=
  afterObjCmd_done ho (by omega) (allocDecide_error hd).2 (objGo_alloc_error (s := s.quiet) hg hc hd) (.refl _ _ _)

/-- The slots after an allocation. -/
theorem alloc_ok_slots {cmd pon : Nat} {k : Kind} {t : State}
    (h : ObjDone s ((s.quiet.objWritten x.toNat cmd w).allocated x w k pon) t x (newSlots k pon) pon 0) :
    t.slot x.toNat pon = s.newSlot x.toNat k (BitVec.ofNat 6 (bitsOf w.toNat 8 6)) (wbit w 14) (s.get F.OBJ_LINK_LINK x.toNat) ∧
      (k = .ring → ∀ i, i ∈ [1, 2, 3] → (t.slot x.toNat (pon + i)).kind = .ringPart ∧ (t.slot x.toNat (pon + i)).link.toNat = i) := by
  constructor
  · rw [h.slot, State.allocated, newObject_slot, objWritten_newSlot, objWritten_link]
    rfl
  · rintro rfl i hi
    rw [h.slot]
    exact newObject_ringPart _ _ _ _ _ _ hi

theorem free_done {c : Nat} {v : State} {ps : List Nat} (ho : s.cfgOpen (corePage x) 0x050 = true) (hg : s.rowsGood = true) (hc : c < 16)
    (hd : (s.quiet.objWritten x.toNat 3 w).freeCmd x.toNat (bitsOf w.toNat 16 14) = (c, v)) (hv : SlotWrites (s.quiet.objWritten x.toNat 3 w) v x.toNat ps) :
    ObjDone s v (s.afterObjCmd x w 3) x ps (bitsOf w.toNat 16 14) c :=
  afterObjCmd_done ho (by decide) hc (objGo_free (s := s.quiet) hg hd) hv

theorem retire_done {c : Nat} {v : State} {ps : List Nat} (ho : s.cfgOpen (corePage x) 0x050 = true) (hg : s.rowsGood = true) (hc : c < 16)
    (hd : (s.quiet.objWritten x.toNat 4 w).retireCmd x.toNat (bitsOf w.toNat 16 14) = (c, v)) (hv : SlotWrites (s.quiet.objWritten x.toNat 4 w) v x.toNat ps) :
    ObjDone s v (s.afterObjCmd x w 4) x ps (bitsOf w.toNat 16 14) c :=
  afterObjCmd_done ho (by decide) hc (objGo_retire (s := s.quiet) hg hd) hv

theorem unretire_done {c : Nat} {v : State} {ps : List Nat} (ho : s.cfgOpen (corePage x) 0x050 = true) (hg : s.rowsGood = true) (hc : c < 16)
    (hd : (s.quiet.objWritten x.toNat 5 w).unretireCmd x.toNat (bitsOf w.toNat 16 14) = (c, v))
    (hv : SlotWrites (s.quiet.objWritten x.toNat 5 w) v x.toNat ps) :
    ObjDone s v (s.afterObjCmd x w 5) x ps (bitsOf w.toNat 16 14) c :=
  afterObjCmd_done ho (by decide) hc (objGo_unretire (s := s.quiet) hg hd) hv
end

/-- Settles O48: each command of OBJ_CMD is one operation on the slots it names, and its answer in OBJ_RES. -/
theorem objectsAreAllocatedAndFreed : Obligations.ObjectsAreAllocatedAndFreed := by
  unfold Obligations.ObjectsAreAllocatedAndFreed
  refine ⟨?alloc, ?allocAt, ?allocFails, ?allocAtFails, ?free, ?freeRefused, ?retire, ?retireRefused, ?unretire, ?unretireRefused⟩
  case alloc =>
    intro x w k pon s ho hg hd
    obtain ⟨hfree, -, hlow⟩ := allocDecide_ok hd
    have h := alloc_ok_done (cmd := 1) ho hg (.inl rfl) hd
    obtain ⟨hslot, hring⟩ := alloc_ok_slots h
    exact ⟨s.afterObjCmd x w 1, rfl, h.answered, h.done, h.err, h.code, h.pon, hslot, hring, h.slots, h.regs, hfree, hlow rfl⟩
  case allocAt =>
    intro x w k pon s ho hg hd
    obtain ⟨hfree, hat, -⟩ := allocDecide_ok hd
    have h := alloc_ok_done (cmd := 2) ho hg (.inr rfl) hd
    obtain ⟨hslot, hring⟩ := alloc_ok_slots h
    exact ⟨s.afterObjCmd x w 2, rfl, h.answered, h.done, h.err, h.code, h.pon, hslot, hring, h.slots, h.regs, hfree, hat _ rfl⟩
  case allocFails =>
    intro x w c s ho hg hd
    have h := alloc_error_done (cmd := 1) ho hg (.inl rfl) hd
    exact ⟨s.afterObjCmd x w 1, rfl, h.answered, h.done, h.err.trans (by simp [(allocDecide_error hd).1]), h.code, h.pon.trans (bitsOf_mod _ _ _), h.only rfl⟩
  case allocAtFails =>
    intro x w c s ho hg hd
    have h := alloc_error_done (cmd := 2) ho hg (.inr rfl) hd
    exact ⟨s.afterObjCmd x w 2, rfl, h.answered, h.done, h.err.trans (by simp [(allocDecide_error hd).1]), h.code, h.pon.trans (bitsOf_mod _ _ _), h.only rfl⟩
  case free =>
    intro x w s ho hg hf hr hp hb
    have hd := freeCmd_idle (s := s.quiet.objWritten x.toNat 3 w) (x := x.toNat) (y := bitsOf w.toNat 16 14) hf hr
      ((objWritten_pavBusy s.quiet _ _ _ x.isLt _).trans hp) (fun z hz => by simpa using hb z (by simpa using hz))
    obtain ⟨hw, hv⟩ := SlotWrites.foldl (fun t y => freeSlot_writes t x.toNat y) (fun t y => freeSlot_slot t x.toNat y) (s.slotGroup x.toNat (bitsOf w.toNat 16 14))
      (s.quiet.objWritten x.toNat 3 w)
    rw [objWritten_slotGroup, State.quiet_slotGroup] at hd
    have h := free_done ho hg (by decide) hd hw
    exact ⟨s.afterObjCmd x w 3, rfl, h.answered, h.done, h.err, h.code, h.pon.trans (bitsOf_mod _ _ _), fun y hy => (h.slot _ _).trans (hv y hy), h.slots, h.regs⟩
  case freeRefused =>
    intro x w c s ho hg hc
    have hd := freeCmd_refused (s := s.quiet.objWritten x.toNat 3 w) (x := x.toNat) (y := bitsOf w.toNat 16 14) (c := c)
      (by simpa [objWritten_pavBusy s.quiet _ _ _ x.isLt] using hc)
    have h := free_done ho hg (by rcases hc with ⟨-, rfl⟩ | ⟨-, rfl⟩ | ⟨-, -, rfl⟩ <;> decide) hd (.refl _ _ [])
    exact ⟨s.afterObjCmd x w 3, rfl, h.code, by simp [h.err], h.only rfl⟩
  case retire =>
    intro x w s ho hg hb
    have hd := retireCmd_idle (s := s.quiet.objWritten x.toNat 4 w) (x := x.toNat) (y := bitsOf w.toNat 16 14)
      (fun z hz => by simpa [objWritten_pavBusy s.quiet _ _ _ x.isLt] using hb z (by simpa using hz))
    obtain ⟨hw, hv⟩ := SlotWrites.foldl (fun t y => retireSlot_writes t x.toNat y) (fun t y => retireSlot_slot t x.toNat y) (s.slotGroup x.toNat (bitsOf w.toNat 16 14))
      (s.quiet.objWritten x.toNat 4 w)
    rw [objWritten_slotGroup, State.quiet_slotGroup] at hd
    have h := retire_done ho hg (by decide) hd hw
    exact ⟨s.afterObjCmd x w 4, rfl, h.answered, h.done, h.err, h.code, h.pon.trans (bitsOf_mod _ _ _), fun y hy => (h.slot _ _).trans (hv y hy), h.slots⟩
  case retireRefused =>
    intro x w y s ho hg hy hf hk
    have hd := retireCmd_refused (s := s.quiet.objWritten x.toNat 4 w) (x := x.toNat) (y := bitsOf w.toNat 16 14) (z := y)
      (by simpa using hy) hf (by simpa [objWritten_pavBusy s.quiet _ _ _ x.isLt] using hk)
    have h := retire_done ho hg (by decide) hd (.refl _ _ [])
    exact ⟨s.afterObjCmd x w 4, rfl, h.done, h.err, h.code, h.pon.trans (bitsOf_mod _ _ _), h.only rfl⟩
  case unretire =>
    intro x w s ho hg hk
    have hd : (s.quiet.objWritten x.toNat 5 w).unretireCmd x.toNat (bitsOf w.toNat 16 14) =
        (0, (s.quiet.objWritten x.toNat 5 w).modSlot x.toNat (bitsOf w.toNat 16 14) (fun _ => Slot.free)) := if_pos hk
    have h := unretire_done (ps := [bitsOf w.toNat 16 14]) ho hg (by decide) hd (.modSlot _ _ _ _ (by simp))
    exact ⟨s.afterObjCmd x w 5, rfl, h.answered, h.done, h.err, h.code, h.pon.trans (bitsOf_mod _ _ _), (h.slot _ _).trans (State.slot_modSlot _ _ _ _), h.slots, h.regs⟩
  case unretireRefused =>
    intro x w s ho hg hk
    have hd : (s.quiet.objWritten x.toNat 5 w).unretireCmd x.toNat (bitsOf w.toNat 16 14) = (7, s.quiet.objWritten x.toNat 5 w) := if_neg hk
    have h := unretire_done ho hg (by decide) hd (.refl _ _ [])
    exact ⟨s.afterObjCmd x w 5, rfl, h.done, h.err, h.code, h.pon.trans (bitsOf_mod _ _ _), h.only rfl⟩

end Sys2Proof.Machine

/-! Proofs for 02: the work of the commands on a station's objects. -/

namespace Sys2Proof.Machine

/-! ### After a configuration command -/

/-- The state after a configuration command whose work left `u`. -/
def State.afterCfg (s u : State) : State := s.keep (u.drive (.cfRsp 0))

theorem afterCfg_of_cfgOpen {s : State} {p off : Nat} (f : State → State) (ho : s.cfgOpen p off = true) :
    s.keep (s.quiet.cfgAccess p off f) = s.afterCfg (f s.quiet) := by
  rw [State.cfgAccess_open _ _ _ _ (by simpa using ho)]
  rfl

@[simp] theorem State.afterCfg_regs (s u : State) : (s.afterCfg u).regs = u.regs := by simp [State.afterCfg]
@[simp] theorem State.afterCfg_stns (s u : State) : (s.afterCfg u).stns = u.stns := by simp [State.afterCfg]
@[simp] theorem State.afterCfg_net (s u : State) : (s.afterCfg u).net = u.net := by simp [State.afterCfg]
@[simp] theorem State.afterCfg_ports (s u : State) : (s.afterCfg u).ports = u.ports := by simp [State.afterCfg]
@[simp] theorem State.afterCfg_jct (s u : State) : (s.afterCfg u).jct = u.jct := by simp [State.afterCfg]
@[simp] theorem State.afterCfg_get (s u : State) (f : Fld) (i n : Nat) : (s.afterCfg u).get f i n = u.get f i n := by simp [State.afterCfg]
@[simp] theorem State.afterCfg_flag (s u : State) (f : Fld) (i n : Nat) : (s.afterCfg u).flag f i n = u.flag f i n := by simp [State.flag]
@[simp] theorem State.afterCfg_mem (s u : State) (i : Nat) : (s.afterCfg u).mem i = u.mem i := State.mem_congr _ _ (by simp) i
@[simp] theorem State.afterCfg_slot (s u : State) (i n : Nat) : (s.afterCfg u).slot i n = u.slot i n := State.slot_congr _ _ (by simp) i n

/-! ### What a slot links to -/

theorem State.ent_congr {s t : State} (h : t.stns = s.stns) (i n : Nat) : t.ent i n = s.ent i n := by
  simp [State.ent, State.slot_congr s t h, State.mem_congr s t h]
theorem State.turn_congr {s t : State} (h : t.stns = s.stns) (i n : Nat) : t.turn i n = s.turn i n := by
  simp [State.turn, State.slot_congr s t h, State.mem_congr s t h]
theorem State.drift_congr {s t : State} (h : t.stns = s.stns) (i n : Nat) : t.drift i n = s.drift i n := by simp [State.drift, State.mem_congr s t h]
theorem State.waitersOf_congr {s t : State} (h : t.stns = s.stns) (i n : Nat) : t.waitersOf i n = s.waitersOf i n := by
  simp [State.waitersOf, State.mem_congr s t h]

@[simp] theorem State.afterCfg_ent (s u : State) (i n : Nat) : (s.afterCfg u).ent i n = u.ent i n := State.ent_congr (by simp) i n
@[simp] theorem State.afterCfg_turn (s u : State) (i n : Nat) : (s.afterCfg u).turn i n = u.turn i n := State.turn_congr (by simp) i n
@[simp] theorem State.afterCfg_drift (s u : State) (i n : Nat) : (s.afterCfg u).drift i n = u.drift i n := State.drift_congr (by simp) i n

@[simp] theorem State.setEnt_slot (s : State) (x p : Nat) (e : SemEnt) (j m : Nat) : (s.setEnt x p e).slot j m = s.slot j m :=
  (SlotWrites.setEnt s x p e []).2 j m (by simp)
@[simp] theorem State.setTurn_slot (s : State) (x p : Nat) (r : TurnRec) (j m : Nat) : (s.setTurn x p r).slot j m = s.slot j m :=
  (SlotWrites.setTurn s x p r []).2 j m (by simp)

/-- An entry written is read again. -/
@[simp] theorem State.ent_setEnt (s : State) (x p : Nat) (e : SemEnt) : (s.setEnt x p e).ent x p = e := by
  unfold State.ent
  dsimp only
  rw [State.setEnt_slot]
  unfold State.setEnt
  dsimp only
  split
  · rw [State.mem_modMem]
    exact tget_tset_same SemEnt.init _ _ _
  · rw [State.mem_modMem]
    exact tget_tset_same SemEnt.init _ _ _
@[simp] theorem State.waitersOf_setEnt (s : State) (x p : Nat) (e : SemEnt) : (s.setEnt x p e).waitersOf x p = s.waitersOf x p := by
  unfold State.waitersOf State.setEnt
  dsimp only
  split <;> rw [State.mem_modMem]
@[simp] theorem State.turn_setTurn (s : State) (x p : Nat) (r : TurnRec) : (s.setTurn x p r).turn x p = r := by
  unfold State.turn
  rw [State.setTurn_slot]
  unfold State.setTurn
  rw [State.mem_modMem]
  exact tget_tset_same TurnRec.init _ _ _

/-- A change of a slot that keeps its kind and LINK keeps what it links to. -/
theorem State.ent_modSlot (s : State) (x p : Nat) {f : Slot → Slot} (hf : ∀ sl, (f sl).kind = sl.kind ∧ (f sl).link = sl.link) :
    (s.modSlot x p f).ent x p = s.ent x p := by
  obtain ⟨hk, hl⟩ := hf (s.slot x p)
  unfold State.ent
  dsimp only
  rw [State.slot_modSlot, hk, hl]
  unfold State.modSlot
  rw [State.mem_modMem]
@[simp] theorem State.waitersOf_modSlot (s : State) (x p n : Nat) (f : Slot → Slot) : (s.modSlot x n f).waitersOf x p = s.waitersOf x p := by
  unfold State.waitersOf State.modSlot
  rw [State.mem_modMem]

/-! ### The handle map (02 R41, R68) -/

theorem hmSet_regs (s : State) (i : Nat) (e : Word32) (si : Nat) : (s.hmSet i e si).regs = s.regs := rfl

/-- An entry goes to each station of a list. -/
theorem hmSet_foldl (l : List Nat) (i : Nat) (e : Word32) (s : State) :
    (l.foldl (fun s si => s.hmSet i e si) s) = { s with stns := (l.foldl (fun s si => s.hmSet i e si) s).stns } ∧
      (∀ j ∉ l, (l.foldl (fun s si => s.hmSet i e si) s).mem j = s.mem j) ∧
      (∀ j ∈ l, ∀ n, tget 0 ((l.foldl (fun s si => s.hmSet i e si) s).mem j).hmap n = if n = i then e else tget 0 (s.mem j).hmap n) ∧
      ∀ j m, (l.foldl (fun s si => s.hmSet i e si) s).slot j m = s.slot j m := by
  induction l generalizing s with
  | nil => exact ⟨rfl, fun _ _ => rfl, by simp, fun _ _ => rfl⟩
  | cons x l ih =>
    obtain ⟨heq, hout, hin, hslot⟩ := ih (s.hmSet i e x)
    have hx : ∀ j, j ≠ x → (s.hmSet i e x).mem j = s.mem j := fun j hj => State.mem_modMem_ne _ _ _ _ hj
    have hxx : (s.hmSet i e x).mem x = { s.mem x with hmap := tset 0 (s.mem x).hmap i e } := State.mem_modMem _ _ _
    simp only [List.foldl_cons]
    refine ⟨by rw [heq]; rfl, fun j hj => ?_, fun j hj n => ?_, fun j m => ?_⟩
    · obtain ⟨hjx, hjl⟩ : j ≠ x ∧ j ∉ l := by simpa using hj
      rw [hout j hjl, hx j hjx]
    · by_cases hjl : j ∈ l
      · rw [hin j hjl]
        by_cases hjx : j = x
        · rw [hjx, hxx, tget_tset]
          split_ifs <;> rfl
        · rw [hx j hjx]
      · obtain rfl : j = x := by simpa [hjl] using hj
        rw [hout j hjl, hxx, tget_tset]
    · rw [hslot]
      exact (SlotWrites.modMem s x [] (by intro; rfl)).2 j m (by simp)

/-! ### Turnstile masks (04 R131) -/

/-- Words put side by side, the first at the low end. -/
def packWords (f : Nat → Word32) (n : Nat) : Nat := (List.range n).foldl (fun a i => a + (f i).toNat * 2 ^ (32 * i)) 0

theorem packWords_succ (f : Nat → Word32) (n : Nat) : packWords f (n + 1) = 2 ^ (32 * n) * (f n).toNat + packWords f n := by
  simp only [packWords, List.range_succ, List.foldl_append, List.foldl_cons, List.foldl_nil]
  ring
theorem packWords_lt (f : Nat → Word32) (n : Nat) : packWords f n < 2 ^ (32 * n) := by
  induction n with
  | zero => simp [packWords]
  | succ n ih =>
    rw [packWords_succ]
    have hf := (f n).isLt
    calc 2 ^ (32 * n) * (f n).toNat + packWords f n < 2 ^ (32 * n) * ((f n).toNat + 1) := by rw [Nat.mul_add]; omega
      _ ≤ 2 ^ (32 * n) * 2 ^ 32 := Nat.mul_le_mul_left _ hf
      _ = 2 ^ (32 * (n + 1)) := by rw [← Nat.pow_add]; rfl

/-- Each word keeps its bits. -/
theorem packWords_testBit (f : Nat → Word32) {n i j : Nat} (hi : i < n) (hj : j < 32) : (packWords f n).testBit (32 * i + j) = (f i).getLsbD j := by
  induction n with
  | zero => omega
  | succ n ih =>
    rw [packWords_succ, Nat.testBit_two_pow_mul_add _ (packWords_lt f n)]
    by_cases h : i < n
    · rw [if_pos (by omega), ih h]
    · obtain rfl : i = n := by omega
      rw [if_neg (by omega), Nat.add_sub_cancel_left]
      rfl

/-- A word of the column masks, and one of the row masks, that the staged words make. -/
theorem cmask_of_packWords (f : Nat → Word32) {i : Nat} (hi : i < 8) : (BitVec.ofNat 256 (packWords f 12)).extractLsb' (32 * i) 32 = f i := by
  refine BitVec.eq_of_getLsbD_eq (fun j hj => ?_)
  rw [BitVec.getLsbD_extractLsb', BitVec.getLsbD_ofNat, packWords_testBit f (by omega) hj]
  simp [hj, show 32 * i + j < 256 by omega]
theorem rmask_of_packWords (f : Nat → Word32) {i : Nat} (hi : i < 4) :
    (BitVec.ofNat 128 (packWords f 12 / 2 ^ 256)).extractLsb' (32 * i) 32 = f (8 + i) := by
  refine BitVec.eq_of_getLsbD_eq (fun j hj => ?_)
  rw [BitVec.getLsbD_extractLsb', BitVec.getLsbD_ofNat, Nat.testBit_div_two_pow, show 32 * i + j + 256 = 32 * (8 + i) + j by omega,
    packWords_testBit f (by omega) hj]
  simp [hj, show 32 * i + j < 128 by omega]

/-- Why APPLY is refused. -/
def State.applyCode (s : State) (x pon : Nat) : Nat :=
  if (s.slot x pon).kind ≠ .turnstile then 1 else if (s.turn x pon).cur ≠ 0 ∨ (s.turn x pon).nxt ≠ 0 then 2 else if 32 ≤ (s.turn x pon).gang.toNat then 3 else 0

/-- ERR and CODE of a command's control register. -/
def State.codeWritten (s : State) (e c : Fld) (x code : Nat) : State := (s.putB e (code ≠ 0) x).put c code x

theorem codeWritten_regWrites (s : State) (e c : Fld) (x code : Nat) : RegWrites s (s.codeWritten e c x code) [e.key x 0, c.key x 0] :=
  ((RegWrites.refl s _).putB _ _ _ _ (by simp)).put _ _ _ _ (by simp)
@[simp] theorem codeWritten_stns (s : State) (e c : Fld) (x code : Nat) : (s.codeWritten e c x code).stns = s.stns := rfl
@[simp] theorem codeWritten_slot (s : State) (e c : Fld) (x code j m : Nat) : (s.codeWritten e c x code).slot j m = s.slot j m := rfl
theorem codeWritten_err (s : State) {e c : Fld} (x code : Nat) (hp : e.page = c.page) (hn : 32 * e.off + e.lo ≠ 32 * c.off + c.lo) (hl : 0 < e.len) :
    (s.codeWritten e c x code).flag e x = decide (code ≠ 0) := by
  rw [State.codeWritten, State.flag_put_ne _ _ _ _ _ _ _ _ (Fld.key_ne_of_place hp hn), State.flag_putB _ _ _ _ _ hl]
theorem codeWritten_get_ne (s : State) {e c g : Fld} (x code : Nat) (he : g.page = e.page ∧ 32 * g.off + g.lo ≠ 32 * e.off + e.lo)
    (hc : g.page = c.page ∧ 32 * g.off + g.lo ≠ 32 * c.off + c.lo) : (s.codeWritten e c x code).get g x = s.get g x := by
  rw [State.codeWritten, State.get_put_ne _ _ _ _ _ _ _ _ (Fld.key_ne_of_place hc.1 hc.2), State.get_putB_ne _ _ _ _ _ _ _ _ (Fld.key_ne_of_place he.1 he.2)]
theorem codeWritten_code (s : State) (e c : Fld) (x code : Nat) : (s.codeWritten e c x code).get c x = code % 2 ^ c.len := State.get_put _ _ _ _ _

theorem withBit_zero (w : Word32) : wbit (withBit w 0) 0 = true := by
  rw [wbit_withBit _ _ _ (by decide)]
  simp

/-- The turnstile record that the staged words make of `r`. -/
def State.appliedTurn (s t : State) (x : Nat) (r : TurnRec) : TurnRec :=
  { r with cmask := BitVec.ofNat 256 (packWords (fun i => tget 0 (s.stn x).stage i) 12)
           rmask := BitVec.ofNat 128 (packWords (fun i => tget 0 (s.stn x).stage i) 12 / 2 ^ 256)
           pkgBase := BitVec.ofNat 7 (t.get F.TS_BASE_PKG_BASE x) }

theorem appliedTurn_fields (s t : State) (x : Nat) (r : TurnRec) :
    (∀ i, i < 8 → (s.appliedTurn t x r).cmask.extractLsb' (32 * i) 32 = tget 0 (s.stn x).stage i) ∧
      (∀ i, i < 4 → (s.appliedTurn t x r).rmask.extractLsb' (32 * i) 32 = tget 0 (s.stn x).stage (8 + i)) ∧
      (s.appliedTurn t x r).pkgBase.toNat = t.get F.TS_BASE_PKG_BASE x ∧ (s.appliedTurn t x r).gang = r.gang := by
  unfold State.appliedTurn
  refine ⟨fun i hi => cmask_of_packWords _ hi, fun i hi => rmask_of_packWords _ hi, ?_, rfl⟩
  dsimp only
  rw [BitVec.toNat_ofNat]
  exact Nat.mod_eq_of_lt (t.get_lt F.TS_BASE_PKG_BASE x 0)

theorem tsCtl_eq (s : State) (x : Nat) (w : Word32) :
    s.tsCtl x (withBit w 0) =
      if s.applyCode x (s.get F.TS_SEL_PON x) ≠ 0 then s.codeWritten F.TS_CTL_ERR F.TS_CTL_CODE x (s.applyCode x (s.get F.TS_SEL_PON x))
      else (s.codeWritten F.TS_CTL_ERR F.TS_CTL_CODE x (s.applyCode x (s.get F.TS_SEL_PON x))).setTurn x (s.get F.TS_SEL_PON x)
        (State.appliedTurn s (s.codeWritten F.TS_CTL_ERR F.TS_CTL_CODE x (s.applyCode x (s.get F.TS_SEL_PON x))) x (s.turn x (s.get F.TS_SEL_PON x))) := by
  unfold State.tsCtl
  rw [if_neg (by simp [withBit_zero])]
  rfl

end Sys2Proof.Machine

/-! Proofs for 02: forced posts, flushes, lock words, ring bases and the orphan command. -/

namespace Sys2Proof.Machine

/-! ### An answer -/

/-- An answer adds a message or an output, and changes nothing else. -/
theorem answerFrom_eq (s : State) (src : Part) (rq : HReq) (st : Status) (val aux : Word64) (mods : BitVec 9) :
    ∃ n o, s.answerFrom src rq st val aux mods = { s with net := s.net ++ n, out := s.out ++ o } := by
  have hnone : ∃ n o, s = { s with net := s.net ++ n, out := s.out ++ o } := ⟨[], [], by simp⟩
  have hdrive : ∀ x, ∃ n o, s.drive x = { s with net := s.net ++ n, out := s.out ++ o } := fun x => by
    unfold State.drive
    split
    · exact hnone
    · exact ⟨[], [x], by simp⟩
  have hemit : ∀ d m, ∃ n o, s.emit src d m = { s with net := s.net ++ n, out := s.out ++ o } := fun d m => ⟨[⟨src, d, m⟩], [], by simp [State.emit]⟩
  unfold State.answerFrom
  split
  · unfold State.answerLoad
    dsimp only
    split
    · exact hdrive _
    · exact hdrive _
    · exact hdrive _
  · split
    · exact hnone
    · exact hemit _ _
    · split
      · exact hemit _ _
      · exact hemit _ _

theorem State.answer_eq (s : State) (si : Nat) (rq : HReq) (st : Status) (val : Word64) :
    ∃ n o, s.answer si rq st val = { s with net := s.net ++ n, out := s.out ++ o } := answerFrom_eq s _ rq st val 0 0
@[simp] theorem State.answer_stns (s : State) (si : Nat) (rq : HReq) (st : Status) (val : Word64) : (s.answer si rq st val).stns = s.stns := by
  obtain ⟨n, o, h⟩ := s.answer_eq si rq st val
  rw [h]
@[simp] theorem State.answer_regs (s : State) (si : Nat) (rq : HReq) (st : Status) (val : Word64) : (s.answer si rq st val).regs = s.regs := by
  obtain ⟨n, o, h⟩ := s.answer_eq si rq st val
  rw [h]

/-- A queue's request is completed. -/
theorem State.answer_queue (s : State) (si : Nat) (rq : HReq) (st : Status) (val : Word64) (hl : rq.load = none) (hp : rq.posted = false)
    (hw : ∃ h c q, rq.who = .queue h c q) :
    s.answer si rq st val = s.emit (.stn (BitVec.ofNat 2 si)) rq.who.part (.compl rq st val 0 0) := by
  obtain ⟨h, c, q, hq⟩ := hw
  simp [State.answer, State.answerFrom, hl, hp, hq]

/-! ### SEMF_CTL (05 R143) -/

/-- SEMF_CTL of station `x` holds the entry of `w` and the action. -/
def State.semfWritten (s : State) (x act : Nat) (w : Word32) : State := (s.put F.SEMF_CTL_ENTRY (bitsOf w.toNat 0 12) x).put F.SEMF_CTL_ACT act x

theorem semfWord_testBit (w : Word32) (act i : Nat) (hc : act < 4) :
    (semfWord w act).toNat.testBit i = if 12 ≤ i ∧ i < 14 then act.testBit (i - 12) else if i = 31 then true else w.toNat.testBit i := by
  by_cases hi : i < 32
  · have hmask : ∀ i < 32, (0x3000#32).getLsbD i = decide (12 ≤ i ∧ i < 14) := by decide
    have hgo : ∀ act < 4, ∀ i < 32, (2 ^ 31 + act * 2 ^ 12).testBit i = (if 12 ≤ i ∧ i < 14 then act.testBit (i - 12) else decide (i = 31)) := by decide
    change (semfWord w act).getLsbD i = _
    simp only [semfWord, BitVec.getLsbD_or, BitVec.getLsbD_and, BitVec.getLsbD_not, BitVec.getLsbD_ofNat, hi, hmask i hi, hgo act hc i hi, decide_true,
      Bool.true_and, BitVec.testBit_toNat]
    split_ifs with h1 h2
    · rw [decide_eq_true h1]; simp
    · simp [h2]
    · rw [decide_eq_false h1]; simp [h2]
  · have hw : ∀ v : Word32, v.toNat.testBit i = false := fun v =>
      Nat.testBit_lt_two_pow (lt_of_lt_of_le v.isLt (Nat.pow_le_pow_right (by decide) (by omega)))
    rw [hw, hw, if_neg (by omega), if_neg (by omega)]

theorem semfWord_act (w : Word32) {act : Nat} (hc : act < 4) : bitsOf (semfWord w act).toNat 12 2 = act := by
  rw [bitsOf_congr (b := act * 2 ^ 12) (fun i h1 h2 => by
    rw [semfWord_testBit w act i hc, if_pos (by omega), Nat.testBit_mul_two_pow]; simp [h1])]
  rw [bitsOf, Nat.shiftRight_eq_div_pow, Nat.mul_div_cancel _ (by decide)]
  exact Nat.mod_eq_of_lt hc

theorem writeFields_semfWord (s : State) (x : Nat) (w : Word32) {act : Nat} (hc : act < 4) :
    s.writeFields 0x08 x 0x0D0 0 (semfWord w act).toNat = s.semfWritten x act w := by
  have hfields : fieldsAt 0x08 0x0D0 = [F.SEMF_CTL_ENTRY, F.SEMF_CTL_ACT, F.SEMF_CTL_ERR, F.SEMF_CTL_DONE, F.SEMF_CTL_BUSY, F.SEMF_CTL_GO] := by decide +kernel
  have hentry : bitsOf (semfWord w act).toNat 0 12 = bitsOf w.toNat 0 12 :=
    bitsOf_congr (fun i h1 h2 => by rw [semfWord_testBit w act i hc, if_neg (by omega), if_neg (by omega)])
  rw [State.writeFields, hfields]
  simp only [List.foldl_cons, List.foldl_nil, State.writeField, F.SEMF_CTL_ENTRY, F.SEMF_CTL_ACT, F.SEMF_CTL_ERR, F.SEMF_CTL_DONE, F.SEMF_CTL_BUSY, F.SEMF_CTL_GO]
  rw [semfWord_act w hc, hentry]
  rfl

theorem semfWord_go (w : Word32) {act : Nat} (hc : act < 4) : wbit (semfWord w act) 31 = true := by
  rw [wbit, ← BitVec.testBit_toNat, semfWord_testBit w act 31 hc]; rfl

/-- DONE and ERR of SEMF_CTL. -/
def State.semfDone (s : State) (x : Nat) (err : Bool) : State := (s.putB F.SEMF_CTL_DONE true x).putB F.SEMF_CTL_ERR err x

def semfKeys (x : Nat) : List Nat := [F.SEMF_CTL_ENTRY.key x 0, F.SEMF_CTL_ACT.key x 0, F.SEMF_CTL_DONE.key x 0, F.SEMF_CTL_ERR.key x 0]

theorem semfWritten_regWrites (s : State) (x act : Nat) (w : Word32) : RegWrites s (s.semfWritten x act w) (semfKeys x) :=
  ((RegWrites.refl s _).put _ _ _ _ (by simp [semfKeys])).put _ _ _ _ (by simp [semfKeys])
theorem semfDone_regWrites (s : State) (x : Nat) (err : Bool) : RegWrites s (s.semfDone x err) (semfKeys x) :=
  ((RegWrites.refl s _).putB _ _ _ _ (by simp [semfKeys])).putB _ _ _ _ (by simp [semfKeys])
theorem semfDone_done (s : State) (x : Nat) (err : Bool) : (s.semfDone x err).flag F.SEMF_CTL_DONE x = true := by
  rw [State.semfDone, State.flag_putB_ne (h := by refine Fld.key_ne_of_place rfl ?_; decide), State.flag_putB _ _ _ _ _ (by decide)]
theorem semfDone_err (s : State) (x : Nat) (err : Bool) : (s.semfDone x err).flag F.SEMF_CTL_ERR x = err := State.flag_putB _ _ _ _ _ (by decide)
@[simp] theorem semfDone_stns (s : State) (x : Nat) (err : Bool) : (s.semfDone x err).stns = s.stns := by simp [State.semfDone]
@[simp] theorem semfDone_net (s : State) (x : Nat) (err : Bool) : (s.semfDone x err).net = s.net := by simp [State.semfDone]
@[simp] theorem semfWritten_stns (s : State) (x act : Nat) (w : Word32) : (s.semfWritten x act w).stns = s.stns := by simp [State.semfWritten]
@[simp] theorem semfWritten_net (s : State) (x act : Nat) (w : Word32) : (s.semfWritten x act w).net = s.net := by simp [State.semfWritten]

/-- Which slot an entry is linked to does not turn on registers. -/
theorem semfWritten_semSlot (s : State) (x act e : Nat) (w : Word32) : (s.semfWritten x act w).semSlot x e = s.semSlot x e := by
  obtain ⟨he, -⟩ := semfWritten_regWrites s x act w
  rw [he]
  rfl

section
variable (s : State) (x : Nat) (w : Word32)

theorem semfCtl_semfWord {act : Nat} (hc : act < 4) :
    (s.semSlot x (bitsOf w.toNat 0 12) = none → s.semfCtl x (semfWord w act) = (s.semfWritten x act w).semfDone x true) ∧
    ∀ pon, s.semSlot x (bitsOf w.toNat 0 12) = some pon → s.semfCtl x (semfWord w act) =
      if act = 1 then ((s.semfWritten x act w).semForce x pon (s.get F.SEMF_N_N x)).semfDone x false
      else if act = 2 then (((s.semfWritten x act w).waitersOf x pon).foldl (fun s w => s.endWaiter x w .flushed) (s.semfWritten x act w)).semfDone x false
      else (s.semfWritten x act w).semfDone x true := by
  have hact : (s.semfWritten x act w).get F.SEMF_CTL_ACT x = act := (State.get_put _ _ _ _ _).trans (Nat.mod_eq_of_lt hc)
  have hentry : (s.semfWritten x act w).get F.SEMF_CTL_ENTRY x = bitsOf w.toNat 0 12 := by
    rw [State.semfWritten, State.get_put_ne (h := by refine Fld.key_ne_of_place rfl ?_; decide), State.get_put]
    exact bitsOf_mod _ _ _
  have hn : (s.semfWritten x act w).get F.SEMF_N_N x = s.get F.SEMF_N_N x := by
    simp (disch := (refine Fld.key_ne_of_place rfl ?_; decide)) only [State.semfWritten, State.get_put_ne]
  unfold State.semfCtl
  rw [writeFields_semfWord s x w hc]
  dsimp only
  rw [semfWord_go w hc, hentry, hact, semfWritten_semSlot, hn]
  exact ⟨fun h => by rw [h]; rfl, fun pon h => by rw [h]; rfl⟩
end

/-- A forced post where nobody waits. -/
theorem semForce_noWaiters (s : State) (x pon n : Nat) (h : s.waitersOf x pon = []) :
    s.semForce x pon n = ((s.setEnt x pon { s.ent x pon with count := BitVec.ofNat 32 (min ((s.ent x pon).count.toNat + n) (2 ^ 31 - 1)) }).setSrc x pon
      (stationSrc x)) := by
  unfold State.semForce State.semGrants State.setSrc
  dsimp only
  rw [State.waitersOf_modSlot, State.waitersOf_setEnt, h]
  rfl

/-! ### A flush -/

theorem endWaiter_sem {s : State} {x : Nat} {y : Waiter} (st : Status) (hk : (s.slot x y.pon).kind = .sem) :
    s.endWaiter x y st = (s.dropWaiter x y.row).answer x y.rq st 0 := by
  simp [State.endWaiter, hk]

theorem mem_dropWaiter (s : State) (x r : Nat) : (s.dropWaiter x r).mem x = { s.mem x with waiters := (s.mem x).waiters.filter (fun w => w.row ≠ r) } :=
  State.mem_modMem _ _ _

/-- Waiters `ws` of a SEM are flushed: their records go, each is answered, and objects and registers stay. -/
theorem flush_foldl (x : Nat) (ws : List Waiter) (s : State) (hk : ∀ y ∈ ws, (s.slot x y.pon).kind = .sem) :
    (∀ j m, (ws.foldl (fun s y => s.endWaiter x y .flushed) s).slot j m = s.slot j m) ∧
      (∀ m, (ws.foldl (fun s y => s.endWaiter x y .flushed) s).ent x m = s.ent x m) ∧
      (∀ z ∈ ((ws.foldl (fun s y => s.endWaiter x y .flushed) s).mem x).waiters, z ∈ (s.mem x).waiters ∧ z ∉ ws) ∧
      (∀ i ∈ s.net, i ∈ (ws.foldl (fun s y => s.endWaiter x y .flushed) s).net) ∧
      ∀ y ∈ ws, y.rq.load = none → y.rq.posted = false → (∃ h c q, y.rq.who = .queue h c q) →
        (⟨.stn (BitVec.ofNat 2 x), y.rq.who.part, .compl y.rq .flushed 0 0 0⟩ : InFlight) ∈ (ws.foldl (fun s y => s.endWaiter x y .flushed) s).net := by
  induction ws generalizing s with
  | nil => exact ⟨fun _ _ => rfl, fun _ => rfl, fun z hz => ⟨hz, by simp⟩, fun _ h => h, by simp⟩
  | cons y ws ih =>
    have he : s.endWaiter x y .flushed = (s.dropWaiter x y.row).answer x y.rq .flushed 0 := endWaiter_sem .flushed (hk y (by simp))
    have hstns : (s.endWaiter x y .flushed).stns = (s.dropWaiter x y.row).stns := by rw [he, State.answer_stns]
    have hslot : ∀ j m, (s.endWaiter x y .flushed).slot j m = s.slot j m := fun j m =>
      (State.slot_congr _ _ hstns j m).trans ((SlotWrites.modMem s x [] (by intro; rfl)).2 j m (by simp))
    have hmem : (s.endWaiter x y .flushed).mem x = { s.mem x with waiters := (s.mem x).waiters.filter (fun w => w.row ≠ y.row) } :=
      (State.mem_congr _ _ hstns x).trans (mem_dropWaiter s x y.row)
    have hnet : ∀ i ∈ s.net, i ∈ (s.endWaiter x y .flushed).net := fun i hi => by
      obtain ⟨n, o, ha⟩ := (s.dropWaiter x y.row).answer_eq x y.rq .flushed 0
      rw [he, ha]
      exact List.mem_append_left _ hi
    obtain ⟨h1, h2, h3, h4, h5⟩ := ih (s.endWaiter x y .flushed) (fun z hz => by rw [hslot]; exact hk z (by simp [hz]))
    simp only [List.foldl_cons]
    refine ⟨fun j m => (h1 j m).trans (hslot j m), fun m => (h2 m).trans ?_, fun z hz => ?_, fun i hi => h4 i (hnet i hi), fun z hz hl hp hw => ?_⟩
    · simp [State.ent, hslot, hmem]
    · obtain ⟨hz1, hz2⟩ := h3 z hz
      rw [hmem] at hz1
      obtain ⟨hz1, hrow⟩ : z ∈ (s.mem x).waiters ∧ z.row ≠ y.row := by simpa using hz1
      exact ⟨hz1, by simpa [hz2] using fun e : z = y => hrow (by rw [e])⟩
    · rcases List.mem_cons.mp hz with rfl | hz
      · refine h4 _ ?_
        rw [he, State.answer_queue _ _ _ _ _ hl hp hw]
        exact List.mem_append_right _ (by simp)
      · exact h5 z hz hl hp hw

/-! ### MLOCK_CTL and RING_CTL (05 R149, 07 R217) -/

/-- Why MLOCK_CTL is refused. -/
def State.mlockCode (s : State) (x pon : Nat) : Nat :=
  if (s.slot x pon).kind ≠ .mlock then 1 else if (s.ent x pon).held ∨ !(s.waitersOf x pon).isEmpty then 2 else 0

theorem mlockCtl_eq (s : State) (x : Nat) (w : Word32) :
    s.mlockCtl x (withBit w 0) =
      let t := s.codeWritten F.MLOCK_CTL_ERR F.MLOCK_CTL_CODE x (s.mlockCode x (s.get F.MLOCK_PON_PON x))
      if s.mlockCode x (s.get F.MLOCK_PON_PON x) ≠ 0 then t
      else (t.setVal x (s.get F.MLOCK_PON_PON x) (BitVec.ofNat 64 (t.get64 F.MLOCK_ADDR_LO_ADDR F.MLOCK_ADDR_HI_ADDR x))).mlockWrite x (s.get F.MLOCK_PON_PON x) := by
  unfold State.mlockCtl
  rw [if_neg (by simp [withBit_zero])]
  rfl

/-- Why RING_CTL is refused. -/
def State.ringCode (s : State) (x pon : Nat) : Nat :=
  if (s.slot x pon).kind ≠ .ring then 1
  else if s.ringR x pon ≠ s.ringL x pon ∨ (List.range 4).any (fun i => !(s.waitersOf x (pon + i)).isEmpty) then 2 else 0

theorem ringCtl_eq (s : State) (x : Nat) (w : Word32) :
    s.ringCtl x (withBit w 0) =
      let t := s.codeWritten F.RING_CTL_ERR F.RING_CTL_CODE x (s.ringCode x (s.get F.RING_PON_PON x))
      if s.ringCode x (s.get F.RING_PON_PON x) ≠ 0 then t
      else t.setVal x (s.get F.RING_PON_PON x + 3) (BitVec.ofNat 64 (t.get64 F.RING_BASE_LO_ADDR F.RING_BASE_HI_ADDR x)) := by
  unfold State.ringCtl
  rw [if_neg (by simp [withBit_zero])]
  rfl

/-- Fields of a pair of 32-bit halves make a 64-bit number. -/
theorem State.get64_lt (s : State) (lo hi : Fld) (i n : Nat) (hl : lo.lo + lo.len ≤ 32) (hh : hi.len ≤ 32) : s.get64 lo hi i n < 2 ^ 64 := by
  have h1 : s.get lo i n * 2 ^ lo.lo < 2 ^ 32 :=
    calc s.get lo i n * 2 ^ lo.lo < 2 ^ lo.len * 2 ^ lo.lo := Nat.mul_lt_mul_of_pos_right (s.get_lt lo i n) (Nat.two_pow_pos _)
      _ = 2 ^ (lo.len + lo.lo) := (Nat.pow_add _ _ _).symm
      _ ≤ 2 ^ 32 := Nat.pow_le_pow_right (by decide) (by omega)
  have h2 : s.get hi i n < 2 ^ 32 := lt_of_lt_of_le (s.get_lt hi i n) (Nat.pow_le_pow_right (by decide) hh)
  unfold State.get64
  omega

/-- The write of a memory word is presented at its line. -/
theorem memWrite64_queued (s : State) (p : Nat) (a v : Word64) (why : MemTag) :
    ∃ r ∈ ((s.memWrite64 p a v why).port p).queue, r.wr = true ∧ r.why = why ∧ r.line.toNat = a.toNat / 64 := by
  refine ⟨⟨true, a.extractLsb' 6 58, BitVec.ofNat 64 (0xFF * 2 ^ (a.toNat % 64)), BitVec.ofNat 512 (v.toNat * 2 ^ (8 * (a.toNat % 64))), 0, why, 0⟩, ?_, rfl, rfl, ?_⟩
  · have hq : (s.memWrite64 p a v why).port p = { s.port p with queue := (s.port p).queue ++
        [⟨true, a.extractLsb' 6 58, BitVec.ofNat 64 (0xFF * 2 ^ (a.toNat % 64)), BitVec.ofNat 512 (v.toNat * 2 ^ (8 * (a.toNat % 64))), 0, why, 0⟩] } :=
      tget_tset_same Port.init _ _ _
    rw [hq]
    simp
  · have ha := a.isLt
    rw [BitVec.extractLsb'_toNat, Nat.shiftRight_eq_div_pow]
    omega

@[simp] theorem mlockWrite_regs (s : State) (x pon : Nat) : (s.mlockWrite x pon).regs = s.regs := by
  unfold State.mlockWrite
  dsimp only
  split <;> rfl
@[simp] theorem mlockWrite_stns (s : State) (x pon : Nat) : (s.mlockWrite x pon).stns = s.stns := by
  unfold State.mlockWrite
  dsimp only
  split <;> rfl

/-! ### The orphan command (05 R157) -/

@[simp] theorem State.tx_stns (s : State) (d : BitVec 9) (vc : BitVec 3) (ty : BitVec 4) (l : List (BitVec 128)) (f : Bool) (o : List (BitVec 8)) :
    (s.tx d vc ty l f o).stns = s.stns := rfl
@[simp] theorem sendNote_stns (s : State) (x p : Nat) (e : SemEnt) (r : Bool) (prio : BitVec 2) : (s.sendNote x p e r prio).stns = s.stns := by
  unfold State.sendNote
  dsimp only
  split <;> simp
@[simp] theorem noteCount_stns (s : State) (x : Nat) : (s.noteCount x).stns = s.stns := by simp [State.noteCount]

/-- REVERT leaves the waiters, and of the entry all but BOOSTED. -/
theorem revert_keeps (s : State) (x p : Nat) : ((s.revert x p).ent x p).count = (s.ent x p).count ∧ (s.revert x p).waitersOf x p = s.waitersOf x p := by
  unfold State.revert
  dsimp only
  split
  · exact ⟨rfl, rfl⟩
  · rw [State.ent_setEnt, State.waitersOf_setEnt]
    refine ⟨rfl, ?_⟩
    split
    · exact State.waitersOf_congr (by simp) x p
    · exact State.waitersOf_congr (by simp) x p

theorem unhold_keeps (s : State) (x p : Nat) : ((s.unhold x p).ent x p).held = false ∧ ((s.unhold x p).ent x p).count = (s.ent x p).count ∧
    (s.unhold x p).waitersOf x p = s.waitersOf x p := by
  obtain ⟨hc, hw⟩ := revert_keeps s x p
  unfold State.unhold
  dsimp only
  rw [State.ent_setEnt, State.waitersOf_setEnt]
  exact ⟨rfl, hc, hw⟩

/-- A lock that nobody waits for is free and orphaned. -/
theorem orphanLock_noWaiters (s : State) (x p : Nat) (h : s.waitersOf x p = []) : ((s.orphanLock x p).ent x p).held = false ∧
    ((s.orphanLock x p).ent x p).orphan = true ∧ ((s.orphanLock x p).ent x p).count = (s.ent x p).count := by
  obtain ⟨hh, hc, hw⟩ := unhold_keeps s x p
  have hg : (s.unhold x p).grantHead x p true false (s.ent x p).holder = (s.unhold x p, none) := by
    unfold State.grantHead
    rw [hw, h]
  have he : (s.orphanLock x p).ent x p = { (s.unhold x p).ent x p with orphan := true } := by
    unfold State.orphanLock State.lockAccess
    dsimp only
    rw [hg]
    dsimp only
    split
    · exact State.ent_setEnt _ _ _ _
    · rw [State.ent_congr (mlockWrite_stns _ _ _), State.ent_setEnt]
  rw [he]
  dsimp only
  exact ⟨hh, rfl, hc⟩

theorem orphCtl_eq (s : State) (w : Word32) : s.orphCtl (withBit w 0) =
    (s.orphanAll (s.get F.ORPH_ID_HOLDER) (s.get F.ORPH_ID_PAV) (s.flag F.ORPH_ID_ANY)).2.put F.ORPH_CTL_COUNT
      (s.orphanAll (s.get F.ORPH_ID_HOLDER) (s.get F.ORPH_ID_PAV) (s.flag F.ORPH_ID_ANY)).1 := by
  unfold State.orphCtl
  rw [if_neg (by simp [withBit_zero])]

end Sys2Proof.Machine

/-! Proofs for 02: the handle map and the drift pairs. -/

namespace Sys2Proof.Machine

/-! ### HM_DATA (02 R41, R46, R68) -/

/-- Station `si` recovers: it takes no entry of the handle map yet. -/
def State.hmBusy (s : State) (si : Nat) : Bool := s.stopped (.stn (BitVec.ofNat 2 si))
/-- The entry goes to the stations that serve. -/
def State.hmSent (s : State) (w : Word32) : State :=
  ((List.range 4).filter (fun si => !s.hmBusy si)).foldl (fun t si => t.hmSet (s.get F.HM_IDX_IDX) (w &&& 0x07FFFFFF) si) s
/-- The entry waits for the others. -/
def State.hmHeld (s : State) (w : Word32) : State :=
  if (List.range 4).any s.hmBusy then (s.hmSent w).modJct (fun j => { j with hmWait := some (s.get F.HM_IDX_IDX, w &&& 0x07FFFFFF) }) else s.hmSent w

theorem hmWrite_eq (s : State) (w : Word32) :
    s.hmWrite w = if s.flag F.HM_IDX_INC then (s.hmHeld w).put F.HM_IDX_IDX (s.get F.HM_IDX_IDX + 1) else s.hmHeld w := rfl

section
variable (s : State) (w : Word32)

theorem hmSent_eq : s.hmSent w = { s with stns := (s.hmSent w).stns } := (hmSet_foldl _ _ _ s).1
theorem hmSent_served {si : Nat} (hi : si < 4) (h : s.hmBusy si = false) (n : Nat) :
    tget 0 ((s.hmSent w).mem si).hmap n = if n = s.get F.HM_IDX_IDX then w &&& 0x07FFFFFF else tget 0 (s.mem si).hmap n :=
  (hmSet_foldl _ _ _ s).2.2.1 si (by simp [hi, h]) n
theorem hmSent_busy {si : Nat} (h : s.hmBusy si = true) : (s.hmSent w).mem si = s.mem si := (hmSet_foldl _ _ _ s).2.1 si (by simp [h])
theorem hmSent_slot (i n : Nat) : (s.hmSent w).slot i n = s.slot i n := (hmSet_foldl _ _ _ s).2.2.2 i n

theorem hmHeld_stns : (s.hmHeld w).stns = (s.hmSent w).stns := by
  unfold State.hmHeld
  split <;> rfl
theorem hmHeld_regs : (s.hmHeld w).regs = s.regs := by
  have h : (s.hmSent w).regs = s.regs := by rw [hmSent_eq]
  unfold State.hmHeld
  split <;> exact h
theorem hmHeld_busy {si : Nat} (hi : si < 4) (h : s.hmBusy si = true) : (s.hmHeld w).jct.hmWait = some (s.get F.HM_IDX_IDX, w &&& 0x07FFFFFF) := by
  have hany : (List.range 4).any s.hmBusy = true := List.any_eq_true.mpr ⟨si, List.mem_range.mpr hi, h⟩
  rw [State.hmHeld, if_pos hany]
  rfl
theorem hmHeld_served (h : ∀ si, si < 4 → s.hmBusy si = false) : (s.hmHeld w).jct = s.jct := by
  have hany : ¬ (List.range 4).any s.hmBusy = true := by simpa using h
  rw [State.hmHeld, if_neg hany, hmSent_eq]
theorem hmHeld_su : (s.hmHeld w).su = s.su ∧ (s.hmHeld w).out = s.out := by
  have h : (s.hmSent w).su = s.su ∧ (s.hmSent w).out = s.out := by
    rw [hmSent_eq]
    exact ⟨rfl, rfl⟩
  unfold State.hmHeld
  split <;> exact h

theorem hmWrite_stns : (s.hmWrite w).stns = (s.hmSent w).stns := by
  rw [hmWrite_eq]
  split <;> exact hmHeld_stns s w
theorem hmWrite_jct : (s.hmWrite w).jct = (s.hmHeld w).jct := by
  rw [hmWrite_eq]
  split <;> rfl
theorem hmWrite_su : (s.hmWrite w).su = s.su ∧ (s.hmWrite w).out = s.out := by
  rw [hmWrite_eq]
  split <;> exact hmHeld_su s w
theorem hmWrite_regs : RegsBut s (s.hmWrite w) [F.HM_IDX_IDX.key 0 0] := by
  have h : RegsBut s (s.hmHeld w) [F.HM_IDX_IDX.key 0 0] := .of_regs (hmHeld_regs s w) _
  rw [hmWrite_eq]
  split
  · exact h.put _ _ _ _ (by simp)
  · exact h
theorem hmWrite_idx : (s.hmWrite w).get F.HM_IDX_IDX = if s.flag F.HM_IDX_INC then (s.get F.HM_IDX_IDX + 1) % 2 ^ 16 else s.get F.HM_IDX_IDX := by
  rw [hmWrite_eq]
  split
  · exact State.get_put _ _ _ _ _
  · exact State.get_congr _ _ (hmHeld_regs s w) _ _ _
end

/-- A write of HM_DATA waits at the port while a station has not taken the last one. -/
theorem handleMapWrite_waits {s : State} (w : Word32) (hp : s.parked = false) (hl : s.flag F.PAGE_LOCK_LOCK 3 = false) (hw : s.jct.hmWait.isSome = true) :
    s.quiet.cfgAccess 0x03 0x0D4 (fun s => s.hmWrite w) = s.quiet := by
  have hp' : s.quiet.parked = false := hp
  have hl' : s.quiet.flag F.PAGE_LOCK_LOCK 3 = false := hl
  have hport : s.quiet.portWaits 0x03 0x0D4 = true := by simpa [State.portWaits] using hw
  have hstn : pageStn 0x03 = none := by decide
  have hhalt : pageHalt 0x03 = none := by decide
  unfold State.cfgAccess
  dsimp only
  rw [hstn, hhalt, if_neg (by simp [hp']), if_neg (by decide), if_neg (by simp), if_neg (by simp), if_neg (by simp [hl']), if_neg (by simp), if_pos hport]

/-! ### Drift pairs -/

/-- A command on a drift pair changes that pair. -/
theorem driftCommand {x : BitVec 2} {off : BitVec 12} {w : Word32} {s : State} {g : Drift → Drift} (hoff : off.toNat ∈ [0x0A4, 0x0A8, 0x0AC, 0x0B0])
    (ho : s.cfgOpen (corePage x) off.toNat = true)
    (hg : s.quiet.driftWrite x.toNat off.toNat w = s.quiet.modDrift x.toNat (s.get F.DRIFT_SEL_PAIR x.toNat) g) :
    ∃ t, exec (.driftConfigWrite x off w) s = .next t ∧ t.regs = s.regs ∧ SlotsBut s t x [] ∧
      t.drift x.toNat (s.get F.DRIFT_SEL_PAIR x.toNat) = g (s.drift x.toNat (s.get F.DRIFT_SEL_PAIR x.toNat)) := by
  have hexec : exec (.driftConfigWrite x off w) s = .next (s.afterCfg (s.quiet.driftWrite x.toNat off.toNat w)) := by
    change execDriftConfigWrite x off w s = _
    rw [execDriftConfigWrite, if_pos hoff, afterCfg_of_cfgOpen (fun s => s.driftWrite x.toNat off.toNat w) ho]
  refine ⟨_, hexec, ?_, fun j m hn => ?_, ?_⟩
  · rw [State.afterCfg_regs, hg]
    rfl
  · rw [State.afterCfg_slot, hg]
    exact (SlotWrites.modMem s.quiet x.toNat [] (by intro; rfl)).2 j m hn
  · rw [State.afterCfg_drift, hg]
    unfold State.drift State.modDrift
    rw [State.mem_modMem]
    exact tget_tmod_same Drift.init _ _ _

/-- The pair after a write that turns it on while it is off. -/
def driftTurnedOn (s : State) (x : Nat) (w : Word32) (d : Drift) : Drift :=
  if s.driftOk x { d with k := w.extractLsb' 2 16, ts := w.extractLsb' 18 14 } then
    { d with k := w.extractLsb' 2 16, ts := w.extractLsb' 18 14, mode := w.extractLsb' 0 2, bounds := 0 }
  else { d with k := w.extractLsb' 2 16, ts := w.extractLsb' 18 14, refused := true }

theorem driftWrite_turnOn {s : State} {x : Nat} {w : Word32} (hm : (s.drift x (s.get F.DRIFT_SEL_PAIR x)).mode = 0) (hw : w.extractLsb' 0 2 ∈ ([1, 2] : List (BitVec 2))) :
    s.driftWrite x 0x0A8 w = s.modDrift x (s.get F.DRIFT_SEL_PAIR x) (fun _ => driftTurnedOn s x w (s.drift x (s.get F.DRIFT_SEL_PAIR x))) := by
  obtain ⟨hw0, hw3⟩ : w.extractLsb' 0 2 ≠ 0#2 ∧ w.extractLsb' 0 2 ≠ 3#2 := by
    have : ∀ m ∈ ([1, 2] : List (BitVec 2)), m ≠ 0#2 ∧ m ≠ 3#2 := by decide
    exact this _ hw
  unfold State.driftWrite driftTurnedOn
  dsimp only
  rw [if_neg (by decide), if_neg (by decide), if_neg (by decide), if_pos rfl]
  generalize s.drift x (s.get F.DRIFT_SEL_PAIR x) = d at hm ⊢
  rw [if_pos hm]
  by_cases hok : s.driftOk x { d with k := w.extractLsb' 2 16, ts := w.extractLsb' 18 14 } = true
  · have hcond : (decide (w.extractLsb' 0 2 = 0) || (decide (w.extractLsb' 0 2 ≠ 3) &&
        s.driftOk x { d with k := w.extractLsb' 2 16, ts := w.extractLsb' 18 14 })) = true := by simp [hw3, hok]
    rw [hcond, if_pos hok]
    simp [hm, hw0]
  · have hcond : (decide (w.extractLsb' 0 2 = 0) || (decide (w.extractLsb' 0 2 ≠ 3) &&
        s.driftOk x { d with k := w.extractLsb' 2 16, ts := w.extractLsb' 18 14 })) = false := by simp [hw0, hok]
    rw [hcond, if_neg hok]
    simp [hm]

end Sys2Proof.Machine

/-! Proofs for 02: the obligation on the commands of a station's objects. -/

namespace Sys2Proof.Machine

@[simp] theorem State.quiet_get64 (s : State) (lo hi : Fld) (i n : Nat) : s.quiet.get64 lo hi i n = s.get64 lo hi i n := rfl

theorem codeWritten_get64 (s : State) {e c lo hi : Fld} (x code : Nat) (hle : lo.page = e.page ∧ 32 * lo.off + lo.lo ≠ 32 * e.off + e.lo)
    (hlc : lo.page = c.page ∧ 32 * lo.off + lo.lo ≠ 32 * c.off + c.lo) (hhe : hi.page = e.page ∧ 32 * hi.off + hi.lo ≠ 32 * e.off + e.lo)
    (hhc : hi.page = c.page ∧ 32 * hi.off + hi.lo ≠ 32 * c.off + c.lo) : (s.codeWritten e c x code).get64 lo hi x = s.get64 lo hi x := by
  unfold State.get64
  rw [codeWritten_get_ne s x code hle hlc, codeWritten_get_ne s x code hhe hhc]
theorem ofNat_get64 (s : State) (lo hi : Fld) (i n : Nat) (hl : lo.lo + lo.len ≤ 32) (hh : hi.len ≤ 32) :
    (BitVec.ofNat 64 (s.get64 lo hi i n)).toNat = s.get64 lo hi i n := by
  rw [BitVec.toNat_ofNat]
  exact Nat.mod_eq_of_lt (s.get64_lt lo hi i n hl hh)

theorem mlockCode_zero {s : State} {x pon : Nat} (hk : (s.slot x pon).kind = .mlock) (hh : (s.ent x pon).held = false) (hw : s.waitersOf x pon = []) :
    s.mlockCode x pon = 0 := by
  rw [State.mlockCode, if_neg (by simp [hk]), if_neg (by simp [hh, hw])]

/-! ### Each command after its port -/

theorem codeWritten_only {s : State} {e c : Fld} {x code : Nat} :
    OnlyRegs s (s.afterCfg (s.quiet.codeWritten e c x code)) [e.key x 0, c.key x 0] :=
  ((codeWritten_regWrites s.quiet e c x code).answered).2

section
variable {x : BitVec 2} {w : Word32} {s : State}

theorem turnstileApply_exec (ho : s.cfgOpen (corePage x) 0x090 = true) :
    exec (.turnstileApply x w) s = .next (s.afterCfg (s.quiet.tsCtl x.toNat (withBit w 0))) :=
  congrArg Host.Outcome.next (afterCfg_of_cfgOpen (fun s => s.tsCtl x.toNat (withBit w 0)) ho)
theorem semForcedPost_exec (ho : s.cfgOpen (corePage x) 0x0D0 = true) :
    exec (.semForcedPost x w) s = .next (s.afterCfg (s.quiet.semfCtl x.toNat (semfWord w 1))) :=
  congrArg Host.Outcome.next (afterCfg_of_cfgOpen (fun s => s.semfCtl x.toNat (semfWord w 1)) ho)
theorem semFlush_exec (ho : s.cfgOpen (corePage x) 0x0D0 = true) :
    exec (.semFlush x w) s = .next (s.afterCfg (s.quiet.semfCtl x.toNat (semfWord w 2))) :=
  congrArg Host.Outcome.next (afterCfg_of_cfgOpen (fun s => s.semfCtl x.toNat (semfWord w 2)) ho)
theorem mlockSet_exec (ho : s.cfgOpen (corePage x) 0x0CC = true) :
    exec (.mlockSet x w) s = .next (s.afterCfg (s.quiet.mlockCtl x.toNat (withBit w 0))) :=
  congrArg Host.Outcome.next (afterCfg_of_cfgOpen (fun s => s.mlockCtl x.toNat (withBit w 0)) ho)
theorem ringBaseSet_exec (ho : s.cfgOpen (corePage x) 0x0EC = true) :
    exec (.ringBaseSet x w) s = .next (s.afterCfg (s.quiet.ringCtl x.toNat (withBit w 0))) :=
  congrArg Host.Outcome.next (afterCfg_of_cfgOpen (fun s => s.ringCtl x.toNat (withBit w 0)) ho)
theorem orphanCommand_exec (ho : s.cfgOpen 0x03 0x11C = true) :
    exec (.orphanCommand w) s = .next (s.afterCfg (s.quiet.orphCtl (withBit w 0))) :=
  congrArg Host.Outcome.next (afterCfg_of_cfgOpen (fun s => s.orphCtl (withBit w 0)) ho)

/-! ### Masks -/

theorem turnstileApply_applied (ho : s.cfgOpen (corePage x) 0x090 = true) (hc : s.applyCode x.toNat (s.get F.TS_SEL_PON x.toNat) = 0) :
    ∃ t, exec (.turnstileApply x w) s = .next t ∧ t.flag F.TS_CTL_ERR x.toNat = false ∧
      (∀ i, i < 8 → (t.turn x.toNat (s.get F.TS_SEL_PON x.toNat)).cmask.extractLsb' (32 * i) 32 = tget 0 (s.stn x.toNat).stage i) ∧
      (∀ i, i < 4 → (t.turn x.toNat (s.get F.TS_SEL_PON x.toNat)).rmask.extractLsb' (32 * i) 32 = tget 0 (s.stn x.toNat).stage (8 + i)) ∧
      (t.turn x.toNat (s.get F.TS_SEL_PON x.toNat)).pkgBase.toNat = s.get F.TS_BASE_PKG_BASE x.toNat ∧
      (t.turn x.toNat (s.get F.TS_SEL_PON x.toNat)).gang = (s.turn x.toNat (s.get F.TS_SEL_PON x.toNat)).gang ∧ SlotsBut s t x [] := by
  have hc' : s.quiet.applyCode x.toNat (s.quiet.get F.TS_SEL_PON x.toNat) = 0 := hc
  have hwork := tsCtl_eq s.quiet x.toNat w
  rw [hc', if_neg (by simp)] at hwork
  have herr := codeWritten_err s.quiet (e := F.TS_CTL_ERR) (c := F.TS_CTL_CODE) x.toNat 0 rfl (by decide) (by decide)
  have hbase := codeWritten_get_ne s.quiet (e := F.TS_CTL_ERR) (c := F.TS_CTL_CODE) (g := F.TS_BASE_PKG_BASE) x.toNat 0 (by decide) (by decide)
  have hstns := codeWritten_stns s.quiet F.TS_CTL_ERR F.TS_CTL_CODE x.toNat 0
  generalize s.quiet.codeWritten F.TS_CTL_ERR F.TS_CTL_CODE x.toNat 0 = u at hwork herr hbase hstns
  obtain ⟨hcm, hrm, hpkg, hgang⟩ := appliedTurn_fields s.quiet u x.toNat (s.quiet.turn x.toNat (s.quiet.get F.TS_SEL_PON x.toNat))
  generalize s.quiet.appliedTurn u x.toNat (s.quiet.turn x.toNat (s.quiet.get F.TS_SEL_PON x.toNat)) = r at hwork hcm hrm hpkg hgang
  rw [State.quiet_get] at hwork
  have hturn : (s.afterCfg (u.setTurn x.toNat (s.get F.TS_SEL_PON x.toNat) r)).turn x.toNat (s.get F.TS_SEL_PON x.toNat) = r := by
    rw [State.afterCfg_turn, State.turn_setTurn]
  refine ⟨_, (turnstileApply_exec ho).trans (by rw [hwork]), ?_, ?_, ?_, ?_, ?_, ?_⟩
  · have hflag : (u.setTurn x.toNat (s.get F.TS_SEL_PON x.toNat) r).flag F.TS_CTL_ERR x.toNat = u.flag F.TS_CTL_ERR x.toNat := State.flag_congr _ _ rfl _ _ _
    rw [State.afterCfg_flag, hflag, herr]
    rfl
  · intro i hi
    rw [hturn]
    exact hcm i hi
  · intro i hi
    rw [hturn]
    exact hrm i hi
  · rw [hturn, hpkg, hbase]
    rfl
  · rw [hturn]
    exact hgang
  · intro j m _
    rw [State.afterCfg_slot, State.setTurn_slot, State.slot_congr s u hstns]

theorem turnstileApply_refused (ho : s.cfgOpen (corePage x) 0x090 = true) (hc : s.applyCode x.toNat (s.get F.TS_SEL_PON x.toNat) ≠ 0) :
    ∃ t, exec (.turnstileApply x w) s = .next t ∧ t.flag F.TS_CTL_ERR x.toNat = true ∧
      t.get F.TS_CTL_CODE x.toNat = s.applyCode x.toNat (s.get F.TS_SEL_PON x.toNat) % 2 ^ 3 ∧ OnlyRegs s t [F.TS_CTL_ERR.key x.toNat 0, F.TS_CTL_CODE.key x.toNat 0] := by
  have hwork : s.quiet.tsCtl x.toNat (withBit w 0) =
      s.quiet.codeWritten F.TS_CTL_ERR F.TS_CTL_CODE x.toNat (s.applyCode x.toNat (s.get F.TS_SEL_PON x.toNat)) := by
    rw [tsCtl_eq]
    exact if_pos hc
  refine ⟨_, (turnstileApply_exec ho).trans (by rw [hwork]), ?_, ?_, codeWritten_only⟩
  · rw [State.afterCfg_flag, codeWritten_err (e := F.TS_CTL_ERR) (c := F.TS_CTL_CODE) (hp := rfl) (hn := by decide) (hl := by decide)]
    exact decide_eq_true hc
  · rw [State.afterCfg_get, codeWritten_code]
    rfl

/-! ### Semaphores -/

theorem semForcedPost_posted {pon : Nat} (ho : s.cfgOpen (corePage x) 0x0D0 = true) (hs : s.semSlot x.toNat (bitsOf w.toNat 0 12) = some pon)
    (hw : s.waitersOf x.toNat pon = []) :
    ∃ t, exec (.semForcedPost x w) s = .next t ∧ CfgAnswered s t ∧
      (t.ent x.toNat pon).count.toNat = min ((s.ent x.toNat pon).count.toNat + s.get F.SEMF_N_N x.toNat) (2 ^ 31 - 1) ∧
      (t.slot x.toNat pon).lastSrc = stationSrc x.toNat ∧ t.flag F.SEMF_CTL_DONE x.toNat = true ∧ t.flag F.SEMF_CTL_ERR x.toNat = false ∧
      SlotsBut s t x [pon] ∧ RegsBut s t (semfKeys x.toNat) := by
  have hwork := (semfCtl_semfWord s.quiet x.toNat w (act := 1) (by decide)).2 pon hs
  rw [if_pos rfl, State.quiet_get] at hwork
  have hu : (s.quiet.semfWritten x.toNat 1 w).stns = s.stns := semfWritten_stns s.quiet x.toNat 1 w
  have hout : (s.quiet.semfWritten x.toNat 1 w).out = [] ∧ (s.quiet.semfWritten x.toNat 1 w).su = s.su := ⟨rfl, rfl⟩
  have hregs : RegsBut s (s.quiet.semfWritten x.toNat 1 w) (semfKeys x.toNat) := (semfWritten_regWrites s.quiet x.toNat 1 w).2
  generalize s.quiet.semfWritten x.toNat 1 w = u at hwork hu hout hregs
  rw [semForce_noWaiters u x.toNat pon _ ((State.waitersOf_congr hu _ _).trans hw), State.ent_congr hu] at hwork
  generalize hn : min ((s.ent x.toNat pon).count.toNat + s.get F.SEMF_N_N x.toNat) (2 ^ 31 - 1) = n at hwork ⊢
  have hv : SlotWrites u ((u.setEnt x.toNat pon { s.ent x.toNat pon with count := BitVec.ofNat 32 n }).setSrc x.toNat pon (stationSrc x.toNat)) x.toNat [pon] :=
    (SlotWrites.setEnt u x.toNat pon _ _).trans (.modSlot _ _ _ _ (by simp))
  have hent : ((u.setEnt x.toNat pon { s.ent x.toNat pon with count := BitVec.ofNat 32 n }).setSrc x.toNat pon (stationSrc x.toNat)).ent x.toNat pon =
      { s.ent x.toNat pon with count := BitVec.ofNat 32 n } :=
    (State.ent_modSlot _ x.toNat pon (by intro; exact ⟨rfl, rfl⟩)).trans (State.ent_setEnt _ _ _ _)
  have hsrc : (((u.setEnt x.toNat pon { s.ent x.toNat pon with count := BitVec.ofNat 32 n }).setSrc x.toNat pon (stationSrc x.toNat)).slot x.toNat pon).lastSrc =
      stationSrc x.toNat := by rw [State.setSrc, State.slot_modSlot]
  generalize (u.setEnt x.toNat pon { s.ent x.toNat pon with count := BitVec.ofNat 32 n }).setSrc x.toNat pon (stationSrc x.toNat) = v at hwork hv hent hsrc
  obtain ⟨hveq, hvslot⟩ := hv
  have hvregs : v.regs = u.regs := by rw [hveq]
  refine ⟨_, (semForcedPost_exec ho).trans (by rw [hwork]), ?_, ?_, ?_, ?_, ?_, ?_, ?_⟩
  · refine CfgAnswered.keep_drive s _ ?_ ?_
    · rw [State.semfDone, State.putB_out, State.putB_out, hveq]
      exact hout.1
    · rw [State.semfDone, State.putB_su, State.putB_su, hveq]
      exact hout.2
  · rw [State.afterCfg_ent, State.ent_congr (semfDone_stns v x.toNat false), hent]
    dsimp only
    rw [BitVec.toNat_ofNat]
    exact Nat.mod_eq_of_lt (by omega)
  · rw [State.afterCfg_slot, State.slot_congr _ _ (semfDone_stns v x.toNat false), hsrc]
  · rw [State.afterCfg_flag, semfDone_done]
  · rw [State.afterCfg_flag, semfDone_err]
  · intro j m hn
    rw [State.afterCfg_slot, State.slot_congr _ _ (semfDone_stns v x.toNat false), hvslot j m hn, State.slot_congr s u hu]
  · exact ((hregs.congr hvregs).trans (semfDone_regWrites v x.toNat false).2).congr (State.afterCfg_regs _ _)

theorem semf_none {act : Nat} (hact : act < 4) (hs : s.semSlot x.toNat (bitsOf w.toNat 0 12) = none) :
    (s.afterCfg (s.quiet.semfCtl x.toNat (semfWord w act))).flag F.SEMF_CTL_ERR x.toNat = true ∧
      OnlyRegs s (s.afterCfg (s.quiet.semfCtl x.toNat (semfWord w act))) (semfKeys x.toNat) := by
  obtain ⟨hnone, -⟩ := semfCtl_semfWord s.quiet x.toNat w hact
  rw [hnone hs]
  refine ⟨by rw [State.afterCfg_flag, semfDone_err], RegWrites.answered ?_ |>.2⟩
  have hu := semfWritten_regWrites s.quiet x.toNat act w
  exact (hu.putB _ _ _ _ (by simp [semfKeys])).putB _ _ _ _ (by simp [semfKeys])

theorem semFlush_flushed {pon : Nat} (ho : s.cfgOpen (corePage x) 0x0D0 = true) (hs : s.semSlot x.toNat (bitsOf w.toNat 0 12) = some pon)
    (hk : (s.slot x.toNat pon).kind = .sem) :
    ∃ t, exec (.semFlush x w) s = .next t ∧ (∀ y ∈ (t.mem x.toNat).waiters, y.pon ≠ pon) ∧ t.ent x.toNat pon = s.ent x.toNat pon ∧
      t.flag F.SEMF_CTL_ERR x.toNat = false ∧ SlotsBut s t x [] ∧ ∀ y ∈ s.waitersOf x.toNat pon, y.rq.load = none → y.rq.posted = false →
        (∃ h c q, y.rq.who = .queue h c q) → (⟨.stn x, y.rq.who.part, .compl y.rq .flushed 0 0 0⟩ : InFlight) ∈ t.net := by
  let u := s.quiet.semfWritten x.toNat 2 w
  have hu : u.stns = s.stns := semfWritten_stns s.quiet x.toNat 2 w
  have hws : u.waitersOf x.toNat pon = s.waitersOf x.toNat pon := State.waitersOf_congr hu _ _
  have hpon : ∀ y ∈ s.waitersOf x.toNat pon, y.pon = pon := fun y hy => by simpa [State.waitersOf] using (List.mem_filter.mp hy).2
  obtain ⟨hslot, hent, hwait, -, hnet⟩ := flush_foldl x.toNat (s.waitersOf x.toNat pon) u
    (fun y hy => by rw [hpon y hy, State.slot_congr s u hu]; exact hk)
  let v := (s.waitersOf x.toNat pon).foldl (fun s y => s.endWaiter x.toNat y .flushed) u
  have hwork : s.quiet.semfCtl x.toNat (semfWord w 2) = v.semfDone x.toNat false := by
    rw [(semfCtl_semfWord s.quiet x.toNat w (by decide)).2 pon hs, if_neg (by decide), if_pos rfl]
    exact congrArg (fun l => State.semfDone (l.foldl (fun s y => s.endWaiter x.toNat y .flushed) u) x.toNat false) hws
  refine ⟨_, (semFlush_exec ho).trans (by rw [hwork]), ?_, ?_, ?_, ?_, ?_⟩
  · intro y hy hyp
    rw [State.afterCfg_mem, State.mem_congr _ _ (semfDone_stns v x.toNat false)] at hy
    obtain ⟨hy1, hy2⟩ := hwait y hy
    rw [State.mem_congr s u hu] at hy1
    exact hy2 (List.mem_filter.mpr ⟨hy1, by simpa using hyp⟩)
  · rw [State.afterCfg_ent, State.ent_congr (semfDone_stns v x.toNat false), hent, State.ent_congr hu]
  · rw [State.afterCfg_flag, semfDone_err]
  · intro j m _
    rw [State.afterCfg_slot, State.slot_congr _ _ (semfDone_stns v x.toNat false), hslot, State.slot_congr s u hu]
  · intro y hy hl hp hq
    have hin := hnet y hy hl hp hq
    rw [BitVec.ofNat_toNat, BitVec.setWidth_eq] at hin
    rw [State.afterCfg_net, semfDone_net]
    exact hin

/-! ### Lock words and ring bases -/

theorem mlockSet_set (ho : s.cfgOpen (corePage x) 0x0CC = true) (hk : (s.slot x.toNat (s.get F.MLOCK_PON_PON x.toNat)).kind = .mlock)
    (hh : (s.ent x.toNat (s.get F.MLOCK_PON_PON x.toNat)).held = false) (hw : s.waitersOf x.toNat (s.get F.MLOCK_PON_PON x.toNat) = []) :
    ∃ t, exec (.mlockSet x w) s = .next t ∧ t.flag F.MLOCK_CTL_ERR x.toNat = false ∧ SlotsBut s t x [s.get F.MLOCK_PON_PON x.toNat] ∧
      (t.slot x.toNat (s.get F.MLOCK_PON_PON x.toNat)).val.toNat = s.get64 F.MLOCK_ADDR_LO_ADDR F.MLOCK_ADDR_HI_ADDR x.toNat ∧
      (s.get64 F.MLOCK_ADDR_LO_ADDR F.MLOCK_ADDR_HI_ADDR x.toNat ≠ 0 → ∃ r ∈ (t.port x.toNat).queue, r.wr = true ∧
        r.why = .mlock x.toNat (s.get F.MLOCK_PON_PON x.toNat) ∧ r.line.toNat = s.get64 F.MLOCK_ADDR_LO_ADDR F.MLOCK_ADDR_HI_ADDR x.toNat / 64) := by
  have hcode : s.quiet.mlockCode x.toNat (s.quiet.get F.MLOCK_PON_PON x.toNat) = 0 := mlockCode_zero hk hh hw
  have hwork := mlockCtl_eq s.quiet x.toNat w
  dsimp only at hwork
  rw [hcode, if_neg (by simp), State.quiet_get] at hwork
  have herr := codeWritten_err s.quiet (e := F.MLOCK_CTL_ERR) (c := F.MLOCK_CTL_CODE) x.toNat 0 rfl (by decide) (by decide)
  have haddr := codeWritten_get64 s.quiet (e := F.MLOCK_CTL_ERR) (c := F.MLOCK_CTL_CODE) (lo := F.MLOCK_ADDR_LO_ADDR) (hi := F.MLOCK_ADDR_HI_ADDR) x.toNat 0
    (by decide) (by decide) (by decide) (by decide)
  have hstns := codeWritten_stns s.quiet F.MLOCK_CTL_ERR F.MLOCK_CTL_CODE x.toNat 0
  rw [haddr, State.quiet_get64] at hwork
  have hval := ofNat_get64 s F.MLOCK_ADDR_LO_ADDR F.MLOCK_ADDR_HI_ADDR x.toNat 0 (by decide) (by decide)
  generalize s.get64 F.MLOCK_ADDR_LO_ADDR F.MLOCK_ADDR_HI_ADDR x.toNat = a at hwork hval ⊢
  generalize s.get F.MLOCK_PON_PON x.toNat = pon at hk hwork ⊢
  generalize s.quiet.codeWritten F.MLOCK_CTL_ERR F.MLOCK_CTL_CODE x.toNat 0 = u at hwork herr hstns
  have hslot : (u.setVal x.toNat pon (BitVec.ofNat 64 a)).slot x.toNat pon = { s.slot x.toNat pon with val := BitVec.ofNat 64 a } := by
    rw [State.setVal, State.slot_modSlot, State.slot_congr s u hstns]
  have hother : ∀ j m, ¬(j = x.toNat ∧ m ∈ [pon]) → (u.setVal x.toNat pon (BitVec.ofNat 64 a)).slot j m = s.slot j m := fun j m hn =>
    ((SlotWrites.modSlot u x.toNat pon _ (by simp)).2 j m hn).trans (State.slot_congr s u hstns j m)
  have hregs : (u.setVal x.toNat pon (BitVec.ofNat 64 a)).regs = u.regs := rfl
  generalize u.setVal x.toNat pon (BitVec.ofNat 64 a) = v at hwork hslot hother hregs
  refine ⟨_, (mlockSet_exec ho).trans (by rw [hwork]), ?_, ?_, ?_, ?_⟩
  · rw [State.afterCfg_flag, State.flag_congr _ _ ((mlockWrite_regs v x.toNat pon).trans hregs), herr]
    rfl
  · intro j m hn
    rw [State.afterCfg_slot, State.slot_congr _ _ (mlockWrite_stns v x.toNat pon)]
    exact hother j m hn
  · rw [State.afterCfg_slot, State.slot_congr _ _ (mlockWrite_stns v x.toNat pon), hslot]
    exact hval
  · intro hne
    have hv0 : (BitVec.ofNat 64 a) ≠ 0 := fun e => hne (by rw [← hval, e]; rfl)
    have hmw : v.mlockWrite x.toNat pon = v.memWrite64 x.toNat (BitVec.ofNat 64 a) (v.lockWord x.toNat pon) (.mlock x.toNat pon) := by
      unfold State.mlockWrite
      dsimp only
      rw [hslot, if_pos ⟨hk, hv0⟩]
    obtain ⟨r, hr, hwr, hwhy, hline⟩ := memWrite64_queued v x.toNat (BitVec.ofNat 64 a) (v.lockWord x.toNat pon) (.mlock x.toNat pon)
    refine ⟨r, ?_, hwr, hwhy, by rw [hline, hval]⟩
    rw [← hmw] at hr
    simpa [State.port] using hr

theorem mlockSet_refused (ho : s.cfgOpen (corePage x) 0x0CC = true) (hc : s.mlockCode x.toNat (s.get F.MLOCK_PON_PON x.toNat) ≠ 0) :
    ∃ t, exec (.mlockSet x w) s = .next t ∧ t.flag F.MLOCK_CTL_ERR x.toNat = true ∧
      t.get F.MLOCK_CTL_CODE x.toNat = s.mlockCode x.toNat (s.get F.MLOCK_PON_PON x.toNat) % 2 ^ 2 ∧
      OnlyRegs s t [F.MLOCK_CTL_ERR.key x.toNat 0, F.MLOCK_CTL_CODE.key x.toNat 0] := by
  have hwork : s.quiet.mlockCtl x.toNat (withBit w 0) =
      s.quiet.codeWritten F.MLOCK_CTL_ERR F.MLOCK_CTL_CODE x.toNat (s.mlockCode x.toNat (s.get F.MLOCK_PON_PON x.toNat)) := by
    rw [mlockCtl_eq]
    exact if_pos hc
  refine ⟨_, (mlockSet_exec ho).trans (by rw [hwork]), ?_, ?_, codeWritten_only⟩
  · rw [State.afterCfg_flag, codeWritten_err (e := F.MLOCK_CTL_ERR) (c := F.MLOCK_CTL_CODE) (hp := rfl) (hn := by decide) (hl := by decide)]
    exact decide_eq_true hc
  · rw [State.afterCfg_get, codeWritten_code]
    rfl

theorem ringBaseSet_set (ho : s.cfgOpen (corePage x) 0x0EC = true) (hc : s.ringCode x.toNat (s.get F.RING_PON_PON x.toNat) = 0) :
    ∃ t, exec (.ringBaseSet x w) s = .next t ∧ t.flag F.RING_CTL_ERR x.toNat = false ∧
      (t.slot x.toNat (s.get F.RING_PON_PON x.toNat + 3)).val.toNat = s.get64 F.RING_BASE_LO_ADDR F.RING_BASE_HI_ADDR x.toNat ∧
      SlotsBut s t x [s.get F.RING_PON_PON x.toNat + 3] ∧ RegsBut s t [F.RING_CTL_ERR.key x.toNat 0, F.RING_CTL_CODE.key x.toNat 0] := by
  have hcode : s.quiet.ringCode x.toNat (s.quiet.get F.RING_PON_PON x.toNat) = 0 := hc
  have hwork := ringCtl_eq s.quiet x.toNat w
  dsimp only at hwork
  rw [hcode, if_neg (by simp), State.quiet_get] at hwork
  have herr := codeWritten_err s.quiet (e := F.RING_CTL_ERR) (c := F.RING_CTL_CODE) x.toNat 0 rfl (by decide) (by decide)
  have haddr := codeWritten_get64 s.quiet (e := F.RING_CTL_ERR) (c := F.RING_CTL_CODE) (lo := F.RING_BASE_LO_ADDR) (hi := F.RING_BASE_HI_ADDR) x.toNat 0
    (by decide) (by decide) (by decide) (by decide)
  have hstns := codeWritten_stns s.quiet F.RING_CTL_ERR F.RING_CTL_CODE x.toNat 0
  have hregs : RegsBut s (s.quiet.codeWritten F.RING_CTL_ERR F.RING_CTL_CODE x.toNat 0) _ := (codeWritten_regWrites s.quiet F.RING_CTL_ERR F.RING_CTL_CODE x.toNat 0).2
  rw [haddr, State.quiet_get64] at hwork
  have hval := ofNat_get64 s F.RING_BASE_LO_ADDR F.RING_BASE_HI_ADDR x.toNat 0 (by decide) (by decide)
  generalize s.get64 F.RING_BASE_LO_ADDR F.RING_BASE_HI_ADDR x.toNat = a at hwork hval ⊢
  generalize s.get F.RING_PON_PON x.toNat = pon at hwork ⊢
  generalize s.quiet.codeWritten F.RING_CTL_ERR F.RING_CTL_CODE x.toNat 0 = u at hwork herr hstns hregs
  have hset : (u.setVal x.toNat (pon + 3) (BitVec.ofNat 64 a)).regs = u.regs := rfl
  refine ⟨_, (ringBaseSet_exec ho).trans (by rw [hwork]), ?_, ?_, ?_, ?_⟩
  · rw [State.afterCfg_flag, State.flag_congr _ _ hset, herr]
    rfl
  · rw [State.afterCfg_slot, State.setVal, State.slot_modSlot]
    exact hval
  · intro j m hn
    rw [State.afterCfg_slot]
    exact ((SlotWrites.modSlot u x.toNat (pon + 3) _ (by simp)).2 j m hn).trans (State.slot_congr s u hstns j m)
  · exact hregs.congr (by rw [State.afterCfg_regs, hset])

theorem ringBaseSet_refused (ho : s.cfgOpen (corePage x) 0x0EC = true) (hc : s.ringCode x.toNat (s.get F.RING_PON_PON x.toNat) ≠ 0) :
    ∃ t, exec (.ringBaseSet x w) s = .next t ∧ t.flag F.RING_CTL_ERR x.toNat = true ∧
      OnlyRegs s t [F.RING_CTL_ERR.key x.toNat 0, F.RING_CTL_CODE.key x.toNat 0] := by
  have hwork : s.quiet.ringCtl x.toNat (withBit w 0) =
      s.quiet.codeWritten F.RING_CTL_ERR F.RING_CTL_CODE x.toNat (s.ringCode x.toNat (s.get F.RING_PON_PON x.toNat)) := by
    rw [ringCtl_eq]
    exact if_pos hc
  refine ⟨_, (ringBaseSet_exec ho).trans (by rw [hwork]), ?_, codeWritten_only⟩
  rw [State.afterCfg_flag, codeWritten_err (e := F.RING_CTL_ERR) (c := F.RING_CTL_CODE) (hp := rfl) (hn := by decide) (hl := by decide)]
  exact decide_eq_true hc
end

/-! ### The orphan command -/

/-- The held locks that ORPH_ID names, in all four stations. -/
def State.orphanMatches (s : State) : List (Nat × Nat) :=
  (List.range 4).flatMap (fun si => (s.heldLocks si (s.get F.ORPH_ID_HOLDER) (s.get F.ORPH_ID_PAV) (s.flag F.ORPH_ID_ANY)).map (fun p => (si, p)))

theorem orphCtl_matches (s : State) (w : Word32) :
    s.orphCtl (withBit w 0) = (s.orphanMatches.foldl (fun s e => s.orphanLock e.1 e.2) s).put F.ORPH_CTL_COUNT s.orphanMatches.length := orphCtl_eq s w

theorem orphanCommand_none {w : Word32} {s : State} (ho : s.cfgOpen 0x03 0x11C = true) (hm : s.orphanMatches = []) :
    ∃ t, exec (.orphanCommand w) s = .next t ∧ t.get F.ORPH_CTL_COUNT = 0 ∧ OnlyRegs s t [F.ORPH_CTL_COUNT.key 0 0] ∧ CfgAnswered s t := by
  have hm' : s.quiet.orphanMatches = [] := hm
  have hwork : s.quiet.orphCtl (withBit w 0) = s.quiet.put F.ORPH_CTL_COUNT 0 := by
    rw [orphCtl_matches, hm']
    rfl
  obtain ⟨ha, hr⟩ := ((RegWrites.refl s.quiet [F.ORPH_CTL_COUNT.key 0 0]).put F.ORPH_CTL_COUNT 0 0 0 (by simp)).answered
  refine ⟨s.afterCfg (s.quiet.put F.ORPH_CTL_COUNT 0), (orphanCommand_exec ho).trans (by rw [hwork]), ?_, hr, ha⟩
  rw [State.afterCfg_get]
  exact State.get_put _ _ _ _ _

theorem orphanCommand_one {w : Word32} {s : State} {si pon : Nat} (ho : s.cfgOpen 0x03 0x11C = true) (hm : s.orphanMatches = [(si, pon)])
    (hw : s.waitersOf si pon = []) :
    ∃ t, exec (.orphanCommand w) s = .next t ∧ t.get F.ORPH_CTL_COUNT = 1 ∧ (t.ent si pon).held = false ∧ (t.ent si pon).orphan = true ∧
      (t.ent si pon).count = (s.ent si pon).count := by
  have hm' : s.quiet.orphanMatches = [(si, pon)] := hm
  have hwork : s.quiet.orphCtl (withBit w 0) = (s.quiet.orphanLock si pon).put F.ORPH_CTL_COUNT 1 := by
    rw [orphCtl_matches, hm']
    simp only [List.foldl_cons, List.foldl_nil, List.length_singleton]
  obtain ⟨hh, horph, hc⟩ := orphanLock_noWaiters s.quiet si pon hw
  generalize s.quiet.orphanLock si pon = u at hwork hh horph hc
  have hent : (s.afterCfg (u.put F.ORPH_CTL_COUNT 1)).ent si pon = u.ent si pon := by
    rw [State.afterCfg_ent, State.ent_congr (State.put_stns _ _ _ _ _)]
  refine ⟨_, (orphanCommand_exec ho).trans (by rw [hwork]), ?_, by rw [hent, hh], by rw [hent, horph], (congrArg SemEnt.count hent).trans hc⟩
  rw [State.afterCfg_get]
  exact State.get_put _ _ _ _ _

/-! ### The obligation -/

/-- Settles O49: each command, once its port lets it through, does its work on the station and shows it in its control register. -/
theorem stationCommands : Obligations.StationCommands := by
  unfold Obligations.StationCommands
  refine ⟨?handleMap, ?handleMapWaits, ?apply, ?applyRefused, ?driftPair, ?driftDepth, ?driftStat, ?driftMode, ?post, ?noEntry, ?flush, ?mlock, ?mlockRefused,
    ?ring, ?ringRefused, ?orphanNone, ?orphanOne⟩
  case handleMap =>
    intro w s ho
    have hexec : exec (.handleMapWrite w) s = .next (s.afterCfg (s.quiet.hmWrite w)) :=
      congrArg Host.Outcome.next (afterCfg_of_cfgOpen (fun s => s.hmWrite w) ho)
    have hmem : ∀ si, (s.afterCfg (s.quiet.hmWrite w)).mem si = (s.quiet.hmSent w).mem si := fun si =>
      State.mem_congr _ _ ((State.afterCfg_stns _ _).trans (hmWrite_stns s.quiet w)) si
    have hslot : ∀ si n, (s.afterCfg (s.quiet.hmWrite w)).slot si n = s.slot si n := fun si n => by
      rw [State.slot_congr _ _ ((State.afterCfg_stns _ _).trans (hmWrite_stns s.quiet w)), hmSent_slot]
      rfl
    have hjct : (s.afterCfg (s.quiet.hmWrite w)).jct = (s.quiet.hmHeld w).jct := (State.afterCfg_jct _ _).trans (hmWrite_jct s.quiet w)
    refine ⟨_, hexec, CfgAnswered.keep_drive s _ (hmWrite_su s.quiet w).2 (hmWrite_su s.quiet w).1, fun si hi hb => ⟨?_, fun n hn => ?_, hslot si⟩,
      fun si hi hb => ⟨?_, ?_⟩, fun hb => ?_, ?_, ?_⟩
    · rw [hmem, hmSent_served s.quiet w hi hb, State.quiet_get, if_pos rfl]
    · rw [hmem, hmSent_served s.quiet w hi hb, State.quiet_get, if_neg hn]
      rfl
    · rw [hmem, hmSent_busy s.quiet w hb]
      rfl
    · rw [hjct, hmHeld_busy s.quiet w hi hb]
      rfl
    · rw [hjct, hmHeld_served s.quiet w hb]
      rfl
    · rw [State.afterCfg_get, hmWrite_idx]
      rfl
    · exact RegsBut.congr (show RegsBut s (s.quiet.hmWrite w) _ from hmWrite_regs s.quiet w) (State.afterCfg_regs _ _)
  case handleMapWaits =>
    intro w s hp hl hw
    have hexec : exec (.handleMapWrite w) s = .next (s.keep s.quiet) := congrArg (fun t => Host.Outcome.next (s.keep t)) (handleMapWrite_waits w hp hl hw)
    exact ⟨_, hexec, ⟨.of_regs (by simp) _, by simp [PartsKept]⟩, by simp⟩
  case apply =>
    intro x w s ho hk hcur hnxt hg
    exact turnstileApply_applied ho (by rw [State.applyCode, if_neg (by simp [hk]), if_neg (by simp [hcur, hnxt]), if_neg (by omega)])
  case applyRefused =>
    intro x w s ho hc
    have hcode : s.applyCode x.toNat (s.get F.TS_SEL_PON x.toNat) =
        if (s.slot x.toNat (s.get F.TS_SEL_PON x.toNat)).kind ≠ .turnstile then 1
        else if (s.turn x.toNat (s.get F.TS_SEL_PON x.toNat)).cur ≠ 0 ∨ (s.turn x.toNat (s.get F.TS_SEL_PON x.toNat)).nxt ≠ 0 then 2 else 3 := by
      unfold State.applyCode
      split_ifs <;> simp_all
    have hsmall : s.applyCode x.toNat (s.get F.TS_SEL_PON x.toNat) ≠ 0 ∧ s.applyCode x.toNat (s.get F.TS_SEL_PON x.toNat) < 2 ^ 3 := by
      rw [hcode]
      split_ifs <;> decide
    obtain ⟨t, ht, herr, hget, honly⟩ := turnstileApply_refused (w := w) ho hsmall.1
    exact ⟨t, ht, herr, by rw [hget, Nat.mod_eq_of_lt hsmall.2, hcode], honly⟩
  case driftPair =>
    intro x w s ho
    exact driftCommand (off := 0x0A4) (by decide) ho rfl
  case driftDepth =>
    intro x w s ho
    exact driftCommand (off := 0x0AC) (by decide) ho rfl
  case driftStat =>
    intro x w s ho
    exact driftCommand (off := 0x0B0) (by decide) ho rfl
  case driftMode =>
    intro x w s ho hm hw
    exact driftCommand (off := 0x0A8) (by decide) ho (driftWrite_turnOn (s := s.quiet) hm hw)
  case post =>
    intro x w pon s ho hs hw
    exact semForcedPost_posted ho hs hw
  case noEntry =>
    intro x w s ho hs
    obtain ⟨hpost, hpostOnly⟩ := semf_none (act := 1) (by decide) hs
    obtain ⟨hflush, hflushOnly⟩ := semf_none (act := 2) (by decide) hs
    exact ⟨_, _, semForcedPost_exec ho, semFlush_exec ho, hpost, hflush, hpostOnly, hflushOnly⟩
  case flush =>
    intro x w pon s ho hs hk
    exact semFlush_flushed ho hs hk
  case mlock =>
    intro x w s ho hk hh hw
    exact mlockSet_set ho hk hh hw
  case mlockRefused =>
    intro x w s ho hc
    have hcode : s.mlockCode x.toNat (s.get F.MLOCK_PON_PON x.toNat) = if (s.slot x.toNat (s.get F.MLOCK_PON_PON x.toNat)).kind ≠ .mlock then 1 else 2 := by
      unfold State.mlockCode
      split_ifs <;> simp_all
    have hsmall : s.mlockCode x.toNat (s.get F.MLOCK_PON_PON x.toNat) ≠ 0 ∧ s.mlockCode x.toNat (s.get F.MLOCK_PON_PON x.toNat) < 2 ^ 2 := by
      rw [hcode]
      split_ifs <;> decide
    obtain ⟨t, ht, herr, hget, honly⟩ := mlockSet_refused (w := w) ho hsmall.1
    exact ⟨t, ht, herr, by rw [hget, Nat.mod_eq_of_lt hsmall.2, hcode], honly⟩
  case ring =>
    intro x w s ho hk hrl hw
    refine ringBaseSet_set ho ?_
    have hempty : ¬ (List.range 4).any (fun i => !(s.waitersOf x.toNat (s.get F.RING_PON_PON x.toNat + i)).isEmpty) = true := by simpa using hw
    rw [State.ringCode, if_neg (by simp [hk]), if_neg (by simp only [hrl, ne_eq, not_true_eq_false, false_or]; exact hempty)]
  case ringRefused =>
    intro x w s ho hc
    refine ringBaseSet_refused ho ?_
    unfold State.ringCode
    by_cases hk : (s.slot x.toNat (s.get F.RING_PON_PON x.toNat)).kind = .ring
    · have hbusy : s.ringR x.toNat (s.get F.RING_PON_PON x.toNat) ≠ s.ringL x.toNat (s.get F.RING_PON_PON x.toNat) ∨
          (List.range 4).any (fun i => !(s.waitersOf x.toNat (s.get F.RING_PON_PON x.toNat + i)).isEmpty) = true := by simpa [hk] using hc
      rw [if_neg (by simp [hk]), if_pos hbusy]
      decide
    · rw [if_pos hk]
      decide
  case orphanNone =>
    intro w s ho hm
    exact orphanCommand_none ho hm
  case orphanOne =>
    intro w si pon s ho hm hw
    exact orphanCommand_one ho hm hw

end Sys2Proof.Machine

/-! Proofs for 02: a request that its halt accepts and its home station takes. -/

namespace Sys2Proof.Machine

/-! ### What a halt's own work leaves -/

/-- `u` is `s` but for the halts, the outputs and the performance counters. -/
def HaltWork (s u : State) : Prop :=
  u = { s with out := u.out, regs := u.regs, halts := u.halts, perf := u.perf, occ := u.occ } ∧ RegsBut s u counterKeys

theorem HaltWork.refl (s : State) : HaltWork s s := ⟨rfl, .refl s _⟩
theorem HaltWork.modHalt {s u : State} (h : HaltWork s u) (i : Nat) (f : Halt → Halt) : HaltWork s (u.modHalt i f) := by
  obtain ⟨he, hr⟩ := h
  refine ⟨?_, hr.congr (State.modHalt_regs _ _ _)⟩
  unfold State.modHalt
  rw [he]
theorem HaltWork.modWait {s u : State} (h : HaltWork s u) (i j : Nat) (f : WaitReg → WaitReg) : HaltWork s (u.modWait i j f) := h.modHalt i _
theorem HaltWork.drive {s u : State} (h : HaltWork s u) (x : Out) : HaltWork s (u.drive x) := by
  obtain ⟨he, hr⟩ := h
  refine ⟨?_, hr.drive x⟩
  unfold State.drive
  split
  · exact he
  · rw [he]
theorem HaltWork.occur {s u : State} (h : HaltWork s u) (p : Part) (c n : Nat) : HaltWork s (u.occur p c n) := by
  obtain ⟨he, hr⟩ := h
  refine ⟨?_, hr.trans (State.occur_regsBut u p c n)⟩
  unfold State.occur
  split
  · exact he
  · rw [he]

/-- A register of a page below that of the performance counters is not theirs. -/
theorem key_not_counterKeys (f : Fld) (i n : Nat) (hp : f.page + i < 0x2D) (hf : f.off < 4096 ∧ f.lo < 32) (hn : n < 65536) : f.key i n ∉ counterKeys := by
  simp only [counterKeys, List.mem_cons, List.mem_map, List.mem_range, Fld.key, F.EVT_STAT_EVT, F.PC_CFG_OVF]
  rintro (h | ⟨j, hj, h⟩) <;> omega

section
variable {s u : State}

theorem HaltWork.get (h : HaltWork s u) (f : Fld) (i n : Nat) (hp : f.page + i < 0x2D) (hf : f.off < 4096 ∧ f.lo < 32) (hn : n < 65536) :
    u.get f i n = s.get f i n := h.2 f i n (key_not_counterKeys f i n hp hf hn)
theorem HaltWork.flag (h : HaltWork s u) (f : Fld) (i n : Nat) (hp : f.page + i < 0x2D) (hf : f.off < 4096 ∧ f.lo < 32) (hn : n < 65536) :
    u.flag f i n = s.flag f i n := congrArg (· == 1) (h.get f i n hp hf hn)
theorem HaltWork.su (h : HaltWork s u) : u.su = s.su := by rw [h.1]
theorem HaltWork.stns (h : HaltWork s u) : u.stns = s.stns := by rw [h.1]
theorem HaltWork.net (h : HaltWork s u) : u.net = s.net := by rw [h.1]
theorem HaltWork.prots (h : HaltWork s u) : u.prots = s.prots := by rw [h.1]
theorem HaltWork.mem (h : HaltWork s u) (i : Nat) : u.mem i = s.mem i := State.mem_congr s u h.stns i
theorem HaltWork.slot (h : HaltWork s u) (i n : Nat) : u.slot i n = s.slot i n := State.slot_congr s u h.stns i n
theorem HaltWork.rowsGood (h : HaltWork s u) : u.rowsGood = s.rowsGood := by simp [State.rowsGood, State.prot, h.prots]
theorem HaltWork.gen (h : HaltWork s u) (p : BitVec 6) : u.gen p = s.gen p := by
  have hp := p.isLt
  unfold State.gen
  rw [h.get _ _ _ (by decide) (by decide) (by omega)]
theorem HaltWork.translate (h : HaltWork s u) (sv : Nat) (p : BitVec 6) (hd : BitVec 20) (c ss : Bool) (b : Word32) :
    u.translate sv p hd c ss b = s.translate sv p hd c ss b := by
  have hp := p.isLt
  unfold State.translate State.runOpen
  rw [h.get F.HM_WIN_BASE_G _ _ (by decide) (by decide) (by omega), h.get F.HM_WIN_SIZE_G _ _ (by decide) (by decide) (by omega),
    h.get F.HM_PW_PW _ _ (by decide) (by decide) (by omega), h.flag F.RUN_STAT_OPEN _ _ (by decide) (by decide) (by omega), h.mem]
theorem HaltWork.withholding (h : HaltWork s u) {x : Nat} (hx : x < 4) : u.withholding x = s.withholding x := by
  unfold State.withholding State.stopped State.resetDue State.prot
  dsimp only
  rw [h.mem, h.prots, BitVec.toNat_ofNat, Nat.mod_eq_of_lt hx, h.get F.REC_STAT_PHASE _ _ (by simp [F.REC_STAT_PHASE]; omega) (by decide) (by omega)]
theorem HaltWork.pavFrozen (h : HaltWork s u) (p : BitVec 6) : u.pavFrozen p = s.pavFrozen p := by
  have hp := p.isLt
  unfold State.pavFrozen State.pavState
  rw [h.get F.PAV_STAT_STATE _ _ (by decide) (by decide) (by omega)]
end

/-! ### The address of a slot (02 R28) -/

theorem aStn_addrOf (s : State) (i pon : Nat) : aStn (s.addrOf i pon) = BitVec.ofNat 2 i := by
  unfold aStn State.addrOf mkAddr
  ext j hj
  simp only [BitVec.getElem_extractLsb']
  grind
theorem aSrc_addrOf (s : State) (i pon : Nat) : aSrc (s.addrOf i pon) = s.dieSrc := by
  unfold aSrc State.addrOf mkAddr State.dieSrc
  ext j hj
  simp only [BitVec.getElem_extractLsb']
  grind
theorem aDie_addrOf (s : State) (i pon : Nat) : aDie (s.addrOf i pon) = s.su.die := by
  unfold aDie State.addrOf mkAddr
  ext j hj
  simp only [BitVec.getElem_extractLsb']
  grind
theorem aPkg_addrOf (s : State) (i pon : Nat) : aPkg (s.addrOf i pon) = s.su.pkg := by
  unfold aPkg State.addrOf mkAddr
  ext j hj
  simp only [BitVec.getElem_extractLsb']
  grind
theorem aPon_addrOf (s : State) (i : Nat) {pon : Nat} (h : pon < 16384) : aPon (s.addrOf i pon) = pon := by
  have : (s.addrOf i pon).extractLsb' 0 14 = BitVec.ofNat 14 pon := by
    unfold State.addrOf mkAddr
    ext j hj
    simp only [BitVec.getElem_extractLsb']
    grind
  rw [aPon, this, BitVec.toNat_ofNat]
  exact Nat.mod_eq_of_lt h

/-! ### Acceptance (03 R73, R87) -/

/-- The request that a halt hears and takes goes on to acceptance. -/
theorem State.present_of_takes {s : State} {op : BitVec 6} {r : CoreReq} (h : s.takes op r = true) :
    s.present op r = s.accepted (rHalt r) (rReg r) (haltReq op r) := by
  simp only [State.takes, State.hears, Bool.and_eq_true, Bool.not_eq_true', Bool.or_eq_true, decide_eq_true_eq, Option.isNone_iff_eq_none] at h
  obtain ⟨⟨⟨⟨⟨⟨⟨⟨⟨⟨⟨⟨hq, hrows⟩, hstall⟩, hheld⟩, hask⟩, hq22⟩, hv⟩, hrej⟩, hgen⟩, hfrozen⟩, hstale⟩, hfailed⟩, hroom⟩ := h
  have hread : s.readPresent (haltReq op r) = (true, s) := by simp [State.readPresent, State.readMap, hrows]
  unfold rHalt rReg at *
  unfold State.present
  rw [if_neg]
  · simp only [hread, hrej, Bool.not_true, Bool.false_eq_true, if_false]
    rw [if_neg (by simpa using hgen), if_neg (by rcases hfrozen with h | h <;> simp [h]),
      if_neg (by rcases hstale with h | h <;> simp [h]), if_neg (by rcases hfailed with h | h <;> simp [h]),
      if_neg (by rcases hroom with h | h
                 · simp [h]
                 · have h' : s.room (.halt (BitVec.ofNat 4 (r.core.toNat / 16))) = true := h
                   simp [h'])]
  · rintro (h | h | ⟨h, -⟩ | h | ⟨hctx, -, h⟩)
    · omega
    · simp [hstall] at h
    · simp [hv] at h
    · simp [hheld] at h
    · simp only [haltReq, decide_eq_true_eq] at hctx
      simp only [List.contains_iff_mem] at h
      simp only [Bool.and_eq_false_iff, rCtx, decide_eq_false_iff_not] at hask
      exact hask.elim (· hctx) (by simp [h])

/-- The halt `ht`, once `ht0`, has taken a request: its next port, and the wait register or the outstanding acknowledgement. -/
def HaltTook (ht0 ht : Halt) (op : BitVec 6) (r : CoreReq) : Prop :=
  ht.port = r.core.extractLsb' 0 4 + 1 ∧
    if opPosted op r.ret then tget 0 ht.unacked (rReg r) = tget 0 ht0.unacked (rReg r) + 1
    else (tget WaitReg.init ht.waits (rReg r)).v = true ∧ (tget WaitReg.init ht.waits (rReg r)).op = op

/-- The wait register or the count of acknowledgements of an accepted request. -/
def State.counted (s : State) (op : BitVec 6) (r : CoreReq) : State :=
  if opPosted op r.ret then
    s.modHalt (rHalt r) (fun ht => { ht with unacked := tmod 0 ht.unacked (rReg r) (· + 1), unackedPav := tmod 0 ht.unackedPav r.pav.toNat (· + 1) })
  else s.modWait (rHalt r) (rReg r) (fun _ => waitOf (haltReq op r) (s.flag F.WAIT_CFG_LUISK 0 r.pav.toNat))

/-- An accepted request that is neither NOP, fence nor TICKET is launched. -/
theorem accepted_launch {s : State} {op : BitVec 6} (r : CoreReq) (h0 : op ≠ 0) (h14 : op ≠ 0x14) :
    s.accepted (rHalt r) (rReg r) (haltReq op r) = ((s.acc r.core r.q).counted op r).launch (rHalt r) (asked op r)
      (tget 0 (((s.acc r.core r.q).counted op r).halt (rHalt r)).bases (rReg r)) := by
  unfold State.accepted
  have h0' : ¬op = 0#6 := h0
  have h14' : ¬op = 20#6 := h14
  dsimp only
  rw [if_neg (by simp [haltReq, h0']), if_neg (by simp [haltReq, h0']), if_neg (by simp [haltReq, h14'])]
  rfl

section
variable (s : State) (op : BitVec 6) (r : CoreReq)

theorem acc_haltWork : HaltWork s (s.acc r.core r.q) := (((HaltWork.refl s).occur _ _ _).modHalt _ _).drive _
theorem counted_haltWork {u : State} (h : HaltWork s u) : HaltWork s (u.counted op r) := by
  unfold State.counted
  split
  · exact h.modHalt _ _
  · exact h.modWait _ _ _

theorem acc_halt : (s.acc r.core r.q).halt (rHalt r) = { s.halt (rHalt r) with port := r.core.extractLsb' 0 4 + 1 } := by
  unfold State.acc
  rw [State.halt_congr _ _ (State.drive_halts _ _)]
  exact (State.halt_modHalt _ _ _).trans (by rw [State.halt_congr _ _ (State.occur_halts _ _ _ _)]; rfl)

theorem counted_bases : (((s.acc r.core r.q).counted op r).halt (rHalt r)).bases = (s.halt (rHalt r)).bases := by
  unfold State.counted
  split
  · rw [State.halt_modHalt, acc_halt]
  · rw [State.modWait, State.halt_modHalt, acc_halt]

theorem counted_took : HaltTook (s.halt (rHalt r)) (((s.acc r.core r.q).counted op r).halt (rHalt r)) op r := by
  unfold State.counted HaltTook
  split
  · rw [State.halt_modHalt, acc_halt]
    exact ⟨rfl, tget_tmod_same 0 _ _ _⟩
  · rw [State.modWait, State.halt_modHalt, acc_halt]
    exact ⟨rfl, by rw [tget_tmod_same WaitReg.init]; exact ⟨rfl, rfl⟩⟩
end

/-- A change of the halt beside what acceptance wrote. -/
theorem HaltTook.congr {ht0 ht ht' : Halt} {op : BitVec 6} {r : CoreReq} (h : HaltTook ht0 ht op r) (hp : ht'.port = ht.port) (hu : ht'.unacked = ht.unacked)
    (hw : (tget WaitReg.init ht'.waits (rReg r)).v = (tget WaitReg.init ht.waits (rReg r)).v ∧
      (tget WaitReg.init ht'.waits (rReg r)).op = (tget WaitReg.init ht.waits (rReg r)).op) : HaltTook ht0 ht' op r := by
  unfold HaltTook at h ⊢
  rw [hp, hu, hw.1, hw.2]
  exact h

/-! ### Launch, and the serving station (03 R70, R78; 13 R363) -/

/-- The request as its serving station sends it on, with its SEQ and the address found. -/
def sentOn (op : BitVec 6) (r : CoreReq) (seq : BitVec 8) (a : GAddr) : HReq :=
  ⟨{ haltReq op r with seq := seq }, a, rWho r, opPosted op r.ret, none, false, none⟩

/-- The halt names the object in the wait register of a blocking request. -/
def State.named (s : State) (op : BitVec 6) (r : CoreReq) (a : GAddr) : State :=
  if opPosted op r.ret ∨ 24 ≤ r.q.toNat then s else s.modWait (rHalt r) (rReg r) (fun w => { w with addr := a, addrV := true })

theorem serve_found {s : State} {op : BitVec 6} {r : CoreReq} {seq : BitVec 8} {a b : GAddr} {base : Word32} (h2 : op ≠ 0x02)
    (hf : s.flag F.REC_STAT_FAILED (rHalt r / 4) = false) (hg : r.gen = s.gen r.pav)
    (ht : s.translate (rHalt r / 4) r.pav r.handle (rCtx r) false base = .ok a) :
    s.serve (rHalt r / 4) (sentOn op r seq b) false base =
      (if opRetained op then (s.named op r a).retainReq (rPart r) (sentOn op r seq a) else s.named op r a).route (sentOn op r seq a) := by
  have hh : (BitVec.ofNat 4 (rHalt r)).toNat = rHalt r := by
    rw [BitVec.toNat_ofNat]
    exact Nat.mod_eq_of_lt (rHalt_lt r)
  have ht' : s.translate (rHalt r / 4) (sentOn op r seq b).req.pav (sentOn op r seq b).req.handle (sentOn op r seq b).req.ctxl false base = .ok a := ht
  unfold State.serve
  dsimp only
  rw [if_neg (by simp [hf]), if_neg (by simpa [sentOn, haltReq] using hg), ht']
  simp only [sentOn, haltReq, h2, rWho, Orig.part, State.named, hh, false_and, if_false, Bool.not_false, and_true, rPart, rReg]

/-- An accepted request leaves its halt for its home: as `present` leaves it, with what the halt keeps. -/
structure Sent (s u : State) (op : BitVec 6) (r : CoreReq) : Prop where
  work : HaltWork s u
  acc : .acc r.core r.q ∈ u.out
  took : HaltTook (s.halt (rHalt r)) (u.halt (rHalt r)) op r

theorem Sent.modHalt {s u : State} {op : BitVec 6} {r : CoreReq} (h : Sent s u op r) {f : Halt → Halt}
    (hf : ∀ ht, (f ht).port = ht.port ∧ (f ht).unacked = ht.unacked ∧ (tget WaitReg.init (f ht).waits (rReg r)).v = (tget WaitReg.init ht.waits (rReg r)).v ∧
      (tget WaitReg.init (f ht).waits (rReg r)).op = (tget WaitReg.init ht.waits (rReg r)).op) : Sent s (u.modHalt (rHalt r) f) op r := by
  obtain ⟨hw, ha, ht⟩ := h
  obtain ⟨hp, hu, hv⟩ := hf (u.halt (rHalt r))
  exact ⟨hw.modHalt _ _, ha, by rw [State.halt_modHalt]; exact ht.congr hp hu hv⟩

theorem Sent.named {s u : State} {op : BitVec 6} {r : CoreReq} (h : Sent s u op r) (a : GAddr) : Sent s (u.named op r a) op r := by
  unfold State.named
  split
  · exact h
  · refine h.modHalt (fun ht => ⟨rfl, rfl, ?_⟩)
    dsimp only
    rw [tget_tmod_same WaitReg.init]
    exact ⟨rfl, rfl⟩

theorem Sent.modOrigin {s u : State} {op : BitVec 6} {r : CoreReq} (h : Sent s u op r) (f : Origin → Origin) : Sent s (u.modOrigin (rPart r) f) op r := by
  have hh : (BitVec.ofNat 4 (rHalt r)).toNat = rHalt r := by
    rw [BitVec.toNat_ofNat]
    exact Nat.mod_eq_of_lt (rHalt_lt r)
  unfold State.modOrigin rPart
  dsimp only
  rw [hh]
  exact h.modHalt (fun ht => ⟨rfl, rfl, rfl, rfl⟩)

theorem Sent.retainReq {s u : State} {op : BitVec 6} {r : CoreReq} (h : Sent s u op r) (rq : HReq) : Sent s (u.retainReq (rPart r) rq) op r := by
  unfold State.retainReq State.retain
  exact h.modOrigin _

theorem sent_counted {s : State} {op : BitVec 6} {r : CoreReq} (h : s.su.wInstr.underTest = false) : Sent s ((s.acc r.core r.q).counted op r) op r := by
  refine ⟨counted_haltWork _ _ _ (acc_haltWork _ _), ?_, counted_took _ _ _⟩
  have ho : ((s.acc r.core r.q).counted op r).out = (s.acc r.core r.q).out := by
    unfold State.counted
    split
    · exact State.modHalt_out _ _ _
    · exact State.modHalt_out _ _ _
  rw [ho, State.acc_out _ _ _ h]
  exact List.mem_append_right _ (List.mem_singleton_self _)

/-- What `meets` says of the halt and the handle. -/
theorem meets_iff {s : State} {op : BitVec 6} {r : CoreReq} {x : BitVec 2} {pon : Nat} (hm : s.meets op r x pon = true) :
    s.takes op r = true ∧ s.finds r x pon = true ∧ s.admits op r.pav x pon (some (rWho r)) = true := by
  simpa only [State.meets, Bool.and_eq_true, and_assoc] using hm

theorem finds_translate {s : State} {r : CoreReq} {x : BitVec 2} {pon : Nat} (h : s.finds r x pon = true) : pon < 16384 ∧ s.srcOf (rPart r) = s.dieSrc ∧
    s.translate (rHalt r / 4) r.pav r.handle (rCtx r) false (tget 0 (s.halt (rHalt r)).bases (rReg r)) = .ok (s.addrOf x.toNat pon) := by
  simp only [State.finds, Bool.and_eq_true, decide_eq_true_eq] at h
  obtain ⟨⟨hpon, hsrc⟩, hmatch⟩ := h
  refine ⟨hpon, hsrc, ?_⟩
  cases htr : s.translate (rHalt r / 4) r.pav r.handle (rCtx r) false (tget 0 (s.halt (rHalt r)).bases (rReg r)) with
  | error e =>
    rw [htr] at hmatch
    exact absurd hmatch (by simp)
  | ok a =>
    rw [htr] at hmatch
    rw [of_decide_eq_true hmatch]

theorem takes_serving {s : State} {op : BitVec 6} {r : CoreReq} (h : s.takes op r = true) : s.su.wInstr.underTest = false ∧ r.gen = s.gen r.pav ∧
    (op = 0 ∨ s.flag F.REC_STAT_FAILED (rHalt r / 4) = false) := by
  simp only [State.takes, Bool.and_eq_true, Bool.or_eq_true, decide_eq_true_eq, Bool.not_eq_true'] at h
  obtain ⟨⟨⟨⟨⟨⟨⟨⟨hhears, -⟩, -⟩, -⟩, hgen⟩, -⟩, -⟩, hfailed⟩, -⟩ := h
  exact ⟨State.underTest_of_hears hhears, hgen, hfailed⟩

/-- A request that goes on to its serving station with its handle's address arrives at its home. -/
theorem serve_reach {s w : State} {op : BitVec 6} {r : CoreReq} {x : BitVec 2} {pon : Nat} (hm : s.meets op r x pon = true) (h0 : op ≠ 0) (h2 : op ≠ 0x02)
    (hw : Sent s w op r) (seq : BitVec 8) :
    ∃ u, w.serve (rHalt r / 4) (sentOn op r seq 0) false (tget 0 (s.halt (rHalt r)).bases (rReg r)) =
      u.reach x.toNat pon (sentOn op r seq (s.addrOf x.toNat pon)) moveFuel ∧ Sent s u op r := by
  obtain ⟨htakes, hfinds, -⟩ := meets_iff hm
  obtain ⟨-, hgen, hfailed⟩ := takes_serving htakes
  obtain ⟨hpon, hsrc, htr⟩ := finds_translate hfinds
  have hd : rHalt r / 4 < 4 := by have := rHalt_lt r; omega
  have hrec : F.REC_STAT_FAILED.page + rHalt r / 4 < 0x2D := by simp only [F.REC_STAT_FAILED]; omega
  rw [serve_found h2 (by rw [hw.work.flag _ _ _ hrec (by decide) (by omega)]; exact hfailed.resolve_left h0) (by rw [hw.work.gen]; exact hgen)
    (by rw [hw.work.translate]; exact htr)]
  have hsent : Sent s (if opRetained op then (w.named op r (s.addrOf x.toNat pon)).retainReq (rPart r) (sentOn op r seq (s.addrOf x.toNat pon))
      else w.named op r (s.addrOf x.toNat pon)) op r := by
    split
    · exact (hw.named _).retainReq _
    · exact hw.named _
  generalize (if opRetained op then (w.named op r (s.addrOf x.toNat pon)).retainReq (rPart r) (sentOn op r seq (s.addrOf x.toNat pon))
      else w.named op r (s.addrOf x.toNat pon)) = u at hsent ⊢
  refine ⟨u, ?_, hsent⟩
  have hus : u.srcOf (sentOn op r seq (s.addrOf x.toNat pon)).who.part = s.srcOf (rPart r) := by
    change u.srcOf (rPart r) = _
    unfold State.srcOf State.stnId State.dieSrc
    rw [hsent.work.su]
  unfold State.route State.arrive
  rw [hus, hsrc, if_pos (show aSrc (sentOn op r seq (s.addrOf x.toNat pon)).addr = s.dieSrc from aSrc_addrOf _ _ _)]
  simp [sentOn, aStn_addrOf, aPon_addrOf _ _ hpon]

/-- A request that meets its slot is accepted and arrives there (02 R44, R45). -/
theorem present_arrives {s : State} {op : BitVec 6} {r : CoreReq} {x : BitVec 2} {pon : Nat} (hm : s.meets op r x pon = true) (h0 : op ≠ 0) (h2 : op ≠ 0x02)
    (h14 : op ≠ 0x14) :
    ∃ u seq, s.present op r = u.reach x.toNat pon (sentOn op r seq (s.addrOf x.toNat pon)) moveFuel ∧ Sent s u op r := by
  obtain ⟨htakes, -, -⟩ := meets_iff hm
  have hsent : Sent s ((s.acc r.core r.q).counted op r) op r := sent_counted (takes_serving htakes).1
  rw [State.present_of_takes htakes, accepted_launch r h0 h14, counted_bases]
  unfold State.launch
  dsimp only
  split
  · obtain ⟨u, hu, hs⟩ := serve_reach hm h0 h2 (hsent.modOrigin (fun o => { o with seq := (((s.acc r.core r.q).counted op r).origin (rPart r)).seq + 1 }))
      ((((s.acc r.core r.q).counted op r).origin (rPart r)).seq + 1)
    exact ⟨u, _, hu, hs⟩
  · obtain ⟨u, hu, hs⟩ := serve_reach hm h0 h2 hsent 0
    exact ⟨u, _, hu, hs⟩

end Sys2Proof.Machine

/-! Proofs for 02: a MOVE at its object (R63 to R65). -/

namespace Sys2Proof.Machine

/-! ### The SEQ that a home station records (13 R363) -/

/-- A station whose record of SEQs is another. -/
def Station.withSeqs (st : Station) (os : Tbl Nat) (ss : List (BitVec 15 × BitVec 8)) : Station :=
  { st with mem := { st.mem with origins := os }, streams := ss }

/-- `v` is `s` but for what stations record of SEQs, messages, outputs and counted events. -/
structure SeqWork (s v : State) : Prop where
  stn : ∀ j, ∃ os ss, v.stn j = (s.stn j).withSeqs os ss
  net : ∃ l, v.net = s.net ++ l
  rest : v = { s with stns := v.stns, net := v.net, regs := v.regs, perf := v.perf, occ := v.occ }
  regs : RegsBut s v counterKeys

theorem SeqWork.refl (s : State) : SeqWork s s := ⟨fun _ => ⟨_, _, rfl⟩, ⟨[], by simp⟩, rfl, .refl _ _⟩

theorem SeqWork.modStn {s v : State} (h : SeqWork s v) (i : Nat) {f : Station → Station} (hf : ∀ st, ∃ os ss, f st = st.withSeqs os ss) :
    SeqWork s (v.modStn i f) := by
  refine ⟨fun j => ?_, h.net, ?_, h.regs.congr (State.modStn_regs _ _ _)⟩
  · obtain ⟨os, ss, he⟩ := h.stn j
    by_cases hj : j = i
    · obtain ⟨os', ss', hf'⟩ := hf (v.stn i)
      rw [hj, State.stn_modStn, hf', ← hj, he]
      exact ⟨os', ss', rfl⟩
    · rw [State.stn_modStn_ne _ _ _ _ hj]
      exact ⟨os, ss, he⟩
  · conv_lhs => rw [State.modStn, h.rest]
    rfl

theorem SeqWork.emit {s v : State} (h : SeqWork s v) (a b : Part) (m : Msg) : SeqWork s (v.emit a b m) := by
  obtain ⟨hs, ⟨l, hl⟩, hrest, hregs⟩ := h
  refine ⟨hs, ⟨l ++ [⟨a, b, m⟩], ?_⟩, ?_, hregs⟩
  · simp [State.emit, hl]
  · conv_lhs => rw [State.emit, hrest]
    rfl

/-- A counted event changes registers and performance counts alone. -/
theorem occur_rest (v : State) (p : Part) (c n : Nat) :
    v.occur p c n = { v with regs := (v.occur p c n).regs, perf := (v.occur p c n).perf, occ := (v.occur p c n).occ } := by
  unfold State.occur
  split <;> rfl

theorem SeqWork.occur {s v : State} (h : SeqWork s v) (p : Part) (c n : Nat) : SeqWork s (v.occur p c n) := by
  refine ⟨fun j => by rw [State.stn_congr _ _ (State.occur_stns v p c n)]; exact h.stn j, by rw [State.occur_net]; exact h.net, ?_,
    h.regs.trans (State.occur_regsBut v p c n)⟩
  have hrest : ∀ rs pf oc, { v with regs := rs, perf := pf, occ := oc } = { s with stns := v.stns, net := v.net, regs := rs, perf := pf, occ := oc } := by
    intro rs pf oc
    conv_lhs => rw [h.rest]
  rw [State.occur_stns, State.occur_net]
  exact (occur_rest v p c n).trans (hrest _ _ _)

/-- A station's table of SEQs is set, and the window's record of them or a report. -/
theorem seqWork_origins (s : State) (si : Nat) (f : StnMem → Tbl Nat) : SeqWork s (s.modMem si (fun m => { m with origins := f m })) :=
  (SeqWork.refl s).modStn si (fun st => ⟨f st.mem, st.streams, rfl⟩)
theorem SeqWork.streams {s v : State} (h : SeqWork s v) (si : Nat) (f : Station → List (BitVec 15 × BitVec 8)) :
    SeqWork s (v.modStn si (fun st => { st with streams := f st })) :=
  h.modStn si (fun st => ⟨st.mem.origins, f st, rfl⟩)

/-- The SEQ of stream `str` is recorded as `q`: in the table, and in the window's record or by a report. -/
def State.seqRecorded (s : State) (si : Nat) (rq : HReq) (str : BitVec 15) (q : BitVec 8) : State :=
  let s := s.modMem si (fun m => { m with origins := tset 0 m.origins str.toNat (q.toNat + 1) })
  if s.unprot (.stn (BitVec.ofNat 2 si)) then s.emit (.stn (BitVec.ofNat 2 si)) rq.who.part (.dur str rq.req.seq (aHome (s.addrOf si 0)))
  else s.modStn si (fun st => { st with streams := (st.streams.filter (fun e => e.1 ≠ str)) ++ [(str, q)] })

theorem seqRecorded_seqWork (s : State) (si : Nat) (rq : HReq) (str : BitVec 15) (q : BitVec 8) : SeqWork s (s.seqRecorded si rq str q) := by
  unfold State.seqRecorded
  dsimp only
  split
  · exact (seqWork_origins _ _ _).emit _ _ _
  · exact (seqWork_origins _ _ _).streams _ _

theorem recordSeq_seqWork (s : State) (si : Nat) (rq : HReq) : SeqWork s (s.recordSeq si rq) := by
  unfold State.recordSeq
  split
  · exact .refl s
  split
  · exact .refl s
  · exact seqRecorded_seqWork s si rq _ _

section
variable {s v : State} (h : SeqWork s v)
include h

theorem SeqWork.su : v.su = s.su := by rw [h.rest]
theorem SeqWork.halts : v.halts = s.halts := by rw [h.rest]
theorem SeqWork.out : v.out = s.out := by rw [h.rest]
theorem SeqWork.prots : v.prots = s.prots := by rw [h.rest]
theorem SeqWork.slot (i n : Nat) : v.slot i n = s.slot i n := by
  obtain ⟨os, ss, he⟩ := h.stn i
  simp [State.slot, State.mem, he, Station.withSeqs]
theorem SeqWork.waitersOf (i n : Nat) : v.waitersOf i n = s.waitersOf i n := by
  obtain ⟨os, ss, he⟩ := h.stn i
  simp [State.waitersOf, State.mem, he, Station.withSeqs]
theorem SeqWork.hdr (i n : Nat) : v.hdr i n = s.hdr i n := by
  obtain ⟨os, ss, he⟩ := h.stn i
  simp [State.hdr, h.slot, State.mem, he, Station.withSeqs]
theorem SeqWork.ent (i n : Nat) : v.ent i n = s.ent i n := by
  obtain ⟨os, ss, he⟩ := h.stn i
  simp [State.ent, h.slot, State.mem, he, Station.withSeqs]
theorem SeqWork.boundList (i : Nat) : (v.mem i).boundList = (s.mem i).boundList := by
  obtain ⟨os, ss, he⟩ := h.stn i
  simp only [State.mem, he]
  rfl
theorem SeqWork.freeTurn (i : Nat) : v.freeTurn i = s.freeTurn i := by
  obtain ⟨os, ss, he⟩ := h.stn i
  simp only [State.freeTurn, State.mem, he]
  rfl
theorem SeqWork.freeLockq (i : Nat) : v.freeLockq i = s.freeLockq i := by
  obtain ⟨os, ss, he⟩ := h.stn i
  simp only [State.freeLockq, State.mem, he]
  rfl
theorem SeqWork.boxWatches (i n : Nat) : v.boxWatches i n = s.boxWatches i n := by
  obtain ⟨os, ss, he⟩ := h.stn i
  simp only [State.boxWatches, State.mem, he]
  rfl
theorem SeqWork.rightsOf (i g : Nat) (p : BitVec 6) : v.rightsOf i g p = s.rightsOf i g p := by
  obtain ⟨os, ss, he⟩ := h.stn i
  simp only [State.rightsOf, State.mem, he]
  rfl
theorem SeqWork.identOf (w : Orig) : v.identOf w = s.identOf w := by
  unfold State.identOf
  rw [h.su]
theorem SeqWork.pavFrozen (p : BitVec 6) : v.pavFrozen p = s.pavFrozen p := by
  have hp := p.isLt
  unfold State.pavFrozen State.pavState
  rw [h.regs _ _ _ (key_not_counterKeys F.PAV_STAT_STATE 0 p.toNat (by decide) (by decide) (by omega))]
theorem SeqWork.moveGroup (i n : Nat) : v.moveGroup i n = s.moveGroup i n := by simp only [State.moveGroup, h.slot]

/-- Whether a MOVE is refused turns on nothing that a record of SEQs changes. -/
theorem SeqWork.moveRefusal (i n : Nat) (rq : HReq) : v.moveRefusal i n rq = s.moveRefusal i n rq := by
  unfold State.moveRefusal
  simp only [h.moveGroup, h.slot, h.su, h.boundList, h.hdr, h.waitersOf, h.freeTurn, h.freeLockq, h.boxWatches]

end

/-! ### At the slot (02 R45, 03 R78) -/

theorem HaltWork.ent {s u : State} (h : HaltWork s u) (i n : Nat) : u.ent i n = s.ent i n := State.ent_congr h.stns i n


theorem SeqWork.needOf {s u v : State} (hw : HaltWork s u) (h : SeqWork u v) (op : BitVec 6) (r : CoreReq) (x : BitVec 2) (pon : Nat) (seq : BitVec 8) (a : GAddr) :
    v.needOf x.toNat pon (sentOn op r seq a) = s.needs op (some (rWho r)) x pon := by
  have hi : u.identOf (rWho r) = s.identOf (rWho r) := by
    unfold State.identOf
    rw [hw.su]
  unfold State.needOf State.needs
  simp [h.ent, hw.ent, h.identOf, hi, sentOn, haltReq]

/-- A request that its slot takes comes to its operation. -/
theorem reach_admitted {s u : State} {op : BitVec 6} {r : CoreReq} {x : BitVec 2} {pon : Nat} (hw : HaltWork s u)
    (ha : s.admits op r.pav x pon (some (rWho r)) = true) (hgen : r.gen = s.gen r.pav) (seq : BitVec 8) :
    u.reach x.toNat pon (sentOn op r seq (s.addrOf x.toNat pon)) moveFuel =
      (u.recordSeq x.toNat (sentOn op r seq (s.addrOf x.toNat pon))).opDo x.toNat pon (sentOn op r seq (s.addrOf x.toNat pon)) := by
  have hx := x.isLt
  have hv := recordSeq_seqWork u x.toNat (sentOn op r seq (s.addrOf x.toNat pon))
  simp only [State.admits, Bool.and_eq_true, Bool.not_eq_true', decide_eq_true_eq] at ha
  obtain ⟨⟨⟨⟨⟨⟨⟨⟨hrows, hfailed⟩, hwith⟩, hpkg⟩, hdie⟩, hstn⟩, hfrozen⟩, hkind⟩, hrights⟩ := ha
  have hid : u.stnId x.toNat = s.stnId x.toNat := by rw [State.stnId, State.stnId, hw.su]
  have hplain : (s.slot x.toNat pon).kind ≠ .free ∧ (s.slot x.toNat pon).kind ≠ .retired ∧ (s.slot x.toNat pon).kind ≠ .moved := by
    refine ⟨?_, ?_, ?_⟩ <;> (intro hk; simp [hk, kindAccepts] at hkind)
  obtain ⟨hfree, hret, hmoved⟩ := hplain
  unfold moveFuel State.reach
  dsimp only
  rw [if_neg (by rw [hw.flag _ _ _ (by simp only [F.REC_STAT_FAILED]; omega) (by decide) (by omega), hfailed]; decide),
    if_neg (by rw [hw.withholding hx, hwith]; decide),
    if_neg (by rw [hid, hpkg, hdie, hstn]; simp [sentOn, aPkg_addrOf, aDie_addrOf]),
    State.reads_of_rowsGood (by rw [hw.rowsGood, hrows])]
  dsimp only
  have hgen' : (sentOn op r seq (s.addrOf x.toNat pon)).req.gen = u.gen (sentOn op r seq (s.addrOf x.toNat pon)).req.pav := by
    rw [hw.gen]
    exact hgen
  rw [if_neg (by decide), if_neg (by simp [State.isReplayDone, sentOn, rWho]), if_neg (by simp [hgen']), hw.slot, if_neg (by simp [hfree, hret]),
    if_neg hmoved, if_neg (by simp [hfrozen])]
  simp only [show (sentOn op r seq (s.addrOf x.toNat pon)).replay = false from rfl, Bool.false_eq_true, if_false]
  rw [if_neg (by simp [show (sentOn op r seq (s.addrOf x.toNat pon)).req.op = op from rfl, hkind])]
  generalize u.recordSeq x.toNat (sentOn op r seq (s.addrOf x.toNat pon)) = v at hv ⊢
  have hneed := hv.needOf hw op r x pon seq (s.addrOf x.toNat pon)
  by_cases hlock : (s.slot x.toNat pon).kind = .sem ∨ (s.slot x.toNat pon).kind = .glock
  · rw [if_pos hlock, Bool.and_eq_true, Bool.or_eq_true, decide_eq_true_eq, decide_eq_true_eq, Bool.not_eq_true'] at hrights
    obtain ⟨hright, hpav⟩ := hrights
    have hhas : u.rightsOf x.toNat ((s.slot x.toNat pon).link.toNat / 64 % 64) r.pav = s.rightsOf x.toNat ((s.slot x.toNat pon).link.toNat / 64 % 64) r.pav := by
      simp only [State.rightsOf, hw.mem]
    rw [if_pos hlock, hneed, hv.rightsOf, hv.pavFrozen, hw.pavFrozen, show (sentOn op r seq (s.addrOf x.toNat pon)).req.pav = r.pav from rfl, hhas,
      if_neg (by simp [hright]), if_neg (by rcases hpav with h | h <;> simp [h])]
  · rw [if_neg hlock] at hrights ⊢
    exact if_neg (by simpa [sentOn, haltReq] using hrights)

end Sys2Proof.Machine

/-! Proofs for 02: MOVE copies its object, or is refused (R64, R65). -/

namespace Sys2Proof.Machine

/-! ### The request at its home -/

/-- `v` is `s` after a halt has accepted the request and its home has taken it, before the operation. -/
def AtHome (s v : State) (op : BitVec 6) (r : CoreReq) : Prop := ∃ u, Sent s u op r ∧ SeqWork u v

section
variable {s v : State} {op : BitVec 6} {r : CoreReq} (h : AtHome s v op r)
include h

theorem AtHome.su : v.su = s.su := by
  obtain ⟨u, hu, hv⟩ := h
  rw [hv.su, hu.work.su]
theorem AtHome.slot (i n : Nat) : v.slot i n = s.slot i n := by
  obtain ⟨u, hu, hv⟩ := h
  rw [hv.slot, hu.work.slot]
theorem AtHome.net : ∃ l, v.net = s.net ++ l := by
  obtain ⟨u, hu, hv⟩ := h
  obtain ⟨l, hl⟩ := hv.net
  exact ⟨l, by rw [hl, hu.work.net]⟩
theorem AtHome.rowsGood : v.rowsGood = s.rowsGood := by
  obtain ⟨u, hu, hv⟩ := h
  simp [State.rowsGood, State.prot, hv.prots, hu.work.prots]
theorem AtHome.addrOf (i n : Nat) : v.addrOf i n = s.addrOf i n := by
  unfold State.addrOf
  rw [h.su]
theorem AtHome.moveGroup (i n : Nat) : v.moveGroup i n = s.moveGroup i n := by simp only [State.moveGroup, h.slot]
theorem AtHome.moveRefusal (i n : Nat) (rq : HReq) : v.moveRefusal i n rq = s.moveRefusal i n rq := by
  obtain ⟨u, hu, hv⟩ := h
  rw [hv.moveRefusal]
  conv_lhs => rw [hu.work.1]
  rfl

/-- What the halt keeps of the request stands in any state that leaves halts and outputs alone. -/
theorem AtHome.acceptedBy {t : State} (hh : t.halts = v.halts) (ho : ∃ o, t.out = v.out ++ o) : AcceptedBy s t op r := by
  obtain ⟨u, hu, hv⟩ := h
  obtain ⟨o, ho⟩ := ho
  obtain ⟨-, hacc, htook⟩ := hu
  refine ⟨by rw [ho, hv.out]; exact List.mem_append_left _ hacc, ?_⟩
  unfold State.wait
  rw [State.halt_congr _ _ (hh.trans hv.halts)]
  exact htook

end

theorem opPosted_move (ret : Bool) : opPosted 0x20 ret = false := by cases ret <;> decide

/-- The MOVE of `r` as its home has it. -/
structure MoveOf (r : CoreReq) (rq : HReq) : Prop where
  who : rq.who = rWho r
  op : rq.req.op = 0x20
  load : rq.load = none
  posted : rq.posted = false
  dst : moveDst rq = r.operand.extractLsb' 0 25
  refusal : ∀ (s : State) (i n : Nat), s.moveRefusal i n rq = s.moveRefusal i n (asked 0x20 r)

theorem sentOn_moveOf (r : CoreReq) (seq : BitVec 8) (a : GAddr) : MoveOf r (sentOn 0x20 r seq a) :=
  ⟨rfl, rfl, rfl, opPosted_move r.ret, rfl, fun _ _ _ => rfl⟩

theorem present_move {s : State} {r : CoreReq} {x : BitVec 2} {pon : Nat} (hm : s.meets 0x20 r x pon = true) :
    ∃ v rq, s.present 0x20 r = v.opMove x.toNat pon rq ∧ AtHome s v 0x20 r ∧ MoveOf r rq := by
  obtain ⟨htakes, -, hadm⟩ := meets_iff hm
  obtain ⟨-, hgen, -⟩ := takes_serving htakes
  obtain ⟨u, seq, hu, hs⟩ := present_arrives hm (by decide) (by decide) (by decide)
  rw [hu, reach_admitted hs.work hadm hgen]
  exact ⟨_, _, rfl, ⟨u, hs, (recordSeq_seqWork _ _ _).occur _ _ _⟩, sentOn_moveOf r seq _⟩

/-! ### A copy -/

theorem of_ite_some {α : Type} {c : Prop} [Decidable c] {a : α} {e : Option α} (h : (if c then some a else e) = none) : ¬c ∧ e = none := by
  by_cases hc : c
  · rw [if_pos hc] at h
    cases h
  · rw [if_neg hc] at h
    exact ⟨hc, h⟩

/-- A MOVE that nothing refuses names a FREE slot for each it moves. -/
theorem moveRefusal_none {s : State} {si pon p : Nat} {rq : HReq} (h : s.moveRefusal si pon rq = none) (hg : s.moveGroup si pon = (p, 1)) :
    (s.slot (aStn (moveDst rq)).toNat (aPon (moveDst rq))).kind = .free := by
  unfold State.moveRefusal at h
  rw [hg] at h
  obtain ⟨-, h⟩ := of_ite_some h
  obtain ⟨-, h⟩ := of_ite_some h
  obtain ⟨hfree, -⟩ := of_ite_some h
  by_contra hk
  exact hfree (by simp [hk])

theorem copySlot_slotWrites (s : State) (si p dst q : Nat) :
    s.copySlot si p dst q = { s with stns := (s.copySlot si p dst q).stns } := by
  unfold State.copySlot
  dsimp only
  split
  · rfl
  split
  · rfl
  split
  · unfold State.setEnt
    dsimp only
    split <;> rfl
  · rfl

/-- Both slots are FROZEN, and the copy has all but perhaps the LINK of the object (02 R64). -/
theorem copySlot_frozen (s : State) {si p dst q : Nat} (hne : ¬(dst = si ∧ q = p)) :
    (s.copySlot si p dst q).slot si p = { s.slot si p with frozen := true } ∧
      ∃ k, (s.copySlot si p dst q).slot dst q = { s.slot si p with frozen := true, link := k } := by
  have hback : si ≠ dst ∨ p ≠ q := by
    by_contra hc
    push Not at hc
    exact hne ⟨hc.1.symm, hc.2.symm⟩
  have hcopied : ∀ (k : BitVec 24), ((s.modSlot si p (fun sl => { sl with frozen := true })).modSlot dst q (fun _ => { s.slot si p with frozen := true, link := k })).slot si p =
      { s.slot si p with frozen := true } := fun k => by
    rw [State.slot_modSlot_ne _ _ _ _ _ _ hback, State.slot_modSlot]
  unfold State.copySlot
  dsimp only
  split
  · exact ⟨hcopied _, _, State.slot_modSlot _ _ _ _⟩
  split
  · rw [State.setTurn_slot, State.setTurn_slot]
    exact ⟨hcopied _, _, State.slot_modSlot _ _ _ _⟩
  split
  · rw [State.setEnt_slot, State.setEnt_slot]
    exact ⟨hcopied _, _, State.slot_modSlot _ _ _ _⟩
  · exact ⟨hcopied _, _, State.slot_modSlot _ _ _ _⟩

theorem moveGroup_single {s : State} {si pon : Nat} (h : (s.slot si pon).kind ∉ ([.ring, .ringPart] : List Kind)) : s.moveGroup si pon = (pon, 1) := by
  have h' : ¬((s.slot si pon).kind = .ring ∨ (s.slot si pon).kind = .ringPart) := by simpa using h
  unfold State.moveGroup
  exact if_neg h'

/-- A MOVE of one slot that nothing refuses copies it and asks for the acknowledgement. -/
theorem opMove_copies {s : State} {si pon : Nat} {rq : HReq} (hr : s.moveRefusal si pon rq = none) (hg : s.moveGroup si pon = (pon, 1)) (hrows : s.rowsGood = true) :
    s.opMove si pon rq = (s.copySlot si pon (aStn (moveDst rq)).toNat (aPon (moveDst rq))).emit (.stn (aStn (moveDst rq))) (.stn (BitVec.ofNat 2 si))
      (.moveAck (s.addrOf si pon) (moveDst rq) rq) := by
  have ha : (s.copySlot si pon (aStn (moveDst rq)).toNat (aPon (moveDst rq))).addrOf si pon = s.addrOf si pon := by
    rw [copySlot_slotWrites]
    rfl
  unfold State.opMove
  rw [hr, hg]
  dsimp only
  rw [State.reads_of_rowsGood hrows, ← ha]
  rfl
theorem opMove_refused {s : State} {si pon : Nat} {rq : HReq} {st : Status} (hr : s.moveRefusal si pon rq = some st) : s.opMove si pon rq = s.answer si rq st 0 := by
  unfold State.opMove
  rw [hr]

theorem rowsGood_of_admits {s : State} {op p : BitVec 6} {x : BitVec 2} {pon : Nat} {who : Option Orig} (h : s.admits op p x pon who = true) : s.rowsGood = true := by
  simp only [State.admits, Bool.and_eq_true] at h
  obtain ⟨⟨⟨⟨⟨⟨⟨⟨hrows, -⟩, -⟩, -⟩, -⟩, -⟩, -⟩, -⟩, -⟩ := h
  exact hrows

/-- What a MOVE that copies shows (02 R64). -/
def MoveCopied (s t : State) (r : CoreReq) (x : BitVec 2) (pon : Nat) (d : GAddr) : Prop :=
  ∃ l rq, AcceptedBy s t 0x20 r ∧ (t.slot x.toNat pon).frozen = true ∧ (t.slot (aStn d).toNat (aPon d)).frozen = true ∧
    (t.slot (aStn d).toNat (aPon d)).val = (s.slot x.toNat pon).val ∧ (t.slot (aStn d).toNat (aPon d)).kind = (s.slot x.toNat pon).kind ∧ t.net = s.net ++ l ∧
    ⟨.stn (aStn d), .stn x, .moveAck (s.addrOf x.toNat pon) d rq⟩ ∈ l ∧ rq.who = rWho r

theorem opMove_moveCopied {r : CoreReq} {x : BitVec 2} {pon : Nat} {s v : State} {rq : HReq} {d : GAddr} (hat : AtHome s v 0x20 r)
    (hk : (s.slot x.toNat pon).kind ∉ ([.ring, .ringPart, .free] : List Kind)) (hr : s.moveRefusal x.toNat pon rq = none) (hrows : s.rowsGood = true)
    (hwho : rq.who = rWho r) (hd : moveDst rq = d) : MoveCopied s (v.opMove x.toNat pon rq) r x pon d := by
  obtain ⟨hring, hpart, hkind⟩ : (s.slot x.toNat pon).kind ≠ .ring ∧ (s.slot x.toNat pon).kind ≠ .ringPart ∧ (s.slot x.toNat pon).kind ≠ .free := by simpa using hk
  have hg : s.moveGroup x.toNat pon = (pon, 1) := moveGroup_single (by simp [hring, hpart])
  have hfree : (s.slot (aStn d).toNat (aPon d)).kind = .free := by
    rw [← hd]
    exact moveRefusal_none hr hg
  have hne : ¬((aStn d).toNat = x.toNat ∧ aPon d = pon) := by
    rintro ⟨h1, h2⟩
    rw [h1, h2] at hfree
    exact hkind hfree
  obtain ⟨hsrc, k, hdst⟩ := copySlot_frozen v hne
  obtain ⟨l, hl⟩ := hat.net
  have hcopy := copySlot_slotWrites v x.toNat pon (aStn d).toNat (aPon d)
  rw [opMove_copies (by rw [hat.moveRefusal, hr]) (by rw [hat.moveGroup, hg]) (by rw [hat.rowsGood, hrows]), hat.addrOf, hd, BitVec.ofNat_toNat, BitVec.setWidth_eq]
  generalize v.copySlot x.toNat pon (aStn d).toNat (aPon d) = c at hcopy hsrc hdst ⊢
  have hslot : ∀ i n, (c.emit (.stn (aStn d)) (.stn x) (.moveAck (s.addrOf x.toNat pon) d rq)).slot i n = c.slot i n :=
    fun i n => State.slot_congr _ _ (State.emit_stns _ _ _ _) i n
  have hnet : c.net = v.net := by rw [hcopy]
  refine ⟨l ++ [⟨.stn (aStn d), .stn x, .moveAck (s.addrOf x.toNat pon) d rq⟩], rq,
    hat.acceptedBy (by rw [State.emit_halts, hcopy]) ⟨[], by rw [State.emit_out, hcopy]; simp⟩,
    by rw [hslot, hsrc], by rw [hslot, hdst], by rw [hslot, hdst, ← hat.slot], by rw [hslot, hdst, ← hat.slot], ?_,
    List.mem_append_right _ (List.mem_singleton_self _), hwho⟩
  rw [State.emit, hnet, hl, List.append_assoc]

/-- What a MOVE that is refused shows (02 R65). -/
theorem opMove_answers {r : CoreReq} {x : BitVec 2} {pon : Nat} {s v : State} {rq : HReq} {st : Status} (hat : AtHome s v 0x20 r) (hrq : MoveOf r rq)
    (hr : s.moveRefusal x.toNat pon rq = some st) :
    AcceptedBy s (v.opMove x.toNat pon rq) 0x20 r ∧ SlotsBut s (v.opMove x.toNat pon rq) x [] ∧ Answered s (v.opMove x.toNat pon rq) 0x20 r x st 0 := by
  obtain ⟨l, hl⟩ := hat.net
  obtain ⟨hwho, hop, hload, hposted, -, -⟩ := hrq
  rw [opMove_refused (by rw [hat.moveRefusal, hr]), v.answer_queue x.toNat rq st 0 hload hposted ⟨_, _, _, hwho⟩, BitVec.ofNat_toNat, BitVec.setWidth_eq]
  refine ⟨hat.acceptedBy (State.emit_halts _ _ _ _) ⟨[], by simp⟩, fun j m _ => ?_, l ++ [⟨.stn x, rq.who.part, .compl rq st 0 0 0⟩], rq,
    .compl rq st 0 0 0, ?_, hwho, hop, ?_, fun hp => ?_, fun _ => ⟨_, _, rfl⟩⟩
  · rw [State.slot_congr _ _ (State.emit_stns _ _ _ _)]
    exact hat.slot j m
  · rw [State.emit, hl, List.append_assoc]
  · rw [hwho]
    exact List.mem_append_right _ (List.mem_singleton_self _)
  · rw [opPosted_move] at hp
    cases hp

/-! ### The command -/

theorem exec_move (r : CoreReq) (s : State) : exec (.move r) s = .next (s.keep (s.quiet.present 0x20 r)) := rfl

/-- The end of a command keeps what a halt has accepted. -/
theorem AcceptedBy.keep {s t : State} {op : BitVec 6} {r : CoreReq} (h : AcceptedBy s.quiet t op r) : AcceptedBy s (s.keep t) op r := by
  unfold AcceptedBy State.wait at h ⊢
  rw [State.keep_out, State.halt_congr _ _ (State.keep_halts s t)]
  exact h

/-- A MOVE that nothing refuses copies its object (02 R64). -/
theorem move_copies {r : CoreReq} {x : BitVec 2} {pon : Nat} {s : State} (hm : s.meets 0x20 r x pon = true)
    (hk : (s.slot x.toNat pon).kind ∉ ([.ring, .ringPart] : List Kind)) (hr : s.moveRefusal x.toNat pon (asked 0x20 r) = none) :
    MoveCopied s (s.keep (s.quiet.present 0x20 r)) r x pon (r.operand.extractLsb' 0 25) := by
  obtain ⟨-, -, hadm⟩ := meets_iff hm
  obtain ⟨v, rq, hv, hat, hrq⟩ := present_move (s := s.quiet) hm
  have hfree : (s.slot x.toNat pon).kind ≠ .free := by
    intro he
    simp [State.admits, he, kindAccepts] at hadm
  have hk' : (s.slot x.toNat pon).kind ∉ ([.ring, .ringPart, .free] : List Kind) := by
    simp only [List.mem_cons, List.not_mem_nil, or_false, not_or] at hk ⊢
    exact ⟨hk.1, hk.2, hfree⟩
  obtain ⟨l, q, hacc, hsrc, hdst, hval, hkind, hnet, hl, hwho⟩ := opMove_moveCopied hat hk' ((hrq.refusal _ _ _).trans hr) (rowsGood_of_admits hadm) hrq.who hrq.dst
  rw [hv]
  have hslot : ∀ i n, (s.keep (v.opMove x.toNat pon rq)).slot i n = (v.opMove x.toNat pon rq).slot i n := State.slot_congr _ _ (State.keep_stns _ _)
  exact ⟨l, q, hacc.keep, by rw [hslot, hsrc], by rw [hslot, hdst], by rw [hslot, hval]; rfl, by rw [hslot, hkind]; rfl, by rw [State.keep_net, hnet]; rfl, hl, hwho⟩

/-- A MOVE that is refused is answered and changes no slot (02 R65). -/
theorem move_refused {r : CoreReq} {x : BitVec 2} {pon : Nat} {s : State} {st : Status} (hm : s.meets 0x20 r x pon = true)
    (hr : s.moveRefusal x.toNat pon (asked 0x20 r) = some st) :
    AcceptedBy s (s.keep (s.quiet.present 0x20 r)) 0x20 r ∧ SlotsBut s (s.keep (s.quiet.present 0x20 r)) x [] ∧
      Answered s (s.keep (s.quiet.present 0x20 r)) 0x20 r x st 0 := by
  obtain ⟨v, rq, hv, hat, hrq⟩ := present_move (s := s.quiet) hm
  obtain ⟨hacc, hslots, l, q, m, hnet, hrest⟩ := opMove_answers hat hrq ((hrq.refusal _ _ _).trans hr)
  rw [hv]
  refine ⟨hacc.keep, fun j n hn => ?_, l, q, m, by rw [State.keep_net, hnet]; rfl, hrest⟩
  rw [State.slot_congr _ _ (State.keep_stns _ _)]
  exact hslots j n hn

end Sys2Proof.Machine

/-! Proofs for 02: the acknowledgement of a MOVE (R64, steps 4 to 6). -/

namespace Sys2Proof.Machine

/-! ### What step 4 leaves -/

/-- What waits at station `x`, and the part's identities, are as they were. -/
def WaitsKept (x : Nat) (s t : State) : Prop :=
  t.su = s.su ∧ (t.mem x).freezeQ = (s.mem x).freezeQ ∧ (t.stn x).backlog = (s.stn x).backlog ∧ (t.stn x).beats = (s.stn x).beats

/-- Every slot is as it was but for its LINK. -/
def LinksOnly (s t : State) : Prop := ∀ j m, ∃ k, t.slot j m = { s.slot j m with link := k }

theorem WaitsKept.refl (x : Nat) (s : State) : WaitsKept x s s := ⟨rfl, rfl, rfl, rfl⟩
theorem WaitsKept.trans {x : Nat} {s t u : State} (h : WaitsKept x s t) (k : WaitsKept x t u) : WaitsKept x s u := by
  obtain ⟨h1, h2, h3, h4⟩ := h
  obtain ⟨k1, k2, k3, k4⟩ := k
  exact ⟨k1.trans h1, k2.trans h2, k3.trans h3, k4.trans h4⟩
theorem WaitsKept.of_eq {x : Nat} {s t : State} (hsu : t.su = s.su) (hst : t.stns = s.stns) : WaitsKept x s t :=
  ⟨hsu, by rw [State.mem_congr _ _ hst], by rw [State.stn_congr _ _ hst], by rw [State.stn_congr _ _ hst]⟩
theorem WaitsKept.modStn (x : Nat) (s : State) (i : Nat) {f : Station → Station}
    (hf : ∀ st, (f st).mem.freezeQ = st.mem.freezeQ ∧ (f st).backlog = st.backlog ∧ (f st).beats = st.beats) : WaitsKept x s (s.modStn i f) := by
  unfold WaitsKept State.mem
  by_cases hx : x = i
  · rw [hx, State.stn_modStn]
    exact ⟨rfl, hf _⟩
  · rw [State.stn_modStn_ne _ _ _ _ hx]
    exact ⟨rfl, rfl, rfl, rfl⟩
theorem WaitsKept.modMem (x : Nat) (s : State) (i : Nat) {f : StnMem → StnMem} (hf : ∀ m, (f m).freezeQ = m.freezeQ) : WaitsKept x s (s.modMem i f) :=
  .modStn x s i (fun _ => ⟨hf _, rfl, rfl⟩)
theorem WaitsKept.modSlot (x : Nat) (s : State) (i n : Nat) (f : Slot → Slot) : WaitsKept x s (s.modSlot i n f) := .modMem x s i (fun _ => rfl)
theorem WaitsKept.setTurn (x : Nat) (s : State) (i n : Nat) (t : TurnRec) : WaitsKept x s (s.setTurn i n t) := .modMem x s i (fun _ => rfl)
theorem WaitsKept.setEnt (x : Nat) (s : State) (i n : Nat) (e : SemEnt) : WaitsKept x s (s.setEnt i n e) := by
  unfold State.setEnt
  dsimp only
  split <;> exact .modMem x s i (fun _ => rfl)

theorem LinksOnly.of_slot {s t : State} (h : ∀ j m, t.slot j m = s.slot j m) : LinksOnly s t := fun j m => ⟨(s.slot j m).link, h j m⟩
theorem LinksOnly.trans {s t u : State} (h : LinksOnly s t) (k : LinksOnly t u) : LinksOnly s u := fun j m => by
  obtain ⟨_, hk⟩ := h j m
  obtain ⟨b, hb⟩ := k j m
  exact ⟨b, by rw [hb, hk]⟩

/-- What follows an object that moves changes neither what waits nor more of a slot than its LINK. -/
def Follows (x : Nat) (s t : State) : Prop := WaitsKept x s t ∧ LinksOnly s t

theorem Follows.refl (x : Nat) (s : State) : Follows x s s := ⟨.refl x s, .of_slot (fun _ _ => rfl)⟩
theorem Follows.trans {x : Nat} {s t u : State} (h : Follows x s t) (k : Follows x t u) : Follows x s u := ⟨h.1.trans k.1, h.2.trans k.2⟩
theorem Follows.of_eq {x : Nat} {s t : State} (hsu : t.su = s.su) (hst : t.stns = s.stns) : Follows x s t :=
  ⟨.of_eq hsu hst, .of_slot (State.slot_congr _ _ hst)⟩
theorem Follows.modMem {x : Nat} {s t : State} (h : Follows x s t) (i : Nat) {f : StnMem → StnMem} (hf : ∀ m, (f m).freezeQ = m.freezeQ ∧ (f m).slots = m.slots) :
    Follows x s (t.modMem i f) :=
  h.trans ⟨.modMem x t i (fun m => (hf m).1), .of_slot (fun j m => (SlotWrites.modMem t i [] (fun m => (hf m).2)).2 j m (by simp))⟩
theorem Follows.setTurn {x : Nat} {s t : State} (h : Follows x s t) (i n : Nat) (r : TurnRec) : Follows x s (t.setTurn i n r) :=
  h.trans ⟨.setTurn x t i n r, .of_slot (State.setTurn_slot t i n r)⟩
theorem Follows.setEnt {x : Nat} {s t : State} (h : Follows x s t) (i n : Nat) (e : SemEnt) : Follows x s (t.setEnt i n e) :=
  h.trans ⟨.setEnt x t i n e, .of_slot (State.setEnt_slot t i n e)⟩
theorem Follows.foldl {α : Type} {x : Nat} {s : State} {f : State → α → State} (hf : ∀ t a, Follows x t (f t a)) (l : List α) {t : State} (h : Follows x s t) :
    Follows x s (l.foldl f t) := by
  induction l generalizing t with
  | nil => exact h
  | cons a l ih => exact ih (h.trans (hf t a))

/-! ### What follows the object, one thing after the other -/

/-- A ring's skip region whose marker is acknowledged. -/
def State.marksFollow (s : State) (si p dst q : Nat) : State :=
  if (s.stn si).marked.contains p then
    (s.modStn si (fun st => { st with marked := st.marked.filter (· ≠ p) })).modStn dst (fun st => { st with marked := st.marked ++ [q] })
  else s
/-- The record or lock queue left behind. -/
def State.rowFreed (s : State) (si p dst : Nat) (k : Kind) : State :=
  if dst = si then s else if k = .turnstile then s.setTurn si p TurnRec.init else if k = .mlock then s.setEnt si p SemEnt.init else s
/-- One watch entry in its new row. -/
def State.watchAt (s : State) (si dst q : Nat) (w : Watch) : State :=
  match if dst = si then some w.row else s.freeRow dst with
  | some r => s.modMem dst (fun m => { m with watches := m.watches ++ [{ w with row := r, pon := q }] })
  | none => s
/-- The watch entries, and the notice to each of their subscribers. -/
def State.watchesFollow (s : State) (si p dst q : Nat) (a d : GAddr) : State :=
  let moved := (s.mem si).watches.filter (fun w => w.pon = p)
  let s := s.modMem si (fun m => { m with watches := m.watches.filter (fun w => w.pon ≠ p) })
  let s := moved.foldl (fun s w => s.watchAt si dst q w) s
  let s := if moved.isEmpty then s else s.watchHigh dst
  moved.foldl (fun s w => s.emit (.stn (BitVec.ofNat 2 si)) (Orig.part (.sub w.sub)) (.moveNotice a d)) s
/-- A slot whose LINK names a bound object that moves from `p` to `q`. -/
def boundSlot (p q : Nat) (e : Nat × Slot) : Nat × Slot :=
  if e.2.kind = .ticket ∧ tickBv e.2.link ∧ tickBpon e.2.link = p then (e.1, { e.2 with link := BitVec.ofNat 24 (e.2.link.toNat % 1024 + q * 1024) }) else e
/-- Waiter records, the bound table and bound tickets. -/
def State.waitersFollow (s : State) (si p dst q : Nat) : State :=
  if dst = si then s.modMem si (fun m => { m with
      waiters := m.waiters.map (fun w => if w.pon = p then { w with pon := q } else w)
      bounds := m.bounds.map (fun e => (e.1, e.2.map (fun x => (if x.1 = p then q else x.1, if x.2 = p then q else x.2))))
      slots := m.slots.map (boundSlot p q) })
  else s
/-- A gang's GANG_TS. -/
def State.gangFollows (s : State) (dst q : Nat) (d : GAddr) : State :=
  if (s.slot dst q).kind = .turnstile ∧ 32 ≤ (s.turn dst q).gang.toNat then s.put F.GANG_TS_ADDR d.toNat 0 ((s.turn dst q).gang.toNat % 32) else s

/-- Step 4 up to the change of both slots. -/
def State.followed (s : State) (si p dst q : Nat) : State :=
  (((((s.recopySlot si p dst q).marksFollow si p dst q).rowFreed si p dst ((s.recopySlot si p dst q).slot si p).kind).watchesFollow si p dst q
    (s.addrOf si p) (s.addrOf dst q)).waitersFollow si p dst q).gangFollows dst q (s.addrOf dst q)

theorem finishSlot_eq (s : State) (si p dst q : Nat) :
    s.finishSlot si p dst q =
      ((s.followed si p dst q).modSlot si p (fun _ => { (s.recopySlot si p dst q).slot si p with
        kind := .moved, val := BitVec.ofNat 64 (s.addrOf dst q).toNat, link := 0, frozen := false })).modSlot dst q (fun sl => { sl with frozen := false }) := rfl

theorem Follows.marked {x : Nat} {s t : State} (h : Follows x s t) (i : Nat) (g : Station → List Nat) :
    Follows x s (t.modStn i (fun st => { st with marked := g st })) := by
  refine h.trans ⟨.modStn x t i (fun _ => ⟨rfl, rfl, rfl⟩), .of_slot (fun j m => ?_)⟩
  unfold State.slot State.mem
  by_cases hj : j = i
  · rw [hj, State.stn_modStn]
  · rw [State.stn_modStn_ne _ _ _ _ hj]

theorem marksFollow_follows (x : Nat) (s : State) (si p dst q : Nat) : Follows x s (s.marksFollow si p dst q) := by
  unfold State.marksFollow
  split
  · exact ((Follows.refl x s).marked si _).marked dst _
  · exact .refl x s
theorem rowFreed_follows (x : Nat) (s : State) (si p dst : Nat) (k : Kind) : Follows x s (s.rowFreed si p dst k) := by
  unfold State.rowFreed
  split
  · exact .refl x s
  split
  · exact (Follows.refl x s).setTurn _ _ _
  split
  · exact (Follows.refl x s).setEnt _ _ _
  · exact .refl x s
theorem watchAt_follows (x : Nat) (s : State) (si dst q : Nat) (w : Watch) : Follows x s (s.watchAt si dst q w) := by
  unfold State.watchAt
  split
  · exact (Follows.refl x s).modMem _ (fun _ => ⟨rfl, rfl⟩)
  · exact .refl x s
theorem watchesFollow_follows (x : Nat) (s : State) (si p dst q : Nat) (a d : GAddr) : Follows x s (s.watchesFollow si p dst q a d) := by
  unfold State.watchesFollow
  dsimp only
  refine Follows.foldl (fun t w => .of_eq (State.emit_su _ _ _ _) (State.emit_stns _ _ _ _)) _ ?_
  have hrows := Follows.foldl (fun t w => watchAt_follows x t si dst q w) ((s.mem si).watches.filter (fun w => w.pon = p))
    ((Follows.refl x s).modMem si (f := fun m => { m with watches := m.watches.filter (fun w => w.pon ≠ p) }) (fun _ => ⟨rfl, rfl⟩))
  split
  · exact hrows
  · exact hrows.trans (.of_eq rfl rfl)
theorem tget_boundSlot (p q n : Nat) (t : Tbl Slot) : ∃ k, tget Slot.free (t.map (boundSlot p q)) n = { tget Slot.free t n with link := k } := by
  induction t with
  | nil => exact ⟨_, rfl⟩
  | cons e t ih =>
    obtain ⟨k, hk⟩ : ∃ k, boundSlot p q e = (e.1, { e.2 with link := k }) := by
      unfold boundSlot
      split
      · exact ⟨_, rfl⟩
      · exact ⟨e.2.link, rfl⟩
    rw [List.map_cons, hk]
    unfold tget
    split
    · exact ⟨k, rfl⟩
    · exact ih
theorem waitersFollow_follows (x : Nat) (s : State) (si p dst q : Nat) : Follows x s (s.waitersFollow si p dst q) := by
  unfold State.waitersFollow
  split
  · refine ⟨.modMem x s si (fun _ => rfl), fun j m => ?_⟩
    unfold State.slot
    by_cases hj : j = si
    · rw [hj, State.mem_modMem]
      exact tget_boundSlot p q m _
    · rw [State.mem_modMem_ne _ _ _ _ hj]
      exact ⟨_, rfl⟩
  · exact .refl x s
theorem gangFollows_follows (x : Nat) (s : State) (dst q : Nat) (d : GAddr) : Follows x s (s.gangFollows dst q d) := by
  unfold State.gangFollows
  split
  · exact .of_eq (State.put_su _ _ _ _ _) (State.put_stns _ _ _ _ _)
  · exact .refl x s

theorem followed_follows (x : Nat) (s : State) (si p dst q : Nat) : Follows x (s.recopySlot si p dst q) (s.followed si p dst q) :=
  ((((marksFollow_follows x _ si p dst q).trans (rowFreed_follows x _ si p dst _)).trans (watchesFollow_follows x _ si p dst q _ _)).trans
    (waitersFollow_follows x _ si p dst q)).trans (gangFollows_follows x _ dst q _)

/-- The destination's copy, once more; the source is as it was. -/
theorem recopySlot_copies (x : Nat) (s : State) {si p dst q : Nat} (hne : ¬(dst = si ∧ q = p)) :
    WaitsKept x s (s.recopySlot si p dst q) ∧ (s.recopySlot si p dst q).slot si p = s.slot si p ∧
      ∃ k, (s.recopySlot si p dst q).slot dst q = { s.slot si p with link := k } := by
  have hback : si ≠ dst ∨ p ≠ q := by
    by_contra hc
    push Not at hc
    exact hne ⟨hc.1.symm, hc.2.symm⟩
  unfold State.recopySlot
  dsimp only
  split
  · exact ⟨.modSlot _ _ _ _ _, State.slot_modSlot_ne _ _ _ _ _ _ hback, _, State.slot_modSlot _ _ _ _⟩
  split
  · rw [State.setTurn_slot, State.setTurn_slot]
    exact ⟨(WaitsKept.modSlot x s _ _ _).trans (.setTurn _ _ _ _ _), State.slot_modSlot_ne _ _ _ _ _ _ hback, _, State.slot_modSlot _ _ _ _⟩
  split
  · rw [State.setEnt_slot, State.setEnt_slot]
    exact ⟨(WaitsKept.modSlot x s _ _ _).trans (.setEnt _ _ _ _ _), State.slot_modSlot_ne _ _ _ _ _ _ hback, _, State.slot_modSlot _ _ _ _⟩
  · exact ⟨.modSlot _ _ _ _ _, State.slot_modSlot_ne _ _ _ _ _ _ hback, _, State.slot_modSlot _ _ _ _⟩

/-- A move of one slot is finished: the source is MOVED and names the destination, which has the source's value (02 R64). -/
def MoveEnded (s t : State) (si p dst q : Nat) : Prop :=
  (t.slot si p).kind = .moved ∧ (t.slot si p).val = BitVec.ofNat 64 (s.addrOf dst q).toNat ∧ (t.slot dst q).frozen = false ∧ (t.slot dst q).val = (s.slot si p).val

theorem finishSlot_ends (s : State) {si p dst q : Nat} (hne : ¬(dst = si ∧ q = p)) :
    WaitsKept si s (s.finishSlot si p dst q) ∧ MoveEnded s (s.finishSlot si p dst q) si p dst q := by
  have hback : si ≠ dst ∨ p ≠ q := by
    by_contra hc
    push Not at hc
    exact hne ⟨hc.1.symm, hc.2.symm⟩
  have hforth : dst ≠ si ∨ q ≠ p := hback.imp Ne.symm Ne.symm
  obtain ⟨hw, hsrc, k, hdst⟩ := recopySlot_copies si s hne
  obtain ⟨hfw, hlinks⟩ := followed_follows si s si p dst q
  obtain ⟨k', hk'⟩ := hlinks dst q
  rw [finishSlot_eq]
  generalize s.followed si p dst q = u at hfw hk' ⊢
  refine ⟨((hw.trans hfw).trans (.modSlot _ _ _ _ _)).trans (.modSlot _ _ _ _ _), ?_, ?_, ?_, ?_⟩
  · rw [State.slot_modSlot_ne _ _ _ _ _ _ hback, State.slot_modSlot]
  · rw [State.slot_modSlot_ne _ _ _ _ _ _ hback, State.slot_modSlot]
  · rw [State.slot_modSlot]
  · rw [State.slot_modSlot, State.slot_modSlot_ne _ _ _ _ _ _ hforth, hk', hdst]

/-! ### The acknowledgement -/

/-- Nothing waits at the station. -/
def Unwaited (s : State) (x : Nat) : Prop := (s.mem x).freezeQ = [] ∧ (s.stn x).backlog = [] ∧ (s.stn x).beats = []

theorem WaitsKept.unwaited {x : Nat} {s t : State} (h : WaitsKept x s t) (hs : Unwaited s x) : Unwaited t x := by
  obtain ⟨-, hf, hb, he⟩ := h
  obtain ⟨sf, sb, se⟩ := hs
  exact ⟨hf.trans sf, hb.trans sb, he.trans se⟩

theorem drainAll_slot {s : State} {x : Nat} (hb : (s.stn x).backlog = []) (he : (s.stn x).beats = []) (j m : Nat) : (s.drainAll x).slot j m = s.slot j m := by
  have hlog : s.drainBacklog x (s.stn x).backlog.length = s := by
    rw [hb]
    rfl
  unfold State.drainAll State.drainBeats
  rw [hlog, he]
  unfold State.slot State.mem
  by_cases hj : j = x
  · rw [hj, List.foldl_nil, State.stn_modStn]
  · rw [List.foldl_nil, State.stn_modStn_ne _ _ _ _ hj]

/-- With nothing that waits, no slot changes when slots unfreeze. -/
theorem drainGroup_slot {s : State} {x : Nat} (h : Unwaited s x) (pon n : Nat) (d : GAddr) (j m : Nat) : (s.drainGroup x pon n d).slot j m = s.slot j m := by
  obtain ⟨hf, hb, he⟩ := h
  unfold State.drainGroup
  dsimp only
  rw [hf, List.filter_nil, List.foldl_nil, drainAll_slot]
  · refine (SlotWrites.modMem s x [] ?_).2 j m (by simp)
    exact fun _ => rfl
  · rw [State.modMem, State.stn_modStn]
    exact hb
  · rw [State.modMem, State.stn_modStn]
    exact he

theorem moveStands_slot (s : State) (k j m : Nat) : (s.moveStands k).slot j m = s.slot j m := rfl
theorem moveStands_waitsKept (x : Nat) (s : State) (k : Nat) : WaitsKept x s (s.moveStands k) := .of_eq rfl rfl

/-- The acknowledgement of one slot's move (02 R64). -/
theorem moveFinish_ends {s : State} {x : Nat} {a d : GAddr} {rq : HReq} (hk : (s.slot x (aPon a)).kind ∉ ([.ring, .ringPart] : List Kind))
    (hne : ¬((aStn d).toNat = x ∧ aPon d = aPon a)) (hu : Unwaited s x) (hl : rq.load = none) (hp : rq.posted = false)
    (hw : ∃ h c q, rq.who = .queue h c q) :
    MoveEnded s (s.moveFinish x a d rq) x (aPon a) (aStn d).toNat (aPon d) ∧
      ⟨.stn (BitVec.ofNat 2 x), rq.who.part, .compl rq .done (d.setWidth 64) 0 0⟩ ∈ (s.moveFinish x a d rq).net := by
  obtain ⟨hkept, hend⟩ := finishSlot_ends s hne
  have heq : s.moveFinish x a d rq = ((((s.finishSlot x (aPon a) (aStn d).toNat (aPon d)).moveStands x).moveStands (aStn d).toNat).drainGroup x (aPon a) 1 d).answer x rq .done
      (BitVec.ofNat 64 d.toNat) := by
    unfold State.moveFinish
    rw [moveGroup_single hk]
    dsimp only
    rw [if_neg (by decide), List.range_one, List.foldl_cons, List.foldl_nil, Nat.add_zero, Nat.add_zero]
  have hu' : Unwaited (((s.finishSlot x (aPon a) (aStn d).toNat (aPon d)).moveStands x).moveStands (aStn d).toNat) x :=
    ((hkept.trans (moveStands_waitsKept x _ _)).trans (moveStands_waitsKept x _ _)).unwaited hu
  have hslot : ∀ j m, (s.moveFinish x a d rq).slot j m = (s.finishSlot x (aPon a) (aStn d).toNat (aPon d)).slot j m := fun j m => by
    rw [heq, State.slot_congr _ _ (State.answer_stns _ _ _ _ _), drainGroup_slot hu', moveStands_slot, moveStands_slot]
  constructor
  · unfold MoveEnded
    rw [hslot, hslot]
    exact hend
  · rw [heq, State.answer_queue _ _ _ _ _ hl hp hw, BitVec.ofNat_toNat]
    exact List.mem_append_right _ (List.mem_singleton_self _)

/-! ### The command -/

theorem pop_stns (s : State) (a b : Part) : (s.pop a b).stns = s.stns := by
  unfold State.pop
  dsimp only
  split <;> rfl
theorem pop_su (s : State) (a b : Part) : (s.pop a b).su = s.su := by
  unfold State.pop
  dsimp only
  split <;> rfl

/-- A message that a station takes is at the head of its pair. -/
theorem onHead_stn {s : State} {src : Part} {x : BitVec 2} {m : Msg} {f : State → Msg → Option State} {t : State} (hh : s.head? src (.stn x) = some m)
    (hf : f (s.pop src (.stn x)) m = some t) : s.onHead src (.stn x) f = t := by
  unfold State.onHead
  rw [hh]
  dsimp only [State.readMsg]
  rw [hf]
  rfl

theorem ack_completes {y x : BitVec 2} {h : BitVec 4} {a d : GAddr} {rq : HReq} {s : State} (hh : s.head? (.stn y) (.stn x) = some (.moveAck a d rq))
    (hk : (s.slot x.toNat (aPon a)).kind ∉ ([.ring, .ringPart] : List Kind)) (hne : ¬(aStn d = x ∧ aPon d = aPon a)) (hu : Unwaited s x.toNat)
    (hl : rq.load = none) (hp : rq.posted = false) (hw : ∃ c q, rq.who = .queue h c q) :
    ∃ t, exec (.moveDestinationAck (.stn y) (.stn x)) s = .next t ∧ (t.slot x.toNat (aPon a)).kind = .moved ∧
      (t.slot x.toNat (aPon a)).val = (s.addrOf (aStn d).toNat (aPon d)).setWidth 64 ∧ (t.slot (aStn d).toNat (aPon d)).frozen = false ∧
      (t.slot (aStn d).toNat (aPon d)).val = (s.slot x.toNat (aPon a)).val ∧
      ∃ aux mods, ⟨.stn x, .halt h, .compl rq .done (d.setWidth 64) aux mods⟩ ∈ t.net := by
  obtain ⟨c, q, hwho⟩ := hw
  have hslot : ∀ j m, (s.quiet.pop (.stn y) (.stn x)).slot j m = s.slot j m := State.slot_congr _ _ (pop_stns _ _ _)
  have hstn : (s.quiet.pop (.stn y) (.stn x)).stn x.toNat = s.stn x.toNat := State.stn_congr _ _ (pop_stns _ _ _) _
  have hu' : Unwaited (s.quiet.pop (.stn y) (.stn x)) x.toNat := by
    unfold Unwaited State.mem at hu ⊢
    rw [hstn]
    exact hu
  have haddr : (s.quiet.pop (.stn y) (.stn x)).addrOf (aStn d).toNat (aPon d) = s.addrOf (aStn d).toNat (aPon d) := by
    unfold State.addrOf
    rw [pop_su]
    rfl
  have hne' : ¬((aStn d).toNat = x.toNat ∧ aPon d = aPon a) := fun hc => hne ⟨BitVec.eq_of_toNat_eq hc.1, hc.2⟩
  obtain ⟨⟨hkind, hval, hfrozen, hdval⟩, hnet⟩ := moveFinish_ends (by rw [hslot]; exact hk) hne' hu' hl hp ⟨h, c, q, hwho⟩
  have hslots : ∀ j m, (s.keep ((s.quiet.pop (.stn y) (.stn x)).moveFinish x.toNat a d rq)).slot j m =
      ((s.quiet.pop (.stn y) (.stn x)).moveFinish x.toNat a d rq).slot j m := State.slot_congr _ _ (State.keep_stns _ _)
  refine ⟨s.keep ((s.quiet.pop (.stn y) (.stn x)).moveFinish x.toNat a d rq), ?_, by rw [hslots, hkind], ?_, by rw [hslots, hfrozen], by rw [hslots, hdval, hslot], 0, 0, ?_⟩
  · exact congrArg (fun t => Host.Outcome.next (s.keep t)) (onHead_stn (s := s.quiet) hh rfl)
  · rw [hslots, hval, haddr, BitVec.ofNat_toNat]
  · rw [State.keep_net]
    rw [hwho, BitVec.ofNat_toNat, BitVec.setWidth_eq] at hnet
    exact hnet

end Sys2Proof.Machine

/-! Proofs for 02: what follows an object that has moved: the waits of a halt, and the junction's bound counter (R64). -/

namespace Sys2Proof.Machine

/-! ### The waits of a halt -/

/-- A table whose rows are each changed by `f`, which keeps the row that is not listed. -/
theorem tget_map {α : Type} {d : α} {f : α → α} (hf : f d = d) (t : Tbl α) (n : Nat) : tget d (t.map (fun e => (e.1, f e.2))) n = f (tget d t n) := by
  induction t with
  | nil => exact hf.symm
  | cons e t ih =>
    rw [List.map_cons]
    unfold tget
    split
    · rfl
    · exact ih

/-- A wait on `a` follows it to `d`. -/
def waitFollows (a d : GAddr) (w : WaitReg) : WaitReg := if w.v ∧ w.addrV ∧ w.addr = a then { w with addr := d } else w

/-- What a halt's wait registers and script are after the notice. -/
def Halt.noticed (ht : Halt) (a d : GAddr) : Halt :=
  { ht with
    waits := ht.waits.map (fun e => if e.2.v ∧ e.2.addrV ∧ e.2.addr = a then (e.1, { e.2 with addr := d }) else e)
    script := match ht.script.cmp with
      | some (x, v) => if x = a then { ht.script with cmp := some (d, v) } else ht.script
      | none => ht.script }

theorem noticed_waits (ht : Halt) (a d : GAddr) (i : Nat) : tget WaitReg.init (ht.noticed a d).waits i = waitFollows a d (tget WaitReg.init ht.waits i) := by
  have he : (ht.noticed a d).waits = ht.waits.map (fun e => (e.1, waitFollows a d e.2)) := by
    unfold Halt.noticed
    refine List.map_congr_left (fun e _ => ?_)
    unfold waitFollows
    split <;> rfl
  rw [he]
  exact tget_map rfl _ _

theorem haltReg_halts (s : State) (h : Nat) (a : GAddr) (c : Bool) : (s.haltReg h a c).halts = s.halts := by
  unfold State.haltReg
  dsimp only
  split
  · rfl
  · split <;> rfl
theorem haltReg_stns (s : State) (h : Nat) (a : GAddr) (c : Bool) : (s.haltReg h a c).stns = s.stns := by
  unfold State.haltReg
  dsimp only
  split
  · rfl
  · split <;> rfl
theorem pop_halts (s : State) (a b : Part) : (s.pop a b).halts = s.halts := by
  unfold State.pop
  dsimp only
  split <;> rfl
theorem pop_jct (s : State) (a b : Part) : (s.pop a b).jct = s.jct := by
  unfold State.pop
  dsimp only
  split <;> rfl
theorem pop_prots (s : State) (a b : Part) : (s.pop a b).prots = s.prots := by
  unfold State.pop
  dsimp only
  split <;> rfl

theorem readMsg_of_rowsGood {s : State} (h : s.rowsGood = true) (p : Part) (m : Msg) : s.readMsg p m = (true, s) := by
  unfold State.readMsg
  dsimp only
  simp only [State.reads_of_rowsGood h]
  cases p <;> cases m <;> dsimp only <;> split <;> rfl

/-- A message is taken where no row is in error. -/
theorem onHead_of_rowsGood {s : State} {src dst : Part} {m : Msg} {f : State → Msg → Option State} {t : State} (hg : s.rowsGood = true)
    (hh : s.head? src dst = some m) (hf : f (s.pop src dst) m = some t) : s.onHead src dst f = t := by
  unfold State.onHead
  rw [hh]
  dsimp only
  rw [readMsg_of_rowsGood hg]
  dsimp only
  rw [hf]
  rfl

theorem notice_moves_waits {src : Part} {h : BitVec 4} {a d : GAddr} {i : Nat} {s : State} (hh : s.head? src (.halt h) = some (.moveNotice a d))
    (hg : s.rowsGood = true) (hv : (s.wait h.toNat i).v = true) (hav : (s.wait h.toNat i).addrV = true) (ha : (s.wait h.toNat i).addr = a) :
    ∃ t, exec (.moveNotice src (.halt h)) s = .next t ∧ t.wait h.toNat i = { s.wait h.toNat i with addr := d } ∧ t.stns = s.stns := by
  have hpop : (s.quiet.pop src (.halt h)).halt h.toNat = s.halt h.toNat := State.halt_congr _ _ (pop_halts _ _ _) _
  refine ⟨s.keep (((s.quiet.pop src (.halt h)).modHalt h.toNat (fun ht => ht.noticed a d)).haltReg h.toNat d false), ?_, ?_, ?_⟩
  · exact congrArg (fun t => Host.Outcome.next (s.keep t)) (onHead_of_rowsGood (s := s.quiet) hg hh rfl)
  · unfold State.wait at hv hav ha ⊢
    rw [State.halt_congr _ _ (State.keep_halts _ _), State.halt_congr _ _ (haltReg_halts _ _ _ _), State.halt_modHalt, noticed_waits, hpop]
    exact if_pos ⟨hv, hav, ha⟩
  · rw [State.keep_stns, haltReg_stns, State.modHalt_stns, pop_stns]
    rfl

/-! ### The junction's bound counter -/

theorem answer_jct (s : State) (si : Nat) (rq : HReq) (st : Status) (v : Word64) : (s.answer si rq st v).jct = s.jct := by
  obtain ⟨n, o, h⟩ := s.answer_eq si rq st v
  rw [h]
theorem SeqWork.jct {s v : State} (h : SeqWork s v) : v.jct = s.jct := by rw [h.rest]

theorem fault_ttBound (s : State) (c p d : Nat) : (s.fault c p d).jct.ttBound = s.jct.ttBound := by
  unfold State.fault
  dsimp only
  split <;> rfl
theorem register_jct (s : State) (si pon : Nat) (n : BitVec 5) (e : Word64) : (s.register si pon n e).jct = s.jct := by
  unfold State.register
  dsimp only
  split
  · simp
  split
  · simp
  split
  · rfl
  · simp [State.watchFull]

/-- A registration of a subscriber. -/
def subRq (rq : HReq) (n : BitVec 5) : Prop := rq.req.op = 0x02 ∧ rq.who = .sub n

theorem opWaitGe_sub_jct {rq : HReq} {n : BitVec 5} (hw : rq.who = .sub n) (s : State) (si pon : Nat) : (s.opWaitGe si pon rq).jct = s.jct := by
  unfold State.opWaitGe
  rw [hw]
  dsimp only
  split
  · exact register_jct _ _ _ _ _
  split
  · simp
  · exact register_jct _ _ _ _ _

theorem ttBound_ite {c : Prop} [Decidable c] {t u : State} {x : Option GAddr} (ht : c → t.jct.ttBound = x) (hu : u.jct.ttBound = x) :
    (if c then t else u).jct.ttBound = x := by
  split
  · exact ht ‹_›
  · exact hu

/-- Whatever a registration meets at its home, the junction's bound counter is the same. -/
theorem reach_ttBound {rq : HReq} {n : BitVec 5} (hrq : subRq rq n) (fuel : Nat) (s : State) (si pon : Nat) (hg : s.rowsGood = true) :
    (s.reach si pon rq fuel).jct.ttBound = s.jct.ttBound := by
  obtain ⟨hop, hwho⟩ := hrq
  have hret : opRetained rq.req.op = false := by rw [hop]; decide
  have hseq : ∀ u si, (State.recordSeq u si rq).jct = u.jct := fun u si => (recordSeq_seqWork u si rq).jct
  induction fuel generalizing s si pon with
  | zero => rw [State.reach, answer_jct]
  | succ fuel ih =>
    have hrefused : ∀ u st, (State.refused u si rq st).jct = u.jct := fun u st => by
      unfold State.refused
      rw [hwho]
      exact answer_jct _ _ _ _ _
    have hdo : ∀ u, (State.opDo u si pon rq).jct = u.jct := fun u => by
      have he : State.opDo u si pon rq = (u.occur (.stn (BitVec.ofNat 2 si)) 0x20 1).opWaitGe si pon rq := by
        unfold State.opDo
        rw [hop]
        rfl
      rw [he, opWaitGe_sub_jct hwho, State.occur_jct]
    have hdone : s.isReplayDone si rq = false := by simp [State.isReplayDone, hret]
    have hrec : (if rq.replay then (s.recordSeq si rq).bump F.REC_REPLAY_APPLIED si else s.recordSeq si rq).jct = s.jct := by
      split
      · exact hseq s si
      · exact hseq s si
    have hanswer : ∀ st, ((s.recordSeq si rq).answer si rq st 0).jct.ttBound = s.jct.ttBound := fun st => by rw [answer_jct, hseq]
    unfold State.reach
    dsimp only
    rw [State.reads_of_rowsGood hg]
    dsimp only
    generalize (if rq.replay then (s.recordSeq si rq).bump F.REC_REPLAY_APPLIED si else s.recordSeq si rq) = v at hrec ⊢
    have hlate : ∀ st, (v.answer si rq st 0).jct.ttBound = s.jct.ttBound := fun st => by rw [answer_jct, hrec]
    have hdone' : (v.opDo si pon rq).jct.ttBound = s.jct.ttBound := by rw [hdo, hrec]
    refine ttBound_ite (fun _ => by rw [hrefused]) (ttBound_ite (fun _ => rfl) (ttBound_ite (fun _ => by rw [hrefused, fault_ttBound])
      (ttBound_ite (fun _ => rfl) (ttBound_ite (fun h => ?_) (ttBound_ite (fun _ => hanswer _) (ttBound_ite (fun _ => hanswer _)
      (ttBound_ite (fun _ => ?_) (ttBound_ite (fun _ => ttBound_ite (fun _ => hanswer _) rfl) (ttBound_ite (fun _ => hlate _)
      (ttBound_ite (fun _ => ttBound_ite (fun _ => hlate _) (ttBound_ite (fun _ => hlate _) hdone')) (ttBound_ite (fun _ => hlate _) hdone')))))))))))
    · rw [hdone] at h
      cases h
    · rw [ih _ _ _ (by simpa [State.rowsGood, State.prot] using hg), State.occur_jct]

theorem homeReg_ttBound {s : State} (hg : s.rowsGood = true) (d : GAddr) : (s.homeReg d).jct.ttBound = s.jct.ttBound := by
  unfold State.homeReg
  dsimp only
  split
  · exact reach_ttBound ⟨rfl, rfl⟩ _ _ _ _ hg
  · rfl

/-- The junction after the notice. -/
def State.jctNoticed (s : State) (a d : GAddr) : State :=
  s.modJct (fun j => { j with
    proxies := j.proxies.map (fun e => if !e.far ∧ e.loc = a then { e with loc := d } else e)
    ttBound := if j.ttBound = some a then some d else j.ttBound
    box := { j.box with threads := j.box.threads.map (fun e => match e.2.cmp with
      | some (x, v) => if x = a then (e.1, { e.2 with cmp := some (d, v) }) else e
      | none => e) } })

theorem notice_moves_bound {src : Part} {a d : GAddr} {s : State} (hh : s.head? src .jct = some (.moveNotice a d)) (hg : s.rowsGood = true)
    (hb : s.jct.ttBound = some a) : ∃ t, exec (.moveNotice src .jct) s = .next t ∧ t.jct.ttBound = some d := by
  refine ⟨s.keep (((s.quiet.pop src .jct).jctNoticed a d).homeReg d), ?_, ?_⟩
  · exact congrArg (fun t => Host.Outcome.next (s.keep t)) (onHead_of_rowsGood (s := s.quiet) hg hh rfl)
  · have hrows : ((s.quiet.pop src .jct).jctNoticed a d).rowsGood = true := by
      have hp : ((s.quiet.pop src .jct).jctNoticed a d).prots = s.prots := pop_prots _ _ _
      simpa only [State.rowsGood, State.prot, hp] using hg
    rw [State.keep_jct, homeReg_ttBound hrows]
    exact if_pos (by rw [pop_jct]; exact hb)

/-- Settles O28: a MOVE is copied or refused, its acknowledgement leaves the source MOVED, and what names the object follows it. -/
theorem moveFreezesThenLeavesMoved : Obligations.MoveFreezesThenLeavesMoved := by
  refine ⟨fun r x pon s hm hk hr => ?_, fun r x pon s st hm hr => ?_, fun y x h a d rq s hh hk hne hf hb he hl hp hw => ?_,
    fun src h a d i s hh hg hv hav ha => notice_moves_waits hh hg hv hav ha, fun src a d s hh hg hb => notice_moves_bound hh hg hb⟩
  · obtain ⟨l, rq, hcopied⟩ := move_copies hm hk hr
    exact ⟨_, l, rq, exec_move r s, hcopied⟩
  · exact ⟨_, exec_move r s, move_refused hm hr⟩
  · exact ack_completes hh hk hne ⟨hf, hb, he⟩ hl hp hw

end Sys2Proof.Machine

/-! Proofs for 12: what the end of a command does to the protection of rows, and the way of the scrub to a row. -/

namespace Sys2Proof.Machine

/-! ### The protection of one part's RAMs -/

theorem State.prot_congr {s t : State} (h : t.prots = s.prots) (i : Nat) : t.prot i = s.prot i := by simp [State.prot, h]
@[simp] theorem State.prot_modProt (s : State) (i : Nat) (f : Prot → Prot) : (s.modProt i f).prot i = f (s.prot i) :=
  tget_tmod_same Prot.init _ _ _
theorem State.prot_modProt_ne (s : State) {i j : Nat} (f : Prot → Prot) (h : min j 4 ≠ min i 4) : (s.modProt i f).prot j = s.prot j :=
  tget_tset_ne _ _ _ _ _ _ h

/-- Only the rows in error and the injection that is armed may differ; with none armed, no row is more in error. -/
def ProtKept (p q : Prot) : Prop :=
  q = { p with bad := q.bad, armed := q.armed } ∧ (p.armed = false → q.armed = false ∧ ∀ e ∈ q.bad, e ∈ p.bad)

theorem ProtKept.refl (p : Prot) : ProtKept p p := ⟨rfl, fun h => ⟨h, fun _ he => he⟩⟩
theorem ProtKept.trans {p q r : Prot} (h : ProtKept p q) (k : ProtKept q r) : ProtKept p r := by
  obtain ⟨hq, hb⟩ := h
  obtain ⟨kr, kb⟩ := k
  refine ⟨by rw [kr, hq], fun hp => ?_⟩
  obtain ⟨hqa, hqb⟩ := hb hp
  obtain ⟨hra, hrb⟩ := kb hqa
  exact ⟨hra, fun e he => hqb e (hrb e he)⟩

theorem ProtKept.of_tset {t : State} {i : Nat} {q : Prot} (h : ProtKept (tget Prot.init t.prots i) q) (j : Nat) :
    ProtKept (t.prot j) (tget Prot.init (tset Prot.init t.prots i q) (min j 4)) := by
  rw [tget_tset]
  split
  · next hj =>
    unfold State.prot
    rw [hj]
    exact h
  · exact .refl _

/-- The rows that a command writes are in error no longer. -/
def State.mended (s t : State) (i : Nat) : State :=
  let p := tget Prot.init t.prots i
  let keepBad := p.bad.filter (fun e => rowSame s t i e.1 e.2.1 != some false)
  if keepBad = p.bad then t else { t with prots := tset Prot.init t.prots i { p with bad := keepBad } }

theorem ProtKept.filter (p : Prot) (f : Nat × Nat × BitVec 5 → Bool) : ProtKept p { p with bad := p.bad.filter f } :=
  ⟨rfl, fun h => ⟨h, fun _ he => (List.mem_filter.mp he).1⟩⟩

theorem mended_protKept (s t : State) (i j : Nat) : ProtKept (t.prot j) ((s.mended t i).prot j) := by
  unfold State.mended
  dsimp only
  split
  · exact .refl _
  · exact ProtKept.of_tset (t := t) (.filter _ _) j

/-- The injection, if it is armed and its row is written, in `u`, which `t` becomes. -/
def State.injected (s t u : State) (i : Nat) : State :=
  let p := tget Prot.init t.prots i
  let keepBad := p.bad.filter (fun e => rowSame s t i e.1 e.2.1 != some false)
  if !p.armed then u
  else
    let ram := u.get F.SP_INJ_RAM (protInst i)
    let row := u.get F.SP_INJ_ROW (protInst i)
    let mask := BitVec.ofNat 5 (u.get F.SP_INJ_MASK (protInst i))
    let (hit, u) := match rowSame s u i ram row with
      | some b => (!b, u)
      | none =>
        let (v, u) := u.fresh
        (v.getLsbD 0, u)
    if hit then { u with prots := tset Prot.init u.prots i { p with bad := keepBad ++ [(ram, row, mask)], armed := false } } else u

theorem injectAt_injected (s t : State) (i : Nat) : s.injectAt t i = s.injected t (s.mended t i) i := rfl

theorem injected_prots (s t u : State) (i : Nat) : (s.injected t u i).prots = u.prots ∨
    (tget Prot.init t.prots i).armed = true ∧ ∃ b, (s.injected t u i).prots = tset Prot.init u.prots i { tget Prot.init t.prots i with bad := b, armed := false } := by
  unfold State.injected
  dsimp only
  split
  · exact .inl rfl
  · next ha =>
    have ha' : (tget Prot.init t.prots i).armed = true := by simpa using ha
    split
    · dsimp only
      split
      · exact .inr ⟨ha', _, rfl⟩
      · exact .inl rfl
    · dsimp only
      split
      · exact .inr ⟨ha', _, rfl⟩
      · exact .inl rfl

/-- Where a command writes rows, they are in error no longer; an injection may be made. -/
theorem injectAt_protKept (s t : State) (i j : Nat) : ProtKept (t.prot j) ((s.injectAt t i).prot j) := by
  rw [injectAt_injected]
  rcases injected_prots s t (s.mended t i) i with h | ⟨ha, b, h⟩
  · rw [State.prot_congr h]
    exact mended_protKept s t i j
  · have hp : tget Prot.init (s.mended t i).prots i = { tget Prot.init t.prots i with bad := (tget Prot.init (s.mended t i).prots i).bad } := by
      unfold State.mended
      dsimp only
      split
      · rfl
      · rw [tget_tset_same Prot.init]
    refine (mended_protKept s t i j).trans ?_
    unfold State.prot
    rw [h]
    refine ProtKept.of_tset (t := s.mended t i) ⟨?_, fun hn => ?_⟩ j
    · rw [hp]
    · rw [hp] at hn
      rw [ha] at hn
      cases hn

theorem inject_protKept (s t : State) (j : Nat) : ProtKept (t.prot j) ((s.inject t).prot j) := by
  unfold State.inject
  induction List.range 5 generalizing t with
  | nil => exact .refl _
  | cons i l ih => exact (injectAt_protKept s t i j).trans (ih _)

theorem keep_protKept (s t : State) (j : Nat) : ProtKept (t.prot j) ((s.keep t).prot j) := inject_protKept s t j

/-! ### The end of a read (14 R399, R408) -/

theorem parkSu_of_noPark {s t : State} (h : s.noPark = true) (hg : t.get F.PW_PARK_CTL_STATE = s.get F.PW_PARK_CTL_STATE) : parkSu s.su t = s.su := by
  simp only [State.noPark, Bool.or_eq_true, Bool.and_eq_true, decide_eq_true_eq] at h
  unfold parkSu
  rcases h with h | ⟨⟨h7, hr⟩, hst⟩
  · rw [if_pos h]
  · simp only [List.mem_cons, List.not_mem_nil, or_false, not_or] at hst
    obtain ⟨h2, h3, h4⟩ := hst
    rw [if_neg (by simp [h7])]
    dsimp only
    rw [hg, if_neg h4, if_neg (by simp [h2, h3, h7]), ← h7, ← hr]

/-- With no park under way a read ends as any command does. -/
theorem keepRead_eq_keep {s t : State} (h : s.noPark = true) (hsu : t.su = s.su) (hg : t.get F.PW_PARK_CTL_STATE = s.get F.PW_PARK_CTL_STATE) :
    s.keepRead t = s.keep t := by
  unfold State.keepRead
  split
  · have hp : parkSu s.su (s.inject t) = s.su := parkSu_of_noPark h (by rw [State.get_congr _ _ (State.inject_regs s t), hg])
    unfold State.keepPark State.keep
    dsimp only
    rw [hp]
    split
    · next hc => simp at hc
    · rfl
  · unfold State.keepQ State.keep
    have he : (s.inject t).su = s.su := by rw [State.inject_su, hsu]
    rw [← he]

/-! ### The way to a row (R344) -/

/-- The scrub has read the RAM up to row `n`. -/
def State.scrubAt (s : State) (i ram n : Nat) : State :=
  (s.modProt i (fun p => { p with pos := tset 0 p.pos ram n })).modProt i (fun p => { p with pos := tset 0 p.pos ram (n + 1) })

theorem scrubAt_prots (s : State) (i ram n : Nat) : s.scrubAt i ram n = { s with prots := (s.scrubAt i ram n).prots } := rfl
theorem scrubAt_prot (s : State) (i ram n : Nat) :
    (s.scrubAt i ram n).prot i = { s.prot i with pos := tset 0 (tset 0 (s.prot i).pos ram n) ram (n + 1) } := by
  unfold State.scrubAt
  rw [State.prot_modProt, State.prot_modProt]

theorem syndromes_congr {s t : State} {i : Nat} (h : (t.prot i).bad = (s.prot i).bad) (ram row : Nat) (syn : List (Nat × Byte)) :
    t.syndromes i ram row syn = s.syndromes i ram row syn := by
  unfold State.syndromes
  rw [h]

theorem passBad_congr {s t : State} {i : Nat} (h : (t.prot i).bad = (s.prot i).bad) (ram first n : Nat) :
    t.passBad i ram first n = s.passBad i ram first n := by
  unfold State.passBad
  rw [h]

/-- What `scrubs` says of the row. -/
theorem execScrubRead_of_scrubs {s : State} {p : Part} {ram : BitVec 5} {row : BitVec 20} (h : s.scrubs p ram row = true) (syn : List (Nat × Byte)) :
    exec (.scrubRead p ram row syn) s = .next (s.keepRead (
      let r := s.quiet.scrubTo (protOf p) ram.toNat row.toNat
      if r.1 then (r.2.modProt (protOf p) (fun q => { q with pos := tset 0 q.pos ram.toNat (row.toNat + 1) })).scanRow (protOf p) ram.toNat row.toNat syn 1 else r.2)) := by
  simp only [State.scrubs, Bool.and_eq_true, Bool.not_eq_true', decide_eq_true_eq] at h
  obtain ⟨⟨⟨⟨⟨hdone, hpark⟩, hram⟩, hrow⟩, hskip⟩, hpos⟩ := h
  exact if_pos ⟨hdone, by simp [hpark], hram, hrow, by simp [hskip], hpos⟩

theorem execScrubRead_of_not_scrubs {s : State} {p : Part} {ram : BitVec 5} {row : BitVec 20} (h : s.scrubs p ram row = false) (syn : List (Nat × Byte)) :
    exec (.scrubRead p ram row syn) s = .next (s.keep s.quiet) := by
  refine if_neg (fun ⟨hdone, hpark, hram, hrow, hskip, hpos⟩ => ?_)
  simp only [Bool.not_eq_true'] at hpark hskip
  simp [State.scrubs, hdone, hpark, hram, hrow, hskip, hpos] at h

/-- What `scrubClear` says of it. -/
theorem scrubClear_iff {s : State} {p : Part} {ram n : Nat} (h : s.scrubClear p ram n = true) :
    s.passBad (protOf p) ram (tget 0 (s.prot (protOf p)).pos ram) (n - tget 0 (s.prot (protOf p)).pos ram) = [] ∧ (s.prot (protOf p)).due = [] := by
  simpa [State.scrubClear] using h

/-- With no row in error on the way the scrub reads the row. -/
theorem execScrubRead_of_clear {s : State} {p : Part} {ram : BitVec 5} {row : BitVec 20} (h : s.scrubs p ram row = true)
    (hc : s.scrubClear p ram.toNat row.toNat = true) (syn : List (Nat × Byte)) :
    exec (.scrubRead p ram row syn) s =
      .next (s.keepRead ((s.quiet.scrubAt (protOf p) ram.toNat row.toNat).scanRow (protOf p) ram.toNat row.toNat syn 1)) := by
  obtain ⟨hway, -⟩ := scrubClear_iff hc
  have hto : s.quiet.scrubTo (protOf p) ram.toNat row.toNat =
      (true, s.quiet.modProt (protOf p) (fun q => { q with pos := tset 0 q.pos ram.toNat row.toNat })) := by
    unfold State.scrubTo
    dsimp only
    rw [show s.quiet.passBad (protOf p) ram.toNat (tget 0 (s.quiet.prot (protOf p)).pos ram.toNat) (row.toNat - tget 0 (s.quiet.prot (protOf p)).pos ram.toNat) = [] from hway]
    rfl
  rw [execScrubRead_of_scrubs h, hto]
  rfl

end Sys2Proof.Machine

/-! Proofs for 12: rows that are clean or corrected, the correction log, laps and the floor (R341 to R345, R350). -/

namespace Sys2Proof.Machine

/-! ### Registers and protection alone -/

/-- `t` is `s` but for registers under `ks` and the protection of rows. -/
def ProtWork (s t : State) (ks : List Nat) : Prop := t = { s with regs := t.regs, prots := t.prots } ∧ RegsBut s t ks

theorem ProtWork.refl (s : State) (ks : List Nat) : ProtWork s s ks := ⟨rfl, .refl s ks⟩
theorem ProtWork.put {s t : State} {ks : List Nat} (h : ProtWork s t ks) (f : Fld) (v i n : Nat) (hm : f.key i n ∈ ks) : ProtWork s (t.put f v i n) ks := by
  obtain ⟨he, hk⟩ := h
  refine ⟨?_, hk.put f v i n hm⟩
  unfold State.put
  rw [he]
theorem ProtWork.putB {s t : State} {ks : List Nat} (h : ProtWork s t ks) (f : Fld) (b : Bool) (i n : Nat) (hm : f.key i n ∈ ks) :
    ProtWork s (t.putB f b i n) ks := h.put f _ i n hm
theorem ProtWork.bump {s t : State} {ks : List Nat} (h : ProtWork s t ks) (f : Fld) (i n k : Nat) (hm : f.key i n ∈ ks) :
    ProtWork s (t.bump f i n k) ks := h.put f _ i n hm
theorem ProtWork.evt {s t : State} {ks : List Nat} (h : ProtWork s t ks) (p b : Nat) (hm : F.EVT_STAT_EVT.key p 0 ∈ ks) : ProtWork s (t.evt p b) ks :=
  h.put _ _ p 0 hm
theorem ProtWork.modProt {s t : State} {ks : List Nat} (h : ProtWork s t ks) (i : Nat) (f : Prot → Prot) : ProtWork s (t.modProt i f) ks := by
  obtain ⟨he, hk⟩ := h
  refine ⟨?_, hk.congr rfl⟩
  unfold State.modProt
  rw [he]
theorem ProtWork.trans {s t u : State} {ks : List Nat} (h : ProtWork s t ks) (k : ProtWork t u ks) : ProtWork s u ks := by
  obtain ⟨he, hk⟩ := h
  obtain ⟨ke, kk⟩ := k
  exact ⟨by rw [ke, he], hk.trans kk⟩
theorem ProtWork.mono {s t : State} {ks ls : List Nat} (h : ProtWork s t ks) (hs : ∀ k ∈ ks, k ∈ ls) : ProtWork s t ls :=
  ⟨h.1, fun f i n hn => h.2 f i n (fun hm => hn (hs _ hm))⟩

/-- A command that does no more than that keeps every part and drives nothing. -/
theorem ProtWork.keep {s t : State} {ks : List Nat} (h : ProtWork s.quiet t ks) : (s.keep t).out = [] ∧ OnlyRegs s (s.keep t) ks := by
  obtain ⟨he, hk⟩ := h
  have hk' : RegsBut s t ks := hk
  refine ⟨by rw [State.keep_out, he]; rfl, hk'.keep, ?_⟩
  rw [he]
  simp [PartsKept, State.quiet]

/-- So does a read with no park under way. -/
theorem ProtWork.keepRead {s t : State} {ks : List Nat} (h : ProtWork s.quiet t ks) (hp : s.noPark = true) (hs : F.PW_PARK_CTL_STATE.key 0 0 ∉ ks) :
    s.keepRead t = s.keep t :=
  keepRead_eq_keep hp (by rw [h.1]; rfl) (h.2 F.PW_PARK_CTL_STATE 0 0 hs)

/-! ### Events of the protection registers (R355, R356) -/

/-- Page of the events of RAM group `i`, and the place of its bit `b`. -/
def evtPage (i : Nat) : Nat := if i < 4 then 0x14 + i else 0x29
def evtPlace (i b : Nat) : Nat := if i < 4 then b else 8 + b

theorem evtProt_eq (s : State) (i b : Nat) : s.evtProt i b = s.evt (evtPage i) (evtPlace i b) := by
  unfold State.evtProt evtPage evtPlace
  split <;> rfl
theorem evtPlace_lt (i : Nat) {b : Nat} (h : b < 24) : evtPlace i b < 32 := by
  unfold evtPlace
  split <;> omega

/-- An event keeps the bits that are set. -/
theorem evt_keeps {s : State} {p b c : Nat} (hb : b < 32) (hc : c < 32) (h : (s.get F.EVT_STAT_EVT p).testBit c = true) :
    ((s.evt p b).get F.EVT_STAT_EVT p).testBit c = true := by
  by_cases he : c = b
  · rw [he, State.evt_bit _ _ _ hb]
  · rw [State.evt_bit_ne _ _ _ _ hc he, h]

/-- The keys that a correction writes. -/
def corrKeys (i : Nat) : List Nat := [F.SP_CE_COUNT.key i 0, F.EVT_STAT_EVT.key (evtPage i) 0, F.SP_LOG_CTL_LOST.key i 0]

/-! ### The correction log (R350) -/

/-- The entry that logs row `row` of RAM `ram`. -/
def logEntry (ram row : Nat) (e : Nat × Option LogRow) : Bool := e.2.any (fun r => decide (r.ram.toNat = ram) && decide (r.row.toNat = row))

/-- The log with entry `n` written. -/
def State.logWrite (s : State) (i n : Nat) (r : LogRow) : State :=
  s.modProt i (fun p => { p with log := tset none p.log n (some r), recent := p.recent.filter (· ≠ n) ++ [n] })

theorem logRow_found {s : State} {i ram row n : Nat} {r : LogRow} (h : (s.prot i).log.find? (logEntry ram row) = some (n, some r)) :
    s.logRow i ram row =
      if !r.persist ∧ (r.again (BitVec.ofNat 16 (s.get F.SP_LAP_LAP_NO i))).persist then
        (s.logWrite i n (r.again (BitVec.ofNat 16 (s.get F.SP_LAP_LAP_NO i)))).evtProt i 1
      else s.logWrite i n (r.again (BitVec.ofNat 16 (s.get F.SP_LAP_LAP_NO i))) := by
  unfold State.logRow
  dsimp only
  rw [show (s.prot i).log.find? (fun e => e.2.any (fun r => decide (r.ram.toNat = ram) && decide (r.row.toNat = row))) = some (n, some r) from h]
  rfl

theorem logRow_new {s : State} {i ram row : Nat} (h : (s.prot i).log.find? (logEntry ram row) = none) :
    s.logRow i ram row = match (s.prot i).victim with
      | some n => s.logWrite i n ⟨BitVec.ofNat 5 ram, BitVec.ofNat 16 row, 1, 1, BitVec.ofNat 16 (s.get F.SP_LAP_LAP_NO i), false⟩
      | none => (s.bump F.SP_LOG_CTL_LOST i).evtProt i 6 := by
  unfold State.logRow
  dsimp only
  rw [show (s.prot i).log.find? (fun e => e.2.any (fun r => decide (r.ram.toNat = ram) && decide (r.row.toNat = row))) = none from h]
  rfl

/-- What logging a correction leaves, and the log's entry for the row. -/
theorem logRow_cases (s : State) (i ram row : Nat) :
    (∃ n r, (s.prot i).log.find? (logEntry ram row) = some (n, some r)) ∨ (s.prot i).log.find? (logEntry ram row) = none := by
  cases h : (s.prot i).log.find? (logEntry ram row) with
  | none => exact .inr rfl
  | some e =>
    obtain ⟨n, o⟩ := e
    have hp := List.find?_some h
    cases o with
    | none => simp [logEntry] at hp
    | some r => exact .inl ⟨n, r, rfl⟩

/-- Logging changes registers and the log alone: what is in error, due and read stays, and every event that is set. -/
structure Logged (s t : State) (i : Nat) : Prop where
  work : ProtWork s t (corrKeys i)
  ce : t.get F.SP_CE_COUNT i = s.get F.SP_CE_COUNT i
  prot : ∃ l r, t.prot i = { s.prot i with log := l, recent := r }
  bits : ∀ c, c < 32 → (s.get F.EVT_STAT_EVT (evtPage i)).testBit c = true → (t.get F.EVT_STAT_EVT (evtPage i)).testBit c = true

theorem logWrite_logged (s : State) (i n : Nat) (r : LogRow) : Logged s (s.logWrite i n r) i :=
  ⟨(ProtWork.refl s _).modProt _ _, rfl, ⟨_, _, State.prot_modProt _ _ _⟩, fun _ _ h => h⟩

theorem key_ce_ne_evt (i p : Nat) : F.SP_CE_COUNT.key i 0 ≠ F.EVT_STAT_EVT.key p 0 := by
  simp only [Fld.key, F.SP_CE_COUNT, F.EVT_STAT_EVT]
  omega

theorem Logged.evt {s t : State} {i : Nat} (h : Logged s t i) {b : Nat} (hb : b < 24) : Logged s (t.evtProt i b) i := by
  obtain ⟨hw, hce, hp, hbits⟩ := h
  rw [evtProt_eq]
  refine ⟨hw.evt _ _ (by simp [corrKeys]), ?_, hp, fun c hc hs => evt_keeps (evtPlace_lt i hb) hc (hbits c hc hs)⟩
  rw [State.get_evt_ne _ _ _ _ _ _ (key_ce_ne_evt i _), hce]

theorem logRow_logged (s : State) (i ram row : Nat) : Logged s (s.logRow i ram row) i := by
  rcases logRow_cases s i ram row with ⟨n, r, h⟩ | h
  · rw [logRow_found h]
    split
    · exact (logWrite_logged s i n _).evt (by decide)
    · exact logWrite_logged s i n _
  · rw [logRow_new h]
    split
    · exact logWrite_logged s i _ _
    · refine Logged.evt ⟨(ProtWork.refl s _).bump _ _ _ _ (by simp [corrKeys]), ?_, ⟨_, _, rfl⟩, fun c _ hs => ?_⟩ (by decide)
      · exact State.get_bump_ne _ _ _ _ _ _ _ _ (Fld.key_ne_of_place rfl (by decide))
      · rw [State.get_bump_ne _ _ _ _ _ _ _ _ (by simp only [Fld.key, F.SP_LOG_CTL_LOST, F.EVT_STAT_EVT]; omega)]
        exact hs

end Sys2Proof.Machine

/-! Proofs for 12: what a scrub read of a clean or correctable row shows (R341 to R345, R350). -/

namespace Sys2Proof.Machine

/-! ### A correction -/

/-- The correction counted and its event set, before it is logged. -/
def State.corrCounted (s : State) (i : Nat) : State := (s.bump F.SP_CE_COUNT i).evtProt i 0

theorem corrected_eq (s : State) (i ram row : Nat) : s.corrected i ram row = ((s.corrCounted i).logRow i ram row).mendRow i ram row := rfl

theorem corrCounted_regs (s : State) (i : Nat) : ProtWork s (s.corrCounted i) (corrKeys i) ∧
    (s.corrCounted i).get F.SP_CE_COUNT i = min (s.get F.SP_CE_COUNT i + 1) (2 ^ F.SP_CE_COUNT.len - 1) ∧
    ((s.corrCounted i).get F.EVT_STAT_EVT (evtPage i)).testBit (evtPlace i 0) = true ∧
    (s.corrCounted i).get F.SP_LAP_LAP_NO i = s.get F.SP_LAP_LAP_NO i ∧ (s.corrCounted i).prot i = s.prot i := by
  unfold State.corrCounted
  rw [evtProt_eq]
  refine ⟨((ProtWork.refl s _).bump _ _ _ _ (by simp [corrKeys])).evt _ _ (by simp [corrKeys]), ?_, State.evt_bit _ _ _ (evtPlace_lt i (by decide)), ?_, rfl⟩
  · rw [State.get_evt_ne _ _ _ _ _ _ (key_ce_ne_evt i _), State.get_bump]
  · rw [State.get_evt_ne _ _ _ _ _ _ (by simp only [Fld.key, F.SP_LAP_LAP_NO, F.EVT_STAT_EVT]; omega)]
    exact State.get_bump_ne _ _ _ _ _ _ _ _ (Fld.key_ne_of_place rfl (by decide))

/-- What a correction of row `row` of RAM `ram` shows (R343, R350). -/
structure CorrShown (s t : State) (i ram row : Nat) : Prop where
  work : ProtWork s t (corrKeys i)
  count : t.get F.SP_CE_COUNT i = min (s.get F.SP_CE_COUNT i + 1) (2 ^ F.SP_CE_COUNT.len - 1)
  event : (t.get F.EVT_STAT_EVT (evtPage i)).testBit (evtPlace i 0) = true
  prot : ∃ l r, t.prot i = { s.prot i with log := l, recent := r, bad := (s.prot i).bad.filter (fun e => !(e.1 = ram && e.2.1 = row)) }

theorem corrected_shown (s : State) (i ram row : Nat) : CorrShown s (s.corrected i ram row) i ram row := by
  obtain ⟨hwork, hcount, hevent, -, hprot⟩ := corrCounted_regs s i
  obtain ⟨hw, hce, ⟨l, r, hp⟩, hbits⟩ := logRow_logged (s.corrCounted i) i ram row
  rw [corrected_eq]
  refine ⟨(hwork.trans hw).modProt _ _, hce.trans hcount, hbits _ (evtPlace_lt i (by decide)) hevent, l, r, ?_⟩
  unfold State.mendRow
  rw [State.prot_modProt, hp, hprot]

theorem corrected_log (s : State) (i ram row : Nat) : ((s.corrected i ram row).prot i).log = (((s.corrCounted i).logRow i ram row).prot i).log := by
  rw [corrected_eq, State.mendRow, State.prot_modProt]

/-! ### The row at which the scrub is -/

theorem settleDue_of_empty {s : State} {i : Nat} (h : (s.prot i).due = []) : s.settleDue i = s.modProt i (fun p => { p with due := [] }) := by
  unfold State.settleDue
  rw [h]
  rfl

theorem scanRow_of_clean {s : State} {i ram row : Nat} {syn : List (Nat × Byte)} (hc : classify (s.syndromes i ram row syn) = .clean) (hd : (s.prot i).due = []) (src : Nat) :
    s.scanRow i ram row syn src = s.modProt i (fun p => { p with due := [] }) := by
  unfold State.scanRow State.readRow
  rw [hc]
  exact settleDue_of_empty hd

theorem scanRow_of_corr {s : State} {i ram row : Nat} {syn : List (Nat × Byte)} (hc : classify (s.syndromes i ram row syn) = .corr) (hd : (s.prot i).due = []) (src : Nat) :
    s.scanRow i ram row syn src = (s.corrected i ram row).modProt i (fun p => { p with due := [] }) := by
  obtain ⟨-, -, -, l, r, hp⟩ := corrected_shown s i ram row
  unfold State.scanRow State.readRow
  rw [hc]
  exact settleDue_of_empty (by rw [hp, hd])

theorem scrubAt_work (s : State) (i ram n : Nat) (ks : List Nat) : ProtWork s (s.scrubAt i ram n) ks := ((ProtWork.refl s ks).modProt _ _).modProt _ _

/-- The registers of a park are none that a correction writes. -/
theorem park_not_corrKeys (i : Nat) : F.PW_PARK_CTL_STATE.key 0 0 ∉ corrKeys i := by
  simp only [corrKeys, List.mem_cons, List.not_mem_nil, or_false, Fld.key, F.PW_PARK_CTL_STATE, F.SP_CE_COUNT, F.EVT_STAT_EVT, F.SP_LOG_CTL_LOST]
  omega

section
variable {s : State} {p : Part} {ram : BitVec 5} {row : BitVec 20} {syn : List (Nat × Byte)}
  (hs : s.scrubs p ram row = true) (hc : s.scrubClear p ram.toNat row.toNat = true) (hn : s.noPark = true)
include hs hc hn

/-- The state in which the scrub reads the row. -/
theorem scrub_clean (hcl : classify (s.syndromes (protOf p) ram.toNat row.toNat syn) = .clean) :
    ∃ t, exec (.scrubRead p ram row syn) s = .next t ∧ t.out = [] ∧ tget 0 (t.prot (protOf p)).pos ram.toNat = row.toNat + 1 ∧ OnlyRegs s t [] := by
  obtain ⟨-, hdue⟩ := scrubClear_iff hc
  have hat : (s.quiet.scrubAt (protOf p) ram.toNat row.toNat).prot (protOf p) = _ := scrubAt_prot s.quiet (protOf p) ram.toNat row.toNat
  have hwork : ProtWork s.quiet ((s.quiet.scrubAt (protOf p) ram.toNat row.toNat).modProt (protOf p) (fun q => { q with due := [] })) [] :=
    (scrubAt_work _ _ _ _ _).modProt _ _
  rw [execScrubRead_of_clear hs hc, scanRow_of_clean (by rw [syndromes_congr (s := s) (by rw [hat]; rfl)]; exact hcl) (by rw [hat]; exact hdue),
    hwork.keepRead hn (by simp)]
  obtain ⟨hout, honly⟩ := hwork.keep
  refine ⟨_, rfl, hout, ?_, honly⟩
  rw [(keep_protKept _ _ _).1, State.prot_modProt, hat]
  exact tget_tset_same 0 _ _ _

/-- A correctable row: the state after the read, and what it shows. -/
theorem scrub_corr (hcl : classify (s.syndromes (protOf p) ram.toNat row.toNat syn) = .corr) :
    ∃ u, exec (.scrubRead p ram row syn) s = .next (s.keep ((u.corrected (protOf p) ram.toNat row.toNat).modProt (protOf p) (fun q => { q with due := [] }))) ∧
      ProtWork s.quiet u [] ∧ ∃ l, u.prot (protOf p) = { s.prot (protOf p) with pos := l } := by
  obtain ⟨-, hdue⟩ := scrubClear_iff hc
  have hat : (s.quiet.scrubAt (protOf p) ram.toNat row.toNat).prot (protOf p) = _ := scrubAt_prot s.quiet (protOf p) ram.toNat row.toNat
  refine ⟨s.quiet.scrubAt (protOf p) ram.toNat row.toNat, ?_, scrubAt_work _ _ _ _ _, _, hat⟩
  have hshown := corrected_shown (s.quiet.scrubAt (protOf p) ram.toNat row.toNat) (protOf p) ram.toNat row.toNat
  have hwork := ((scrubAt_work s.quiet (protOf p) ram.toNat row.toNat _).trans hshown.work).modProt (protOf p) (fun q => { q with due := [] })
  rw [execScrubRead_of_clear hs hc, scanRow_of_corr (by rw [syndromes_congr (s := s) (by rw [hat]; rfl)]; exact hcl) (by rw [hat]; exact hdue),
    hwork.keepRead hn (park_not_corrKeys _)]

theorem scrub_corr_counts (hcl : classify (s.syndromes (protOf p) ram.toNat row.toNat syn) = .corr) :
    ∃ t, exec (.scrubRead p ram row syn) s = .next t ∧ t.get F.SP_CE_COUNT (protOf p) = min (s.get F.SP_CE_COUNT (protOf p) + 1) (2 ^ F.SP_CE_COUNT.len - 1) ∧
      (t.get F.EVT_STAT_EVT (protPage p)).testBit (protBit p 0) = true ∧
      OnlyRegs s t [F.SP_CE_COUNT.key (protOf p) 0, F.EVT_STAT_EVT.key (protPage p) 0, F.SP_LOG_CTL_LOST.key (protOf p) 0] := by
  obtain ⟨u, hx, hu, -⟩ := scrub_corr hs hc hn hcl
  obtain ⟨hwork, hcount, hevent, -⟩ := corrected_shown u (protOf p) ram.toNat row.toNat
  obtain ⟨-, honly⟩ := (((hu.mono (by simp)).trans hwork).modProt (protOf p) (fun q => { q with due := [] })).keep
  refine ⟨_, hx, ?_, ?_, honly⟩
  · rw [State.keep_get, State.modProt_get, hcount, hu.2 F.SP_CE_COUNT (protOf p) 0 (by simp)]
    rfl
  · rw [State.keep_get]
    exact hevent

/-- A new row takes the entry that is free or the oldest without PERSIST. -/
theorem scrub_corr_new {n : Nat} (hcl : classify (s.syndromes (protOf p) ram.toNat row.toNat syn) = .corr)
    (hl : (s.prot (protOf p)).log.any (fun e => e.2.any (fun r => decide (r.ram = ram ∧ r.row.toNat = row.toNat))) = false)
    (hv : (s.prot (protOf p)).victim = some n) :
    ∃ t, exec (.scrubRead p ram row syn) s = .next t ∧
      tget none (t.prot (protOf p)).log n = some ⟨ram, BitVec.ofNat 16 row.toNat, 1, 1, BitVec.ofNat 16 (s.get F.SP_LAP_LAP_NO (protOf p)), false⟩ ∧
      ∀ m, m ≠ n → tget none (t.prot (protOf p)).log m = tget none (s.prot (protOf p)).log m := by
  obtain ⟨u, hx, hu, l, hpos⟩ := scrub_corr hs hc hn hcl
  obtain ⟨-, -, -, hlap, hcp⟩ := corrCounted_regs u (protOf p)
  have hfind : ((u.corrCounted (protOf p)).prot (protOf p)).log.find? (logEntry ram.toNat row.toNat) = none := by
    rw [hcp, hpos, List.find?_eq_none]
    intro e he hlog
    have hne := List.any_eq_false.mp hl e he
    apply hne
    obtain ⟨i, o⟩ := e
    cases o with
    | none => simp [logEntry] at hlog
    | some r =>
      simp only [logEntry, Option.any_some, Bool.and_eq_true, decide_eq_true_eq] at hlog ⊢
      exact ⟨BitVec.eq_of_toNat_eq hlog.1, hlog.2⟩
  have hvict : ((u.corrCounted (protOf p)).prot (protOf p)).victim = some n := by
    rw [hcp, hpos]
    exact hv
  have hlog : ∀ m, tget none ((s.keep ((u.corrected (protOf p) ram.toNat row.toNat).modProt (protOf p) (fun q => { q with due := [] }))).prot (protOf p)).log m =
      if m = n then some ⟨ram, BitVec.ofNat 16 row.toNat, 1, 1, BitVec.ofNat 16 (s.get F.SP_LAP_LAP_NO (protOf p)), false⟩ else tget none (s.prot (protOf p)).log m := by
    intro m
    rw [(keep_protKept _ _ _).1, State.prot_modProt]
    dsimp only
    rw [corrected_log, logRow_new hfind, hvict]
    dsimp only
    rw [State.logWrite, State.prot_modProt, hcp, hpos, hlap, hu.2 F.SP_LAP_LAP_NO (protOf p) 0 (by simp), tget_tset none, BitVec.ofNat_toNat, BitVec.setWidth_eq]
    rfl
  refine ⟨_, hx, by rw [hlog, if_pos rfl], fun m hm => by rw [hlog, if_neg hm]⟩

end

theorem logWrite_log (s : State) (i n : Nat) (r : LogRow) : tget none ((s.logWrite i n r).prot i).log n = some r := by
  rw [State.logWrite, State.prot_modProt]
  exact tget_tset_same none _ _ _

/-- A row that the log holds alone is corrected in its own entry, and may become persistent. -/
theorem scrub_corr_again {n : Nat} {r : LogRow} {p : Part} {syn : List (Nat × Byte)} {s : State} (hs : s.scrubs p r.ram (BitVec.ofNat 20 r.row.toNat) = true)
    (hc : s.scrubClear p r.ram.toNat r.row.toNat = true) (hn : s.noPark = true) (hcl : classify (s.syndromes (protOf p) r.ram.toNat r.row.toNat syn) = .corr)
    (hl : (s.prot (protOf p)).log = [(n, some r)]) :
    ∃ t, exec (.scrubRead p r.ram (BitVec.ofNat 20 r.row.toNat) syn) s = .next t ∧
      tget none (t.prot (protOf p)).log n = some (r.again (BitVec.ofNat 16 (s.get F.SP_LAP_LAP_NO (protOf p)))) ∧
      (r.persist = false → (r.again (BitVec.ofNat 16 (s.get F.SP_LAP_LAP_NO (protOf p)))).persist = true →
        (t.get F.EVT_STAT_EVT (protPage p)).testBit (protBit p 1) = true) := by
  have hrow : (BitVec.ofNat 20 r.row.toNat).toNat = r.row.toNat := by
    rw [BitVec.toNat_ofNat]
    have := r.row.isLt
    omega
  obtain ⟨u, hx, hu, l, hpos⟩ := scrub_corr hs (by rw [hrow]; exact hc) hn (by rw [hrow]; exact hcl)
  rw [hrow] at hx
  obtain ⟨-, -, -, hlap, hcp⟩ := corrCounted_regs u (protOf p)
  have hfind : ((u.corrCounted (protOf p)).prot (protOf p)).log.find? (logEntry r.ram.toNat r.row.toNat) = some (n, some r) := by
    rw [hcp, hpos]
    dsimp only
    rw [hl]
    simp [logEntry]
  have hlap' : (u.corrCounted (protOf p)).get F.SP_LAP_LAP_NO (protOf p) = s.get F.SP_LAP_LAP_NO (protOf p) := by
    rw [hlap, hu.2 F.SP_LAP_LAP_NO (protOf p) 0 (by simp)]
    rfl
  refine ⟨_, hx, ?_, fun hp hp' => ?_⟩
  · rw [(keep_protKept _ _ _).1, State.prot_modProt]
    dsimp only
    rw [corrected_log, logRow_found hfind, hlap']
    split
    · rw [evtProt_eq]
      exact logWrite_log _ _ _ _
    · exact logWrite_log _ _ _ _
  · rw [State.keep_get, State.modProt_get, corrected_eq, logRow_found hfind, hlap', if_pos (by simp [hp, hp']), evtProt_eq]
    exact State.evt_bit _ _ _ (evtPlace_lt _ (by decide))

/-- An entry after another correction of its row (R350). -/
theorem again_counts (r : LogRow) (lap : BitVec 16) : (r.again lap).persist = (r.persist || decide ((r.again lap).wcount = 4)) ∧
    (r.again lap).total.toNat = min (r.total.toNat + 1) 0xFFFF ∧ (1 < (lap - r.wlap).toNat → (r.again lap).wcount = 1 ∧ (r.again lap).wlap = lap) ∧
    ((lap - r.wlap).toNat ≤ 1 → (r.again lap).wlap = r.wlap ∧ (r.wcount.toNat < 4 → (r.again lap).wcount.toNat = r.wcount.toNat + 1)) := by
  have hle : lap - r.wlap ≤ 1 ↔ (lap - r.wlap).toNat ≤ 1 := BitVec.le_def
  have hlt : r.wcount < 4 ↔ r.wcount.toNat < 4 := BitVec.lt_def
  obtain ⟨htotal, hwcount, hwlap, hpersist⟩ : (r.again lap).total = (if r.total = 0xFFFF then r.total else r.total + 1) ∧
      (r.again lap).wcount = (if lap - r.wlap ≤ 1 then (if r.wcount < 4 then r.wcount + 1 else 4) else 1) ∧
      (r.again lap).wlap = (if lap - r.wlap ≤ 1 then r.wlap else lap) ∧
      (r.again lap).persist = (r.persist || decide ((r.again lap).wcount = 4)) := by
    unfold LogRow.again
    by_cases ht : r.total = 0xFFFF
    · simp only [if_pos ht]
      exact ⟨trivial, trivial, trivial, trivial⟩
    · simp only [if_neg ht]
      exact ⟨trivial, trivial, trivial, trivial⟩
  refine ⟨hpersist, ?_, fun h => ?_, fun h => ⟨?_, fun hw => ?_⟩⟩
  · rw [htotal]
    split
    · next ht =>
      rw [ht]
      rfl
    · next ht =>
      have : r.total.toNat ≠ 0xFFFF := fun h => ht (BitVec.eq_of_toNat_eq h)
      have := r.total.isLt
      rw [BitVec.toNat_add]
      change (r.total.toNat + 1) % 65536 = _
      omega
  · have hn : ¬lap - r.wlap ≤ 1 := by rw [hle]; omega
    rw [hwcount, hwlap, if_neg hn, if_neg hn]
    exact ⟨rfl, rfl⟩
  · rw [hwlap, if_pos (hle.mpr h)]
  · rw [hwcount, if_pos (hle.mpr h), if_pos (hlt.mpr hw), BitVec.toNat_add]
    change (r.wcount.toNat + 1) % 8 = _
    omega

end Sys2Proof.Machine

/-! Proofs for 12: rows in error on the way of the scrub, laps and the floor (R341, R344, R345). -/

namespace Sys2Proof.Machine

/-! ### No event (R344) -/

theorem onlyRegs_keep_quiet (s : State) : (s.keep s.quiet).out = [] ∧ OnlyRegs s (s.keep s.quiet) [] := (ProtWork.refl s.quiet []).keep

theorem scrub_no_event {p : Part} {ram : BitVec 5} {row : BitVec 20} {s : State} (h : s.scrubs p ram row = false) (syn : List (Nat × Byte)) :
    ∃ t, exec (.scrubRead p ram row syn) s = .next t ∧ t.out = [] ∧ OnlyRegs s t [] :=
  ⟨_, execScrubRead_of_not_scrubs h syn, onlyRegs_keep_quiet s⟩

/-! ### A row in error on the way -/

/-- Mending one row keeps the syndromes of another. -/
theorem syndromes_of_mended {s t : State} {i ram r row : Nat} (h : (t.prot i).bad = (s.prot i).bad.filter (fun e => !(e.1 = ram && e.2.1 = r))) (hne : r ≠ row)
    (syn : List (Nat × Byte)) : t.syndromes i ram row syn = s.syndromes i ram row syn := by
  have hf : (t.prot i).bad.filter (fun e => e.1 = ram && e.2.1 = row) = (s.prot i).bad.filter (fun e => e.1 = ram && e.2.1 = row) := by
    rw [h, List.filter_filter]
    refine List.filter_congr (fun e _ => ?_)
    by_cases he : e.1 = ram ∧ e.2.1 = row
    · simp [he, Ne.symm hne]
    · have hd : (decide (e.1 = ram) && decide (e.2.1 = row)) = false := by simpa using he
      rw [hd, Bool.false_and]
  unfold State.syndromes
  dsimp only
  rw [hf]

theorem scrubBad_corr {s : State} {i ram r : Nat} (hk : s.rowSkipped i ram r = false) (hc : classify (s.syndromes i ram r []) = .corr) :
    s.scrubBad i ram [r] = (true, s.corrected i ram r) := by
  have hread : s.readRow i ram r [] 1 = (true, s.corrected i ram r) := by
    unfold State.readRow
    rw [hc]
  unfold State.scrubBad
  rw [hk, hread]
  rfl

theorem scrub_way {p : Part} {ram : BitVec 5} {row : BitVec 20} {r : Nat} {s : State} (hs : s.scrubs p ram row = true) (hn : s.noPark = true)
    (hd : (s.prot (protOf p)).due = []) (ha : (s.prot (protOf p)).armed = false)
    (hway : s.passBad (protOf p) ram.toNat (tget 0 (s.prot (protOf p)).pos ram.toNat) (row.toNat - tget 0 (s.prot (protOf p)).pos ram.toNat) = [r])
    (hk : s.rowSkipped (protOf p) ram.toNat r = false) (hr : classify (s.syndromes (protOf p) ram.toNat r []) = .corr)
    (hrow : classify (s.syndromes (protOf p) ram.toNat row.toNat []) = .clean) :
    ∃ t, exec (.scrubRead p ram row []) s = .next t ∧ t.get F.SP_CE_COUNT (protOf p) = min (s.get F.SP_CE_COUNT (protOf p) + 1) (2 ^ F.SP_CE_COUNT.len - 1) ∧
      (t.get F.EVT_STAT_EVT (protPage p)).testBit (protBit p 0) = true ∧ (∀ m ∈ (t.prot (protOf p)).bad, ¬(m.1 = ram.toNat ∧ m.2.1 = r)) ∧
      OnlyRegs s t [F.SP_CE_COUNT.key (protOf p) 0, F.EVT_STAT_EVT.key (protPage p) 0, F.SP_LOG_CTL_LOST.key (protOf p) 0] := by
  have hne : r ≠ row.toNat := by
    rintro rfl
    rw [hr] at hrow
    cases hrow
  obtain ⟨hwork, hcount, hevent, l, q, hprot⟩ := corrected_shown s.quiet (protOf p) ram.toNat r
  have hto : s.quiet.scrubTo (protOf p) ram.toNat row.toNat =
      (true, (s.quiet.corrected (protOf p) ram.toNat r).modProt (protOf p) (fun x => { x with pos := tset 0 x.pos ram.toNat row.toNat })) := by
    unfold State.scrubTo
    dsimp only
    rw [show s.quiet.passBad (protOf p) ram.toNat (tget 0 (s.quiet.prot (protOf p)).pos ram.toNat) (row.toNat - tget 0 (s.quiet.prot (protOf p)).pos ram.toNat) = [r] from hway,
      scrubBad_corr (s := s.quiet) hk hr]
    rfl
  have hat := scrubAt_prot (s.quiet.corrected (protOf p) ram.toNat r) (protOf p) ram.toNat row.toNat
  have hw : ProtWork s.quiet (((s.quiet.corrected (protOf p) ram.toNat r).scrubAt (protOf p) ram.toNat row.toNat).modProt (protOf p) (fun x => { x with due := [] }))
      (corrKeys (protOf p)) := (hwork.trans (scrubAt_work _ _ _ _ _)).modProt _ _
  have hexec : exec (.scrubRead p ram row []) s = .next (s.keep
      (((s.quiet.corrected (protOf p) ram.toNat r).scrubAt (protOf p) ram.toNat row.toNat).modProt (protOf p) (fun x => { x with due := [] }))) := by
    rw [← hw.keepRead hn (park_not_corrKeys _), ← scanRow_of_clean (ram := ram.toNat) (row := row.toNat) (syn := []) (by
      rw [syndromes_of_mended (s := s) (r := r) (by rw [hat, hprot]; rfl) hne]
      exact hrow) (by rw [hat, hprot]; exact hd) 1, execScrubRead_of_scrubs hs, hto]
    rfl
  obtain ⟨-, honly⟩ := hw.keep
  generalize s.quiet.corrected (protOf p) ram.toNat r = c at hcount hevent hprot hat hexec honly
  have hget : ∀ (f : Fld) (i : Nat), (s.keep ((c.scrubAt (protOf p) ram.toNat row.toNat).modProt (protOf p) (fun x => { x with due := [] }))).get f i = c.get f i :=
    fun f i => (State.keep_get _ _ _ _ _).trans (State.get_congr c _ rfl f i 0)
  refine ⟨_, hexec, (hget _ _).trans hcount, ?_, fun m hm => ?_, honly⟩
  · rw [hget]
    exact hevent
  · obtain ⟨-, hbad⟩ := keep_protKept s ((c.scrubAt (protOf p) ram.toNat row.toNat).modProt (protOf p) (fun x => { x with due := [] })) (protOf p)
    rw [State.prot_modProt, hat, hprot] at hbad
    have hm' := (hbad ha).2 m hm
    have hor := (List.mem_filter.mp hm').2
    rintro ⟨h1, h2⟩
    simp [h1, h2] at hor

/-! ### The end of a lap (R344) -/

/-- A scrub of RAMs that have no row in error left. -/
theorem scrubAll_clear {i : Nat} (l : List (Nat × Nat)) (hl : l.Pairwise (fun a b => a.1 < b.1)) (s : State)
    (hc : ∀ x ∈ l, s.passBad i x.1 (tget 0 (s.prot i).pos x.1) (x.2 - tget 0 (s.prot i).pos x.1) = []) :
    ∃ t, l.foldl (fun (acc : Bool × State) x => if acc.1 then acc.2.scrubTo i x.1 x.2 else acc) (true, s) = (true, t) ∧ ∀ ks, ProtWork s t ks := by
  induction l generalizing s with
  | nil => exact ⟨s, rfl, fun ks => .refl s ks⟩
  | cons x l ih =>
    obtain ⟨hx, hl'⟩ := List.pairwise_cons.mp hl
    have hto : s.scrubTo i x.1 x.2 = (true, s.modProt i (fun p => { p with pos := tset 0 p.pos x.1 x.2 })) := by
      unfold State.scrubTo
      dsimp only
      rw [hc x (by simp)]
      rfl
    obtain ⟨t, ht, hw⟩ := ih hl' (s.modProt i (fun p => { p with pos := tset 0 p.pos x.1 x.2 })) (fun y hy => by
      have hne : y.1 ≠ x.1 := (hx y hy).ne'
      rw [State.prot_modProt, passBad_congr (s := s) (by rw [State.prot_modProt])]
      dsimp only
      rw [tget_tset_ne _ _ _ _ _ _ hne]
      exact hc y (by simp [hy]))
    refine ⟨t, ?_, fun ks => ((ProtWork.refl s ks).modProt _ _).trans (hw ks)⟩
    rw [List.foldl_cons, if_pos rfl, hto, ht]

theorem ramsOf_pairwise (i : Nat) : (ramsOf i).Pairwise (fun a b => a.1 < b.1) := by
  unfold ramsOf
  refine List.Pairwise.filterMap _ (fun a b hab x hx y hy => ?_) List.pairwise_lt_range
  have hfst : ∀ r z, (if ramOf i r then (ramShape r).map (fun x => (r, x.1)) else none) = some z → z.1 = r := fun r z h => by
    split at h
    · obtain ⟨w, -, rfl⟩ := Option.map_eq_some_iff.mp h
      rfl
    · cases h
  rw [hfst a x hx, hfst b y hy]
  exact hab

/-- The keys that the end of a lap writes. -/
def lapKeys (i : Nat) : List Nat := [F.SP_LAP_LAP_NO.key i 0, F.SP_LAP_LAST_TIME.key i 0, F.SP_LAP_FLOOR.key i 0]

theorem park_not_lapKeys (i : Nat) : F.PW_PARK_CTL_STATE.key 0 0 ∉ lapKeys i := by
  simp only [lapKeys, List.mem_cons, List.not_mem_nil, or_false, Fld.key, F.PW_PARK_CTL_STATE, F.SP_LAP_LAP_NO, F.SP_LAP_LAST_TIME, F.SP_LAP_FLOOR]
  omega

/-- The registers and the protection of RAM group `i` when a lap that began at `at'` ends. -/
def State.lapEnded (u s : State) (i : Nat) : State :=
  let t := (u.put F.SP_LAP_LAP_NO (u.get F.SP_LAP_LAP_NO i + 1) i).put F.SP_LAP_LAST_TIME (min ((s.fclk - (s.prot i).lapAt) / 1024) (2 ^ 32 - 1)) i
  (t.putB F.SP_LAP_FLOOR (s.get F.SP_LAP_LIMIT_LIMIT i = 0) i).modProt i (fun p => { p with lapAt := s.fclk, pos := [] })

theorem lapEnded_shows (u s : State) (i : Nat) : ProtWork u (u.lapEnded s i) (lapKeys i) ∧
    (u.lapEnded s i).get F.SP_LAP_LAP_NO i = (u.get F.SP_LAP_LAP_NO i + 1) % 2 ^ 16 ∧
    (u.lapEnded s i).get F.SP_LAP_LAST_TIME i = min ((s.fclk - (s.prot i).lapAt) / 1024) (2 ^ 32 - 1) ∧
    ((u.lapEnded s i).flag F.SP_LAP_FLOOR i = true ↔ s.get F.SP_LAP_LIMIT_LIMIT i = 0) ∧
    ((u.lapEnded s i).prot i).lapAt = s.fclk ∧ ((u.lapEnded s i).prot i).pos = [] := by
  unfold State.lapEnded
  dsimp only
  refine ⟨(((ProtWork.refl u _).put _ _ _ _ (by simp [lapKeys])).put _ _ _ _ (by simp [lapKeys])).putB _ _ _ _ (by simp [lapKeys]) |>.modProt _ _, ?_, ?_, ?_, ?_, ?_⟩
  · simp (disch := (refine Fld.key_ne_of_place rfl ?_; decide)) only [State.modProt_get, State.get_putB_ne, State.get_put_ne, State.get_put]
    rfl
  · simp (disch := (refine Fld.key_ne_of_place rfl ?_; decide)) only [State.modProt_get, State.get_putB_ne, State.get_put]
    exact Nat.mod_eq_of_lt (by change _ < 2 ^ 32; omega)
  · rw [State.flag_congr _ _ (State.modProt_regs _ _ _), State.flag_putB _ _ _ _ _ (by decide)]
    simp
  · rw [State.prot_modProt]
  · rw [State.prot_modProt]

theorem execScrubLapEnd_eq {p : Part} {s : State} (hp : ∀ h, p ≠ .halt h) : exec (.scrubLapEnd p) s =
    if !s.flag F.SP_SWEEP_DONE (protOf p) ∨ s.parked then .next (s.keep s.quiet)
    else
      let r := (ramsOf (protOf p)).foldl (fun (acc : Bool × State) x => if acc.1 then acc.2.scrubTo (protOf p) x.1 x.2 else acc) (true, s.quiet)
      .next (s.keepRead (if !r.1 then r.2 else r.2.lapEnded s (protOf p))) := by
  cases p with
  | halt h => exact absurd rfl (hp h)
  | stn x => rfl
  | jct => rfl

theorem scrub_lap_ends {p : Part} {s : State} (hp : ∀ h, p ≠ .halt h) (hd : s.flag F.SP_SWEEP_DONE (protOf p) = true) (hk : s.parked = false) (hn : s.noPark = true)
    (hc : (ramsOf (protOf p)).all (fun x => s.scrubClear p x.1 x.2) = true) : ∃ t, exec (.scrubLapEnd p) s = .next t ∧
      t.get F.SP_LAP_LAP_NO (protOf p) = (s.get F.SP_LAP_LAP_NO (protOf p) + 1) % 2 ^ 16 ∧
      t.get F.SP_LAP_LAST_TIME (protOf p) = min ((s.fclk - (s.prot (protOf p)).lapAt) / 1024) (2 ^ 32 - 1) ∧
      (t.flag F.SP_LAP_FLOOR (protOf p) = true ↔ s.get F.SP_LAP_LIMIT_LIMIT (protOf p) = 0) ∧ (t.prot (protOf p)).lapAt = s.fclk ∧ (t.prot (protOf p)).pos = [] ∧
      OnlyRegs s t [F.SP_LAP_LAP_NO.key (protOf p) 0, F.SP_LAP_LAST_TIME.key (protOf p) 0, F.SP_LAP_FLOOR.key (protOf p) 0] := by
  obtain ⟨u, hu, hw⟩ := scrubAll_clear (i := protOf p) (ramsOf (protOf p)) (ramsOf_pairwise _) s.quiet
    (fun x hx => (scrubClear_iff (List.all_eq_true.mp hc x hx)).1)
  obtain ⟨hwork, hno, htime, hfloor, hat, hpos⟩ := lapEnded_shows u s (protOf p)
  have hall : ProtWork s.quiet (u.lapEnded s (protOf p)) (lapKeys (protOf p)) := (hw _).trans hwork
  obtain ⟨-, honly⟩ := hall.keep
  have hexec : exec (.scrubLapEnd p) s = .next (s.keep (u.lapEnded s (protOf p))) := by
    rw [execScrubLapEnd_eq hp, if_neg (by simp [hd, hk])]
    dsimp only
    rw [hu, ← hall.keepRead hn (park_not_lapKeys _)]
    rfl
  refine ⟨_, hexec, ?_, ?_, ?_, ?_, ?_, honly⟩
  · rw [State.keep_get, hno, (hw []).2 F.SP_LAP_LAP_NO (protOf p) 0 (by simp)]
    rfl
  · rw [State.keep_get, htime]
  · rw [State.flag_congr _ _ (State.keep_regs _ _)]
    exact hfloor
  · rw [(keep_protKept _ _ _).1]
    exact hat
  · rw [(keep_protKept _ _ _).1]
    exact hpos

theorem scrub_lap_not_run {p : Part} {s : State} (h : (∃ h, p = .halt h) ∨ s.flag F.SP_SWEEP_DONE (protOf p) = false ∨ s.parked = true) :
    ∃ t, exec (.scrubLapEnd p) s = .next t ∧ t.out = [] ∧ OnlyRegs s t [] := by
  refine ⟨s.keep s.quiet, ?_, onlyRegs_keep_quiet s⟩
  by_cases hp : ∃ h, p = .halt h
  · obtain ⟨h, rfl⟩ := hp
    rfl
  · rw [execScrubLapEnd_eq (fun h he => hp ⟨h, he⟩)]
    exact if_pos (by rcases h.resolve_left hp with h | h <;> simp [h])

/-! ### The floor (R345) -/

theorem execScrubFloorEngage_eq {p : Part} {s : State} (hp : ∀ h, p ≠ .halt h) : exec (.scrubFloorEngage p) s =
    .next (s.keep (if s.quiet.flag F.SP_SWEEP_DONE (protOf p) ∧ !s.quiet.flag F.SP_LAP_FLOOR (protOf p) then
      (s.quiet.putB F.SP_LAP_FLOOR true (protOf p)).evtProt (protOf p) 4 else s.quiet)) := by
  cases p with
  | halt h => exact absurd rfl (hp h)
  | stn x => rfl
  | jct => rfl

theorem scrub_floor_engages {p : Part} {s : State} (hp : ∀ h, p ≠ .halt h) (hd : s.flag F.SP_SWEEP_DONE (protOf p) = true)
    (hf : s.flag F.SP_LAP_FLOOR (protOf p) = false) : ∃ t, exec (.scrubFloorEngage p) s = .next t ∧ t.flag F.SP_LAP_FLOOR (protOf p) = true ∧
      (t.get F.EVT_STAT_EVT (protPage p)).testBit (protBit p 4) = true ∧ OnlyRegs s t [F.SP_LAP_FLOOR.key (protOf p) 0, F.EVT_STAT_EVT.key (protPage p) 0] := by
  have hw : ProtWork s.quiet ((s.quiet.putB F.SP_LAP_FLOOR true (protOf p)).evtProt (protOf p) 4) [F.SP_LAP_FLOOR.key (protOf p) 0, F.EVT_STAT_EVT.key (protPage p) 0] := by
    rw [evtProt_eq]
    exact ((ProtWork.refl _ _).putB _ _ _ _ (by simp)).evt _ _ (by simp [protPage, evtPage])
  obtain ⟨-, honly⟩ := hw.keep
  refine ⟨_, by rw [execScrubFloorEngage_eq hp, if_pos (by simp [hd, hf])], ?_, ?_, honly⟩
  · rw [State.flag_congr _ _ (State.keep_regs _ _), evtProt_eq]
    unfold State.flag
    rw [State.get_evt_ne _ _ _ _ _ _ (by simp only [Fld.key, F.SP_LAP_FLOOR, F.EVT_STAT_EVT]; omega), State.get_putB]
    rfl
  · rw [State.keep_get, evtProt_eq]
    exact State.evt_bit _ _ _ (evtPlace_lt _ (by decide))

theorem scrub_floor_not_engaged {p : Part} {s : State} (h : (∃ h, p = .halt h) ∨ s.flag F.SP_SWEEP_DONE (protOf p) = false ∨ s.flag F.SP_LAP_FLOOR (protOf p) = true) :
    ∃ t, exec (.scrubFloorEngage p) s = .next t ∧ t.out = [] ∧ OnlyRegs s t [] := by
  refine ⟨s.keep s.quiet, ?_, onlyRegs_keep_quiet s⟩
  by_cases hp : ∃ h, p = .halt h
  · obtain ⟨h, rfl⟩ := hp
    rfl
  · rw [execScrubFloorEngage_eq (fun h he => hp ⟨h, he⟩), if_neg (by rcases h.resolve_left hp with h | h <;> simp [h])]

end Sys2Proof.Machine

/-! Proofs for 12 and 13: what a row beyond correction calls for (R343, R347; 13 R371, R376; 14 R399). -/

namespace Sys2Proof.Machine

/-! ### What is noted of the row -/

/-- The keys that hold the latest uncorrectable row. -/
def ueKeys (i : Nat) : List Nat :=
  [F.SP_UE_LAST_RAM.key i 0, F.SP_UE_LAST_CLASS.key i 0, F.SP_UE_LAST_SRC.key i 0, F.SP_UE_LAST_V.key i 0, F.SP_UE_ROW_ROW.key i 0]

/-- The latest uncorrectable row of RAM group `i`. -/
def UeShown (t : State) (i ram row : Nat) (cls : RowClass) (src : Nat) : Prop :=
  t.get F.SP_UE_LAST_RAM i = ram ∧ t.get F.SP_UE_LAST_CLASS i = cls.code ∧ t.get F.SP_UE_LAST_SRC i = src ∧ t.flag F.SP_UE_LAST_V i = true ∧
    t.get F.SP_UE_ROW_ROW i = row % 2 ^ 16

/-- The row is noted, and holds good check bits again. -/
def State.ueNoted (s : State) (i ram row : Nat) (cls : RowClass) (src : Nat) : State :=
  (((((s.put F.SP_UE_LAST_RAM ram i).put F.SP_UE_LAST_CLASS cls.code i).put F.SP_UE_LAST_SRC src i).putB F.SP_UE_LAST_V true i).put F.SP_UE_ROW_ROW row i).mendRow i ram row

theorem ueNoted_work (s : State) (i ram row : Nat) (cls : RowClass) (src : Nat) : ProtWork s (s.ueNoted i ram row cls src) (ueKeys i) :=
  (((((((ProtWork.refl s _).put _ _ _ _ (by simp [ueKeys])).put _ _ _ _ (by simp [ueKeys])).put _ _ _ _ (by simp [ueKeys])).putB _ _ _ _ (by simp [ueKeys])).put _ _ _ _
    (by simp [ueKeys]))).modProt _ _

theorem code_lt (c : RowClass) : c.code < 4 := by cases c <;> decide

theorem ueNoted_shown (s : State) (i row : Nat) {ram src : Nat} (cls : RowClass) (hr : ram < 32) (hs : src < 4) : UeShown (s.ueNoted i ram row cls src) i ram row cls src := by
  have hc := code_lt cls
  unfold State.ueNoted State.mendRow UeShown State.flag
  simp (disch := (refine Fld.key_ne_of_place rfl ?_; decide)) only [State.modProt_get, State.get_putB_ne, State.get_put_ne, State.get_put, State.get_putB]
  exact ⟨Nat.mod_eq_of_lt hr, Nat.mod_eq_of_lt hc, Nat.mod_eq_of_lt hs, rfl, rfl⟩

theorem ueNoted_prot (s : State) (i ram row : Nat) (cls : RowClass) (src : Nat) :
    (s.ueNoted i ram row cls src).prot i = { s.prot i with bad := (s.prot i).bad.filter (fun e => !(e.1 = ram && e.2.1 = row)) } := by
  have hp : (((((s.put F.SP_UE_LAST_RAM ram i).put F.SP_UE_LAST_CLASS cls.code i).put F.SP_UE_LAST_SRC src i).putB F.SP_UE_LAST_V true i).put F.SP_UE_ROW_ROW row i).prot i =
      s.prot i := State.prot_congr (by simp only [State.put_prots, State.putB_prots]) i
  unfold State.ueNoted State.mendRow
  rw [State.prot_modProt, hp]

/-- It stands while the keys are not written. -/
theorem UeShown.of_regsBut {s t : State} {i ram row src : Nat} {cls : RowClass} {ks : List Nat} (h : UeShown s i ram row cls src) (hk : RegsBut s t ks)
    (hd : ∀ k ∈ ueKeys i, k ∉ ks) : UeShown t i ram row cls src := by
  have hkeep : ∀ f : Fld, f.key i 0 ∈ ueKeys i → t.get f i = s.get f i := fun f hf => hk f i 0 (hd _ hf)
  unfold UeShown State.flag at h ⊢
  rw [hkeep F.SP_UE_LAST_RAM (by simp [ueKeys]), hkeep F.SP_UE_LAST_CLASS (by simp [ueKeys]), hkeep F.SP_UE_LAST_SRC (by simp [ueKeys]),
    hkeep F.SP_UE_LAST_V (by simp [ueKeys]), hkeep F.SP_UE_ROW_ROW (by simp [ueKeys])]
  exact h

theorem uncorrectable_eq (s : State) (i ram row : Nat) (cls : RowClass) (src : Nat) :
    s.uncorrectable i ram row cls src =
      if !(s.ueNoted i ram row cls src).su.everReady then (false, (s.ueNoted i ram row cls src).dueReset i (ramPart i ram) (ueDetail ram row cls))
      else match (s.ueNoted i ram row cls src).uncorrOf i ram row cls with
        | .reset => (false, ((((s.ueNoted i ram row cls src).bump F.SP_UE_CNT_RESETS i).evtProt i 2).dueReset i (ramPart i ram) (ueDetail ram row cls)))
        | .lane pon => (true, ((((s.ueNoted i ram row cls src).bump F.SP_UE_CNT_CLEARED i).evtProt i 3).fault 4 i (ueDetail ram row cls)).abortRegion i pon)
        | .idle => (true, (((s.ueNoted i ram row cls src).bump F.SP_UE_CNT_CLEARED i).evtProt i 3).modMem i (fun m => { m with lanes := freshen m.lanes row 1 })) := rfl

theorem readRow_of_uncorr {s : State} {i ram row : Nat} {syn : List (Nat × Byte)} (h1 : classify (s.syndromes i ram row syn) ≠ .clean)
    (h2 : classify (s.syndromes i ram row syn) ≠ .corr) (src : Nat) :
    s.readRow i ram row syn src = s.uncorrectable i ram row (classify (s.syndromes i ram row syn)) src := by
  unfold State.readRow
  generalize classify (s.syndromes i ram row syn) = c at h1 h2
  cases c with
  | clean => exact absurd rfl h1
  | corr => exact absurd rfl h2
  | _ => rfl

/-- What is uncorrectable turns on the stations alone. -/
theorem uncorrOf_congr {s t : State} (h : t.stns = s.stns) (i ram row : Nat) (cls : RowClass) : t.uncorrOf i ram row cls = s.uncorrOf i ram row cls := by
  unfold State.uncorrOf State.regionAt State.hdr
  simp only [State.slot_congr _ _ h, State.mem_congr _ _ h]

end Sys2Proof.Machine

/-! Proofs for 12: an uncorrectable row that the scrub reads: a fold line cleared or its fold aborted, and start-up stopped (R343, R347; 14 R399). -/

namespace Sys2Proof.Machine

/-! ### The row that the scrub reads -/

theorem scrub_uncorr {s : State} {p : Part} {ram : BitVec 5} {row : BitVec 20} {syn : List (Nat × Byte)} (hs : s.scrubs p ram row = true)
    (hc : s.scrubClear p ram.toNat row.toNat = true) (h1 : classify (s.syndromes (protOf p) ram.toNat row.toNat syn) ≠ .clean)
    (h2 : classify (s.syndromes (protOf p) ram.toNat row.toNat syn) ≠ .corr) :
    exec (.scrubRead p ram row syn) s = .next (s.keepRead (((s.quiet.scrubAt (protOf p) ram.toNat row.toNat).uncorrectable (protOf p) ram.toNat row.toNat
      (classify (s.syndromes (protOf p) ram.toNat row.toNat syn)) 1).2.settleDue (protOf p))) := by
  have hsyn : (s.quiet.scrubAt (protOf p) ram.toNat row.toNat).syndromes (protOf p) ram.toNat row.toNat syn = s.syndromes (protOf p) ram.toNat row.toNat syn :=
    syndromes_congr (by rw [scrubAt_prot]; rfl) _ _ _
  rw [execScrubRead_of_clear hs hc, State.scanRow, readRow_of_uncorr (by rw [hsyn]; exact h1) (by rw [hsyn]; exact h2), hsyn]

/-- The row noted, in the state in which the scrub reads it. -/
def State.scrubNoted (s : State) (i ram row : Nat) (cls : RowClass) : State := (s.quiet.scrubAt i ram row).ueNoted i ram row cls 1

theorem scrubNoted_work (s : State) (i ram row : Nat) (cls : RowClass) : ProtWork s.quiet (s.scrubNoted i ram row cls) (ueKeys i) :=
  (scrubAt_work _ _ _ _ _).trans (ueNoted_work _ _ _ _ _ _)
theorem scrubNoted_shown (s : State) (i row : Nat) (ram : BitVec 5) (cls : RowClass) : UeShown (s.scrubNoted i ram.toNat row cls) i ram.toNat row cls 1 :=
  ueNoted_shown _ _ _ _ ram.isLt (by decide)
theorem scrubNoted_due {s : State} {i : Nat} (h : (s.prot i).due = []) (ram row : Nat) (cls : RowClass) : ((s.scrubNoted i ram row cls).prot i).due = [] := by
  rw [State.scrubNoted, ueNoted_prot, scrubAt_prot]
  exact h
theorem ProtWork.su {s t : State} {ks : List Nat} (h : ProtWork s t ks) : t.su = s.su := by rw [h.1]
theorem ProtWork.stns {s t : State} {ks : List Nat} (h : ProtWork s t ks) : t.stns = s.stns := by rw [h.1]
theorem ProtWork.jct {s t : State} {ks : List Nat} (h : ProtWork s t ks) : t.jct = s.jct := by rw [h.1]
theorem ProtWork.halts {s t : State} {ks : List Nat} (h : ProtWork s t ks) : t.halts = s.halts := by rw [h.1]
theorem ProtWork.jobs {s t : State} {ks : List Nat} (h : ProtWork s t ks) : t.jobs = s.jobs := by rw [h.1]
theorem ProtWork.net {s t : State} {ks : List Nat} (h : ProtWork s t ks) : t.net = s.net := by rw [h.1]

theorem dueReset_prot {s : State} {i : Nat} (h : (s.prot i).due = []) (p : Part) (d : Nat) : (s.dueReset i p d).prot i = { s.prot i with due := [(p, d)] } := by
  rw [State.dueReset, State.prot_modProt, h]
  rfl

/-- A reset that is due alone begins. -/
theorem settleDue_single {s : State} {i d : Nat} {p : Part} (h : (s.prot i).due = [(p, d)]) :
    s.settleDue i = if !s.su.everReady then
        (if s.su.step = 15 then s.modProt i (fun x => { x with due := [] }) else (s.modProt i (fun x => { x with due := [] })).startFail (if s.su.step = 5 then 6 else 4))
      else ((s.modProt i (fun x => { x with due := [] })).parkEnd 6).resetPart p d := by
  unfold State.settleDue
  rw [h]
  rfl

/-- A row counted: the counter and its event. -/
theorem ueCounted_shows (u : State) {f : Fld} {i b : Nat} (hf : f = F.SP_UE_CNT_RESETS ∨ f = F.SP_UE_CNT_CLEARED) (hb : b < 24) :
    ProtWork u ((u.bump f i).evtProt i b) [f.key i 0, F.EVT_STAT_EVT.key (evtPage i) 0] ∧
      ((u.bump f i).evtProt i b).get f i = min (u.get f i + 1) (2 ^ f.len - 1) ∧
      (((u.bump f i).evtProt i b).get F.EVT_STAT_EVT (evtPage i)).testBit (evtPlace i b) = true := by
  rw [evtProt_eq]
  refine ⟨((ProtWork.refl u _).bump _ _ _ _ (by simp)).evt _ _ (by simp), ?_, State.evt_bit _ _ _ (evtPlace_lt i hb)⟩
  rw [State.get_evt_ne _ _ _ _ _ _ ?_, State.get_bump]
  rcases hf with rfl | rfl
  · simp only [Fld.key, F.SP_UE_CNT_RESETS, F.EVT_STAT_EVT]
    omega
  · simp only [Fld.key, F.SP_UE_CNT_CLEARED, F.EVT_STAT_EVT]
    omega

/-- Fields at different offsets of their pages. -/
theorem key_ne_of_off {f g : Fld} {i j : Nat} (h : f.off ≠ g.off) (hf : f.off < 4096 ∧ f.lo < 32) (hg : g.off < 4096 ∧ g.lo < 32) : f.key i 0 ≠ g.key j 0 := by
  unfold Fld.key
  omega

/-- None of the keys of the latest uncorrectable row is at the offset of `g`. -/
theorem ueKeys_ne {g : Fld} {i j : Nat} (h : g.off ≠ 0x05C ∧ g.off ≠ 0x060) (hg : g.off < 4096 ∧ g.lo < 32) : ∀ k ∈ ueKeys i, k ≠ g.key j 0 := by
  obtain ⟨ha, hb⟩ := h
  intro k hk
  simp only [ueKeys, List.mem_cons, List.not_mem_nil, or_false] at hk
  rcases hk with rfl | rfl | rfl | rfl | rfl
  · exact key_ne_of_off (Ne.symm ha) (by decide) hg
  · exact key_ne_of_off (Ne.symm ha) (by decide) hg
  · exact key_ne_of_off (Ne.symm ha) (by decide) hg
  · exact key_ne_of_off (Ne.symm ha) (by decide) hg
  · exact key_ne_of_off (Ne.symm hb) (by decide) hg

theorem ueKeys_not_counted {f : Fld} {i : Nat} (hf : f = F.SP_UE_CNT_RESETS ∨ f = F.SP_UE_CNT_CLEARED) :
    ∀ k ∈ ueKeys i, k ∉ [f.key i 0, F.EVT_STAT_EVT.key (evtPage i) 0] := by
  intro k hk
  simp only [List.mem_cons, List.not_mem_nil, or_false, not_or]
  refine ⟨?_, ueKeys_ne (by decide) (by decide) k hk⟩
  rcases hf with rfl | rfl
  · exact ueKeys_ne (by decide) (by decide) k hk
  · exact ueKeys_ne (by decide) (by decide) k hk

/-- The keys of the latest row, of a counter beside it and of an event are not those of a park. -/
theorem park_not_ueWrites {f : Fld} {i p : Nat} (hf : f = F.SP_UE_CNT_RESETS ∨ f = F.SP_UE_CNT_CLEARED) :
    F.PW_PARK_CTL_STATE.key 0 0 ∉ ueKeys i ++ [f.key i 0, F.EVT_STAT_EVT.key p 0] := by
  simp only [List.mem_append, List.mem_cons, List.not_mem_nil, or_false, not_or]
  refine ⟨fun hk => ueKeys_ne (g := F.PW_PARK_CTL_STATE) (by decide) (by decide) _ hk rfl, ?_, key_ne_of_off (by decide) (by decide) (by decide)⟩
  rcases hf with rfl | rfl
  · exact key_ne_of_off (by decide) (by decide) (by decide)
  · exact key_ne_of_off (by decide) (by decide) (by decide)

/-! ### A fold line that holds nothing (R343) -/

theorem freshen_row (l : LaneStore) (row : Nat) : tget none (freshen l row 1) row = none := by
  unfold freshen
  induction l with
  | nil => rfl
  | cons e l ih =>
    rw [List.filter_cons]
    split
    · next he =>
      have hne : e.1 ≠ row := by
        intro h
        simp only [h, Bool.or_eq_true, decide_eq_true_eq] at he
        omega
      unfold tget
      rw [if_neg hne]
      exact ih
    · exact ih

/-! ### A lane of a fold under way (06 R187, 12 R349) -/

/-- `t` is `s` but for stations, ports, ledgers, jobs, messages, outputs and registers under `ks`. -/
def Aside (s t : State) (ks : List Nat) : Prop := t.su = s.su ∧ t.jct = s.jct ∧ t.prots = s.prots ∧ t.halts = s.halts ∧ RegsBut s t ks

theorem Aside.refl (s : State) (ks : List Nat) : Aside s s ks := ⟨rfl, rfl, rfl, rfl, .refl s ks⟩
theorem Aside.trans {s t u : State} {ks : List Nat} (h : Aside s t ks) (k : Aside t u ks) : Aside s u ks := by
  obtain ⟨h1, h2, h3, h4, h5⟩ := h
  obtain ⟨k1, k2, k3, k4, k5⟩ := k
  exact ⟨k1.trans h1, k2.trans h2, k3.trans h3, k4.trans h4, h5.trans k5⟩
theorem Aside.of_eq {s t : State} (ks : List Nat) (h1 : t.su = s.su) (h2 : t.jct = s.jct) (h3 : t.prots = s.prots) (h4 : t.halts = s.halts) (h5 : t.regs = s.regs) :
    Aside s t ks := ⟨h1, h2, h3, h4, .of_regs h5 ks⟩
theorem Aside.modStn (s : State) (i : Nat) (f : Station → Station) (ks : List Nat) : Aside s (s.modStn i f) ks := .of_eq ks rfl rfl rfl rfl rfl
theorem Aside.modMem (s : State) (i : Nat) (f : StnMem → StnMem) (ks : List Nat) : Aside s (s.modMem i f) ks := .of_eq ks rfl rfl rfl rfl rfl
theorem Aside.modPort (s : State) (i : Nat) (f : Port → Port) (ks : List Nat) : Aside s (s.modPort i f) ks := .of_eq ks rfl rfl rfl rfl rfl
theorem Aside.modHdr (s : State) (i n : Nat) (f : FoldHdr → FoldHdr) (ks : List Nat) : Aside s (s.modHdr i n f) ks := .modMem s i _ ks
theorem Aside.modSlot (s : State) (i n : Nat) (f : Slot → Slot) (ks : List Nat) : Aside s (s.modSlot i n f) ks := .modMem s i _ ks
theorem Aside.setSrc (s : State) (i n : Nat) (x : BitVec 16) (ks : List Nat) : Aside s (s.setSrc i n x) ks := .modSlot s i n _ ks
theorem Aside.setVal (s : State) (i n : Nat) (v : Word64) (ks : List Nat) : Aside s (s.setVal i n v) ks := .modSlot s i n _ ks
theorem Aside.freshRegion (s : State) (i n : Nat) (ks : List Nat) : Aside s (s.freshRegion i n) ks := .modMem s i _ ks
theorem Aside.dropResults (s : State) (i n : Nat) (ks : List Nat) : Aside s (s.dropResults i n) ks := .modPort s i _ ks
theorem Aside.put (s : State) (f : Fld) (v i n : Nat) {ks : List Nat} (h : f.key i n ∈ ks) : Aside s (s.put f v i n) ks :=
  ⟨rfl, rfl, rfl, rfl, (RegsBut.refl s ks).put f v i n h⟩
theorem Aside.evt (s : State) (p b : Nat) {ks : List Nat} (h : F.EVT_STAT_EVT.key p 0 ∈ ks) : Aside s (s.evt p b) ks :=
  ⟨State.evt_su _ _ _, State.evt_jct _ _ _, State.evt_prots _ _ _, State.evt_halts _ _ _, (RegsBut.refl s ks).evt p b h⟩
theorem Aside.emit (s : State) (a b : Part) (m : Msg) (ks : List Nat) : Aside s (s.emit a b m) ks := .of_eq ks rfl rfl rfl rfl rfl
theorem Aside.occur (s : State) (p : Part) (c n : Nat) {ks : List Nat} (h : ∀ k ∈ counterKeys, k ∈ ks) : Aside s (s.occur p c n) ks :=
  ⟨State.occur_su _ _ _ _, State.occur_jct _ _ _ _, State.occur_prots _ _ _ _, State.occur_halts _ _ _ _,
    fun f i m hk => State.occur_regsBut s p c n f i m (fun hm => hk (h _ hm))⟩
theorem Aside.foldl {α : Type} {f : State → α → State} {ks : List Nat} (hf : ∀ s a, Aside s (f s a) ks) (l : List α) (s : State) : Aside s (l.foldl f s) ks := by
  induction l generalizing s with
  | nil => exact .refl s ks
  | cons a l ih => exact (hf s a).trans (ih _)

/-- The keys that the abort of a region of station `i` writes. -/
def abortKeys (i : Nat) : List Nat := F.EVT_STAT_EVT.key (0x0C + i) 0 :: counterKeys

theorem notifyWatches_aside (s : State) (i n : Nat) : Aside s (s.notifyWatches i n) (abortKeys i) := by
  have hk : ∀ k ∈ counterKeys, k ∈ abortKeys i := fun _ h => List.mem_cons_of_mem _ h
  unfold State.notifyWatches State.notifyIf
  dsimp only
  exact (((Aside.occur s _ _ _ hk).trans (.occur _ _ _ _ hk)).trans (.modMem _ _ _ _)).trans (.foldl (fun s w => .emit s _ _ _ _) _ _)

theorem abortRegion_aside (s : State) (i n : Nat) : Aside s (s.abortRegion i n) (abortKeys i) := by
  unfold State.abortRegion
  dsimp only
  split
  · exact .refl s _
  · refine Aside.trans ?_ (notifyWatches_aside _ i n)
    refine Aside.trans ?_ (.setVal _ _ _ _ _)
    refine Aside.trans ?_ (.setSrc _ _ _ _ _)
    refine Aside.trans ?_ (.evt _ _ _ (by simp [abortKeys]))
    exact ((Aside.freshRegion s i n _).trans (.dropResults _ i n _)).trans (.modHdr _ i n _ _)

/-- The entry that a fault makes is the log's last (13 R391). -/
theorem fault_last (s : State) (c p d : Nat) : ∃ e, (s.fault c p d).jct.faults.getLast? = some e ∧ e.cls = BitVec.ofNat 4 c ∧ e.part = BitVec.ofNat 5 p ∧
    e.detail = BitVec.ofNat 32 d := by
  unfold State.fault
  dsimp only
  split
  · exact ⟨_, by rw [State.evt_jct]; exact List.getLast?_concat, rfl, rfl, rfl⟩
  · exact ⟨_, by rw [State.evt_jct]; exact List.getLast?_concat, rfl, rfl, rfl⟩

/-- The keys that a fault writes. -/
def faultKeys : List Nat := [F.FD_LOG_CTL_LOST.key 0 0, F.EVT_STAT_EVT.key 0x29 0]

theorem fault_regsBut (s : State) (c p d : Nat) : RegsBut s (s.fault c p d) faultKeys := by
  unfold State.fault
  dsimp only
  split
  · exact (RegsBut.of_regs rfl _).evt _ _ (by simp [faultKeys])
  · exact RegsBut.evt (((RegsBut.refl s _).bump F.FD_LOG_CTL_LOST 0 0 1 (by simp [faultKeys])).congr rfl) _ _ (by simp [faultKeys])

end Sys2Proof.Machine

/-! Proofs for 12: an uncorrectable row of a fold under way, and one read before the block was ready (R343, R347; 14 R399). -/

namespace Sys2Proof.Machine

/-! ### Keys of other pages -/

theorem Fld.key_page (f : Fld) (i n : Nat) (hf : f.off < 4096 ∧ f.lo < 32) (hn : n < 65536) : f.key i n / 2 ^ 33 = f.page + i := by
  unfold Fld.key
  omega

/-- No key of the pages 0x10 to 0x2C but 0x29, on which the protection registers of stations and those of a park stand. -/
def PagesApart (ks : List Nat) : Prop := ∀ k ∈ ks, k / 2 ^ 33 < 0x10 ∨ k / 2 ^ 33 = 0x29 ∨ k / 2 ^ 33 = 0x2D

theorem PagesApart.not_mem {ks : List Nat} (h : PagesApart ks) (f : Fld) (i : Nat) (hf : f.off < 4096 ∧ f.lo < 32)
    (hp : 0x10 ≤ f.page + i ∧ f.page + i ≠ 0x29 ∧ f.page + i ≠ 0x2D) : f.key i 0 ∉ ks := by
  intro hk
  have := h _ hk
  rw [Fld.key_page f i 0 hf (by decide)] at this
  omega

theorem counterKeys_apart : PagesApart counterKeys := by
  intro k hk
  simp only [counterKeys, List.mem_cons, List.mem_map, List.mem_range] at hk
  rcases hk with rfl | ⟨j, hj, rfl⟩
  · exact .inr (.inr (by decide))
  · exact .inr (.inr (Fld.key_page _ 0 j (by decide) (by omega)))

theorem faultKeys_apart : PagesApart faultKeys := by
  intro k hk
  simp only [faultKeys, List.mem_cons, List.not_mem_nil, or_false] at hk
  rcases hk with rfl | rfl <;> exact .inr (.inl (by decide))

theorem abortKeys_apart {i : Nat} (h : i < 4) : PagesApart (abortKeys i) := by
  intro k hk
  rcases List.mem_cons.mp hk with rfl | hk
  · rw [Fld.key_page _ _ 0 (by decide) (by decide)]
    exact .inl (by simp only [F.EVT_STAT_EVT]; omega)
  · exact counterKeys_apart k hk

theorem PagesApart.append {ks ls : List Nat} (h : PagesApart ks) (k : PagesApart ls) : PagesApart (ks ++ ls) := fun x hx =>
  (List.mem_append.mp hx).elim (h x) (k x)

theorem ueKeys_page {i k : Nat} (h : k ∈ ueKeys i) : k / 2 ^ 33 = 0x14 + i := by
  simp only [ueKeys, List.mem_cons, List.not_mem_nil, or_false] at h
  rcases h with rfl | rfl | rfl | rfl | rfl <;> exact Fld.key_page _ i 0 (by decide) (by decide)

/-- The latest row of a station, shown still when other pages are written. -/
theorem UeShown.of_apart {s t : State} {x : BitVec 2} {ram row src : Nat} {cls : RowClass} {ks : List Nat} (h : UeShown s x.toNat ram row cls src)
    (hk : RegsBut s t ks) (ha : PagesApart ks) : UeShown t x.toNat ram row cls src :=
  h.of_regsBut hk fun k hk' hm => by
    have := ueKeys_page hk'
    have := ha k hm
    omega

/-! ### The row noted and counted, at the station -/

/-- The keys written when the row of RAM group `i` is noted and counted by `f`. -/
def countKeys (f : Fld) (i : Nat) : List Nat := ueKeys i ++ [f.key i 0, F.EVT_STAT_EVT.key (evtPage i) 0]

/-- The row is noted, `f` counts it and event bit `b` shows it. -/
structure UeCounted (s t : State) (f : Fld) (b i ram row : Nat) (cls : RowClass) : Prop where
  work : ProtWork s.quiet t (countKeys f i)
  shown : UeShown t i ram row cls 1
  count : t.get f i = min (s.get f i + 1) (2 ^ f.len - 1)
  event : (t.get F.EVT_STAT_EVT (evtPage i)).testBit (evtPlace i b) = true
  prot : (t.prot i).due = []

/-- The scrub notes and counts the row. -/
theorem scrubNoted_counted {s : State} {i : Nat} (h : (s.prot i).due = []) (ram : BitVec 5) (row : Nat) (cls : RowClass) {f : Fld} {b : Nat}
    (hf : f = F.SP_UE_CNT_RESETS ∨ f = F.SP_UE_CNT_CLEARED) (hb : b < 24) :
    UeCounted s (((s.scrubNoted i ram.toNat row cls).bump f i).evtProt i b) f b i ram.toNat row cls := by
  have hnoted := scrubNoted_work s i ram.toNat row cls
  have hshown := scrubNoted_shown s i row ram cls
  have hdue := scrubNoted_due h ram.toNat row cls
  generalize s.scrubNoted i ram.toNat row cls = u at hnoted hshown hdue ⊢
  obtain ⟨hwork, hcount, hevent⟩ := ueCounted_shows u (i := i) (b := b) hf hb
  have hkeep : u.get f i = s.get f i := by
    refine hnoted.2 f i 0 fun hk => ?_
    rcases hf with rfl | rfl
    · exact ueKeys_ne (g := F.SP_UE_CNT_RESETS) (by decide) (by decide) _ hk rfl
    · exact ueKeys_ne (g := F.SP_UE_CNT_CLEARED) (by decide) (by decide) _ hk rfl
  refine ⟨(hnoted.mono fun k hk => List.mem_append_left _ hk).trans (hwork.mono fun k hk => List.mem_append_right _ hk),
    hshown.of_regsBut hwork.2 (ueKeys_not_counted hf), by rw [hcount, hkeep], hevent, ?_⟩
  have hprot : ((u.bump f i).evtProt i b).prot i = u.prot i := State.prot_congr (by rw [evtProt_eq, State.evt_prots, State.bump_prots]) i
  rw [hprot, hdue]

/-- The scrub's read ends: no reset is due. -/
theorem keepRead_settled {s v : State} {i : Nat} (hn : s.noPark = true) (hdue : (v.prot i).due = []) (hsu : v.su = s.su)
    (hpark : v.get F.PW_PARK_CTL_STATE = s.get F.PW_PARK_CTL_STATE) : s.keepRead (v.settleDue i) = s.keep (v.modProt i (fun q => { q with due := [] })) := by
  rw [settleDue_of_empty hdue]
  exact keepRead_eq_keep hn hsu hpark

/-! ### The fold under way is aborted -/

/-- A fold under way at station `x` is aborted with a fault: the fault log's last entry is its. -/
theorem faultAbort_frame (s : State) (x : BitVec 2) (pon d : Nat) :
    ((s.fault 4 x.toNat d).abortRegion x.toNat pon).su = s.su ∧ ((s.fault 4 x.toNat d).abortRegion x.toNat pon).prots = s.prots ∧
      RegsBut s ((s.fault 4 x.toNat d).abortRegion x.toNat pon) (faultKeys ++ abortKeys x.toNat) ∧
      ∃ e ∈ ((s.fault 4 x.toNat d).abortRegion x.toNat pon).jct.faults, e.cls = 4 ∧ e.part.toNat = x.toNat ∧ e.detail = BitVec.ofNat 32 d := by
  obtain ⟨hsu, hjct, hprots, -, hregs⟩ := abortRegion_aside (s.fault 4 x.toNat d) x.toNat pon
  obtain ⟨e, he, hcls, hpart, hdet⟩ := fault_last s 4 x.toNat d
  refine ⟨hsu.trans (State.fault_su _ _ _ _), hprots.trans (State.fault_prots _ _ _ _),
    ((fault_regsBut _ _ _ _).mono fun k hk => List.mem_append_left _ hk).trans (hregs.mono fun k hk => List.mem_append_right _ hk), e, ?_, hcls, ?_, hdet⟩
  · rw [hjct]
    exact List.mem_of_getLast? he
  · rw [hpart, BitVec.toNat_ofNat]
    omega

section
variable {p : Part} {ram : BitVec 5} {row : BitVec 20} {syn : List (Nat × Byte)} {s : State}
  (hs : s.scrubs p ram row = true) (hc : s.scrubClear p ram.toNat row.toNat = true)
  (h1 : classify (s.syndromes (protOf p) ram.toNat row.toNat syn) ≠ .clean) (h2 : classify (s.syndromes (protOf p) ram.toNat row.toNat syn) ≠ .corr)
include hs hc h1 h2

/-- The row is noted and counted as cleared: its fold is aborted, or its line is. -/
theorem scrub_clears (he : s.su.everReady = true) :
    ∃ v, UeCounted s v F.SP_UE_CNT_CLEARED 3 (protOf p) ram.toNat row.toNat (classify (s.syndromes (protOf p) ram.toNat row.toNat syn)) ∧
      (∀ pon, s.uncorrOf (protOf p) ram.toNat row.toNat (classify (s.syndromes (protOf p) ram.toNat row.toNat syn)) = .lane pon → exec (.scrubRead p ram row syn) s =
        .next (s.keepRead (((v.fault 4 (protOf p) (ueDetail ram.toNat row.toNat (classify (s.syndromes (protOf p) ram.toNat row.toNat syn)))).abortRegion (protOf p) pon).settleDue (protOf p)))) ∧
      (s.uncorrOf (protOf p) ram.toNat row.toNat (classify (s.syndromes (protOf p) ram.toNat row.toNat syn)) = .idle → exec (.scrubRead p ram row syn) s =
        .next (s.keepRead ((v.modMem (protOf p) (fun m => { m with lanes := freshen m.lanes row.toNat 1 })).settleDue (protOf p)))) := by
  obtain ⟨-, hdue⟩ := scrubClear_iff hc
  rw [scrub_uncorr hs hc h1 h2]
  generalize classify (s.syndromes (protOf p) ram.toNat row.toNat syn) = cls
  have hnoted := scrubNoted_work s (protOf p) ram.toNat row.toNat cls
  refine ⟨_, scrubNoted_counted hdue ram row.toNat cls (f := F.SP_UE_CNT_CLEARED) (b := 3) (.inr rfl) (by decide), fun pon hu => ?_, fun hu => ?_⟩
  all_goals
    rw [uncorrectable_eq, ← State.scrubNoted, uncorrOf_congr (s := s) hnoted.stns, hu, hnoted.su, show (!s.quiet.su.everReady) = false by simp [he]]
    rfl

theorem scrub_lane (hn : s.noPark = true) (he : s.su.everReady = true) {x : BitVec 2} {pon : Nat} (hp : p = .stn x)
    (hu : s.uncorrOf (protOf p) ram.toNat row.toNat (classify (s.syndromes (protOf p) ram.toNat row.toNat syn)) = .lane pon) :
    ∃ t, exec (.scrubRead p ram row syn) s = .next t ∧ UeShown t (protOf p) ram.toNat row.toNat (classify (s.syndromes (protOf p) ram.toNat row.toNat syn)) 1 ∧
      t.get F.SP_UE_CNT_CLEARED (protOf p) = min (s.get F.SP_UE_CNT_CLEARED (protOf p) + 1) (2 ^ F.SP_UE_CNT_CLEARED.len - 1) ∧
      (t.get F.EVT_STAT_EVT (protPage p)).testBit (protBit p 3) = true ∧
      ∃ e ∈ t.jct.faults, e.cls = 4 ∧ e.part.toNat = x.toNat ∧
        e.detail = BitVec.ofNat 32 (ueDetail ram.toNat row.toNat (classify (s.syndromes (protOf p) ram.toNat row.toNat syn))) := by
  have hi : protOf p = x.toNat := by rw [hp]; rfl
  have hx := x.isLt
  obtain ⟨v, ⟨hwork, hshown, hcount, hevent, hprot⟩, hexec, -⟩ := scrub_clears hs hc h1 h2 he
  rw [hexec pon hu]
  generalize classify (s.syndromes (protOf p) ram.toNat row.toNat syn) = cls at hshown ⊢
  have hpage : evtPage x.toNat = 0x14 + x.toNat := if_pos hx
  rw [hi] at hwork hshown hcount hevent hprot ⊢
  obtain ⟨hsu, hprots, hregs, e, hem, hent⟩ := faultAbort_frame v x pon (ueDetail ram.toNat row.toNat cls)
  generalize (v.fault 4 x.toNat (ueDetail ram.toNat row.toNat cls)).abortRegion x.toNat pon = w at hsu hprots hregs hem ⊢
  have hapart := faultKeys_apart.append (abortKeys_apart hx)
  refine ⟨s.keep (w.modProt x.toNat (fun q => { q with due := [] })), ?_, ?_, ?_, ?_, e, ?_, hent⟩
  · rw [keepRead_settled hn]
    · rw [State.prot_congr hprots, hprot]
    · rw [hsu, hwork.su]
      rfl
    · rw [hregs F.PW_PARK_CTL_STATE 0 0 (hapart.not_mem _ _ (by decide) (by decide))]
      exact hwork.2 F.PW_PARK_CTL_STATE 0 0 (park_not_ueWrites (.inr rfl))
  · exact (hshown.of_apart hregs hapart).of_regsBut (ks := []) (fun f i n _ => (State.keep_get _ _ _ _ _).trans (State.modProt_get _ _ _ _ _ _)) (by simp)
  · rw [State.keep_get, State.modProt_get, hregs _ _ _ (hapart.not_mem _ _ (by decide) (by simp only [F.SP_UE_CNT_CLEARED]; omega)), hcount]
  · have hpp : protPage p = 0x14 + x.toNat := by rw [← hpage, ← hi]; rfl
    have hpb : protBit p 3 = evtPlace x.toNat 3 := by rw [← hi]; rfl
    rw [State.keep_get, State.modProt_get, hpp, hpb, hregs _ _ _ (hapart.not_mem _ _ (by decide) (by simp only [F.EVT_STAT_EVT]; omega)), ← hpage]
    exact hevent
  · rw [State.keep_jct, State.modProt_jct]
    exact hem

theorem scrub_idle (hn : s.noPark = true) (he : s.su.everReady = true) {x : BitVec 2} (hp : p = .stn x)
    (hu : s.uncorrOf (protOf p) ram.toNat row.toNat (classify (s.syndromes (protOf p) ram.toNat row.toNat syn)) = .idle) :
    ∃ t, exec (.scrubRead p ram row syn) s = .next t ∧ UeShown t (protOf p) ram.toNat row.toNat (classify (s.syndromes (protOf p) ram.toNat row.toNat syn)) 1 ∧
      t.get F.SP_UE_CNT_CLEARED (protOf p) = min (s.get F.SP_UE_CNT_CLEARED (protOf p) + 1) (2 ^ F.SP_UE_CNT_CLEARED.len - 1) ∧
      (t.get F.EVT_STAT_EVT (protPage p)).testBit (protBit p 3) = true ∧ tget none (t.mem x.toNat).lanes row.toNat = none ∧ SlotsBut s t x [] ∧
      RegsBut s t [F.SP_UE_LAST_RAM.key (protOf p) 0, F.SP_UE_LAST_CLASS.key (protOf p) 0, F.SP_UE_LAST_SRC.key (protOf p) 0, F.SP_UE_LAST_V.key (protOf p) 0,
        F.SP_UE_ROW_ROW.key (protOf p) 0, F.SP_UE_CNT_CLEARED.key (protOf p) 0, F.EVT_STAT_EVT.key (protPage p) 0] := by
  obtain ⟨v, ⟨hwork, hshown, hcount, hevent, hprot⟩, -, hexec⟩ := scrub_clears hs hc h1 h2 he
  rw [hexec hu]
  generalize classify (s.syndromes (protOf p) ram.toNat row.toNat syn) = cls at hshown ⊢
  have hw := SlotWrites.modMem v (protOf p) [] (f := fun m => { m with lanes := freshen m.lanes row.toNat 1 }) fun _ => rfl
  have hlane : tget none ((v.modMem (protOf p) (fun m => { m with lanes := freshen m.lanes row.toNat 1 })).mem x.toNat).lanes row.toNat = none := by
    rw [show protOf p = x.toNat by rw [hp]; rfl, State.mem_modMem]
    exact freshen_row _ _
  generalize v.modMem (protOf p) (fun m => { m with lanes := freshen m.lanes row.toNat 1 }) = w at hw hlane ⊢
  obtain ⟨hwe, hslots⟩ := hw
  have hregs : w.regs = v.regs := by rw [hwe]
  have hstns : (s.keep (w.modProt (protOf p) (fun q => { q with due := [] }))).stns = w.stns := State.keep_stns _ _
  have hget : ∀ (f : Fld) (i n : Nat), (s.keep (w.modProt (protOf p) (fun q => { q with due := [] }))).get f i n = v.get f i n := fun f i n =>
    (State.keep_get _ _ _ _ _).trans (State.get_congr _ _ hregs f i n)
  refine ⟨s.keep (w.modProt (protOf p) (fun q => { q with due := [] })), ?_, hshown.of_regsBut (ks := []) (fun f i n _ => hget f i n) (by simp), ?_, ?_, ?_, ?_, ?_⟩
  · rw [keepRead_settled hn]
    · rw [State.prot_congr (s := v) (by rw [hwe]), hprot]
    · rw [hwe]
      exact hwork.su
    · exact (State.get_congr _ _ hregs _ _ _).trans (hwork.2 F.PW_PARK_CTL_STATE 0 0 (park_not_ueWrites (.inr rfl)))
  · rw [hget, hcount]
  · rw [hget]
    exact hevent
  · rw [State.mem_congr _ _ hstns, hlane]
  · intro j m _
    rw [State.slot_congr _ _ hstns, hslots j m (by simp)]
    exact State.slot_congr _ _ hwork.stns j m
  · intro f i n hk
    rw [hget]
    exact hwork.2 f i n hk

end

end Sys2Proof.Machine

/-! Proofs for 12 and 13: the reset of a station (R347; 13 R371). -/

namespace Sys2Proof.Machine

/-! ### The station stops serving (13 R371) -/

theorem Aside.mono {s t : State} {ks ls : List Nat} (h : Aside s t ks) (hs : ∀ k ∈ ks, k ∈ ls) : Aside s t ls := by
  obtain ⟨h1, h2, h3, h4, h5⟩ := h
  exact ⟨h1, h2, h3, h4, h5.mono hs⟩
theorem Aside.modLedger (s : State) (k : Nat) (f : Ledger → Ledger) (ks : List Nat) : Aside s (s.modLedger k f) ks := .of_eq ks rfl rfl rfl rfl rfl
theorem Aside.setJob (s : State) (k : Nat) (j : Option Job) (ks : List Nat) : Aside s (s.setJob k j) ks := .of_eq ks rfl rfl rfl rfl rfl
theorem Aside.putB (s : State) (f : Fld) (b : Bool) (i n : Nat) {ks : List Nat} (h : f.key i n ∈ ks) : Aside s (s.putB f b i n) ks := .put s f _ i n h
theorem Aside.bump (s : State) (f : Fld) (i n k : Nat) {ks : List Nat} (h : f.key i n ∈ ks) : Aside s (s.bump f i n k) ks := .put s f _ i n h

/-- With no message under way no MOVE is given up. -/
theorem abortMoves_of_net_nil {s : State} (h : s.net = []) (i : Nat) : s.abortMoves i = s := by
  unfold State.abortMoves
  rw [h]
  cases s
  subst h
  rfl

theorem spoilJobs_stns (s : State) : s.spoilJobs.stns = s.stns := rfl
theorem spoilJobs_aside (s : State) (ks : List Nat) : Aside s s.spoilJobs ks := .foldl (fun s _ => .setJob s _ _ _) _ _
theorem keepRounds_aside (s : State) (i : Nat) (ks : List Nat) : Aside s (s.keepRounds i) ks := .modLedger s i _ ks
theorem keepRounds_stns (s : State) (i : Nat) : (s.keepRounds i).stns = s.stns := rfl
theorem takeHeld_aside (s : State) (i : Nat) (ks : List Nat) : Aside s (s.takeHeld i) ks := (Aside.modMem s i _ ks).trans (.modStn _ i _ ks)

/-- The keys that a station writes when it stops. -/
def stopKeys (i : Nat) : List Nat := [F.LG_STAT_SNAP_BUSY.key (keyInst i) 0, F.SC_LOST_COUNT.key 0 i, F.EVT_STAT_EVT.key 0x29 0]

theorem ledgerAbandon_aside (s : State) (i : Nat) : Aside s (s.ledgerAbandon i) (stopKeys i) := by
  unfold State.ledgerAbandon
  dsimp only
  refine Aside.trans ?_ (.putB _ _ _ _ _ (by simp [stopKeys]))
  refine Aside.trans ?_ (.modPort _ _ _ _)
  split
  · exact (Aside.modLedger s i _ _).trans (.modStn _ i _ _)
  · exact .modLedger s i _ _

theorem dropPort_aside (s : State) (i : Nat) : Aside s (s.dropPort i) (stopKeys i) := by
  unfold State.dropPort
  dsimp only
  split
  · exact .modPort s i _ _
  · exact ((Aside.modPort s i _ _).trans (.bump _ _ _ _ _ (by simp [stopKeys]))).trans (.evt _ _ _ (by simp [stopKeys]))

/-- A station that holds nothing frozen and has nothing in its wake queue stops aside. -/
theorem stationStop_aside {s : State} {i : Nat} (hnet : s.net = []) (hfz : (s.mem i).freezeQ = []) (hwk : (s.stn i).wakeQ = []) :
    Aside s (s.stationStop i) (stopKeys i) := by
  unfold State.stationStop
  rw [abortMoves_of_net_nil hnet]
  have ha : Aside s (s.spoilJobs.keepRounds i) (stopKeys i) := (spoilJobs_aside s _).trans (keepRounds_aside _ i _)
  have hstns : (s.spoilJobs.keepRounds i).stns = s.stns := (keepRounds_stns _ _).trans (spoilJobs_stns s)
  generalize s.spoilJobs.keepRounds i = u at ha hstns ⊢
  have hloads : (u.mem i).freezeQ = [] := by rw [State.mem_congr _ _ hstns, hfz]
  have hwake : ((u.takeHeld i).stn i).wakeQ = [] := by
    have h : ((u.takeHeld i).stn i).wakeQ = (u.stn i).wakeQ := by
      unfold State.takeHeld State.modMem
      rw [State.stn_modStn, State.stn_modStn]
    rw [h, State.stn_congr _ _ hstns, hwk]
  simp only [hloads, List.filter_nil, List.foldl_nil, hwake]
  refine (ha.trans (takeHeld_aside u i _)).trans ?_
  exact ((ledgerAbandon_aside _ i).trans (.modStn _ i _ _)).trans (dropPort_aside _ i)

theorem stopKeys_apart {i : Nat} (h : i < 4) : PagesApart (stopKeys i) := by
  intro k hk
  simp only [stopKeys, List.mem_cons, List.not_mem_nil, or_false] at hk
  rcases hk with rfl | rfl | rfl
  · rw [Fld.key_page _ _ 0 (by decide) (by decide)]
    exact .inl (by simp only [F.LG_STAT_SNAP_BUSY, keyInst, if_pos h]; omega)
  · rw [Fld.key_page _ 0 i (by decide) (by omega)]
    exact .inr (.inl rfl)
  · exact .inr (.inl (by decide))

/-! ### Its reset begins -/

/-- The keys that the reset of a station writes. -/
def resetKeys (i : Nat) : List Nat :=
  faultKeys ++ stopKeys i ++ [F.REC_STAT_STN_RECS.key i 0, F.REC_REPLAY_APPLIED.key i 0, F.REC_REPLAY_DISCARDED.key i 0, F.REC_STAT_PHASE.key i 0]

/-- The registers of a station's recovery are on pages 0x08 to 0x0B. -/
theorem recovery_page {f : Fld} {i : Nat} (h : i < 4) (hp : f.page = 0x08) (hf : f.off < 4096 ∧ f.lo < 32) : f.key i 0 / 2 ^ 33 < 0x10 := by
  rw [Fld.key_page f i 0 hf (by decide), hp]
  omega

theorem resetKeys_apart {i : Nat} (h : i < 4) : PagesApart (resetKeys i) := by
  refine (faultKeys_apart.append (stopKeys_apart h)).append fun k hk => .inl ?_
  simp only [List.mem_cons, List.not_mem_nil, or_false] at hk
  rcases hk with rfl | rfl | rfl | rfl <;> exact recovery_page h rfl (by decide)

theorem key_not_faultKeys {f : Fld} {i : Nat} (hf : f.off < 4096 ∧ f.lo < 32) (hp : f.page + i ≠ 0x29) : f.key i 0 ∉ faultKeys := by
  intro hk
  have hpage := Fld.key_page f i 0 hf (by decide)
  simp only [faultKeys, List.mem_cons, List.not_mem_nil, or_false] at hk
  rcases hk with hk | hk
  · rw [hk, Fld.key_page _ 0 0 (by decide) (by decide)] at hpage
    exact hp hpage.symm
  · rw [hk, Fld.key_page _ 0x29 0 (by decide) (by decide)] at hpage
    exact hp hpage.symm

/-- Of a station's page the stop writes SNAP_BUSY alone. -/
theorem key_not_stopKeys {f : Fld} {i j : Nat} (hf : f.off < 4096 ∧ f.lo < 32) (hb : f.off ≠ F.LG_STAT_SNAP_BUSY.off ∨ f.lo ≠ F.LG_STAT_SNAP_BUSY.lo)
    (hp : f.page + i ≠ 0x29) (hj : j < 4) : f.key i 0 ∉ stopKeys j := by
  have hpage := Fld.key_page f i 0 hf (by decide)
  simp only [stopKeys, List.mem_cons, List.not_mem_nil, or_false, not_or]
  refine ⟨?_, fun hk => ?_, fun hk => ?_⟩
  · simp only [F.LG_STAT_SNAP_BUSY] at hb
    simp only [Fld.key, F.LG_STAT_SNAP_BUSY]
    omega
  · rw [hk, Fld.key_page _ 0 j (by decide) (by omega)] at hpage
    exact hp hpage.symm
  · rw [hk, Fld.key_page _ 0x29 0 (by decide) (by decide)] at hpage
    exact hp hpage.symm

/-- What the reset of a station that serves leaves: phase 1 of its recovery, with the fault in the log. -/
structure ResetBegun (s t : State) (x : BitVec 2) (d : Nat) : Prop where
  phase : t.get F.REC_STAT_PHASE x.toNat = 1
  recs : t.get F.REC_STAT_STN_RECS x.toNat = min (s.get F.REC_STAT_STN_RECS x.toNat + 1) (2 ^ F.REC_STAT_STN_RECS.len - 1)
  jct : t.jct = (s.fault 1 x.toNat d).jct
  su : t.su = s.su
  prots : t.prots = s.prots
  halts : t.halts = s.halts
  regs : RegsBut s t (resetKeys x.toNat)

/-- The part of the reset before the station stops: the fault and the counts. -/
def State.resetCounted (s : State) (si detail : Nat) : State :=
  (((s.fault 1 si detail).bump F.REC_STAT_STN_RECS si).put F.REC_REPLAY_APPLIED 0 si).put F.REC_REPLAY_DISCARDED 0 si

theorem resetCounted_frame (s : State) {x : Nat} (hx : x < 4) (d : Nat) :
    (s.resetCounted x d).get F.REC_STAT_STN_RECS x = min (s.get F.REC_STAT_STN_RECS x + 1) (2 ^ F.REC_STAT_STN_RECS.len - 1) ∧
      (s.resetCounted x d).jct = (s.fault 1 x d).jct ∧ (s.resetCounted x d).su = s.su ∧ (s.resetCounted x d).prots = s.prots ∧ (s.resetCounted x d).halts = s.halts ∧
      (s.resetCounted x d).stns = s.stns ∧ (s.resetCounted x d).net = s.net ∧
      RegsBut s (s.resetCounted x d) (faultKeys ++ [F.REC_STAT_STN_RECS.key x 0, F.REC_REPLAY_APPLIED.key x 0, F.REC_REPLAY_DISCARDED.key x 0]) := by
  have hf := fault_regsBut s 1 x d
  have hsu := State.fault_su s 1 x d
  have hprots := State.fault_prots s 1 x d
  have hhalts := State.fault_halts s 1 x d
  have hstns : (s.fault 1 x d).stns = s.stns := State.fault_stns _ _ _ _
  have hnet : (s.fault 1 x d).net = s.net := State.fault_net _ _ _ _
  have hrecs : (s.fault 1 x d).get F.REC_STAT_STN_RECS x = s.get F.REC_STAT_STN_RECS x :=
    hf _ _ _ (key_not_faultKeys (by decide) (by simp only [F.REC_STAT_STN_RECS]; omega))
  unfold State.resetCounted
  generalize s.fault 1 x d = u at *
  refine ⟨?_, by simp only [State.put_jct, State.bump_jct], by simp only [State.put_su, State.bump_su, hsu], by simp only [State.put_prots, State.bump_prots, hprots],
    by simp only [State.put_halts, State.bump_halts, hhalts], by simp only [State.put_stns, State.bump_stns, hstns], by simp only [State.put_net, State.bump_net, hnet], ?_⟩
  · simp (disch := (refine Fld.key_ne_of_place rfl ?_; decide)) only [State.get_put_ne]
    rw [State.get_bump, hrecs]
  · exact (((hf.mono (by simp +contextual)).bump _ _ _ _ (by simp)).put _ _ _ _ (by simp)).put _ _ _ _ (by simp)

/-- The station has stopped. -/
def State.resetStopped (s : State) (si detail : Nat) : State :=
  ((s.resetCounted si detail).stationStop si).modStn si (fun st => { st with recAt := (s.resetCounted si detail).fclk, due := [] })

theorem stationReset_of_serves {s : State} {i : Nat} (d : Nat) (hfl : s.flag F.REC_STAT_FAILED i = false) (hph : s.get F.REC_STAT_PHASE i = 0) :
    s.stationReset i d = if (s.resetStopped i d).unprot (.stn (BitVec.ofNat 2 i)) then (s.resetStopped i d).stationFailed i 1 else (s.resetStopped i d).put F.REC_STAT_PHASE 1 i := by
  unfold State.stationReset
  rw [if_neg (by simp [hfl]), if_neg (by simp [hph])]
  rfl

theorem unprot_congr {s t : State} {x : BitVec 2} {ks : List Nat} (h : RegsBut s t ks) (h1 : F.LG_CTL_EN.key 0 0 ∉ ks) (h2 : F.LG_STAT_UNPROT.key x.toNat 0 ∉ ks) :
    t.unprot (.stn x) = s.unprot (.stn x) := by
  have hen : t.flag F.LG_CTL_EN = s.flag F.LG_CTL_EN := congrArg (· == 1) (h _ _ _ h1)
  have hup : t.flag F.LG_STAT_UNPROT x.toNat = s.flag F.LG_STAT_UNPROT x.toNat := congrArg (· == 1) (h _ _ _ h2)
  unfold State.unprot lgInst
  rw [hen, hup]

/-- Registers of a station's recovery that its stop leaves. -/
theorem resetStopped_frame {s : State} {x : BitVec 2} (d : Nat) (hnet : s.net = []) (hfz : (s.mem x.toNat).freezeQ = []) (hwk : (s.stn x.toNat).wakeQ = []) :
    (s.resetStopped x.toNat d).get F.REC_STAT_STN_RECS x.toNat = min (s.get F.REC_STAT_STN_RECS x.toNat + 1) (2 ^ F.REC_STAT_STN_RECS.len - 1) ∧
      (s.resetStopped x.toNat d).jct = (s.fault 1 x.toNat d).jct ∧ (s.resetStopped x.toNat d).su = s.su ∧ (s.resetStopped x.toNat d).prots = s.prots ∧
      (s.resetStopped x.toNat d).halts = s.halts ∧ (s.resetStopped x.toNat d).unprot (.stn x) = s.unprot (.stn x) ∧
      RegsBut s (s.resetStopped x.toNat d) (resetKeys x.toNat) := by
  have hx := x.isLt
  obtain ⟨hrecs, hjct, hsu, hprots, hhalts, hstns, hnets, hregs⟩ := resetCounted_frame s hx d
  unfold State.resetStopped
  generalize s.resetCounted x.toNat d = u at *
  obtain ⟨ksu, kjct, kprots, khalts, kregs⟩ := (stationStop_aside (hnets.trans hnet) (by rw [State.mem_congr _ _ hstns, hfz]) (by rw [State.stn_congr _ _ hstns, hwk])).trans
    (Aside.modStn (u.stationStop x.toNat) x.toNat (fun st => { st with recAt := u.fclk, due := [] }) (stopKeys x.toNat))
  generalize (u.stationStop x.toNat).modStn x.toNat (fun st => { st with recAt := u.fclk, due := [] }) = v at *
  refine ⟨?_, kjct.trans hjct, ksu.trans hsu, kprots.trans hprots, khalts.trans hhalts, ?_, ?_⟩
  · rw [kregs _ _ _ (key_not_stopKeys (by decide) (by decide) (by simp only [F.REC_STAT_STN_RECS]; omega) hx), hrecs]
  · refine (unprot_congr kregs ?_ ?_).trans (unprot_congr hregs ?_ ?_)
    · exact key_not_stopKeys (by decide) (by decide) (by decide) hx
    · exact key_not_stopKeys (by decide) (by decide) (by simp only [F.LG_STAT_UNPROT]; omega) hx
    · simp only [List.mem_append, not_or, List.mem_cons, List.not_mem_nil, or_false]
      exact ⟨key_not_faultKeys (by decide) (by decide), key_ne_of_off (by decide) (by decide) (by decide), key_ne_of_off (by decide) (by decide) (by decide),
        key_ne_of_off (by decide) (by decide) (by decide)⟩
    · simp only [List.mem_append, not_or, List.mem_cons, List.not_mem_nil, or_false]
      exact ⟨key_not_faultKeys (by decide) (by simp only [F.LG_STAT_UNPROT]; omega), key_ne_of_off (by decide) (by decide) (by decide),
        key_ne_of_off (by decide) (by decide) (by decide), key_ne_of_off (by decide) (by decide) (by decide)⟩
  · refine (hregs.mono fun k hk => ?_).trans (kregs.mono fun k hk => List.mem_append_left _ (List.mem_append_right _ hk))
    rcases List.mem_append.mp hk with hk | hk
    · exact List.mem_append_left _ (List.mem_append_left _ hk)
    · exact List.mem_append_right _ (List.mem_append_left [_] hk)

theorem stationReset_begins {s : State} {x : BitVec 2} (d : Nat) (hfl : s.flag F.REC_STAT_FAILED x.toNat = false) (hph : s.get F.REC_STAT_PHASE x.toNat = 0)
    (hun : s.unprot (.stn x) = false) (hnet : s.net = []) (hfz : (s.mem x.toNat).freezeQ = []) (hwk : (s.stn x.toNat).wakeQ = []) :
    ResetBegun s (s.stationReset x.toNat d) x d := by
  obtain ⟨hrecs, hjct, hsu, hprots, hhalts, hunp, hregs⟩ := resetStopped_frame d hnet hfz hwk
  rw [stationReset_of_serves d hfl hph, BitVec.ofNat_toNat, BitVec.setWidth_eq, hunp, hun]
  generalize s.resetStopped x.toNat d = u at *
  refine ⟨State.get_put _ _ _ _ _, ?_, hjct, hsu, hprots, hhalts, hregs.put _ _ _ _ (by simp [resetKeys])⟩
  rw [← hrecs]
  exact State.get_put_ne _ F.REC_STAT_PHASE F.REC_STAT_STN_RECS _ _ _ _ _ (Fld.key_ne_of_place rfl (by decide))

end Sys2Proof.Machine

/-! Proofs for 12: the scrub reads an uncorrectable row that resets its station, or that stops start-up (R347; 14 R399). -/

namespace Sys2Proof.Machine

/-- The part of a row that the scrub reads. -/
theorem ramPart_of_scrubs {s : State} {p : Part} {ram : BitVec 5} {row : BitVec 20} (h : s.scrubs p ram row = true) : ramPart (protOf p) ram.toNat = p := by
  simp only [State.scrubs, Bool.and_eq_true, ramIs, decide_eq_true_eq] at h
  obtain ⟨⟨⟨⟨_, _, hp⟩, _⟩, _⟩, _⟩ := h
  exact hp

/-- A reset noted as due, and taken up. -/
def State.dueTaken (s : State) (i : Nat) (p : Part) (d : Nat) : State := (s.dueReset i p d).modProt i (fun x => { x with due := [] })

theorem dueTaken_work (s : State) (i : Nat) (p : Part) (d : Nat) (ks : List Nat) : ProtWork s (s.dueTaken i p d) ks := ((ProtWork.refl s ks).modProt _ _).modProt _ _
theorem dueTaken_due (s : State) (i : Nat) (p : Part) (d : Nat) : ((s.dueTaken i p d).prot i).due = [] := by
  rw [State.dueTaken, State.prot_modProt]

theorem settleDue_dueReset {s : State} {i : Nat} (h : (s.prot i).due = []) (p : Part) (d : Nat) :
    (s.dueReset i p d).settleDue i = if !s.su.everReady then (if s.su.step = 15 then s.dueTaken i p d else (s.dueTaken i p d).startFail (if s.su.step = 5 then 6 else 4))
      else ((s.dueTaken i p d).parkEnd 6).resetPart p d :=
  settleDue_single (by rw [dueReset_prot h])

/-- What is noted of a station's row stands on its own page. -/
theorem countKeys_page {f : Fld} {i k : Nat} (hf : f = F.SP_UE_CNT_RESETS ∨ f = F.SP_UE_CNT_CLEARED) (hi : i < 4) (h : k ∈ countKeys f i) : k / 2 ^ 33 = 0x14 + i := by
  simp only [countKeys, List.mem_append, List.mem_cons, List.not_mem_nil, or_false] at h
  rcases h with h | rfl | rfl
  · exact ueKeys_page h
  · rcases hf with rfl | rfl <;> exact Fld.key_page _ i 0 (by decide) (by decide)
  · rw [Fld.key_page _ _ 0 (by decide) (by decide)]
    simp [F.EVT_STAT_EVT, evtPage, hi]

theorem UeCounted.get_ne {s t : State} {f g : Fld} {b i ram row j n : Nat} {cls : RowClass} (h : UeCounted s t f b i ram row cls)
    (hf : f = F.SP_UE_CNT_RESETS ∨ f = F.SP_UE_CNT_CLEARED) (hi : i < 4) (hg : g.off < 4096 ∧ g.lo < 32) (hn : n < 65536) (hp : g.page + j ≠ 0x14 + i) :
    t.get g j n = s.get g j n := by
  refine h.work.2 g j n fun hk => hp ?_
  rw [← countKeys_page hf hi hk, Fld.key_page g j n hg hn]

theorem UeCounted.dueTaken {s t : State} {f : Fld} {b i ram row : Nat} {cls : RowClass} (h : UeCounted s t f b i ram row cls) (p : Part) (d : Nat) :
    UeCounted s (t.dueTaken i p d) f b i ram row cls := by
  obtain ⟨hwork, hshown, hcount, hevent, -⟩ := h
  exact ⟨hwork.trans (dueTaken_work _ _ _ _ _), hshown, hcount, hevent, dueTaken_due _ _ _ _⟩

section
variable {p : Part} {ram : BitVec 5} {row : BitVec 20} {syn : List (Nat × Byte)} {s : State}
  (hs : s.scrubs p ram row = true) (hc : s.scrubClear p ram.toNat row.toNat = true)
  (h1 : classify (s.syndromes (protOf p) ram.toNat row.toNat syn) ≠ .clean) (h2 : classify (s.syndromes (protOf p) ram.toNat row.toNat syn) ≠ .corr)
include hs hc h1 h2

/-- The row is noted and counted, and the reset of its part begins. -/
theorem scrub_resets (he : s.su.everReady = true)
    (hu : s.uncorrOf (protOf p) ram.toNat row.toNat (classify (s.syndromes (protOf p) ram.toNat row.toNat syn)) = .reset) :
    ∃ u, UeCounted s u F.SP_UE_CNT_RESETS 2 (protOf p) ram.toNat row.toNat (classify (s.syndromes (protOf p) ram.toNat row.toNat syn)) ∧
      exec (.scrubRead p ram row syn) s =
        .next (s.keepRead ((u.parkEnd 6).resetPart p (ueDetail ram.toNat row.toNat (classify (s.syndromes (protOf p) ram.toNat row.toNat syn))))) := by
  obtain ⟨-, hdue⟩ := scrubClear_iff hc
  rw [scrub_uncorr hs hc h1 h2]
  generalize classify (s.syndromes (protOf p) ram.toNat row.toNat syn) = cls at hu ⊢
  have hnoted := scrubNoted_work s (protOf p) ram.toNat row.toNat cls
  have hcounted := scrubNoted_counted hdue ram row.toNat cls (f := F.SP_UE_CNT_RESETS) (b := 2) (.inl rfl) (by decide)
  rw [uncorrectable_eq, ← State.scrubNoted, uncorrOf_congr (s := s) hnoted.stns, hu, hnoted.su, show (!s.quiet.su.everReady) = false by simp [he],
    ramPart_of_scrubs hs]
  generalize ((s.scrubNoted (protOf p) ram.toNat row.toNat cls).bump F.SP_UE_CNT_RESETS (protOf p)).evtProt (protOf p) 2 = v at hcounted ⊢
  refine ⟨_, hcounted.dueTaken p (ueDetail ram.toNat row.toNat cls), ?_⟩
  change Host.Outcome.next (s.keepRead ((v.dueReset (protOf p) p (ueDetail ram.toNat row.toNat cls)).settleDue (protOf p))) = _
  have hv : (!v.su.everReady) = false := by
    rw [hcounted.work.su]
    simp [he]
  rw [settleDue_dueReset hcounted.prot, hv]
  rfl

/-- Before the block was ready start-up stops. -/
theorem scrub_stops (he : s.su.everReady = false) (hstep : s.su.step ≠ 15) :
    ∃ t, exec (.scrubRead p ram row syn) s = .next t ∧ UeShown t (protOf p) ram.toNat row.toNat (classify (s.syndromes (protOf p) ram.toNat row.toNat syn)) 1 ∧
      t.su.step = 15 ∧ t.su.err = true ∧ t.su.ready = false ∧ t.su.code = (if s.su.step = 5 then 6 else 4) := by
  obtain ⟨-, hdue⟩ := scrubClear_iff hc
  rw [scrub_uncorr hs hc h1 h2]
  generalize classify (s.syndromes (protOf p) ram.toNat row.toNat syn) = cls
  have hnoted := scrubNoted_work s (protOf p) ram.toNat row.toNat cls
  have hshown := scrubNoted_shown s (protOf p) row.toNat ram cls
  have hdue' := scrubNoted_due hdue ram.toNat row.toNat cls
  rw [uncorrectable_eq, ← State.scrubNoted, hnoted.su, show (!s.quiet.su.everReady) = true by simp [he]]
  generalize s.scrubNoted (protOf p) ram.toNat row.toNat cls = u at hnoted hshown hdue' ⊢
  have hsu : u.su = s.su := hnoted.su
  rw [if_pos rfl, settleDue_dueReset hdue', hsu, he, if_pos (by decide), if_neg hstep]
  have hq : ∀ t, s.keepRead t = s.keepQ t := fun t => if_neg (by simp [he])
  have hshown' : UeShown (u.dueTaken (protOf p) (ramPart (protOf p) ram.toNat) (ueDetail ram.toNat row.toNat cls)) (protOf p) ram.toNat row.toNat cls 1 := hshown
  generalize u.dueTaken (protOf p) (ramPart (protOf p) ram.toNat) (ueDetail ram.toNat row.toNat cls) = v at hshown' ⊢
  have hregs : RegsBut v (s.keepRead (v.startFail (if s.su.step = 5 then 6 else 4))) [F.EVT_STAT_EVT.key 0x2A 0] := by
    intro f i n hk
    rw [hq, State.keepQ_get]
    exact State.get_evt_ne _ f _ _ _ _ (by simpa using hk)
  have hst : (s.keepRead (v.startFail (if s.su.step = 5 then 6 else 4))).su = (v.startFail (if s.su.step = 5 then 6 else 4)).su := by
    rw [hq, State.keepQ_su]
  refine ⟨_, rfl, hshown'.of_regsBut hregs ?_, ?_, ?_, ?_, ?_⟩
  · intro k hk
    have := ueKeys_ne (g := F.EVT_STAT_EVT) (j := 0x2A) (by decide) (by decide) k hk
    simpa using this
  all_goals
    rw [hst]
    rfl

theorem scrub_station_reset (hn : s.noPark = true) (he : s.su.everReady = true)
    (hu : s.uncorrOf (protOf p) ram.toNat row.toNat (classify (s.syndromes (protOf p) ram.toNat row.toNat syn)) = .reset) (hjob : s.job 5 = none) (hnet : s.net = [])
    {x : BitVec 2} (hp : p = .stn x) (hfl : s.flag F.REC_STAT_FAILED x.toNat = false) (hph : s.get F.REC_STAT_PHASE x.toNat = 0)
    (hun : s.unprot (.stn x) = false) (hfz : (s.mem x.toNat).freezeQ = []) (hwk : (s.stn x.toNat).wakeQ = []) :
    ∃ t, exec (.scrubRead p ram row syn) s = .next t ∧ UeShown t (protOf p) ram.toNat row.toNat (classify (s.syndromes (protOf p) ram.toNat row.toNat syn)) 1 ∧
      t.get F.SP_UE_CNT_RESETS (protOf p) = min (s.get F.SP_UE_CNT_RESETS (protOf p) + 1) (2 ^ F.SP_UE_CNT_RESETS.len - 1) ∧
      (t.get F.EVT_STAT_EVT (protPage p)).testBit (protBit p 2) = true ∧ t.get F.REC_STAT_PHASE x.toNat = 1 ∧
      t.get F.REC_STAT_STN_RECS x.toNat = min (s.get F.REC_STAT_STN_RECS x.toNat + 1) (2 ^ F.REC_STAT_STN_RECS.len - 1) ∧
      ∃ e, t.jct.faults.getLast? = some e ∧ e.cls = 1 ∧ e.part.toNat = x.toNat ∧
        e.detail = BitVec.ofNat 32 (ueDetail ram.toNat row.toNat (classify (s.syndromes (protOf p) ram.toNat row.toNat syn))) := by
  have hx := x.isLt
  have hi : protOf p = x.toNat := by rw [hp]; rfl
  obtain ⟨u, hcounted, hexec⟩ := scrub_resets hs hc h1 h2 he hu
  rw [hexec]
  generalize classify (s.syndromes (protOf p) ram.toNat row.toNat syn) = cls at hcounted ⊢
  have hpe : u.parkEnd 6 = u := if_pos (by rw [State.job, hcounted.work.jobs]; exact Option.isNone_iff_eq_none.mpr hjob)
  have hpage : evtPage x.toNat = 0x14 + x.toNat := if_pos hx
  have hpp : protPage p = 0x14 + x.toNat := by rw [← hpage, ← hi]; rfl
  have hpb : protBit p 2 = evtPlace x.toNat 2 := by rw [← hi]; rfl
  rw [hpe, hpp, hpb, hi]
  rw [hi] at hcounted
  rw [show u.resetPart p = u.stationReset x.toNat by rw [hp]; rfl]
  have hkeep : ∀ (g : Fld) (j : Nat), g.off < 4096 ∧ g.lo < 32 → g.page + j ≠ 0x14 + x.toNat → u.get g j = s.get g j := fun g j hg hne =>
    hcounted.get_ne (.inl rfl) hx hg (by decide) hne
  have hunp : u.unprot (.stn x) = s.unprot (.stn x) := by
    refine unprot_congr hcounted.work.2 (fun hk => ?_) (fun hk => ?_)
    · have := countKeys_page (.inl rfl) hx hk
      rw [Fld.key_page _ 0 0 (by decide) (by decide)] at this
      simp only [F.LG_CTL_EN] at this
      omega
    · have := countKeys_page (.inl rfl) hx hk
      rw [Fld.key_page _ _ 0 (by decide) (by decide)] at this
      simp only [F.LG_STAT_UNPROT] at this
      omega
  have hbegun := stationReset_begins (s := u) (x := x) (ueDetail ram.toNat row.toNat cls)
    ((congrArg (· == 1) (hkeep F.REC_STAT_FAILED x.toNat (by decide) (by simp only [F.REC_STAT_FAILED]; omega))).trans hfl)
    ((hkeep F.REC_STAT_PHASE x.toNat (by decide) (by simp only [F.REC_STAT_PHASE]; omega)).trans hph) (hunp.trans hun) (hcounted.work.net.trans hnet)
    ((congrArg StnMem.freezeQ (State.mem_congr _ _ hcounted.work.stns _)).trans hfz) ((congrArg Station.wakeQ (State.stn_congr _ _ hcounted.work.stns _)).trans hwk)
  obtain ⟨e, he1, hcls, hpart, hdet⟩ := fault_last u 1 x.toNat (ueDetail ram.toNat row.toNat cls)
  generalize u.stationReset x.toNat (ueDetail ram.toNat row.toNat cls) = w at hbegun ⊢
  obtain ⟨hphase, hrecs, hjct, hsu, -, -, hregs⟩ := hbegun
  have hapart := resetKeys_apart hx
  have hpark : w.get F.PW_PARK_CTL_STATE = s.get F.PW_PARK_CTL_STATE := by
    rw [hregs _ _ _ (hapart.not_mem _ _ (by decide) (by decide)), hkeep _ _ (by decide) (by simp only [F.PW_PARK_CTL_STATE]; omega)]
  rw [keepRead_eq_keep hn (hsu.trans hcounted.work.su) hpark]
  refine ⟨_, rfl, (hcounted.shown.of_apart hregs hapart).of_regsBut (ks := []) (fun f i n _ => State.keep_get _ _ _ _ _) (by simp), ?_, ?_, ?_, ?_, e, ?_, hcls, ?_, hdet⟩
  · rw [State.keep_get, hregs _ _ _ (hapart.not_mem _ _ (by decide) (by simp only [F.SP_UE_CNT_RESETS]; omega)), hcounted.count]
  · rw [State.keep_get, hregs _ _ _ (hapart.not_mem _ _ (by decide) (by simp only [F.EVT_STAT_EVT]; omega)), ← hpage]
    exact hcounted.event
  · rw [State.keep_get, hphase]
  · rw [State.keep_get, hrecs, hkeep _ _ (by decide) (by simp only [F.REC_STAT_STN_RECS]; omega)]
  · rw [State.keep_jct, hjct, he1]
  · rw [hpart, BitVec.toNat_ofNat]
    omega

end

end Sys2Proof.Machine

/-! Proofs for 12 and 13: the scrub reads an uncorrectable row of a halt (R347; 13 R374, R376). -/

namespace Sys2Proof.Machine

/-! ### The count of a halt's resets -/

/-- Every halt has been reset as often in `t` as in `s`. -/
def RecsKept (s t : State) : Prop := ∀ h, (t.halt h).recs = (s.halt h).recs

theorem RecsKept.refl (s : State) : RecsKept s s := fun _ => rfl
theorem RecsKept.trans {s t u : State} (h : RecsKept s t) (k : RecsKept t u) : RecsKept s u := fun i => (k i).trans (h i)
theorem RecsKept.of_halts {s t : State} (h : t.halts = s.halts) : RecsKept s t := fun i => by rw [State.halt, h, State.halt]
theorem RecsKept.modHalt (s : State) (i : Nat) {f : Halt → Halt} (hf : ∀ x, (f x).recs = x.recs) : RecsKept s (s.modHalt i f) := by
  intro j
  by_cases hj : j = i
  · rw [hj, State.halt_modHalt, hf]
  · rw [State.halt_modHalt_ne _ _ _ _ hj]
theorem RecsKept.foldl {α : Type} {f : State → α → State} (hf : ∀ s a, RecsKept s (f s a)) (l : List α) (s : State) : RecsKept s (l.foldl f s) := by
  induction l generalizing s with
  | nil => exact .refl s
  | cons a l ih => exact (hf s a).trans (ih _)

theorem RecsKept.modWait (s : State) (h i : Nat) (f : WaitReg → WaitReg) : RecsKept s (s.modWait h i f) := .modHalt s h fun _ => rfl

theorem drive_recs (s : State) (o : Out) : RecsKept s (s.drive o) := .of_halts (State.drive_halts s o)
theorem occur_recs (s : State) (p : Part) (c n : Nat) : RecsKept s (s.occur p c n) := .of_halts (State.occur_halts s p c n)

theorem endWait_recs (s : State) (h i : Nat) (st : Status) (v : Word64) : RecsKept s (s.endWait h i st v) := by
  unfold State.endWait
  dsimp only
  split
  · exact ((RecsKept.modWait s h i _).trans (occur_recs _ _ _ _)).trans (drive_recs _ _)
  · exact ((RecsKept.modWait s h i _).trans (occur_recs _ _ _ _)).trans (drive_recs _ _)

theorem endGangWaits_recs (s : State) (g : Nat) (st : Status) : RecsKept s (s.endGangWaits g st) := .foldl (fun s (w : Nat × Nat) => endWait_recs s w.1 w.2 st 0) _ s
theorem driveAbort_recs (s : State) (g : Nat) : RecsKept s (s.driveAbort g) := .foldl (fun s _ => drive_recs s _) _ s
theorem driveHold_recs (s : State) (g n : Nat) : RecsKept s (s.driveHold g n) := .foldl (fun s _ => drive_recs s _) _ s

theorem driveWires_recs (s : State) (g : Nat) : RecsKept s (s.driveWires g) := by
  unfold State.driveWires
  dsimp only
  have hclear : RecsKept s (s.modJct (fun j => { j with wires := tset 0 j.wires g 0 })) := .of_halts (State.modJct_halts s _)
  split
  · exact hclear
  · split
    · exact hclear.trans (driveAbort_recs _ g)
    · exact hclear.trans (driveHold_recs _ g _)

theorem cutHold_recs (s : State) (g : Nat) : RecsKept s (s.cutHold g) := by
  unfold State.cutHold
  dsimp only
  split
  · exact .of_halts (State.put_halts _ _ _ _ _)
  · exact .refl s

theorem derailForced_recs (s : State) (g : Nat) : RecsKept s (s.derailForced g) := by
  unfold State.derailForced
  split
  · exact .refl s
  · dsimp only
    refine RecsKept.trans ?_ (.of_halts (State.put_halts _ _ _ _ _))
    refine RecsKept.trans ?_ (.of_halts (State.putB_halts _ _ _ _ _))
    refine RecsKept.trans ?_ (endGangWaits_recs _ g _)
    split
    · exact ((driveWires_recs s g).trans (cutHold_recs _ g)).trans (driveAbort_recs _ g)
    · exact .refl s

theorem markStale_recs (s : State) (h : Nat) : RecsKept s (s.markStale h) := .of_halts (State.modJct_halts s _)

theorem haltStop_recs (s : State) (h : Nat) : RecsKept s (s.haltStop h) := by
  unfold State.haltStop
  dsimp only
  refine RecsKept.trans ?_ (.foldl derailForced_recs _ _)
  refine RecsKept.trans ?_ (.modHalt _ h fun _ => rfl)
  refine RecsKept.trans (.foldl (fun s i => ?_) _ s) (markStale_recs _ h)
  split
  · exact drive_recs s _
  · exact (drive_recs s _).trans (drive_recs _ _)

/-! ### Its reset begins (13 R374) -/

theorem haltReset_begins (s : State) (h d : Nat) :
    ((s.haltReset h d).halt h).phase = 1 ∧ ((s.haltReset h d).halt h).recs = (s.halt h).recs + 1 ∧ ((s.haltReset h d).halt h).purges = [] := by
  have hbefore : ∃ u : State, s.haltReset h d = (u.haltStop h).modHalt h (fun ht => { ht with phase := 1, purges := [], recs := ht.recs + 1 }) ∧ u.halts = s.halts := by
    refine ⟨_, rfl, ?_⟩
    rw [State.bump_halts, State.bump_halts]
    split
    · exact State.fault_halts _ _ _ _
    · exact State.fault_halts _ _ _ _
  obtain ⟨u, hu, hhalts⟩ := hbefore
  rw [hu, State.halt_modHalt]
  refine ⟨rfl, ?_, rfl⟩
  rw [haltStop_recs u h h, RecsKept.of_halts hhalts h]

theorem parkEnd_halts (s : State) (c : Nat) : (s.parkEnd c).halts = s.halts := by
  unfold State.parkEnd
  split
  · rfl
  · unfold State.parkErr
    rw [State.drive_halts, State.evt_halts]
    rfl

theorem keepRead_halts (s t : State) : (s.keepRead t).halts = t.halts := by
  unfold State.keepRead
  split
  · exact State.keepPark_halts s t
  · exact State.keepQ_halts s t

/-- A row of a halt never is a fold line. -/
theorem uncorrOf_of_halt {i ram : Nat} {h : BitVec 4} (hr : ramPart i ram = .halt h) (s : State) (row : Nat) (cls : RowClass) : s.uncorrOf i ram row cls = .reset := by
  have hram : ram ≠ 0x07 := by
    rintro rfl
    unfold ramPart at hr
    split at hr
    · cases hr
    · rw [if_neg (by decide)] at hr
      cases hr
  exact if_pos (.inl hram)

theorem scrub_halt_reset {p : Part} {ram : BitVec 5} {row : BitVec 20} {syn : List (Nat × Byte)} {s : State}
    (hs : s.scrubs p ram row = true) (hc : s.scrubClear p ram.toNat row.toNat = true) (he : s.su.everReady = true)
    (h1 : classify (s.syndromes (protOf p) ram.toNat row.toNat syn) ≠ .clean) (h2 : classify (s.syndromes (protOf p) ram.toNat row.toNat syn) ≠ .corr)
    {h : BitVec 4} (hp : p = .halt h) :
    ∃ t, exec (.scrubRead p ram row syn) s = .next t ∧ (t.halt h.toNat).phase = 1 ∧ (t.halt h.toNat).recs = (s.halt h.toNat).recs + 1 ∧ (t.halt h.toNat).purges = [] := by
  obtain ⟨u, hcounted, hexec⟩ := scrub_resets hs hc h1 h2 he (uncorrOf_of_halt ((ramPart_of_scrubs hs).trans hp) s _ _)
  obtain ⟨hphase, hrecs, hpurges⟩ := haltReset_begins (u.parkEnd 6) h.toNat (ueDetail ram.toNat row.toNat (classify (s.syndromes (protOf p) ram.toNat row.toNat syn)))
  have hhalt : ∀ d, (s.keepRead ((u.parkEnd 6).resetPart p d)).halt h.toNat = ((u.parkEnd 6).haltReset h.toNat d).halt h.toNat := by
    intro d
    rw [State.halt, keepRead_halts, hp]
    rfl
  have hsame : (u.parkEnd 6).halt h.toNat = s.halt h.toNat := by
    rw [State.halt, parkEnd_halts, hcounted.work.halts]
    rfl
  refine ⟨_, hexec, ?_, ?_, ?_⟩
  · rw [hhalt, hphase]
  · rw [hhalt, hrecs, hsame]
  · rw [hhalt, hpurges]

end Sys2Proof.Machine

/-! Proofs for 02 and 12: a command that reads a row in error (02 R52, 12 R341, R347). -/

namespace Sys2Proof.Machine

/-! ### The one row in error -/

theorem badRows_single {s : State} {i n : Nat} {m : BitVec 5} {q : Nat → Nat → Bool} (hb : (s.prot i).bad = [(1, n, m)]) (hq : q 1 n = true) : s.badRows i q = [(1, n)] := by
  have hram : ∀ ram, (((s.prot i).bad.filter (fun e => e.1 = ram && q ram e.2.1)).map (fun e => (ram, e.2.1))).eraseDups = if ram = 1 then [(1, n)] else [] := by
    intro ram
    rw [hb]
    by_cases h : ram = 1
    · subst h
      simp [hq, List.eraseDups_cons]
    · simp [h, Ne.symm h]
  have hlist : (List.range 32).reverse = (List.range' 2 30).reverse ++ [1, 0] := by decide
  have hhigh : ∀ ram ∈ (List.range' 2 30).reverse, (if ram = 1 then [(1, n)] else []) = ([] : List (Nat × Nat)) := by
    intro ram hm
    rw [List.mem_reverse, List.mem_range'_1] at hm
    exact if_neg (by omega)
  unfold State.badRows
  simp only [hram, hlist, List.flatMap_append, List.flatMap_eq_nil_iff.mpr hhigh]
  rfl

theorem reads_single {s : State} {i n : Nat} {m : BitVec 5} {q : Nat → Nat → Bool} (hb : (s.prot i).bad = [(1, n, m)]) (hq : q 1 n = true) (src : Nat) :
    s.reads i src q = s.readRow i 1 n [] src := by
  unfold State.reads
  rw [badRows_single hb hq]
  simp

/-- The slots that FREE reads hold the one it names. -/
theorem copyRow_named (s : State) (x pon : Nat) : s.copyRow x (s.moveGroup x pon).1 (s.moveGroup x pon).2 1 pon = true := by
  have hrow : ∀ y, s.objectRow x y false 1 pon = decide (pon = y) := fun _ => rfl
  unfold State.copyRow State.moveGroup
  simp only [hrow, List.any_eq_true, List.mem_range, decide_eq_true_eq]
  split
  · exact ⟨pon % 4, by dsimp only; omega, by dsimp only; omega⟩
  · exact ⟨0, by dsimp only; omega, rfl⟩

theorem RegWrites.protWork {s t : State} {ks : List Nat} (h : RegWrites s t ks) : ProtWork s t ks := by
  obtain ⟨he, hk⟩ := h
  have hp : t.prots = s.prots := by rw [he]
  exact ⟨by rw [hp]; exact he, hk⟩

theorem objWritten_prots (s : State) (x cmd : Nat) (w : Word32) : (s.objWritten x cmd w).prots = s.prots := by
  rw [(objWritten_regWrites s x cmd w).1]

/-- FREE reads the row. -/
theorem objGo_free_reads {u : State} {x pon : Nat} {m : BitVec 5} (hp : u.get F.OBJ_CMD_PON x = pon) (hb : (u.prot x).bad = [(1, pon, m)]) :
    u.objGo x 3 = if (u.readRow x 1 pon [] 0).1 then ((u.readRow x 1 pon [] 0).2.freeCmd x pon).2.objRes x pon ((u.readRow x 1 pon [] 0).2.freeCmd x pon).1
      else (u.readRow x 1 pon [] 0).2.objRes x pon 8 := by
  have hread := reads_single hb (copyRow_named u x pon) 0
  simp only [State.objGo, hp, hread, Nat.reduceEqDiff, if_false, if_true, or_self]
  cases (u.readRow x 1 pon [] 0).1 <;> rfl

/-- What FREE changes of slots, and its codes. -/
theorem freeCmd_writes (s : State) (x y : Nat) : (∃ ps, SlotWrites s (s.freeCmd x y).2 x ps) ∧ ((s.freeCmd x y).1 = 0 ∨ (s.freeCmd x y).1 = 5 ∨ (s.freeCmd x y).1 = 7) := by
  unfold State.freeCmd
  dsimp only
  split
  · exact ⟨⟨[], .refl _ _ _⟩, .inr (.inl rfl)⟩
  · split
    · exact ⟨⟨[], .refl _ _ _⟩, .inr (.inr rfl)⟩
    · split
      · exact ⟨⟨[], .refl _ _ _⟩, .inl rfl⟩
      · split
        · exact ⟨⟨[], .refl _ _ _⟩, .inr (.inl rfl)⟩
        · exact ⟨⟨_, (SlotWrites.foldl (fun t y => freeSlot_writes t x y) (fun t y => freeSlot_slot t x y) _ s).1⟩, .inl rfl⟩

/-! ### After the command -/

theorem afterObjCmd_eq {s : State} {x : BitVec 2} {w : Word32} {cmd : Nat} (ho : s.cfgOpen (corePage x) 0x050 = true) (hc : cmd < 16) :
    s.afterObjCmd x w cmd = s.keep (((s.quiet.objWritten x.toNat cmd w).objGo x.toNat cmd).drive (.cfRsp 0)) := by
  unfold State.afterObjCmd
  rw [State.cfgAccess_open _ _ _ _ (by simpa using ho), objCmd_objWord s.quiet x.toNat w hc]

/-- The registers of OBJ_CMD and OBJ_RES stand on the station's core page. -/
theorem objKeys_page {x k : Nat} (h : k ∈ objCmdKeys x ++ objResKeys x) : k / 2 ^ 33 = 0x08 + x := by
  simp only [objCmdKeys, objResKeys, List.cons_append, List.nil_append, List.mem_cons, List.not_mem_nil, or_false] at h
  rcases h with rfl | rfl | rfl | rfl | rfl | rfl | rfl | rfl | rfl <;> exact Fld.key_page _ x 0 (by decide) (by decide)

theorem page_not_objKeys {f : Fld} {x i : Nat} (hf : f.off < 4096 ∧ f.lo < 32) (hp : f.page + i = 0x14 + x) : f.key i 0 ∉ objCmdKeys x ++ objResKeys x := by
  intro hk
  have := objKeys_page hk
  rw [Fld.key_page f i 0 hf (by decide)] at this
  omega

/-- FREE of a slot whose row is in error, when its reads leave `v` and its result is `code`. -/
structure FreeRead (s v t : State) (x : BitVec 2) (code : Nat) : Prop where
  answered : CfgAnswered s t
  shown : t.get F.OBJ_RES_CODE x.toNat = code
  err : t.flag F.OBJ_RES_ERR x.toNat = decide (code ≠ 0)
  own : ∀ f : Fld, f.off < 4096 ∧ f.lo < 32 → ∀ i, f.page + i = 0x14 + x.toNat → t.get f i = v.get f i
  slot : ∀ i n, t.slot i n = v.slot i n
  prot : ∀ j, ProtKept (v.prot j) (t.prot j)

theorem freeRead_of_objGo {s v : State} {x : BitVec 2} {w : Word32} {pon code : Nat} (ho : s.cfgOpen (corePage x) 0x050 = true) (hcode : code < 16)
    (hgo : (s.quiet.objWritten x.toNat 3 w).objGo x.toNat 3 = v.objRes x.toNat pon code) (hout : v.out = []) (hsu : v.su = s.su) :
    FreeRead s v (s.afterObjCmd x w 3) x code := by
  obtain ⟨he, hk⟩ := objRes_regWrites v x.toNat pon code
  obtain ⟨-, herr, hcd, -⟩ := objRes_shows v x.toNat pon code hcode
  rw [afterObjCmd_eq ho (by decide), hgo]
  generalize v.objRes x.toNat pon code = r at *
  have hregs : (s.keep (r.drive (.cfRsp 0))).regs = r.regs := by rw [State.keep_regs, State.drive_regs]
  refine ⟨CfgAnswered.keep_drive s r (by rw [he]; exact hout) (by rw [he]; exact hsu), (State.get_congr _ _ hregs _ _ _).trans hcd,
    (State.flag_congr _ _ hregs _ _ _).trans herr, fun f hf i hp => (State.get_congr _ _ hregs _ _ _).trans (hk f i 0 fun hm => ?_), fun i n => ?_, fun j => ?_⟩
  · exact page_not_objKeys hf hp (List.mem_append_right _ hm)
  · have hstns : (s.keep (r.drive (.cfRsp 0))).stns = v.stns := by rw [State.keep_stns, State.drive_stns, he]
    exact State.slot_congr _ _ hstns i n
  · have h := keep_protKept s (r.drive (.cfRsp 0)) j
    rw [State.prot_congr (s := v) (by rw [State.drive_prots, he]) j] at h
    exact h

section
variable {x : BitVec 2} {w : Word32} {m : BitVec 5} {s : State} (ho : s.cfgOpen (corePage x) 0x050 = true)
  (hb : (s.prot x.toNat).bad = [(1, bitsOf w.toNat 16 14, m)])
include hb

/-- What FREE has written when it reads. -/
theorem free_reads : ∃ u, ProtWork s.quiet u (objCmdKeys x.toNat) ∧ u.prots = s.prots ∧
    (s.quiet.objWritten x.toNat 3 w).objGo x.toNat 3 = (if (u.readRow x.toNat 1 (bitsOf w.toNat 16 14) [] 0).1 then
      ((u.readRow x.toNat 1 (bitsOf w.toNat 16 14) [] 0).2.freeCmd x.toNat (bitsOf w.toNat 16 14)).2.objRes x.toNat (bitsOf w.toNat 16 14)
        ((u.readRow x.toNat 1 (bitsOf w.toNat 16 14) [] 0).2.freeCmd x.toNat (bitsOf w.toNat 16 14)).1
      else (u.readRow x.toNat 1 (bitsOf w.toNat 16 14) [] 0).2.objRes x.toNat (bitsOf w.toNat 16 14) 8) := by
  have hprots : (s.quiet.objWritten x.toNat 3 w).prots = s.prots := objWritten_prots s.quiet x.toNat 3 w
  exact ⟨_, (objWritten_regWrites s.quiet x.toNat 3 w).protWork, hprots, objGo_free_reads (objWritten_pon _ _ _ _) (by rw [State.prot_congr hprots, hb])⟩

include ho in
theorem free_corrects (ha : (s.prot x.toNat).armed = false) (hcl : classify (s.syndromes x.toNat 1 (bitsOf w.toNat 16 14) []) = .corr) :
    ∃ t, exec (.free x w) s = .next t ∧ CfgAnswered s t ∧ (t.prot x.toNat).bad = [] ∧
      t.get F.SP_CE_COUNT x.toNat = min (s.get F.SP_CE_COUNT x.toNat + 1) (2 ^ F.SP_CE_COUNT.len - 1) ∧ (t.get F.EVT_STAT_EVT (0x14 + x.toNat)).testBit 0 = true ∧
      t.get F.OBJ_RES_CODE x.toNat ≠ 8 := by
  have hx := x.isLt
  obtain ⟨u, hu, hprots, hgo⟩ := free_reads (w := w) hb
  have huprot : u.prot x.toNat = s.prot x.toNat := State.prot_congr hprots _
  have hread : u.readRow x.toNat 1 (bitsOf w.toNat 16 14) [] 0 = (true, u.corrected x.toNat 1 (bitsOf w.toNat 16 14)) := by
    unfold State.readRow
    rw [syndromes_congr (s := s) (by rw [huprot]), hcl]
  rw [hread, if_pos rfl] at hgo
  obtain ⟨hwork, hcount, hevent, l, r, hprot⟩ := corrected_shown u x.toNat 1 (bitsOf w.toNat 16 14)
  generalize u.corrected x.toNat 1 (bitsOf w.toNat 16 14) = v at *
  obtain ⟨⟨ps, hslots⟩, hcode⟩ := freeCmd_writes v x.toNat (bitsOf w.toNat 16 14)
  dsimp only at hgo
  generalize (v.freeCmd x.toNat (bitsOf w.toNat 16 14)).1 = c at *
  generalize (v.freeCmd x.toNat (bitsOf w.toNat 16 14)).2 = f at *
  obtain ⟨hfe, -⟩ := hslots
  have hfprot : f.prot x.toNat = v.prot x.toNat := State.prot_congr (by rw [hfe]) _
  obtain ⟨hans, hshown, -, hown, -, hkept⟩ := freeRead_of_objGo ho (by omega) hgo (by rw [hfe, hwork.1, hu.1]; rfl) (by rw [hfe, hwork.1, hu.1]; rfl)
  obtain ⟨-, hbad⟩ := hkept x.toNat
  obtain ⟨-, hbad⟩ := hbad (by rw [hfprot, hprot, huprot]; exact ha)
  have hgone : (f.prot x.toNat).bad = [] := by
    rw [hfprot, hprot, huprot, hb]
    simp
  have hfget : ∀ g i, f.get g i = v.get g i := fun g i => State.get_congr _ _ (by rw [hfe]) g i 0
  refine ⟨s.afterObjCmd x w 3, rfl, hans, ?_, ?_, ?_, ?_⟩
  · rw [hgone] at hbad
    exact List.eq_nil_iff_forall_not_mem.mpr fun e he => nomatch hbad e he
  · have hce : u.get F.SP_CE_COUNT x.toNat = s.get F.SP_CE_COUNT x.toNat :=
      hu.2 _ _ _ fun hm => page_not_objKeys (f := F.SP_CE_COUNT) (by decide) rfl (List.mem_append_left _ hm)
    rw [hown _ (by decide) _ rfl, hfget, hcount, hce]
  · have hpage : evtPage x.toNat = 0x14 + x.toNat := if_pos hx
    have hplace : evtPlace x.toNat 0 = 0 := if_pos hx
    rw [hpage, hplace] at hevent
    rw [hown _ (by decide) _ (Nat.zero_add _), hfget]
    exact hevent
  · rw [hshown]
    omega

include ho in
theorem free_faults (hdue : (s.prot x.toNat).due = []) (he : s.su.everReady = true)
    (h1 : classify (s.syndromes x.toNat 1 (bitsOf w.toNat 16 14) []) ≠ .clean) (h2 : classify (s.syndromes x.toNat 1 (bitsOf w.toNat 16 14) []) ≠ .corr) :
    ∃ t, exec (.free x w) s = .next t ∧ CfgAnswered s t ∧ t.get F.OBJ_RES_CODE x.toNat = 8 ∧ t.flag F.OBJ_RES_ERR x.toNat = true ∧
      t.get F.SP_UE_LAST_SRC x.toNat = 0 ∧ t.get F.SP_UE_LAST_RAM x.toNat = 1 ∧ t.get F.SP_UE_ROW_ROW x.toNat = bitsOf w.toNat 16 14 ∧
      (t.get F.EVT_STAT_EVT (0x14 + x.toNat)).testBit 2 = true ∧ (∀ i n, t.slot i n = s.slot i n) ∧
      (t.prot x.toNat).due = [(.stn x, ueDetail 1 (bitsOf w.toNat 16 14) (classify (s.syndromes x.toNat 1 (bitsOf w.toNat 16 14) [])))] := by
  have hx := x.isLt
  obtain ⟨u, hu, hprots, hgo⟩ := free_reads (w := w) hb
  have huprot : u.prot x.toNat = s.prot x.toNat := State.prot_congr hprots _
  have hsyn : u.syndromes x.toNat 1 (bitsOf w.toNat 16 14) [] = s.syndromes x.toNat 1 (bitsOf w.toNat 16 14) [] := syndromes_congr (by rw [huprot]) _ _ _
  rw [readRow_of_uncorr (by rw [hsyn]; exact h1) (by rw [hsyn]; exact h2), hsyn] at hgo
  generalize classify (s.syndromes x.toNat 1 (bitsOf w.toNat 16 14) []) = cls at hgo ⊢
  have hnoted := ueNoted_work u x.toNat 1 (bitsOf w.toNat 16 14) cls 0
  have hshown := ueNoted_shown u x.toNat (bitsOf w.toNat 16 14) (ram := 1) (src := 0) cls (by decide) (by decide)
  have hnprot := ueNoted_prot u x.toNat 1 (bitsOf w.toNat 16 14) cls 0
  have hpart : ramPart x.toNat 1 = .stn x := by
    unfold ramPart
    rw [if_neg (by omega), if_neg (by decide), BitVec.ofNat_toNat, BitVec.setWidth_eq]
  have hreset : (u.ueNoted x.toNat 1 (bitsOf w.toNat 16 14) cls 0).uncorrOf x.toNat 1 (bitsOf w.toNat 16 14) cls = .reset := if_pos (.inl (by decide))
  have hready : (!(u.ueNoted x.toNat 1 (bitsOf w.toNat 16 14) cls 0).su.everReady) = false := by
    rw [hnoted.su, hu.su]
    simp [he]
  rw [uncorrectable_eq, hreset, hready, hpart] at hgo
  generalize u.ueNoted x.toNat 1 (bitsOf w.toNat 16 14) cls 0 = n at *
  obtain ⟨hcwork, -, hevent⟩ := ueCounted_shows n (f := F.SP_UE_CNT_RESETS) (i := x.toNat) (b := 2) (.inl rfl) (by decide)
  have hcprot : ((n.bump F.SP_UE_CNT_RESETS x.toNat).evtProt x.toNat 2).prot x.toNat = n.prot x.toNat :=
    State.prot_congr (by rw [evtProt_eq, State.evt_prots, State.bump_prots]) _
  have hcshown := hshown.of_regsBut hcwork.2 (ueKeys_not_counted (.inl rfl))
  generalize (n.bump F.SP_UE_CNT_RESETS x.toNat).evtProt x.toNat 2 = c at *
  have hdprot := dueReset_prot (s := c) (i := x.toNat) (by rw [hcprot, hnprot, huprot]; exact hdue) (.stn x) (ueDetail 1 (bitsOf w.toNat 16 14) cls)
  have hdwork : ProtWork c (c.dueReset x.toNat (.stn x) (ueDetail 1 (bitsOf w.toNat 16 14) cls)) [] := (ProtWork.refl c []).modProt _ _
  change _ = (c.dueReset x.toNat (.stn x) (ueDetail 1 (bitsOf w.toNat 16 14) cls)).objRes _ _ 8 at hgo
  generalize c.dueReset x.toNat (.stn x) (ueDetail 1 (bitsOf w.toNat 16 14) cls) = d at *
  have hdget : ∀ g i, d.get g i = c.get g i := fun g i => hdwork.2 g i 0 (by simp)
  obtain ⟨hans, hcode, herr, hown, hslot, hkept⟩ := freeRead_of_objGo ho (by decide) hgo (by rw [hdwork.1, hcwork.1, hnoted.1, hu.1]; rfl)
    (by rw [hdwork.1, hcwork.1, hnoted.1, hu.1]; rfl)
  obtain ⟨hram, -, hsrc, -, hrow⟩ := hcshown
  refine ⟨s.afterObjCmd x w 3, rfl, hans, hcode, herr, ?_, ?_, ?_, ?_, fun i m => ?_, ?_⟩
  · rw [hown _ (by decide) _ rfl, hdget, hsrc]
  · rw [hown _ (by decide) _ rfl, hdget, hram]
  · rw [hown _ (by decide) _ rfl, hdget, hrow]
    have := bitsOf_lt w.toNat 16 14
    omega
  · have hpage : evtPage x.toNat = 0x14 + x.toNat := if_pos hx
    have hplace : evtPlace x.toNat 2 = 2 := if_pos hx
    rw [hpage, hplace] at hevent
    rw [hown _ (by decide) _ (Nat.zero_add _), hdget]
    exact hevent
  · rw [hslot]
    exact State.slot_congr _ _ (by rw [hdwork.stns, hcwork.stns, hnoted.stns, hu.stns]; rfl) i m
  · obtain ⟨hk, -⟩ := hkept x.toNat
    rw [hk, hdprot]

end

end Sys2Proof.Machine

/-! Proofs for 12: the fclk in which a station's reset that was due begins (R347). -/

namespace Sys2Proof.Machine

/-! ### The resets that are due -/

/-- `t` is `s` but for how the protection of rows is held; it reads the same. -/
def ProtsSame (s t : State) : Prop := ProtWork s t [] ∧ ∀ j, t.prot j = s.prot j

theorem ProtsSame.refl (s : State) : ProtsSame s s := ⟨.refl s [], fun _ => rfl⟩
theorem ProtsSame.trans {s t u : State} (h : ProtsSame s t) (k : ProtsSame t u) : ProtsSame s u := ⟨h.1.trans k.1, fun j => (k.2 j).trans (h.2 j)⟩

theorem settleDue_protsSame {s : State} {i : Nat} (h : (s.prot i).due = []) : ProtsSame s (s.settleDue i) := by
  rw [settleDue_of_empty h]
  refine ⟨(ProtWork.refl s []).modProt _ _, fun j => ?_⟩
  by_cases hj : min j 4 = min i 4
  · have hij : ∀ t : State, t.prot j = t.prot i := fun t => by rw [State.prot, hj, State.prot]
    rw [hij, hij, State.prot_modProt]
    generalize s.prot i = p at h
    cases p
    simp only at h
    rw [h]
  · exact State.prot_modProt_ne _ _ hj

/-- Where nothing is due nothing begins. -/
theorem settleDue_foldl {l : List Nat} {s : State} (h : ∀ i ∈ l, (s.prot i).due = []) : ProtsSame s (l.foldl (fun s i => s.settleDue i) s) := by
  induction l generalizing s with
  | nil => exact .refl s
  | cons i l ih =>
    have hi := settleDue_protsSame (h i (by simp))
    exact hi.trans (ih fun j hj => by rw [hi.2]; exact h j (by simp [hj]))

theorem keepRead_protKept (s t : State) (j : Nat) : ProtKept (t.prot j) ((s.keepRead t).prot j) := by
  have h := inject_protKept s t j
  unfold State.keepRead
  split
  · have hp : (s.keepPark t).prots = (s.inject t).prots := by
      unfold State.keepPark
      dsimp only
      split
      · exact State.evt_prots _ _ _
      · rfl
    rw [State.prot_congr hp]
    exact h
  · exact h

/-- Of the protection instances, the station's and the others. -/
theorem protInsts_split (x : BitVec 2) : ∃ l r, protInsts = l ++ x.toNat :: r ∧ ∀ i ∈ l ++ r, i = 0x80 ∨ (i < 5 ∧ i ≠ x.toNat) := by
  revert x
  have h : ∀ x : BitVec 2, protInsts = protInsts.take x.toNat ++ x.toNat :: protInsts.drop (x.toNat + 1) ∧
      ∀ i ∈ protInsts.take x.toNat ++ protInsts.drop (x.toNat + 1), i = 0x80 ∨ (i < 5 ∧ i ≠ x.toNat) := by decide
  exact fun x => ⟨_, _, h x⟩

/-- Only the reset of station `x` is due, and it begins. -/
theorem settleDue_station {s : State} {x : BitVec 2} {d : Nat} (hd : (s.prot x.toNat).due = [(.stn x, d)]) (ho : ∀ i, i < 5 → i ≠ x.toNat → (s.prot i).due = [])
    (he : s.su.everReady = true) (hjob : s.job 5 = none) (hfl : s.flag F.REC_STAT_FAILED x.toNat = false) (hph : s.get F.REC_STAT_PHASE x.toNat = 0)
    (hun : s.unprot (.stn x) = false) (hnet : s.net = []) (hfz : (s.mem x.toNat).freezeQ = []) (hwk : (s.stn x.toNat).wakeQ = []) :
    ∃ u w, u.jct = s.jct ∧ u.halts = s.halts ∧ ResetBegun u w x d ∧ (u.prot x.toNat).due = [] ∧
      ProtsSame w (protInsts.foldl (fun s i => s.settleDue i) s) := by
  have hx := x.isLt
  obtain ⟨l, r, hsplit, hothers⟩ := protInsts_split x
  have hother : ∀ i ∈ l ++ r, (s.prot i).due = [] := by
    intro i hi
    rcases hothers i hi with rfl | ⟨h5, hne⟩
    · exact ho 4 (by decide) (by omega)
    · exact ho i h5 hne
  obtain ⟨hwork, hsame⟩ := settleDue_foldl (fun i hi => hother i (List.mem_append_left r hi))
  rw [hsplit, List.foldl_append, List.foldl_cons]
  generalize l.foldl (fun s i => s.settleDue i) s = b at *
  have hb : b.settleDue x.toNat = (b.modProt x.toNat (fun q => { q with due := [] })).stationReset x.toNat d := by
    rw [settleDue_single (by rw [hsame, hd]), hwork.su, he]
    change ((b.modProt x.toNat (fun q => { q with due := [] })).parkEnd 6).resetPart (.stn x) d = _
    rw [show (b.modProt x.toNat (fun q => { q with due := [] })).parkEnd 6 = b.modProt x.toNat (fun q => { q with due := [] }) from if_pos ?_]
    · rfl
    · rw [State.job, State.modProt_jobs, hwork.jobs]
      exact Option.isNone_iff_eq_none.mpr hjob
  have hu : ProtWork s (b.modProt x.toNat (fun q => { q with due := [] })) [] := hwork.modProt _ _
  have hdue : ∀ i, ((b.modProt x.toNat (fun q => { q with due := [] })).prot i).due = [] ∨ i ∉ l ++ r := by
    intro i
    by_cases hi : min i 4 = min x.toNat 4
    · left
      rw [State.prot, hi]
      exact congrArg Prot.due (State.prot_modProt b x.toNat _)
    · by_cases him : i ∈ l ++ r
      · left
        rw [State.prot_modProt_ne _ _ hi, hsame]
        exact hother i him
      · exact .inr him
  have hdx : ((b.modProt x.toNat (fun q => { q with due := [] })).prot x.toNat).due = [] := by rw [State.prot_modProt]
  rw [hb]
  generalize b.modProt x.toNat (fun q => { q with due := [] }) = u at *
  have hget : ∀ (f : Fld) (i : Nat), u.get f i = s.get f i := fun f i => hu.2 f i 0 (by simp)
  have hbegun := stationReset_begins (s := u) (x := x) d ((congrArg (· == 1) (hget _ _)).trans hfl) ((hget _ _).trans hph)
    ((unprot_congr hu.2 (by simp) (by simp)).trans hun) (hu.net.trans hnet) ((congrArg StnMem.freezeQ (State.mem_congr _ _ hu.stns _)).trans hfz)
    ((congrArg Station.wakeQ (State.stn_congr _ _ hu.stns _)).trans hwk)
  refine ⟨u, _, hu.jct, hu.halts, hbegun, hdx, settleDue_foldl fun i hi => ?_⟩
  rw [State.prot_congr hbegun.prots]
  exact (hdue i).resolve_right fun h => h (List.mem_append_right l hi)

/-! ### The rest of the fclk -/

/-- An fclk's counters and credits: the phases of stations, the protection, the junction and what halts hold for signal space stand. -/
structure Ticked (s t : State) : Prop where
  phase : ∀ x, x < 4 → t.get F.REC_STAT_PHASE x = s.get F.REC_STAT_PHASE x
  prots : t.prots = s.prots
  jct : t.jct = s.jct
  held : ∀ h, (t.halt h).ssHeld = (s.halt h).ssHeld

theorem Ticked.refl (s : State) : Ticked s s := ⟨fun _ _ => rfl, rfl, rfl, fun _ => rfl⟩
theorem Ticked.trans {s t u : State} (h : Ticked s t) (k : Ticked t u) : Ticked s u := by
  obtain ⟨h1, h2, h3, h4⟩ := h
  obtain ⟨k1, k2, k3, k4⟩ := k
  exact ⟨fun x hx => (k1 x hx).trans (h1 x hx), k2.trans h2, k3.trans h3, fun i => (k4 i).trans (h4 i)⟩
theorem Ticked.foldl {α : Type} {f : State → α → State} {l : List α} (hf : ∀ s, ∀ a ∈ l, Ticked s (f s a)) (s : State) : Ticked s (l.foldl f s) := by
  induction l generalizing s with
  | nil => exact .refl s
  | cons a l ih => exact (hf s a (by simp)).trans (ih (fun s b hb => hf s b (by simp [hb])) _)
theorem Ticked.of_eq {s t : State} (h1 : t.regs = s.regs) (h2 : t.prots = s.prots) (h3 : t.jct = s.jct) (h4 : t.halts = s.halts) : Ticked s t :=
  ⟨fun _ _ => State.get_congr _ _ h1 _ _ _, h2, h3, fun i => by rw [State.halt, h4, State.halt]⟩
theorem Ticked.bump (s : State) (f : Fld) (i : Nat) (h : f.off ≠ F.REC_STAT_PHASE.off) (hf : f.off < 4096 ∧ f.lo < 32) : Ticked s (s.bump f i) := by
  refine ⟨fun x _ => ?_, State.bump_prots _ _ _ _ _, State.bump_jct _ _ _ _ _, fun j => by rw [State.halt, State.bump_halts, State.halt]⟩
  exact State.get_bump_ne _ _ _ _ _ _ _ _ (key_ne_of_off (Ne.symm h) (by decide) hf)
theorem Ticked.occur (s : State) (p : Part) (c n : Nat) : Ticked s (s.occur p c n) := by
  refine ⟨fun x hx => ?_, State.occur_prots _ _ _ _, State.occur_jct _ _ _ _, fun j => by rw [State.halt, State.occur_halts, State.halt]⟩
  exact State.occur_regsBut s p c n _ _ _ (key_not_counterKeys _ _ _ (by simp only [F.REC_STAT_PHASE]; omega) (by decide) (by decide))

theorem Ticked.ite {p : Prop} [Decidable p] {t u v : State} (hu : Ticked t u) (hv : Ticked t v) : Ticked t (if p then u else v) := by
  split
  · exact hu
  · exact hv

theorem tickScrub_ticked (s : State) : Ticked s s.tickScrub := by
  unfold State.tickScrub
  split
  · exact .refl s
  · exact .foldl (fun t i _ => .ite (.bump t _ i (by decide) (by decide)) (.refl t)) s

theorem tickLedger_ticked (s : State) (k : Nat) : Ticked s (s.tickLedger k) := by
  unfold State.tickLedger
  split
  · exact (Ticked.bump s _ _ (by decide) (by decide)).trans (.occur _ _ _ _)
  · exact .refl s

theorem tickStn_ticked (s : State) (x : Nat) : Ticked s (s.tickStn x) := by
  unfold State.tickStn
  dsimp only
  refine Ticked.trans ?_ (.ite (.occur _ _ _ _) (.refl _))
  refine Ticked.trans ?_ (.ite ((Ticked.bump _ _ _ (by decide) (by decide)).trans (.occur _ _ _ _)) (.refl _))
  refine Ticked.trans ?_ (.ite (.occur _ _ _ _) (.refl _))
  exact .ite (.refl s) ((Ticked.bump _ _ _ (by decide) (by decide)).trans (.occur _ _ _ _))

theorem tickRoom_ticked (s : State) (h : Nat) : Ticked s (s.tickRoom h) := by
  unfold State.tickRoom
  dsimp only
  split
  · split
    · refine ⟨fun x _ => State.get_congr _ _ (State.modHalt_regs _ _ _) _ _ _, State.modHalt_prots _ _ _, State.modHalt_jct _ _ _, fun j => ?_⟩
      by_cases hj : j = h
      · rw [hj, State.halt_modHalt]
      · rw [State.halt_modHalt_ne _ _ _ _ hj]
    · exact .refl s
  · split
    · exact .occur _ _ _ _
    · exact .refl s

/-- With no load held for signal space the halts take none. -/
theorem tickHalts_ticked {s : State} (h : ∀ h, h < 16 → (s.halt h).ssHeld = []) : Ticked s s.tickHalts := by
  unfold State.tickHalts
  have hfold : ∀ (l : List Nat) (t : State), (∀ h, h < 16 → (t.halt h).ssHeld = []) →
      Ticked t (l.foldl (fun s h => (s.ssDrainPart (.halt (BitVec.ofNat 4 h))).tickRoom h) t) := by
    intro l
    induction l with
    | nil => exact fun t _ => .refl t
    | cons i l ih =>
      intro t ht
      have hdrain : t.ssDrainPart (.halt (BitVec.ofNat 4 i)) = t := by
        unfold State.ssDrainPart
        dsimp only
        rw [ht _ (BitVec.isLt _)]
        rfl
      have hroom := tickRoom_ticked t i
      rw [List.foldl_cons, hdrain]
      exact hroom.trans (ih _ fun j hj => by rw [hroom.held, ht j hj])
  exact hfold _ s h

theorem creditClass_eq (s : State) (port cls : Nat) : ∃ g f, (s.creditClass port cls).2 = { s with granted := g, freed := f } := by
  unfold State.creditClass
  dsimp only
  by_cases hg : tget 0 s.granted (3 * port + cls) < (if cls = 0 then 16 else 8)
  · rw [if_pos hg]
    exact ⟨_, s.freed, rfl⟩
  · rw [if_neg hg]
    by_cases hf : 0 < tget 0 s.freed (3 * port + cls) ∧ (!s.portHeld port) = true
    · rw [if_pos hf]
      exact ⟨s.granted, _, rfl⟩
    · rw [if_neg hf]
      exact ⟨s.granted, s.freed, rfl⟩

theorem creditClass_ticked (s : State) (port cls : Nat) : Ticked s (s.creditClass port cls).2 := by
  obtain ⟨g, f, h⟩ := creditClass_eq s port cls
  rw [h]
  exact .of_eq rfl rfl rfl rfl

theorem tickPort_ticked (s : State) (port : Nat) : Ticked s (s.tickPort port) := by
  unfold State.tickPort
  dsimp only
  split
  · exact .refl s
  · refine (((creditClass_ticked s port 0).trans (creditClass_ticked _ port 1)).trans (creditClass_ticked _ port 2)).trans ?_
    exact .of_eq (State.drive_regs _ _) (State.drive_prots _ _) (State.drive_jct _ _) (State.drive_halts _ _)

theorem tickCredits_ticked (s : State) : Ticked s s.tickCredits := .ite (.refl s) (.foldl (fun t p _ => tickPort_ticked t p) s)

/-- With nothing in its pool and nothing that waits, the junction settles nothing. -/
theorem settle_of_idle {s : State} (hp : s.jct.pool = []) (hr : s.jct.retWait = []) (hb : s.jct.beatWait = []) :
    s.poolSettle.retFree = s.modJct (fun j => { j with pool := j.pool.filter (fun f => s.poolLive f) }) := by
  unfold State.poolSettle State.retFree
  rw [hp]
  simp only [List.filter_nil, List.foldl_nil]
  change (s.modJct _).retPump (s.jct.retWait.length + s.jct.beatWait.length) = _
  rw [hr, hb]
  rfl

/-- What is shown of an fclk. -/
structure TickShown (s t : State) : Prop where
  phase : ∀ x, x < 4 → t.get F.REC_STAT_PHASE x = s.get F.REC_STAT_PHASE x
  prots : t.prots = s.prots
  faults : t.jct.faults = s.jct.faults

theorem Ticked.shown {s t : State} (h : Ticked s t) : TickShown s t := ⟨h.phase, h.prots, by rw [h.jct]⟩
theorem TickShown.trans {s t u : State} (h : TickShown s t) (k : TickShown t u) : TickShown s u := by
  obtain ⟨h1, h2, h3⟩ := h
  obtain ⟨k1, k2, k3⟩ := k
  exact ⟨fun x hx => (k1 x hx).trans (h1 x hx), k2.trans h2, k3.trans h3⟩

theorem tickSlots_frame (s : State) : TickShown s s.tickSlots ∧ s.tickSlots.jct.pool = s.jct.pool ∧ s.tickSlots.jct.retWait = s.jct.retWait ∧
    s.tickSlots.jct.beatWait = s.jct.beatWait := by
  unfold State.tickSlots
  dsimp only
  have h := (Ticked.ite (p := 2 ≤ s.jct.txNow) (Ticked.occur s .jct 0x35 1) (.refl s))
  generalize (if 2 ≤ s.jct.txNow then s.occur .jct 0x35 1 else s) = u at h ⊢
  have k := h.trans (Ticked.ite (p := 2 ≤ u.jct.rxNow) (Ticked.occur u .jct 0x36 1) (.refl u))
  generalize (if 2 ≤ u.jct.rxNow then u.occur .jct 0x36 1 else u) = v at k ⊢
  obtain ⟨h1, h2, h3, -⟩ := k
  have hj : (v.modJct (fun j => { j with txNow := 0, rxNow := 0 })).jct = { v.jct with txNow := 0, rxNow := 0 } := rfl
  rw [hj, h3]
  exact ⟨⟨fun x hx => (State.modJct_get _ _ _ _ _).trans (h1 x hx), (State.modJct_prots _ _).trans h2, by rw [hj, h3]⟩, rfl, rfl, rfl⟩

/-- An occurrence counted, where it is one. -/
theorem Ticked.counted (p : Prop) [Decidable p] (t : State) (f : Fld) (c : Nat) (h : f.off ≠ F.REC_STAT_PHASE.off) (hf : f.off < 4096 ∧ f.lo < 32) :
    Ticked t (if p then (t.bump f).occur .jct c 1 else t) := .ite ((Ticked.bump t f 0 h hf).trans (.occur _ _ _ _)) (.refl t)

theorem tickLink_shown {s : State} (hp : s.jct.pool = []) (hr : s.jct.retWait = []) (hb : s.jct.beatWait = []) : TickShown s s.tickLink := by
  have hcounted : ∃ t u, s.tickLink = u.poolSettle.retFree ∧ Ticked s t ∧ (u = t.tickSlots ∨ u = t) := by
    unfold State.tickLink
    dsimp only
    refine ⟨_, _, rfl, ?_, ite_eq_or_eq _ _ _⟩
    refine Ticked.trans ?_ (@Ticked.counted _ _ _ _ _ (by decide) (by decide))
    refine Ticked.trans ?_ (@Ticked.counted _ _ _ _ _ (by decide) (by decide))
    exact @Ticked.counted _ _ s _ _ (by decide) (by decide)
  obtain ⟨t, u, heq, ht, hu⟩ := hcounted
  obtain ⟨hshown, hpool, hret, hbeat⟩ : TickShown t u ∧ u.jct.pool = t.jct.pool ∧ u.jct.retWait = t.jct.retWait ∧ u.jct.beatWait = t.jct.beatWait := by
    rcases hu with rfl | rfl
    · exact tickSlots_frame t
    · exact ⟨(Ticked.refl u).shown, rfl, rfl, rfl⟩
  rw [ht.jct] at hpool hret hbeat
  rw [heq, settle_of_idle (hpool.trans hp) (hret.trans hr) (hbeat.trans hb)]
  exact (ht.shown.trans hshown).trans ⟨fun x _ => State.modJct_get _ _ _ _ _, State.modJct_prots _ _, rfl⟩

/-- Gang wires that carry nothing stay so. -/
theorem tickGangs_of_idle {s : State} (h : s.jct.wires = []) : s.tickGangs = s := by
  unfold State.tickGangs
  rw [h]
  rfl

/-- An fclk in which nothing but what is due is taken further. -/
theorem tick_shown {s : State} (hw : s.quiet.tickDue.jct.wires = []) (hp : s.quiet.tickDue.jct.pool = []) (hr : s.quiet.tickDue.jct.retWait = [])
    (hb : s.quiet.tickDue.jct.beatWait = []) (hh : ∀ h, h < 16 → (s.quiet.tickDue.halt h).ssHeld = []) : TickShown s.quiet.tickDue s.tick := by
  unfold State.tick
  dsimp only
  generalize s.quiet.tickDue = a at *
  have hscrub := tickScrub_ticked a
  rw [tickGangs_of_idle (by rw [hscrub.jct, hw])]
  generalize a.tickScrub = b at *
  have hclk : Ticked b { b with fclk := s.fclk + 1 } := .of_eq rfl rfl rfl rfl
  generalize ({ b with fclk := s.fclk + 1 } : State) = c at *
  have hocc : Ticked c (blockParts.foldl (fun s p => s.occur p 0x01 1) c) := .foldl (fun t p _ => .occur t p _ _) c
  generalize blockParts.foldl (fun s p => s.occur p 0x01 1) c = d at *
  have htt : Ticked d (if d.flag F.TT_STAT_HOLDING = true then d.bump F.TT_HOLD_CYC_COUNT else d) := .ite (.bump d _ 0 (by decide) (by decide)) (.refl d)
  generalize (if d.flag F.TT_STAT_HOLDING = true then d.bump F.TT_HOLD_CYC_COUNT else d) = e at *
  have hled : Ticked e ([0, 1, 2, 3, 4].foldl (fun s k => s.tickLedger k) e) := .foldl (fun t k _ => tickLedger_ticked t k) e
  generalize [0, 1, 2, 3, 4].foldl (fun s k => s.tickLedger k) e = f at *
  have hstn : Ticked f ([0, 1, 2, 3].foldl (fun s x => s.tickStn x) f) := .foldl (fun t x _ => tickStn_ticked t x) f
  generalize [0, 1, 2, 3].foldl (fun s x => s.tickStn x) f = g at *
  have hall : Ticked a g := ((((hscrub.trans hclk).trans hocc).trans htt).trans hled).trans hstn
  have hfinal := hall.trans (tickHalts_ticked (s := g) fun i hi => by rw [hall.held, hh i hi])
  generalize g.tickHalts = v at *
  have hlink := tickLink_shown (s := v) (by rw [hfinal.jct, hp]) (by rw [hfinal.jct, hr]) (by rw [hfinal.jct, hb])
  exact (hfinal.shown.trans hlink).trans (tickCredits_ticked _).shown

/-! ### The reset begins in the next fclk -/

theorem keepRead_jct (s t : State) : (s.keepRead t).jct = t.jct := by
  unfold State.keepRead
  split
  · exact State.keepPark_jct s t
  · exact State.keepQ_jct s t

theorem keepRead_get (s t : State) (f : Fld) (i n : Nat) (h : f.key i n ≠ F.EVT_STAT_EVT.key 0x2A 0) : (s.keepRead t).get f i n = t.get f i n := by
  unfold State.keepRead
  split
  · exact State.keepPark_get s t f i n h
  · exact State.keepQ_get s t f i n

/-- A fault changes of the junction its log alone. -/
theorem fault_jct (s : State) (c p d : Nat) : ∃ l n m, (s.fault c p d).jct = { s.jct with faults := l, faultNo := n, lastFault := m } := by
  unfold State.fault
  dsimp only
  rw [State.evt_jct]
  split
  · exact ⟨_, _, _, rfl⟩
  · exact ⟨_, _, _, rfl⟩

theorem tickDue_of_due {s : State} {i : Nat} (hi : i < 5) (h : (s.prot i).due ≠ []) : s.tickDue = s.keepRead (protInsts.foldl (fun s i => s.settleDue i) s) := by
  refine if_neg fun hall => h ?_
  exact List.isEmpty_iff.mp (List.all_eq_true.mp hall i (List.mem_range.mpr hi))

theorem tick_resets_station {x : BitVec 2} {d : Nat} {s : State} (hpend : s.pending = []) (hd : (s.prot x.toNat).due = [(.stn x, d)])
    (ho : ∀ i, i < 5 → i ≠ x.toNat → (s.prot i).due = []) (he : s.su.everReady = true) (hjob : s.job 5 = none) (hfl : s.flag F.REC_STAT_FAILED x.toNat = false)
    (hph : s.get F.REC_STAT_PHASE x.toNat = 0) (hun : s.unprot (.stn x) = false) (hnet : s.net = []) (hfz : (s.mem x.toNat).freezeQ = [])
    (hwk : (s.stn x.toNat).wakeQ = []) (hwires : s.jct.wires = []) (hpool : s.jct.pool = []) (hret : s.jct.retWait = []) (hbeat : s.jct.beatWait = [])
    (hheld : ∀ h, h < 16 → (s.halt h).ssHeld = []) :
    ∃ t, step s = .next t ∧ t.get F.REC_STAT_PHASE x.toNat = 1 ∧ (t.prot x.toNat).due = [] ∧
      ∃ e ∈ t.jct.faults, e.cls = 1 ∧ e.part.toNat = x.toNat ∧ e.detail = BitVec.ofNat 32 d := by
  have hx := x.isLt
  obtain ⟨u, w, hujct, huhalts, ⟨hphase, -, hjct, -, hprots, hhalts, -⟩, hudue, ⟨hwork, hsame⟩⟩ :=
    settleDue_station (s := s.quiet) hd ho he hjob hfl hph hun hnet hfz hwk
  have hstep : step s = .next s.tick := by
    unfold step
    rw [hpend]
  obtain ⟨l, n, m, hfault⟩ := fault_jct u 1 x.toNat d
  obtain ⟨e, hlast, hcls, hpart, hdet⟩ := fault_last u 1 x.toNat d
  have hdue := tickDue_of_due (s := s.quiet) (i := x.toNat) (by omega) (show (s.prot x.toNat).due ≠ [] by rw [hd]; simp)
  generalize protInsts.foldl (fun s i => s.settleDue i) s.quiet = v at *
  have hvjct : s.quiet.tickDue.jct = (u.fault 1 x.toNat d).jct := by rw [hdue, keepRead_jct, hwork.jct, hjct]
  have hvhalts : s.quiet.tickDue.halts = s.halts := by
    rw [hdue, keepRead_halts, hwork.halts, hhalts, huhalts]
    rfl
  have hsj : u.jct = s.jct := hujct
  obtain ⟨tphase, tprots, tfaults⟩ := tick_shown (s := s) (by rw [hvjct, hfault, hsj]; exact hwires) (by rw [hvjct, hfault, hsj]; exact hpool)
    (by rw [hvjct, hfault, hsj]; exact hret) (by rw [hvjct, hfault, hsj]; exact hbeat) (fun i hi => by rw [State.halt, hvhalts]; exact hheld i hi)
  refine ⟨s.tick, hstep, ?_, ?_, e, ?_, hcls, ?_, hdet⟩
  · rw [tphase _ hx, hdue, keepRead_get _ _ _ _ _ (key_ne_of_off (by decide) (by decide) (by decide)), hwork.2 _ _ _ (by simp), hphase]
  · obtain ⟨hk, -⟩ := keepRead_protKept s.quiet v x.toNat
    rw [State.prot_congr tprots, hdue, hk, hsame, State.prot_congr hprots]
    exact hudue
  · rw [tfaults, hvjct]
    exact List.mem_of_getLast? hlast
  · rw [hpart, BitVec.toNat_ofNat]
    omega

end Sys2Proof.Machine

/-! Proofs for 12: the obligation on rows that are read, laps and the floor. -/

namespace Sys2Proof.Machine

/-- Settles O55: each way in which a row is read, by its class, and the end of a lap, the floor and the fclk in which a reset begins. -/
theorem scrubReadsAndLaps : Obligations.ScrubReadsAndLaps := by
  unfold Obligations.ScrubReadsAndLaps
  refine ⟨?clean, ?corrCounts, ?corrNew, ?corrAgain, ?again, ?stationReset, ?haltReset, ?idle, ?lane, ?way, ?stops, ?noEvent, ?lapEnds, ?floorEngages, ?floorNot, ?lapNot,
    ?freeCorrects, ?freeFaults, ?nextFclk⟩
  case clean => exact fun p ram row syn s hs hc hn hcl => scrub_clean hs hc hn hcl
  case corrCounts => exact fun p ram row syn s hs hc hn hcl => scrub_corr_counts hs hc hn hcl
  case corrNew => exact fun n p ram row syn s hs hc hn hcl hl hv => scrub_corr_new hs hc hn hcl hl hv
  case corrAgain => exact fun n r p syn s hs hc hn hcl hl => scrub_corr_again hs hc hn hcl hl
  case again => exact again_counts
  case stationReset =>
    intro p ram row syn s hs hc hn he h1 h2 hu hjob hnet x hp hfl hph hun hfz hwk
    obtain ⟨t, hexec, ⟨hram, hcls, hsrc, hv, hrow⟩, hrest⟩ := scrub_station_reset hs hc h1 h2 hn he hu hjob hnet hp hfl hph hun hfz hwk
    exact ⟨t, hexec, hram, hcls, hsrc, hv, hrow, hrest⟩
  case haltReset => exact fun p ram row syn s hs hc _ he h1 h2 h hp => scrub_halt_reset hs hc he h1 h2 hp
  case idle =>
    intro p ram row syn s hs hc hn he h1 h2 x hp hu
    obtain ⟨t, hexec, ⟨hram, hcls, hsrc, hv, hrow⟩, hrest⟩ := scrub_idle hs hc h1 h2 hn he hp hu
    exact ⟨t, hexec, hram, hcls, hsrc, hv, hrow, hrest⟩
  case lane =>
    intro p ram row syn s hs hc hn he h1 h2 x pon hp hu
    obtain ⟨t, hexec, ⟨hram, hcls, hsrc, hv, hrow⟩, hrest⟩ := scrub_lane hs hc h1 h2 hn he hp hu
    exact ⟨t, hexec, hram, hcls, hsrc, hv, hrow, hrest⟩
  case way => exact fun p ram row r s hs hn hd ha hway hk hr hrow => scrub_way hs hn hd ha hway hk hr hrow
  case stops =>
    intro p ram row syn s hs hc _ he h1 h2 hstep
    obtain ⟨t, hexec, ⟨hram, hcls, hsrc, hv, hrow⟩, hrest⟩ := scrub_stops hs hc h1 h2 he hstep
    exact ⟨t, hexec, hram, hcls, hsrc, hv, hrow, hrest⟩
  case noEvent => exact fun p ram row syn s h => scrub_no_event h syn
  case lapEnds => exact fun p s hp hd hk hn hc => scrub_lap_ends hp hd hk hn hc
  case floorEngages => exact fun p s hp hd hf => scrub_floor_engages hp hd hf
  case floorNot => exact fun p s h => scrub_floor_not_engaged h
  case lapNot => exact fun p s h => scrub_lap_not_run h
  case freeCorrects => exact fun x w m s ho hb ha hcl => free_corrects ho hb ha hcl
  case freeFaults => exact fun x w m s ho hb _ hd he h1 h2 => free_faults ho hb hd he h1 h2
  case nextFclk =>
    exact fun x d s hpend hd ho he hjob hfl hph hun hnet hfz hwk hwires hpool hret hbeat hheld =>
      tick_resets_station hpend hd ho he hjob hfl hph hun hnet hfz hwk hwires hpool hret hbeat hheld

end Sys2Proof.Machine

/-! Proofs for 02: RUN_OPEN clears the skip state that a ring keeps in the LINK of its commit slot. -/

namespace Sys2Proof.Machine

/-! ### A ring with a skip state, opened -/

/-- A slot of kind `k` of pavilion 0 with `link`. -/
def pav0Slot (k : Kind) (link : BitVec 24) : Slot := { Slot.free with kind := k, link := link }

/-- Slots 0 to 3 of station 0 hold a ring of 64 bytes of pavilion 0, whose commit slot keeps SKIP_V in LINK (07 R205). -/
def skippedRing : State :=
  (((State.reset.modSlot 0 0 (fun _ => pav0Slot .ring 6)).modSlot 0 1 (fun _ => pav0Slot .ringPart 5)).modSlot 0 2
    (fun _ => pav0Slot .ringPart 2)).modSlot 0 3 (fun _ => pav0Slot .ringPart 3)

/-- `skippedRing` after RUN_OPEN of pavilion 0. -/
def skippedRingOpened : State := skippedRing.keep (skippedRing.quiet.cfgAccess 0x03 0x0E0 (fun s => s.runCmd (withBit 0 8)))

/-- RUN_OPEN takes SKIP_V out of the LINK that the commit slot had. -/
theorem skippedRingOpened_link : (skippedRing.slot 0 1).link = 5 ∧ (skippedRingOpened.slot 0 1).link = 1 := by decide +kernel

/-- Refutes O54: RUN_OPEN of a pavilion with a ring does not keep every LINK. It clears the ring's skip state (07 R205), and
that state stands in the LINK of the commit slot. -/
theorem not_runsAndContexts : ¬ Obligations.RunsAndContexts := by
  unfold Obligations.RunsAndContexts
  rintro ⟨-, -, -, -, -, -, -, hopen, -⟩
  obtain ⟨t, ht, -, -, -, hslots, -⟩ := hopen 0 skippedRing (by decide +kernel) (by decide +kernel) (by decide +kernel) (by decide +kernel)
    (by decide +kernel) (by decide +kernel) (by decide +kernel) (by decide +kernel)
  obtain rfl : skippedRingOpened = t := Host.Outcome.next.inj ht
  obtain ⟨-, hlink, -⟩ := hslots (0, 1) (by decide +kernel)
  obtain ⟨hbefore, hafter⟩ := skippedRingOpened_link
  have hsame : (1 : BitVec 24) = 5 := hafter.symm.trans (hlink.trans hbefore)
  exact absurd hsame (by decide)

end Sys2Proof.Machine

/-! Proofs for 03: the clear commands of the halts, stations, boxes and the junction (R101, R102, R104; 17 R460). -/

namespace Sys2Proof.Machine

/-! ### A clear command through the configuration port (17 R460) -/

/-- A write that is let through and only writes registers does what its register does, and is answered. -/
theorem RegWrites.cfgAccess {s : State} {p off : Nat} {f : State → State} {ks : List Nat} (h : RegWrites s.quiet (f s.quiet) ks)
    (ho : s.cfgOpen p off = true) : (s.keep (s.quiet.cfgAccess p off f)).regs = (f s.quiet).regs ∧
      CfgAnswered s (s.keep (s.quiet.cfgAccess p off f)) ∧ OnlyRegs s (s.keep (s.quiet.cfgAccess p off f)) ks := by
  rw [State.cfgAccess_open _ _ _ _ (by simpa using ho)]
  exact ⟨by simp, h.answered⟩

/-- A write that sets one field. -/
theorem cfgAccess_put {s : State} {p off : Nat} {f : State → State} {g : Fld} {v i n : Nat} (hf : f s.quiet = s.quiet.put g v i n)
    (ho : s.cfgOpen p off = true) : CfgAnswered s (s.keep (s.quiet.cfgAccess p off f)) ∧
      OnlyRegs s (s.keep (s.quiet.cfgAccess p off f)) [g.key i n] ∧ (s.keep (s.quiet.cfgAccess p off f)).get g i n = v % 2 ^ g.len := by
  have hw : RegWrites s.quiet (f s.quiet) [g.key i n] := by
    rw [hf]
    exact (RegWrites.refl _ _).put g v i n (List.mem_singleton_self _)
  obtain ⟨hr, ha, hk⟩ := hw.cfgAccess ho
  exact ⟨ha, hk, by rw [State.get_congr _ _ hr, hf, State.get_put]⟩

theorem wbit_withBit_self (w : Word32) {i : Nat} (hi : i < 32) : wbit (withBit w i) i = true := by
  simp [wbit_withBit w i i hi]

/-! ### The registers that the commands clear -/

section
variable (s : State) (w : Word32)

theorem State.cfgerrWrite_clr : s.cfgerrWrite (withBit w 31) = s.put F.JG_CFGERR_COUNT 0 := if_pos (wbit_withBit_self w (by decide))
theorem State.haltPerrWrite_clr (h : Nat) : s.haltPerrWrite h (withBit w 29) = s.put F.HALT_PERR_COUNT 0 h := if_pos (wbit_withBit_self w (by decide))
theorem State.watchStatWrite_clrHigh (x : Nat) : s.watchStatWrite x (withBit w 28) = s.put F.WATCH_STAT_HIGH (s.mem x).rowsUsed.length x :=
  if_pos (wbit_withBit_self w (by decide))
theorem State.haltGangWrite_clr (h : Nat) : s.haltGangWrite h (withBit w 31) = (s.put F.HALT_GANG_SLIP_IGN 0 h).put F.HALT_GANG_SLIP_ZERO 0 h :=
  if_pos (wbit_withBit_self w (by decide))
theorem State.pwRefWrite_clr (b : Nat) : s.pwRefWrite b (withBit w 31) = s.put F.SB_PW_REF_COUNT 0 (boxInst b) := if_pos (wbit_withBit_self w (by decide))
theorem State.jlProxyWrite_clrHigh : s.jlProxyWrite (withBit w 30) = s.put F.JL_PROXY_HIGH s.jct.proxies.length := if_pos (wbit_withBit_self w (by decide))
theorem State.jlRetWrite_clrHigh : s.jlRetWrite (withBit w 22) = s.put F.JL_RET_HIGH s.jct.retained.length := if_pos (wbit_withBit_self w (by decide))
theorem State.ttDenyWrite_clr : s.ttDenyWrite (withBit w 31) = s.put F.TT_DENY_COUNT 0 := if_pos (wbit_withBit_self w (by decide))

/-- The fields of the three registers that are written by their access codes (17 R461). -/
theorem fieldsAt_haltRej : fieldsAt 0x18 F.HALT_REJ_RSVD_OP.off = [F.HALT_REJ_RSVD_TAG, F.HALT_REJ_RSVD_OP, F.HALT_REJ_SUPV, F.HALT_REJ_BATCH] := by decide +kernel
theorem fieldsAt_haltTick : fieldsAt 0x18 0x068 = [F.HALT_TICK_WINDOW, F.HALT_TICK_BATCHES, F.HALT_TICK_LOST, F.HALT_TICK_CLR] := by decide +kernel
theorem fieldsAt_lgLag : fieldsAt 0x08 0x114 = [F.LG_LAG_LAST, F.LG_LAG_HIGH] := by decide +kernel

theorem State.haltRejWrite_eq (h : Nat) : s.haltRejWrite h w =
    (((s.put F.HALT_REJ_RSVD_TAG 0 h).put F.HALT_REJ_RSVD_OP 0 h).put F.HALT_REJ_SUPV 0 h).put F.HALT_REJ_BATCH 0 h := by
  rw [State.haltRejWrite, State.writeFields, fieldsAt_haltRej]
  rfl
theorem State.haltTickWrite_clr (h : Nat) : s.haltTickWrite h (withBit w 31) =
    (((s.put F.HALT_TICK_WINDOW (bitsOf (withBit w 31).toNat 0 4) h).put F.HALT_TICK_BATCHES 0 h).put F.HALT_TICK_LOST 0 h).put
      F.HALT_TICK_MEMB_MEMBERS 0 h := by
  rw [State.haltTickWrite, State.writeFields, fieldsAt_haltTick]
  exact if_pos (wbit_withBit_self w (by decide))
theorem State.lgLagWrite_eq (i : Nat) : s.writeFields 0x08 i 0x114 0 w.toNat = s.put F.LG_LAG_HIGH 0 i := by
  rw [State.writeFields, fieldsAt_lgLag]
  rfl

end

/-- The command bit leaves the fields below it. -/
theorem bitsOf_withBit (w : Word32) {i lo len : Nat} (h : lo + len ≤ i) (hi : i < 32) :
    bitsOf (withBit w i).toNat lo len = (w.extractLsb' lo len).toNat := by
  rw [← bitsOf_toNat]
  refine bitsOf_congr (fun j _ hj => ?_)
  have := wbit_withBit w i j (by omega)
  rw [decide_eq_false (by omega), Bool.or_false] at this
  exact this

/-- Settles O14: each command is the write of its register, and `RegWrites` gives the frame. -/
theorem counterClears : Obligations.CounterClears := by
  unfold Obligations.CounterClears
  refine ⟨fun w s ho => ⟨_, rfl, cfgAccess_put (s.quiet.cfgerrWrite_clr w) ho⟩, fun h w s ho => ?rej,
    fun h w s ho => ⟨_, rfl, cfgAccess_put (s.quiet.haltPerrWrite_clr w _) ho⟩,
    fun x w s ho => ⟨_, rfl, cfgAccess_put (s.quiet.watchStatWrite_clrHigh w _) ho⟩, fun h w s ho => ?gang, fun h w s ho => ?tick,
    fun b w s hb ho => ?box, fun w s ho => ⟨_, rfl, cfgAccess_put (s.quiet.jlProxyWrite_clrHigh w) ho⟩,
    fun w s ho => ⟨_, rfl, cfgAccess_put (s.quiet.jlRetWrite_clrHigh w) ho⟩, fun w s ho => ⟨_, rfl, cfgAccess_put (s.quiet.ttDenyWrite_clr w) ho⟩,
    fun x w s ho => ⟨_, rfl, cfgAccess_put (f := fun s => s.writeFields 0x08 x.toNat 0x114 0 w.toNat) (s.quiet.lgLagWrite_eq w _) ho⟩,
    fun w s ho => ⟨_, rfl, cfgAccess_put (f := fun s => s.writeFields 0x08 0x80 0x114 0 w.toNat) (s.quiet.lgLagWrite_eq w _) ho⟩⟩
  case rej =>
    have hw : RegWrites s.quiet (s.quiet.haltRejWrite h.toNat w) [F.HALT_REJ_RSVD_TAG.key h.toNat 0, F.HALT_REJ_RSVD_OP.key h.toNat 0,
        F.HALT_REJ_SUPV.key h.toNat 0, F.HALT_REJ_BATCH.key h.toNat 0] := by
      rw [State.haltRejWrite_eq]
      exact ((((RegWrites.refl _ _).put _ _ _ _ (by simp)).put _ _ _ _ (by simp)).put _ _ _ _ (by simp)).put _ _ _ _ (by simp)
    obtain ⟨hr, ha, hk⟩ := hw.cfgAccess (f := fun s => s.haltRejWrite h.toNat w) ho
    refine ⟨_, rfl, ha, hk, ?_, ?_, ?_, ?_⟩
    all_goals rw [State.get_congr _ _ hr, State.haltRejWrite_eq]
    · rw [State.get_put_ne, State.get_put_ne, State.get_put_ne, State.get_put]
      · rfl
      all_goals exact Fld.key_ne_of_place rfl (by decide)
    · rw [State.get_put_ne, State.get_put_ne, State.get_put]
      · rfl
      all_goals exact Fld.key_ne_of_place rfl (by decide)
    · rw [State.get_put_ne, State.get_put]
      · rfl
      · exact Fld.key_ne_of_place rfl (by decide)
    · exact State.get_put _ _ _ _ _
  case gang =>
    have hw : RegWrites s.quiet (s.quiet.haltGangWrite h.toNat (withBit w 31)) [F.HALT_GANG_SLIP_IGN.key h.toNat 0, F.HALT_GANG_SLIP_ZERO.key h.toNat 0] := by
      rw [State.haltGangWrite_clr]
      exact ((RegWrites.refl _ _).put _ _ _ _ (by simp)).put _ _ _ _ (by simp)
    obtain ⟨hr, ha, hk⟩ := hw.cfgAccess (f := fun s => s.haltGangWrite h.toNat (withBit w 31)) ho
    refine ⟨_, rfl, ha, hk, ?_, ?_⟩
    all_goals rw [State.get_congr _ _ hr, State.haltGangWrite_clr]
    · rw [State.get_put_ne, State.get_put]
      · rfl
      · exact Fld.key_ne_of_place rfl (by decide)
    · exact State.get_put _ _ _ _ _
  case tick =>
    have hw : RegWrites s.quiet (s.quiet.haltTickWrite h.toNat (withBit w 31)) [F.HALT_TICK_WINDOW.key h.toNat 0, F.HALT_TICK_BATCHES.key h.toNat 0,
        F.HALT_TICK_LOST.key h.toNat 0, F.HALT_TICK_MEMB_MEMBERS.key h.toNat 0] := by
      rw [State.haltTickWrite_clr]
      exact ((((RegWrites.refl _ _).put _ _ _ _ (by simp)).put _ _ _ _ (by simp)).put _ _ _ _ (by simp)).put _ _ _ _ (by simp)
    obtain ⟨hr, ha, hk⟩ := hw.cfgAccess (f := fun s => s.haltTickWrite h.toNat (withBit w 31)) ho
    refine ⟨_, rfl, ha, hk, ?_, ?_, ?_, ?_⟩
    all_goals rw [State.get_congr _ _ hr, State.haltTickWrite_clr]
    · rw [State.get_put_ne, State.get_put_ne, State.get_put]
      · rfl
      all_goals exact Fld.key_ne_of_place rfl (by decide)
    · rw [State.get_put_ne, State.get_put]
      · rfl
      · exact Fld.key_ne_of_place rfl (by decide)
    · exact State.get_put _ _ _ _ _
    · rw [State.get_put_ne, State.get_put_ne, State.get_put_ne, State.get_put, bitsOf_withBit w (by decide) (by decide)]
      · exact Nat.mod_eq_of_lt (BitVec.isLt _)
      all_goals exact Fld.key_ne_of_place rfl (by decide)
  case box =>
    have hm : min b.toNat 4 = b.toNat := by omega
    have h := cfgAccess_put (s.quiet.pwRefWrite_clr w b.toNat) ho
    exact ⟨_, congrArg (fun n => Host.Outcome.next (s.keep (s.quiet.cfgAccess (boxPage b.toNat) 0x048 (fun s => s.pwRefWrite n (withBit w 31))))) hm, h⟩

end Sys2Proof.Machine

/-! Proofs for 03: the wait registers of a halt and the end of a wait (R87, R89). -/

namespace Sys2Proof.Machine

theorem HaltWork.trans {s t u : State} (h : HaltWork s t) (k : HaltWork t u) : HaltWork s u := by
  obtain ⟨he, hr⟩ := h
  obtain ⟨ke, kr⟩ := k
  exact ⟨by rw [ke, he], hr.trans kr⟩

/-! ### Wait registers of a halt (03 R87, R89) -/

/-- A wait register after a write of register `i`. -/
theorem State.wait_modWait_eq (s : State) (h i j : Nat) (f : WaitReg → WaitReg) :
    (s.modWait h i f).wait h j = if j = i then f (s.wait h i) else s.wait h j := by
  unfold State.wait State.modWait
  rw [State.halt_modHalt]
  exact tget_tmod WaitReg.init _ _ _ _
theorem State.wait_modWait_ne (s : State) (h : Nat) {i j : Nat} (f : WaitReg → WaitReg) (hj : j ≠ i) : (s.modWait h i f).wait h j = s.wait h j :=
  (s.wait_modWait_eq h i j f).trans (if_neg hj)
theorem State.wait_congr {s t : State} (h : t.halts = s.halts) (i j : Nat) : t.wait i j = s.wait i j := by
  rw [State.wait, State.wait, State.halt_congr _ _ h]

/-- A wait register that has ended. -/
def WaitReg.ended (w : WaitReg) : WaitReg := { w with v := false, sided := false, refused := false, gang := none }

section
variable (s : State)

theorem State.releaseQ_halts (core : BitVec 8) (q : BitVec 5) (st : Status) (v : Word64) : (s.releaseQ core q st v).halts = s.halts := by
  simp [State.releaseQ]

section
variable (h i : Nat) (st : Status) (val : Word64)

/-- What is driven where a wait ends, and what of the halt changes. -/
theorem State.endWait_halts : (s.endWait h i st val).halts = (s.modWait h i WaitReg.ended).halts := by
  unfold State.endWait
  dsimp only
  split
  · rw [State.drive_halts, State.occur_halts]
    rfl
  · exact State.releaseQ_halts _ _ _ _ _
theorem State.endWait_wait (j : Nat) : (s.endWait h i st val).wait h j = if j = i then (s.wait h i).ended else s.wait h j := by
  rw [State.wait_congr (s.endWait_halts h i st val), State.wait_modWait_eq]
theorem State.endWait_halt : (s.endWait h i st val).halt h = { s.halt h with waits := tmod WaitReg.init (s.halt h).waits i WaitReg.ended } := by
  rw [State.halt_congr _ _ (s.endWait_halts h i st val), State.modWait, State.halt_modHalt]
theorem State.endWait_haltWork : HaltWork s (s.endWait h i st val) := by
  have hm := (HaltWork.refl s).modWait h i WaitReg.ended
  unfold State.endWait
  dsimp only
  split
  · exact (hm.occur _ _ _).drive _
  · exact (hm.occur _ _ _).drive _

/-- A wait of a queue's own register ends with the queue's release (03 R89). -/
theorem State.endWait_out (ht : s.su.wInstr.underTest = false) (hs : (s.wait h i).sided = false) :
    (s.endWait h i st val).out = s.out ++ [.release (qCore h i) (qTag i) st (if (s.wait h i).ret ∨ (s.wait h i).op = 0x04 then val else 0)] := by
  unfold State.endWait
  dsimp only
  rw [if_neg (by simp [hs])]
  exact State.releaseQ_out _ _ _ _ _ ht

/-- Outputs are only added to. -/
theorem State.drive_out_prefix (x : Out) : s.out <+: (s.drive x).out := by
  unfold State.drive
  split
  · exact List.prefix_rfl
  · exact List.prefix_append _ _
theorem State.endWait_out_prefix : s.out <+: (s.endWait h i st val).out := by
  unfold State.endWait State.releaseQ
  dsimp only
  split
  · exact List.IsPrefix.trans (by simp) (State.drive_out_prefix _ _)
  · exact List.IsPrefix.trans (by simp) (State.drive_out_prefix _ _)
end
end

/-! ### A queue and its register (01 R11) -/

theorem waitIdx_mod {core : BitVec 8} {q : BitVec 5} (hq : q.toNat < 24) : waitIdx core q % 24 = q.toNat := by
  unfold waitIdx
  omega
theorem qTag_waitIdx {core : BitVec 8} {q : BitVec 5} (hq : q.toNat < 24) : qTag (waitIdx core q) = q := by
  rw [qTag, waitIdx_mod hq, BitVec.ofNat_toNat, BitVec.setWidth_eq]
theorem qCore_rReg {r : CoreReq} (hq : r.q.toNat < 24) : qCore (rHalt r) (rReg r) = r.core := by
  have hc : 16 * rHalt r + rReg r / 24 = r.core.toNat := by
    unfold rHalt rReg waitIdx
    omega
  rw [qCore, hc, BitVec.ofNat_toNat, BitVec.setWidth_eq]

end Sys2Proof.Machine

/-! Proofs for 03: NOP, a fence and the operations that a halt refuses (R73, R76). -/

namespace Sys2Proof.Machine

/-! ### NOP (03 R76) -/

theorem takes_queue {s : State} {op : BitVec 6} {r : CoreReq} (h : s.takes op r = true) : s.hears r = true ∧ r.q.toNat < 22 := by
  simp only [State.takes, Bool.and_eq_true, decide_eq_true_eq] at h
  obtain ⟨⟨⟨⟨⟨⟨⟨⟨hhears, hq⟩, -⟩, -⟩, -⟩, -⟩, -⟩, -⟩, -⟩ := h
  exact ⟨hhears, hq⟩

/-- No request of the queue is held for a freeze (11 R323). -/
theorem State.heldQ_of_hears {s : State} {r : CoreReq} (h : s.hears r = true) :
    (s.halt (rHalt r)).heldQ.any (fun x => x.core = r.core && x.qtag = r.q) = false := by
  simp only [State.hears, Bool.and_eq_true, Bool.not_eq_true'] at h
  obtain ⟨⟨-, hheld⟩, -⟩ := h
  exact hheld

theorem State.acc_halt_ne (s : State) (r : CoreReq) {h : Nat} (hh : h ≠ rHalt r) : (s.acc r.core r.q).halt h = s.halt h := by
  unfold State.acc
  rw [State.halt_congr _ _ (State.drive_halts _ _)]
  exact (State.halt_modHalt_ne _ _ _ _ hh).trans (State.halt_congr _ _ (State.occur_halts _ _ _ _) h)

theorem present_nop {s : State} {r : CoreReq} (h : s.takes 0 { r with ret := false } = true) :
    s.present 0 { r with ret := false } = (s.acc r.core r.q).releaseQ r.core r.q .done 0 := State.present_of_takes h

theorem nop_released {s : State} {r : CoreReq} (h : s.takes 0 { r with ret := false } = true) : ∃ t, exec (.nop r) s = .next t ∧
    t.out = [.acc r.core r.q, .release r.core r.q .done 0] ∧ t.net = s.net ∧
    t.halt (rHalt r) = { s.halt (rHalt r) with port := r.core.extractLsb' 0 4 + 1 } ∧ (∀ h, h ≠ rHalt r → t.halt h = s.halt h) ∧ t.stns = s.stns := by
  have ht : s.quiet.su.wInstr.underTest = false := (takes_serving h).1
  have hp : s.quiet.present 0 { r with ret := false } = _ := present_nop (s := s.quiet) h
  have hh : ∀ i, (s.keep (s.quiet.present 0 { r with ret := false })).halt i = (s.quiet.acc r.core r.q).halt i := fun i => by
    rw [State.halt_congr _ _ (State.keep_halts _ _), hp, State.halt_congr _ _ (State.releaseQ_halts _ _ _ _ _)]
  refine ⟨_, rfl, ?_, ?_, ?_, fun i hi => ?_, ?_⟩
  · rw [State.keep_out, hp, State.releaseQ_out _ _ _ _ _ (by simpa using ht), State.acc_out _ _ _ ht]
    rfl
  · rw [State.keep_net, hp]
    simp
  · rw [hh, acc_halt]
    rfl
  · rw [hh, State.acc_halt_ne _ _ hi]
    rfl
  · rw [State.keep_stns, hp]
    simp

/-! ### A fence (03 R76) -/

/-- The fence of `r` has the wait register of its queue. -/
def State.fenced (s : State) (r : CoreReq) : State :=
  (s.acc r.core r.q).modWait (rHalt r) (rReg r)
    (fun _ => waitOf (haltReq 0 { r with ret := true }) ((s.acc r.core r.q).flag F.WAIT_CFG_LUISK 0 r.pav.toNat))

theorem present_fence {s : State} {r : CoreReq} (h : s.takes 0 { r with ret := true } = true) :
    s.present 0 { r with ret := true } = (s.fenced r).fenceDone (rHalt r) (rReg r) := State.present_of_takes h

theorem fenced_haltWork (s : State) (r : CoreReq) : HaltWork s (s.fenced r) := (acc_haltWork s r).modWait _ _ _
theorem fenced_out {s : State} {r : CoreReq} (ht : s.su.wInstr.underTest = false) : (s.fenced r).out = s.out ++ [.acc r.core r.q] :=
  State.acc_out s r.core r.q ht
/-- The queue's register waits for nothing but its acknowledgements. -/
theorem fenced_wait (s : State) (r : CoreReq) :
    ((s.fenced r).wait (rHalt r) (rReg r)).v = true ∧ ((s.fenced r).wait (rHalt r) (rReg r)).op = 0 ∧ ((s.fenced r).wait (rHalt r) (rReg r)).sided = false := by
  rw [State.fenced, State.wait_modWait]
  exact ⟨rfl, rfl, rfl⟩
/-- What else the halt keeps is as it was. -/
theorem fenced_halt (s : State) (r : CoreReq) : ∃ ws, (s.fenced r).halt (rHalt r) = { s.halt (rHalt r) with waits := ws, port := r.core.extractLsb' 0 4 + 1 } := by
  rw [State.fenced, State.modWait, State.halt_modHalt, acc_halt]
  exact ⟨_, rfl⟩

/-- A fence whose acknowledgements are outstanding waits. -/
theorem fenceDone_waits {s : State} {h i : Nat} (hu : tget 0 (s.halt h).unacked i ≠ 0) : s.fenceDone h i = s := by
  unfold State.fenceDone
  exact if_neg (fun hc => hu hc.2.2)

/-- The halt with the failures of a queue's posted requests taken by its fence. -/
def Halt.failuresTaken (i : Nat) (ht : Halt) : Halt := { ht with firstFail := tset 0 ht.firstFail i 0, lostPosted := ht.lostPosted.filter (· ≠ i) }

/-- A fence that waits for no acknowledgement takes the first failure and ends. -/
theorem fenceDone_ends {s : State} {h i : Nat} (hv : (s.wait h i).v = true) (ho : (s.wait h i).op = 0) (hu : tget 0 (s.halt h).unacked i = 0)
    (hl : (s.halt h).lostPosted.contains i = false) :
    s.fenceDone h i = (s.modHalt h (Halt.failuresTaken i)).endWait h i (Status.ofCode (tget 0 (s.halt h).firstFail i).toNat) 0 := by
  unfold State.fenceDone
  dsimp only
  rw [if_pos ⟨hv, ho, hu⟩, hl]
  rfl

/-- The clock-gate wire of the queue of `r` follows its wait register where no request of it is held (03 R89). -/
theorem gateWire_eq {s t : State} {r : CoreReq} (hq : r.q.toNat < 22) (ht : s.su.wInstr.underTest = false)
    (hh : (s.halt (rHalt r)).heldQ.any (fun x => x.core = r.core && x.qtag = r.q) = false) (hsu : t.su = s.su)
    (hheld : (t.halt (rHalt r)).heldQ = (s.halt (rHalt r)).heldQ) : t.gateWire r.core r.q = (t.wait (rHalt r) (rReg r)).v := by
  have hheld' : (t.halt (r.core.toNat / 16)).heldQ.any (fun x => x.core = r.core && x.qtag = r.q) = false := by
    rw [← hh, ← hheld]
    rfl
  unfold State.gateWire
  dsimp only
  rw [hheld', hsu, ht, Bool.or_false, decide_eq_true hq]
  rfl

/-- What the end of a fence shows: its release with the first failure, which is then no longer kept. -/
theorem fenceDone_shows {s : State} {h i : Nat} (hv : (s.wait h i).v = true) (ho : (s.wait h i).op = 0) (hs : (s.wait h i).sided = false)
    (hu : tget 0 (s.halt h).unacked i = 0) (hl : (s.halt h).lostPosted.contains i = false) (ht : s.su.wInstr.underTest = false) :
    HaltWork s (s.fenceDone h i) ∧
      (s.fenceDone h i).out = s.out ++ [.release (qCore h i) (qTag i) (Status.ofCode (tget 0 (s.halt h).firstFail i).toNat) 0] ∧
      tget 0 ((s.fenceDone h i).halt h).firstFail i = 0 ∧ ((s.fenceDone h i).wait h i).v = false ∧ ((s.fenceDone h i).halt h).heldQ = (s.halt h).heldQ := by
  rw [fenceDone_ends hv ho hu hl]
  have hwork := (HaltWork.refl s).modHalt h (Halt.failuresTaken i)
  have hhalt := State.halt_modHalt s h (Halt.failuresTaken i)
  have hwait : (s.modHalt h (Halt.failuresTaken i)).wait h i = s.wait h i := by
    unfold State.wait
    rw [hhalt]
    rfl
  refine ⟨hwork.trans (State.endWait_haltWork _ _ _ _ _), ?_, ?_, ?_, ?_⟩
  · rw [State.endWait_out (s.modHalt h (Halt.failuresTaken i)) h i _ 0 ht (by rw [hwait, hs]), ite_self]
    rfl
  · rw [State.endWait_halt, hhalt]
    exact tget_tset_same 0 _ _ _
  · rw [State.endWait_wait, if_pos rfl]
    rfl
  · rw [State.endWait_halt, hhalt]
    rfl

theorem fence_ends {s : State} {r : CoreReq} (h : s.takes 0 { r with ret := true } = true) (hu : tget 0 (s.halt (rHalt r)).unacked (rReg r) = 0)
    (hl : (s.halt (rHalt r)).lostPosted.contains (rReg r) = false) : ∃ t, exec (.fence r) s = .next t ∧ t.net = s.net ∧ t.stns = s.stns ∧
      t.out = [.acc r.core r.q, .release r.core r.q (Status.ofCode (tget 0 (s.halt (rHalt r)).firstFail (rReg r)).toNat) 0] ∧
      tget 0 (t.halt (rHalt r)).firstFail (rReg r) = 0 ∧ (t.wait (rHalt r) (rReg r)).v = false ∧ t.gateWire r.core r.q = false := by
  have ht : s.su.wInstr.underTest = false := (takes_serving h).1
  have hhears : s.hears r = true := (takes_queue h).1
  have hq : r.q.toNat < 22 := (takes_queue h).2
  have hq24 : r.q.toNat < 24 := by omega
  obtain ⟨hv, ho, hsided⟩ := fenced_wait s.quiet r
  obtain ⟨ws, hhalt⟩ := fenced_halt s.quiet r
  have hwork := fenced_haltWork s.quiet r
  obtain ⟨hdone, hout, hfail, hfree, hheld⟩ := fenceDone_shows hv ho hsided (by rw [hhalt]; exact hu) (by rw [hhalt]; exact hl) (by rw [hwork.su]; exact ht)
  have hshow : s.quiet.present 0 { r with ret := true } = (s.quiet.fenced r).fenceDone (rHalt r) (rReg r) := present_fence (s := s.quiet) h
  generalize (s.quiet.fenced r).fenceDone (rHalt r) (rReg r) = u at hdone hout hfail hfree hheld hshow
  have hkeep : (s.keep u).halts = u.halts := State.keep_halts s u
  refine ⟨s.keep u, congrArg (fun u => Host.Outcome.next (s.keep u)) hshow, ?_, ?_, ?_, ?_, ?_, ?_⟩
  · rw [State.keep_net, hdone.net, hwork.net]
    rfl
  · rw [State.keep_stns, hdone.stns, hwork.stns]
    rfl
  · rw [State.keep_out, hout, fenced_out (s := s.quiet) ht, hhalt, qCore_rReg hq24, rReg, qTag_waitIdx hq24]
    rfl
  · rw [State.halt_congr _ _ hkeep, hfail]
  · rw [State.wait_congr hkeep, hfree]
  · rw [gateWire_eq hq ht (State.heldQ_of_hears hhears) (State.keep_su _ _), State.wait_congr hkeep, hfree]
    rw [State.halt_congr _ _ hkeep, hheld, hhalt]
    rfl

theorem fence_waits {s : State} {r : CoreReq} (h : s.takes 0 { r with ret := true } = true) (hu : tget 0 (s.halt (rHalt r)).unacked (rReg r) ≠ 0) :
    ∃ t, exec (.fence r) s = .next t ∧ t.net = s.net ∧ t.stns = s.stns ∧ t.out = [.acc r.core r.q] ∧
      (t.wait (rHalt r) (rReg r)).v = true ∧ (t.wait (rHalt r) (rReg r)).op = 0 ∧ t.gateWire r.core r.q = true := by
  have ht : s.su.wInstr.underTest = false := (takes_serving h).1
  have hhears : s.hears r = true := (takes_queue h).1
  have hq : r.q.toNat < 22 := (takes_queue h).2
  obtain ⟨hv, ho, -⟩ := fenced_wait s.quiet r
  obtain ⟨ws, hhalt⟩ := fenced_halt s.quiet r
  have hwork := fenced_haltWork s.quiet r
  have hshow : s.quiet.present 0 { r with ret := true } = s.quiet.fenced r :=
    (present_fence (s := s.quiet) h).trans (fenceDone_waits (by rw [hhalt]; exact hu))
  have hkeep : (s.keep (s.quiet.fenced r)).halts = (s.quiet.fenced r).halts := State.keep_halts _ _
  refine ⟨s.keep (s.quiet.fenced r), congrArg (fun u => Host.Outcome.next (s.keep u)) hshow, ?_, ?_, ?_, ?_, ?_, ?_⟩
  · rw [State.keep_net, hwork.net]
    rfl
  · rw [State.keep_stns, hwork.stns]
    rfl
  · rw [State.keep_out, fenced_out (s := s.quiet) ht]
    rfl
  · rw [State.wait_congr hkeep, hv]
  · rw [State.wait_congr hkeep, ho]
  · rw [gateWire_eq hq ht (State.heldQ_of_hears hhears) (State.keep_su _ _), State.wait_congr hkeep, hv]
    rw [State.halt_congr _ _ hkeep, hhalt]
    rfl

/-! ### Operations that the halt refuses (03 R73) -/

theorem rejectField_reserved {s : State} {h : Nat} {op : BitVec 6} {core : BitVec 8} {q : BitVec 5} (hq : q.toNat < 22) (ho : opKnown op = false) :
    s.rejectField h op core q = some F.HALT_REJ_RSVD_OP := by
  unfold State.rejectField
  rw [if_neg (by omega), if_pos (by simp [ho])]
theorem rejectField_supervisor {s : State} {h : Nat} {op : BitVec 6} {core : BitVec 8} {q : BitVec 5} (hq : q.toNat < 22) (ho : op = 0x0F ∨ op = 0x20)
    (hs : s.isSupv h core q = false) : s.rejectField h op core q = some F.HALT_REJ_SUPV := by
  unfold State.rejectField
  rw [if_neg (by omega), if_neg (by rcases ho with rfl | rfl <;> decide), if_neg (by rcases ho with rfl | rfl <;> decide), if_pos ⟨ho, by simp [hs]⟩]

/-- The halt keeps the first failure of a queue's posted requests (03 R75). -/
theorem postedFail_halt (s : State) (h : Nat) (core : BitVec 8) {q : BitVec 5} (st : Status) (hq : q.toNat < 24) :
    (s.postedFail h core q st).halt h =
      { s.halt h with firstFail := tmod 0 (s.halt h).firstFail (waitIdx core q) (fun x => if x = 0 then BitVec.ofNat 4 st.code else x) } := by
  have hcount : (s.postedCount h core q st).halt h = s.halt h := rfl
  unfold State.postedFail
  dsimp only
  rw [if_neg (by omega), State.halt_modHalt, hcount]

/-- A refused posted request is its queue's first failure, unless one came before it (03 R75). -/
theorem refuse_firstFail {s : State} {f : Fld} {r : CoreReq} (hq : r.q.toNat < 24) :
    tget 0 ((s.refuse f r true).halt (rHalt r)).firstFail (rReg r) =
      (if tget 0 (s.halt (rHalt r)).firstFail (rReg r) = 0 then 6 else tget 0 (s.halt (rHalt r)).firstFail (rReg r)) := by
  have hbump : ((s.acc r.core r.q).bump f (rHalt r)).halt (rHalt r) = (s.acc r.core r.q).halt (rHalt r) := rfl
  have he : s.refuse f r true = ((s.acc r.core r.q).bump f (rHalt r)).postedFail (rHalt r) r.core r.q .denied := rfl
  rw [he, postedFail_halt _ _ _ _ hq, hbump, acc_halt, rReg, tget_tmod_same]
  rfl

/-- A request that its halt refuses on a free queue is counted under its reason, and no message leaves the halt. -/
theorem refused_shows {s : State} {op : BitVec 6} {r : CoreReq} {f : Fld} (hh : s.hears r = true) (hw : (s.wait (rHalt r) (rReg r)).v = false)
    (hf : s.rejectField (rHalt r) op r.core r.q = some f) (hp : f.page = 0x18) (ho : f.off = 0x050) (hl : f.lo < 32) :
    s.quiet.present op r = s.quiet.refuse f r (opPosted op r.ret) ∧
    (s.keep (s.quiet.present op r)).net = s.net ∧ (s.keep (s.quiet.present op r)).stns = s.stns ∧
      (s.keep (s.quiet.present op r)).get f (rHalt r) = min (s.get f (rHalt r) + 1) (2 ^ f.len - 1) := by
  have he := State.present_of_rejected (s := s.quiet) hh (fun hv => absurd (hw.symm.trans hv) Bool.false_ne_true) hf
  obtain ⟨hn, hs, -⟩ := s.quiet.refuse_parts r f (opPosted op r.ret)
  refine ⟨he, ?_, ?_, ?_⟩
  · rw [State.keep_net, he, hn]
    rfl
  · rw [State.keep_stns, he, hs]
    rfl
  · rw [State.keep_get, he, State.refuse_count _ _ _ _ hp ho hl]
    rfl

/-- Settles O19: a NOP, a fence that ends, a fence that waits, and the two reasons for which a halt refuses an operation. -/
theorem nopFenceAndReservedCodes : Obligations.NopFenceAndReservedCodes := by
  refine ⟨fun r s h => nop_released h, fun r s h hu hl => fence_ends h hu hl, fun r s h hu => fence_waits h hu, fun op r s hh hq hw ho => ?_,
    fun c r s hc hh hq hw hs => ?_⟩
  · have ht : s.quiet.su.wInstr.underTest = false := State.underTest_of_hears hh
    obtain ⟨he, hn, hst, hc⟩ := refused_shows hh hw (rejectField_reserved hq ho) rfl rfl (by decide)
    have hposted : opPosted op r.ret = !r.ret := by simp [opPosted, ho]
    refine ⟨_, execSyncReservedOp_eq op r s, hn, hst, hc, fun hr => ?_, fun hr => ⟨?_, ?_⟩⟩
    · rw [State.keep_out, he, hposted, hr]
      exact State.refuse_blocking_out s.quiet r _ ht
    · rw [State.keep_out, he, hposted, hr]
      exact State.refuse_posted_out s.quiet r _ ht
    · rw [State.halt_congr _ _ (State.keep_halts _ _), he, hposted, hr]
      exact refuse_firstFail (s := s.quiet) (by omega)
  · have ht : s.quiet.su.wInstr.underTest = false := State.underTest_of_hears hh
    obtain ⟨op, hop, hex, hposted⟩ : ∃ op : BitVec 6, (op = 0x0F ∨ op = 0x20) ∧ exec c s = .next (s.keep (s.quiet.present op r)) ∧ opPosted op r.ret = false := by
      rcases List.mem_pair.mp hc with rfl | rfl
      · exact ⟨0x0F, .inl rfl, rfl, by cases r.ret <;> decide⟩
      · exact ⟨0x20, .inr rfl, rfl, opPosted_move r.ret⟩
    obtain ⟨he, hn, hst, hc⟩ := refused_shows hh hw (rejectField_supervisor hq hop hs) rfl rfl (by decide)
    refine ⟨_, hex, hn, hst, hc, ?_⟩
    rw [State.keep_out, he, hposted]
    exact State.refuse_blocking_out s.quiet r _ ht

end Sys2Proof.Machine

/-! Proofs for 03: what an operation of a station leaves, and SIG at its counter (R79, R84). -/

namespace Sys2Proof.Machine

/-! ### What an operation of a station leaves (03 R79, R84; 04 R114; 07 R196) -/

/-- `u` is `s` but for station `x`'s slots `ps`, what stations keep beside their slots and bounds, the registers, messages sent and outputs driven. -/
structure StationWork (x : Nat) (ps : List Nat) (s u : State) : Prop where
  su : u.su = s.su
  halts : u.halts = s.halts
  prots : u.prots = s.prots
  out : s.out <+: u.out
  net : s.net <+: u.net
  bounds : (u.mem x).bounds = (s.mem x).bounds
  slot : ∀ j m, ¬(j = x ∧ m ∈ ps) → u.slot j m = s.slot j m

section
variable {x : Nat} {ps : List Nat} {s u v : State}

theorem StationWork.refl (x : Nat) (ps : List Nat) (s : State) : StationWork x ps s s :=
  ⟨rfl, rfl, rfl, List.prefix_rfl, List.prefix_rfl, rfl, fun _ _ _ => rfl⟩
theorem StationWork.trans (h : StationWork x ps s u) (k : StationWork x ps u v) : StationWork x ps s v :=
  ⟨k.su.trans h.su, k.halts.trans h.halts, k.prots.trans h.prots, h.out.trans k.out, h.net.trans k.net, k.bounds.trans h.bounds,
    fun j m hn => (k.slot j m hn).trans (h.slot j m hn)⟩

/-- A change beside the stations, the halts and the rows. -/
theorem StationWork.of_stns (hsu : u.su = s.su) (hh : u.halts = s.halts) (hp : u.prots = s.prots) (ho : s.out <+: u.out) (hn : s.net <+: u.net)
    (hs : u.stns = s.stns) : StationWork x ps s u :=
  ⟨hsu, hh, hp, ho, hn, by rw [State.mem_congr _ _ hs], fun j m _ => State.slot_congr _ _ hs j m⟩

theorem StationWork.occur (x : Nat) (ps : List Nat) (s : State) (p : Part) (c n : Nat) : StationWork x ps s (s.occur p c n) :=
  .of_stns (State.occur_su _ _ _ _) (State.occur_halts _ _ _ _) (State.occur_prots _ _ _ _) (by rw [State.occur_out]) (by rw [State.occur_net]) (State.occur_stns _ _ _ _)
theorem StationWork.emit (x : Nat) (ps : List Nat) (s : State) (a b : Part) (m : Msg) : StationWork x ps s (s.emit a b m) :=
  .of_stns rfl rfl rfl List.prefix_rfl (List.prefix_append _ _) rfl
theorem StationWork.evt (x : Nat) (ps : List Nat) (s : State) (p b : Nat) : StationWork x ps s (s.evt p b) :=
  .of_stns rfl rfl rfl List.prefix_rfl List.prefix_rfl rfl
theorem StationWork.answerFrom (x : Nat) (ps : List Nat) (s : State) (src : Part) (rq : HReq) (st : Status) (val aux : Word64) (mods : BitVec 9) :
    StationWork x ps s (s.answerFrom src rq st val aux mods) := by
  obtain ⟨n, o, h⟩ := answerFrom_eq s src rq st val aux mods
  rw [h]
  exact .of_stns rfl rfl rfl (List.prefix_append _ _) (List.prefix_append _ _) rfl
theorem StationWork.answer (x : Nat) (ps : List Nat) (s : State) (i : Nat) (rq : HReq) (st : Status) (val : Word64) :
    StationWork x ps s (s.answer i rq st val) := .answerFrom x ps s _ rq st val 0 0

/-- A change of the station's memory beside its slots and bounds. -/
theorem StationWork.modMem (h : StationWork x ps s u) {f : StnMem → StnMem} (hf : ∀ m, (f m).slots = m.slots ∧ (f m).bounds = m.bounds) :
    StationWork x ps s (u.modMem x f) :=
  h.trans ⟨rfl, rfl, rfl, List.prefix_rfl, List.prefix_rfl, by rw [State.mem_modMem, (hf _).2], (SlotWrites.modMem u x ps (fun m => (hf m).1)).2⟩
/-- A write of one of the slots. -/
theorem StationWork.modSlot (s : State) {n : Nat} (f : Slot → Slot) (hn : n ∈ ps) : StationWork x ps s (s.modSlot x n f) :=
  ⟨rfl, rfl, rfl, List.prefix_rfl, List.prefix_rfl, by rw [State.modSlot, State.mem_modMem], (SlotWrites.modSlot s x n f hn).2⟩

theorem StationWork.foldl {α : Type} {f : State → α → State} {l : List α} (hf : ∀ s, ∀ a ∈ l, StationWork x ps s (f s a)) (s : State) :
    StationWork x ps s (l.foldl f s) := by
  induction l generalizing s with
  | nil => exact .refl x ps s
  | cons a l ih =>
    exact (hf s a List.mem_cons_self).trans (ih (fun s b hb => hf s b (List.mem_cons_of_mem _ hb)) _)
end

section
variable (x : Nat) (ps : List Nat) (s : State)

/-- Notifications change no slot (03 R84). -/
theorem notifyIf_stationWork (pon : Nat) (p : Watch → Bool) (st : Watch → Status) (v : Word64) : StationWork x ps s (s.notifyIf x pon p st v) := by
  unfold State.notifyIf
  dsimp only
  refine StationWork.trans ?_ (.foldl (fun s _ _ => .emit _ _ s _ _ _) _)
  exact (StationWork.occur _ _ _ _ _ _).modMem (fun _ => ⟨rfl, rfl⟩)
theorem notifyWatches_stationWork (pon : Nat) : StationWork x ps s (s.notifyWatches x pon) := by
  unfold State.notifyWatches
  exact (StationWork.occur _ _ _ _ _ _).trans (notifyIf_stationWork _ _ _ _ _ _ _)

/-- A drift pair is compared (04 R115). -/
theorem driftCheck1_stationWork (pon k : Nat) : StationWork x ps s (s.driftCheck1 x pon k) := by
  have hevent : ∀ st, StationWork x ps s (s.driftEvent x k st) := fun st => by
    refine StationWork.trans ?_ (.evt _ _ _ _ _)
    exact (StationWork.refl _ _ _).modMem (fun _ => ⟨rfl, rfl⟩)
  unfold State.driftCheck1
  dsimp only
  split
  · split
    · exact hevent _
    · split
      · exact hevent _
      · exact .refl _ _ _
  · exact .refl _ _ _
theorem driftCheck_stationWork (pon : Nat) : StationWork x ps s (s.driftCheck x pon) := .foldl (fun s k _ => driftCheck1_stationWork x ps s pon k) s
end

section
variable {x : Nat} {ps : List Nat} (s : State)

/-- A dispenser's grant writes its own slot (07 R195). -/
theorem tickGrant_stationWork {pon : Nat} (rq : HReq) (w : Bool) (hn : pon ∈ ps) : StationWork x ps s (s.tickGrant x pon rq w) := by
  have hval : ∀ v, StationWork x ps s (s.setVal x pon v) := fun v => .modSlot s _ hn
  unfold State.tickGrant
  dsimp only
  refine StationWork.trans ?_ (.answerFrom _ _ _ _ _ _ _ _ _)
  refine StationWork.trans ?_ (notifyWatches_stationWork _ _ _ _)
  split
  · exact (hval _).trans (.modSlot _ _ hn)
  · exact hval _
theorem tickGrants_stationWork {pon : Nat} (hn : pon ∈ ps) (fuel : Nat) : StationWork x ps s (s.tickGrants x pon fuel) := by
  induction fuel generalizing s with
  | zero => exact .refl _ _ _
  | succ fuel ih =>
    unfold State.tickGrants
    split
    · split
      · refine StationWork.trans (StationWork.trans ?_ (tickGrant_stationWork _ _ _ hn)) (ih _)
        exact (StationWork.refl _ _ _).modMem (fun _ => ⟨rfl, rfl⟩)
      · exact .refl _ _ _
    · exact .refl _ _ _
theorem boundChanged_stationWork (pon : Nat) (hb : ∀ e ∈ (s.mem x).boundList, e.1 ∈ ps) : StationWork x ps s (s.boundChanged x pon) :=
  .foldl (fun s e he => tickGrants_stationWork s (hb e (List.mem_filter.mp he).1) _) s

/-- What follows a change of a counter writes the slots of the dispensers that objects bound, and no others. -/
theorem counterChanged_stationWork (pon : Nat) (hb : ∀ e ∈ (s.mem x).boundList, e.1 ∈ ps) : StationWork x ps s (s.counterChanged x pon) := by
  have hn := notifyWatches_stationWork x ps s pon
  refine (hn.trans (boundChanged_stationWork _ pon ?_)).trans (driftCheck_stationWork _ _ _ _)
  unfold StnMem.boundList
  rw [hn.bounds]
  exact hb
end

/-! ### A SIG at its counter (03 R79) -/

/-- A SIG writes its counter, and dispensers that objects bound. -/
theorem opSig_stationWork (s : State) (x pon : Nat) (rq : HReq) :
    StationWork x (pon :: (s.mem x).boundList.map (·.1)) s (s.opSig x pon rq) := by
  have hpon : pon ∈ pon :: (s.mem x).boundList.map (·.1) := List.mem_cons_self
  unfold State.opSig
  dsimp only
  split
  · exact .answer _ _ _ _ _ _ _
  · split
    · have hset := (StationWork.modSlot (x := x) s (fun sl => { sl with val := (s.slot x pon).val + rq.req.operand }) hpon).trans
        (.modSlot _ (fun sl => { sl with lastSrc := lastSrcOf rq.who }) hpon)
      refine (hset.trans (counterChanged_stationWork _ pon (fun e he => ?_))).trans (.answer _ _ _ _ _ _ _)
      unfold StnMem.boundList at he
      rw [hset.bounds] at he
      exact List.mem_cons_of_mem _ (List.mem_map_of_mem he)
    · exact (StationWork.evt _ _ _ _ _).trans (.answer _ _ _ _ _ _ _)

/-- A SIG that fits adds its operand and writes LAST_SRC. -/
theorem opSig_adds {s : State} {x pon : Nat} {rq : HReq} (h0 : rq.req.operand ≠ 0) (hfit : (s.slot x pon).val.toNat + rq.req.operand.toNat < 2 ^ 64)
    (hb : ∀ e ∈ (s.mem x).boundList, e.1 ≠ pon) :
    ((s.opSig x pon rq).slot x pon).val = (s.slot x pon).val + rq.req.operand ∧ ((s.opSig x pon rq).slot x pon).lastSrc = lastSrcOf rq.who := by
  have hset : (((s.setVal x pon ((s.slot x pon).val + rq.req.operand)).setSrc x pon (lastSrcOf rq.who)).slot x pon) =
      { s.slot x pon with val := (s.slot x pon).val + rq.req.operand, lastSrc := lastSrcOf rq.who } := by
    rw [State.setSrc, State.slot_modSlot, State.setVal, State.slot_modSlot]
  have hmem : (((s.setVal x pon ((s.slot x pon).val + rq.req.operand)).setSrc x pon (lastSrcOf rq.who)).mem x).boundList = (s.mem x).boundList := by
    simp only [State.setSrc, State.setVal, State.modSlot, State.mem_modMem, StnMem.boundList]
  unfold State.opSig
  dsimp only
  rw [if_neg h0, if_pos (by omega), State.slot_congr _ _ (State.answer_stns _ _ _ _ _)]
  generalize (s.setVal x pon ((s.slot x pon).val + rq.req.operand)).setSrc x pon (lastSrcOf rq.who) = u at hset hmem ⊢
  have hwork := counterChanged_stationWork (x := x) (ps := (s.mem x).boundList.map (·.1)) u pon
    (fun e he => List.mem_map_of_mem (by rw [← hmem]; exact he))
  have hpon : pon ∉ (s.mem x).boundList.map (·.1) := fun h => by
    obtain ⟨e, he, hep⟩ := List.mem_map.mp h
    exact hb e he hep
  rw [hwork.slot x pon (fun hc => hpon hc.2), hset]
  exact ⟨rfl, rfl⟩

end Sys2Proof.Machine

/-! Proofs for 03: a request that may not go on, at its halt, its serving station and its home (R78). -/

namespace Sys2Proof.Machine

/-! ### A request that its halt hears (03 R73, R78; 11 R318, R320, R323; 13 R364) -/

/-- What a halt does with a request that it hears on a free queue and has no reason of its own to refuse. -/
theorem State.present_of_hears {s : State} {op : BitVec 6} {r : CoreReq} (hh : s.hears r = true) (hv : (s.wait (rHalt r) (rReg r)).v = false)
    (hf : s.rejectField (rHalt r) op r.core r.q = none) : s.present op r =
      if r.gen ≠ s.gen r.pav then (s.acc r.core r.q).endAtHalt (rHalt r) r.core r.q (opPosted op r.ret) .flushed
      else if s.pavFrozen r.pav ∧ op ≠ 0 then
        if op = 0x0F ∨ op = 0x20 then (s.acc r.core r.q).endAtHalt (rHalt r) r.core r.q (opPosted op r.ret) .frozen
        else s.modHalt (rHalt r) (fun ht => { ht with heldQ := ht.heldQ ++ [haltReq op r] })
      else if !opPosted op r.ret ∧ s.staleMark (rHalt r) (rReg r) then s
      else if s.flag F.REC_STAT_FAILED (rHalt r / 4) ∧ op ≠ 0 then
        (s.acc r.core r.q).endAtHalt (rHalt r) r.core r.q (opPosted op r.ret) .fault
      else if opRetained op ∧ !s.room (rPart r) then s.modHalt (rHalt r) (fun ht => { ht with retHeld := true })
      else s.accepted (rHalt r) (rReg r) (haltReq op r) := by
  have hheld := State.heldQ_of_hears hh
  simp only [State.hears, Bool.and_eq_true, Bool.not_eq_true', decide_eq_true_eq] at hh
  obtain ⟨⟨⟨⟨hq, hrows⟩, hstall⟩, -⟩, hask⟩ := hh
  have hread : s.readPresent (haltReq op r) = (true, s) := by simp [State.readPresent, State.readMap, hrows]
  have hwires : ¬(24 ≤ r.q.toNat ∨ s.haltStalled (r.core.toNat / 16) ∨ (s.wait (r.core.toNat / 16) (waitIdx r.core r.q)).v ∧ r.q.toNat < 22 ∨
      (s.halt (r.core.toNat / 16)).heldQ.any (fun x => x.core = r.core && x.qtag = r.q) ∨
      ((haltReq op r).ctxl ∧ op ≠ 0 ∧ (s.halt (r.core.toNat / 16)).asking.contains (waitIdx r.core r.q))) := by
    rintro (h | h | ⟨h, -⟩ | h | ⟨hctx, -, h⟩)
    · omega
    · exact Bool.false_ne_true (hstall.symm.trans h)
    · exact Bool.false_ne_true (hv.symm.trans h)
    · exact Bool.false_ne_true (hheld.symm.trans h)
    · have hask' : (rCtx r && (s.halt (r.core.toNat / 16)).asking.contains (waitIdx r.core r.q)) = false := hask
      rw [h, Bool.and_true] at hask'
      exact Bool.false_ne_true (hask'.symm.trans hctx)
  unfold State.present
  rw [if_neg hwires]
  dsimp only
  rw [hread]
  dsimp only
  rw [show s.rejectField (r.core.toNat / 16) op r.core r.q = none from hf]
  rfl

theorem rejectField_none {s : State} {h : Nat} {op : BitVec 6} {core : BitVec 8} {q : BitVec 5} (hq : q.toNat < 22) (ho : opKnown op = true)
    (hb : op ≠ 0x15 ∧ op ≠ 0x0F ∧ op ≠ 0x20) : s.rejectField h op core q = none := by
  obtain ⟨h15, h0f, h20⟩ := hb
  unfold State.rejectField
  rw [if_neg (by omega), if_neg (by simp [ho]), if_neg h15, if_neg (fun hc => hc.1.elim h0f h20)]

theorem State.rowsGood_of_hears {s : State} {r : CoreReq} (h : s.hears r = true) : s.rowsGood = true := by
  simp only [State.hears, Bool.and_eq_true] at h
  obtain ⟨⟨⟨⟨-, hrows⟩, -⟩, -⟩, -⟩ := h
  exact hrows

/-! ### A request that comes to its slot (02 R45, 03 R78) -/

/-- The station is in service, knows what it is, and has no row in error. -/
structure StationServes (s : State) (x : BitVec 2) : Prop where
  rows : s.rowsGood = true
  failed : s.flag F.REC_STAT_FAILED x.toNat = false
  open' : s.withholding x.toNat = false
  pkg : (s.stnId x.toNat).pkg = s.su.pkg
  die : (s.stnId x.toNat).die = s.su.die
  stn : (s.stnId x.toNat).stn = x

theorem StationServes.haltWork {s u : State} {x : BitVec 2} (h : StationServes s x) (hw : HaltWork s u) : StationServes u x := by
  have hx := x.isLt
  have hid : u.stnId x.toNat = s.stnId x.toNat := by rw [State.stnId, State.stnId, hw.su]
  refine ⟨by rw [hw.rowsGood, h.rows], ?_, by rw [hw.withholding hx, h.open'], by rw [hid, h.pkg, hw.su], by rw [hid, h.die, hw.su], by rw [hid, h.stn]⟩
  rw [hw.flag _ _ _ (by simp only [F.REC_STAT_FAILED]; omega) (by decide) (by omega), h.failed]

/-- What `admits` says of the station and the slot. -/
theorem admits_iff {s : State} {op p : BitVec 6} {x : BitVec 2} {pon : Nat} {who : Option Orig} (h : s.admits op p x pon who = true) :
    StationServes s x ∧ (s.slot x.toNat pon).frozen = false ∧ kindAccepts (s.slot x.toNat pon).kind op.toNat = true ∧
      ((s.slot x.toNat pon).kind ∉ [.sem, .glock] → p = (s.slot x.toNat pon).pav) := by
  simp only [State.admits, Bool.and_eq_true, Bool.not_eq_true', decide_eq_true_eq] at h
  obtain ⟨⟨⟨⟨⟨⟨⟨⟨hrows, hfailed⟩, hwith⟩, hpkg⟩, hdie⟩, hstn⟩, hfrozen⟩, hkind⟩, hrights⟩ := h
  refine ⟨⟨hrows, hfailed, hwith, hpkg, hdie, hstn⟩, hfrozen, hkind, fun hk => ?_⟩
  rw [if_neg (by simpa using hk)] at hrights
  exact of_decide_eq_true hrights

/-- A request of this die, not a replay and of the current generation, for slot `pon` of station `x`. -/
structure Comes (s : State) (x : BitVec 2) (pon : Nat) (rq : HReq) : Prop where
  addr : rq.addr = s.addrOf x.toNat pon
  new : rq.replay = false
  here : ∀ d c q i, rq.who ≠ .die d c q i
  current : rq.req.gen = s.gen rq.req.pav

/-- A request that comes to its slot meets the slot's own checks (02 R45). -/
theorem reach_slot {s : State} {x : BitVec 2} {pon : Nat} {rq : HReq} (hs : StationServes s x) (hc : Comes s x pon rq)
    (hk : (s.slot x.toNat pon).kind ≠ .moved) : s.reach x.toNat pon rq moveFuel =
      if (s.slot x.toNat pon).kind = .free ∨ (s.slot x.toNat pon).kind = .retired then (s.recordSeq x.toNat rq).answer x.toNat rq .unmapped 0
      else if (s.slot x.toNat pon).frozen then
        if rq.req.op = 0x20 then (s.recordSeq x.toNat rq).answer x.toNat rq .retry 0
        else s.modMem x.toNat (fun m => { m with freezeQ := m.freezeQ ++ [(pon, rq)] })
      else if !kindAccepts (s.slot x.toNat pon).kind rq.req.op.toNat then (s.recordSeq x.toNat rq).answer x.toNat rq .denied 0
      else if (s.slot x.toNat pon).kind = .sem ∨ (s.slot x.toNat pon).kind = .glock then
        if (s.recordSeq x.toNat rq).needOf x.toNat pon rq &&& ((s.recordSeq x.toNat rq).rightsOf x.toNat ((s.slot x.toNat pon).link.toNat / 64 % 64) rq.req.pav).toNat ≠
            (s.recordSeq x.toNat rq).needOf x.toNat pon rq then (s.recordSeq x.toNat rq).answer x.toNat rq .denied 0
        else if rq.req.pav ≠ (s.slot x.toNat pon).pav ∧ (s.recordSeq x.toNat rq).pavFrozen (s.slot x.toNat pon).pav then
          (s.recordSeq x.toNat rq).answer x.toNat rq .frozen 0
        else (s.recordSeq x.toNat rq).opDo x.toNat pon rq
      else if rq.req.pav ≠ (s.slot x.toNat pon).pav then (s.recordSeq x.toNat rq).answer x.toNat rq .denied 0
      else (s.recordSeq x.toNat rq).opDo x.toNat pon rq := by
  obtain ⟨hrows, hfailed, hwith, hpkg, hdie, hstn⟩ := hs
  obtain ⟨haddr, hnew, hhere, hgen⟩ := hc
  have hdone : s.isReplayDone x.toNat rq = false := by
    unfold State.isReplayDone
    rw [hnew]
    split
    · exact absurd ‹rq.who = _› (hhere _ _ _ _)
    · simp
  have hsub : ∀ b : Bool, ¬((!b) = true ∧ rq.req.gen ≠ s.gen rq.req.pav) := fun b hc => hc.2 hgen
  unfold moveFuel State.reach
  dsimp only
  rw [if_neg (by simp [hfailed]), if_neg (by simp [hwith]), if_neg (by rw [hpkg, hdie, hstn, haddr]; simp [aPkg_addrOf, aDie_addrOf]),
    State.reads_of_rowsGood hrows]
  dsimp only
  rw [if_neg (by decide), hdone, if_neg (by decide), if_neg (hsub _), hnew]
  simp only [hk, if_false, Bool.false_eq_true]


/-! ### From its halt to its serving station (03 R70, R78; 13 R363) -/

theorem ofNat_rHalt (r : CoreReq) : (BitVec.ofNat 4 (rHalt r)).toNat = rHalt r := by
  rw [BitVec.toNat_ofNat]
  exact Nat.mod_eq_of_lt (rHalt_lt r)

/-- A request that its halt takes comes to its serving station, with its SEQ if it is retained. -/
theorem present_serves {s : State} {op : BitVec 6} {r : CoreReq} (h : s.takes op r = true) (h0 : op ≠ 0) (h14 : op ≠ 0x14) :
    ∃ w seq, Sent s w op r ∧
      s.present op r = w.serve (rHalt r / 4) (sentOn op r seq 0) false (tget 0 (s.halt (rHalt r)).bases (rReg r)) := by
  have hsent : Sent s ((s.acc r.core r.q).counted op r) op r := sent_counted (takes_serving h).1
  rw [State.present_of_takes h, accepted_launch r h0 h14, counted_bases]
  unfold State.launch
  dsimp only
  split
  · exact ⟨_, _, hsent.modOrigin _, rfl⟩
  · exact ⟨_, 0, hsent, rfl⟩

/-- The serving station of an accepted request is in service and knows its generation. -/
theorem Sent.serves {s w : State} {op : BitVec 6} {r : CoreReq} (hw : Sent s w op r) (h : s.takes op r = true) (h0 : op ≠ 0) :
    w.flag F.REC_STAT_FAILED (rHalt r / 4) = false ∧ r.gen = w.gen r.pav := by
  have hd : rHalt r / 4 < 4 := by have := rHalt_lt r; omega
  obtain ⟨-, hgen, hfailed⟩ := takes_serving h
  rw [hw.work.flag _ _ _ (by simp only [F.REC_STAT_FAILED]; omega) (by decide) (by omega), hw.work.gen]
  exact ⟨hfailed.resolve_left h0, hgen⟩

/-- What goes to an object of this die arrives at the object's station (02 R44). -/
theorem route_local {s w : State} {rq : HReq} {x : BitVec 2} {pon : Nat} (hsu : w.su = s.su) (hsrc : s.srcOf rq.who.part = s.dieSrc)
    (ha : rq.addr = s.addrOf x.toNat pon) (hpon : pon < 16384) : w.route rq = w.reach x.toNat pon rq moveFuel := by
  have hfrom : w.srcOf rq.who.part = s.srcOf rq.who.part := by
    unfold State.srcOf State.stnId State.dieSrc
    rw [hsu]
  unfold State.route State.arrive
  rw [hfrom, hsrc, ha, if_pos (aSrc_addrOf _ _ _), aStn_addrOf, aPon_addrOf _ _ hpon, BitVec.ofNat_toNat, BitVec.setWidth_eq]
theorem route_here {s w : State} {op : BitVec 6} {r : CoreReq} {x : BitVec 2} {pon : Nat} (hw : HaltWork s w) (hsrc : s.srcOf (rPart r) = s.dieSrc)
    (hpon : pon < 16384) (seq : BitVec 8) :
    w.route (sentOn op r seq (s.addrOf x.toNat pon)) = w.reach x.toNat pon (sentOn op r seq (s.addrOf x.toNat pon)) moveFuel :=
  route_local hw.su hsrc rfl hpon

/-- A request that its halt takes and whose handle names a slot of this die comes to the slot, whatever the slot is. -/
theorem takes_arrives {s : State} {op : BitVec 6} {r : CoreReq} {x : BitVec 2} {pon : Nat} (h : s.takes op r = true) (hf : s.finds r x pon = true)
    (h0 : op ≠ 0) (h2 : op ≠ 0x02) (h14 : op ≠ 0x14) :
    ∃ u seq, Sent s u op r ∧ s.present op r = u.reach x.toNat pon (sentOn op r seq (s.addrOf x.toNat pon)) moveFuel := by
  obtain ⟨hpon, hsrc, htr⟩ := finds_translate hf
  obtain ⟨w, seq, hw, hp⟩ := present_serves h h0 h14
  obtain ⟨hfailed, hgen⟩ := hw.serves h h0
  rw [hp, serve_found h2 hfailed hgen (by rw [hw.work.translate]; exact htr)]
  split
  · have hsent := (hw.named (s.addrOf x.toNat pon)).retainReq (sentOn op r seq (s.addrOf x.toNat pon))
    exact ⟨_, seq, hsent, route_here hsent.work hsrc hpon seq⟩
  · have hsent := hw.named (s.addrOf x.toNat pon)
    exact ⟨_, seq, hsent, route_here hsent.work hsrc hpon seq⟩

/-- A handle that does not translate ends the request at the serving station, and frees it from retention (13 R363). -/
theorem serve_fails {w : State} {op : BitVec 6} {r : CoreReq} {seq : BitVec 8} {base : Word32} {st : Status}
    (hf : w.flag F.REC_STAT_FAILED (rHalt r / 4) = false) (hg : r.gen = w.gen r.pav)
    (ht : w.translate (rHalt r / 4) r.pav r.handle (rCtx r) false base = .error st) :
    w.serve (rHalt r / 4) (sentOn op r seq 0) false base =
      (w.unretain (rPart r) seq).answerFrom (.stn (BitVec.ofNat 2 (rHalt r / 4))) (sentOn op r seq 0) st 0 := by
  have ht' : w.translate (rHalt r / 4) (sentOn op r seq 0).req.pav (sentOn op r seq 0).req.handle (sentOn op r seq 0).req.ctxl false base = .error st := ht
  unfold State.serve
  dsimp only
  rw [if_neg (by simp [hf]), if_neg (by simpa [sentOn, haltReq] using hg), ht']
  rfl

/-! ### An entry of retention freed (13 R363, R368) -/

/-- `u` is `s` but for what the halt of `r` retains, messages sent and frames queued. -/
structure OriginWork (r : CoreReq) (s u : State) : Prop where
  stns : u.stns = s.stns
  prots : u.prots = s.prots
  out : u.out = s.out
  net : s.net <+: u.net
  halt : ∃ o, u.halt (rHalt r) = { s.halt (rHalt r) with orig := o }

section
variable {r : CoreReq} {s u : State}

theorem OriginWork.refl (r : CoreReq) (s : State) : OriginWork r s s := ⟨rfl, rfl, rfl, List.prefix_rfl, ⟨_, rfl⟩⟩
theorem OriginWork.emit (h : OriginWork r s u) (a b : Part) (m : Msg) : OriginWork r s (u.emit a b m) :=
  ⟨h.stns, h.prots, h.out, h.net.trans (List.prefix_append _ _), h.halt⟩
theorem OriginWork.tx (h : OriginWork r s u) (d : BitVec 9) (vc : BitVec 3) (ty : BitVec 4) (l : List (BitVec 128)) (f : Bool) : OriginWork r s (u.tx d vc ty l f) :=
  ⟨h.stns, h.prots, h.out, h.net, h.halt⟩
theorem OriginWork.modOrigin (h : OriginWork r s u) (f : Origin → Origin) : OriginWork r s (u.modOrigin (rPart r) f) := by
  obtain ⟨o, hh⟩ := h.halt
  refine ⟨h.stns, h.prots, h.out, h.net, f o, ?_⟩
  change (u.modHalt (BitVec.ofNat 4 (rHalt r)).toNat _).halt (rHalt r) = _
  rw [ofNat_rHalt, State.halt_modHalt, hh]
theorem OriginWork.stamp (h : OriginWork r s u) : OriginWork r s (u.stamp (rPart r)).2 :=
  h.modOrigin (fun o => { o with seq := (u.origin (rPart r)).seq + 1 })
theorem OriginWork.retain (h : OriginWork r s u) (e : Retained) : OriginWork r s (u.retain (rPart r) e) := h.modOrigin _

theorem OriginWork.endStream (h : OriginWork r s u) (e : Retained) (n : BitVec 8) : OriginWork r s (u.endStream (rPart r) e n) := by
  unfold State.endStream
  dsimp only
  split
  · exact (((h.modOrigin _).stamp).retain _).emit _ _ _
  · exact (((h.modOrigin _).stamp).retain _).tx _ _ _ _ _

theorem OriginWork.unretain (h : OriginWork r s u) (seq : BitVec 8) : OriginWork r s (u.unretain (rPart r) seq) := by
  unfold State.unretain
  dsimp only
  split
  · exact h
  · have hfreed := h.modOrigin (fun o => { o with ret := o.ret.filter (fun x => !(x.stamped && x.seq = seq && x.rel.isNone)) })
    split
    · split
      · exact hfreed
      · exact hfreed.endStream _ _
    · exact hfreed
end

/-! ### An answer to a queue's request (03 R75) -/

/-- A queue is answered by an acknowledgement or a completion. -/
theorem answerFrom_sentOn (s : State) (src : Part) (op : BitVec 6) (r : CoreReq) (seq : BitVec 8) (a : GAddr) (st : Status) (val : Word64) :
    s.answerFrom src (sentOn op r seq a) st val = s.emit src (rPart r)
      (if opPosted op r.ret then .ack (sentOn op r seq a) st else .compl (sentOn op r seq a) st val 0 0) := by
  by_cases hp : opPosted op r.ret = true <;> simp [State.answerFrom, sentOn, rWho, Orig.part, rPart, hp]

/-- A request answered from a station is `Answered`, whatever was sent before. -/
theorem answered_answerFrom {s v : State} {op : BitVec 6} {r : CoreReq} {x : BitVec 2} {seq : BitVec 8} {a : GAddr} {st : Status} {val : Word64}
    (hn : s.net <+: v.net) : Answered s (v.answerFrom (.stn x) (sentOn op r seq a) st val) op r x st val := by
  obtain ⟨l, hl⟩ := hn
  rw [answerFrom_sentOn]
  refine ⟨l ++ [_], sentOn op r seq a, _, by rw [State.emit, ← hl, List.append_assoc], rfl, rfl, List.mem_append_right _ (List.mem_singleton_self _),
    fun hp => if_pos hp, fun hp => ⟨0, 0, if_neg (by simp [hp])⟩⟩

theorem Answered.keep {s t : State} {op : BitVec 6} {r : CoreReq} {x : BitVec 2} {st : Status} {val : Word64} (h : Answered s.quiet t op r x st val) :
    Answered s (s.keep t) op r x st val := by
  obtain ⟨l, rq, m, hnet, hrest⟩ := h
  exact ⟨l, rq, m, by rw [State.keep_net, hnet]; rfl, hrest⟩

theorem SlotsBut.keep {s t : State} {x : BitVec 2} {ps : List Nat} (h : SlotsBut s.quiet t x ps) : SlotsBut s (s.keep t) x ps :=
  fun j m hn => (State.slot_congr _ _ (State.keep_stns _ _) j m).trans (h j m hn)

/-! ### A request that may not go on -/

section
variable {s : State} {r : CoreReq} (hh : s.hears r = true) (hq : r.q.toNat < 22) (hv : (s.wait (rHalt r) (rReg r)).v = false)
include hh hq hv

/-- A SIG of an old generation ends at the halt (11 R318). -/
theorem sig_flushed (hret : r.ret = true) (hg : r.gen ≠ s.gen r.pav) :
    ∃ t, exec (.sig r) s = .next t ∧ t.net = s.net ∧ t.stns = s.stns ∧ t.out = [.acc r.core r.q, .release r.core r.q .flushed 0] := by
  have ht : s.quiet.su.wInstr.underTest = false := State.underTest_of_hears hh
  have hp : s.quiet.present 0x01 r = (s.quiet.acc r.core r.q).releaseQ r.core r.q .flushed 0 := by
    rw [State.present_of_hears (s := s.quiet) hh hv (rejectField_none hq (by decide) (by decide)), if_pos (show r.gen ≠ s.quiet.gen r.pav from hg), hret]
    exact State.endAtHalt_blocking _ _ _ _ _
  refine ⟨_, rfl, ?_, ?_, ?_⟩
  · rw [State.keep_net, hp]
    simp
  · rw [State.keep_stns, hp]
    simp
  · rw [State.keep_out, hp, State.releaseQ_out _ _ _ _ _ (by simpa using ht), State.acc_out _ _ _ ht]
    rfl

/-- A SIG of a frozen pavilion stays on its wires, which gates its queue (11 R323). -/
theorem sig_held (hg : r.gen = s.gen r.pav) (hf : s.pavFrozen r.pav = true) : ∃ t, exec (.sig r) s = .next t ∧ t.net = s.net ∧ t.stns = s.stns ∧ t.out = [] ∧
    (t.halt (rHalt r)).heldQ = (s.halt (rHalt r)).heldQ ++ [haltReq 0x01 r] ∧ t.gateWire r.core r.q = true := by
  have ht : s.su.wInstr.underTest = false := State.underTest_of_hears hh
  have hp : s.quiet.present 0x01 r = s.quiet.modHalt (rHalt r) (fun ht => { ht with heldQ := ht.heldQ ++ [haltReq 0x01 r] }) := by
    rw [State.present_of_hears (s := s.quiet) hh hv (rejectField_none hq (by decide) (by decide)),
      if_neg (not_not_intro (show r.gen = s.quiet.gen r.pav from hg)), if_pos ⟨show s.quiet.pavFrozen r.pav = true from hf, by decide⟩, if_neg (by decide)]
  have hheld : ((s.keep (s.quiet.present 0x01 r)).halt (rHalt r)).heldQ = (s.halt (rHalt r)).heldQ ++ [haltReq 0x01 r] := by
    rw [State.halt_congr _ _ (State.keep_halts _ _), hp, State.halt_modHalt]
    rfl
  refine ⟨_, rfl, ?_, ?_, ?_, hheld, ?_⟩
  · rw [State.keep_net, hp]
    rfl
  · rw [State.keep_stns, hp]
    rfl
  · rw [State.keep_out, hp]
    rfl
  · have hany : ((s.keep (s.quiet.present 0x01 r)).halt (r.core.toNat / 16)).heldQ.any (fun x => x.core = r.core && x.qtag = r.q) = true :=
      List.any_eq_true.mpr ⟨haltReq 0x01 r, (congrArg (haltReq 0x01 r ∈ ·) hheld).mpr (List.mem_append_right _ (List.mem_singleton_self _)), by simp [haltReq]⟩
    unfold State.gateWire
    dsimp only
    rw [hany, Bool.or_true, State.keep_su, ht, decide_eq_true hq]
    rfl

/-- A SIG that finds no retention entry or SEQ stays on its wires (13 R364). -/
theorem sig_noRoom (hg : r.gen = s.gen r.pav) (hf : s.pavFrozen r.pav = false) (hstale : r.ret = true → s.staleMark (rHalt r) (rReg r) = false)
    (hfail : s.flag F.REC_STAT_FAILED (rHalt r / 4) = false) (hroom : s.room (rPart r) = false) :
    ∃ t, exec (.sig r) s = .next t ∧ t.net = s.net ∧ t.stns = s.stns ∧ t.jct = s.jct ∧ t.regs = s.regs ∧ t.out = [] ∧
      t.halt (rHalt r) = { s.halt (rHalt r) with retHeld := true } := by
  have hposted : opPosted 0x01 r.ret = !r.ret := by cases r.ret <;> decide
  have hp : s.quiet.present 0x01 r = s.quiet.modHalt (rHalt r) (fun ht => { ht with retHeld := true }) := by
    rw [State.present_of_hears (s := s.quiet) hh hv (rejectField_none hq (by decide) (by decide)),
      if_neg (not_not_intro (show r.gen = s.quiet.gen r.pav from hg)), if_neg (by simp [show s.quiet.pavFrozen r.pav = false from hf])]
    rw [if_neg (by
      rintro ⟨hblock, hmark⟩
      rw [hposted, Bool.not_not] at hblock
      exact Bool.false_ne_true ((hstale hblock).symm.trans hmark))]
    rw [if_neg (by simp [show s.quiet.flag F.REC_STAT_FAILED (rHalt r / 4) = false from hfail])]
    exact if_pos ⟨by decide, by simp [show s.quiet.room (rPart r) = false from hroom]⟩
  refine ⟨_, rfl, ?_, ?_, ?_, ?_, ?_, ?_⟩
  · rw [State.keep_net, hp]
    rfl
  · rw [State.keep_stns, hp]
    rfl
  · rw [State.keep_jct, hp]
    rfl
  · rw [State.keep_regs, hp]
    rfl
  · rw [State.keep_out, hp]
    rfl
  · rw [State.halt_congr _ _ (State.keep_halts _ _), hp, State.halt_modHalt]
    rfl
end

/-- A SIG whose handle does not translate completes with the status of the translation (02 R44). -/
theorem sig_untranslated {r : CoreReq} {st : Status} {s : State} (h : s.takes 0x01 r = true)
    (ht : s.translate (rHalt r / 4) r.pav r.handle (rCtx r) false (tget 0 (s.halt (rHalt r)).bases (rReg r)) = .error st) :
    ∃ t, exec (.sig r) s = .next t ∧ AcceptedBy s t 0x01 r ∧ t.stns = s.stns ∧ Answered s t 0x01 r (BitVec.ofNat 2 (rHalt r / 4)) st 0 := by
  obtain ⟨w, seq, hw, hp⟩ := present_serves (s := s.quiet) h (by decide) (by decide)
  obtain ⟨hfailed, hgen⟩ := hw.serves h (by decide)
  have htr : w.translate (rHalt r / 4) r.pav r.handle (rCtx r) false (tget 0 (s.quiet.halt (rHalt r)).bases (rReg r)) = .error st := by
    rw [hw.work.translate]
    exact ht
  obtain ⟨hstns, -, hout, hnet, o, hhalt⟩ := (OriginWork.refl r w).unretain seq
  rw [serve_fails hfailed hgen htr] at hp
  generalize w.unretain (rPart r) seq = u at hp hstns hout hnet hhalt
  have hans : Answered s.quiet (s.quiet.present 0x01 r) 0x01 r (BitVec.ofNat 2 (rHalt r / 4)) st 0 := by
    rw [hp]
    exact answered_answerFrom (by rw [← hw.work.net]; exact hnet)
  have hacc : AcceptedBy s.quiet (s.quiet.present 0x01 r) 0x01 r := by
    rw [hp, answerFrom_sentOn]
    obtain ⟨-, hmem, htook⟩ := hw
    refine ⟨by rw [State.emit_out, hout]; exact hmem, ?_⟩
    unfold State.wait
    rw [State.halt_congr _ _ (State.emit_halts _ _ _ _)]
    exact htook.congr (by rw [hhalt]) (by rw [hhalt]) (by rw [hhalt]; exact ⟨rfl, rfl⟩)
  refine ⟨_, rfl, hacc.keep, ?_, hans.keep⟩
  rw [State.keep_stns, hp, answerFrom_sentOn, State.emit_stns, hstns, hw.work.stns]
  rfl

/-! ### A SIG at its home station (02 R45) -/

/-- `u` is `s` as a home station may leave it: the halt of `r` is as it was but for what it retains. -/
structure HomeWork (r : CoreReq) (s u : State) : Prop where
  out : s.out <+: u.out
  net : s.net <+: u.net
  halt : ∃ o, u.halt (rHalt r) = { s.halt (rHalt r) with orig := o }

section
variable {r : CoreReq} {s u v : State}

theorem HomeWork.refl (r : CoreReq) (s : State) : HomeWork r s s := ⟨List.prefix_rfl, List.prefix_rfl, ⟨_, rfl⟩⟩
theorem HomeWork.trans (h : HomeWork r s u) (k : HomeWork r u v) : HomeWork r s v := by
  obtain ⟨ho, hn, o, hh⟩ := h
  obtain ⟨ko, kn, p, kh⟩ := k
  exact ⟨ho.trans ko, hn.trans kn, p, by rw [kh, hh]⟩
/-- What leaves every halt as it was. -/
theorem HomeWork.of_halts (ho : s.out <+: u.out) (hn : s.net <+: u.net) (hh : u.halts = s.halts) : HomeWork r s u :=
  ⟨ho, hn, _, State.halt_congr _ _ hh _⟩
theorem StationWork.homeWork {x : Nat} {ps : List Nat} (h : StationWork x ps s u) : HomeWork r s u := .of_halts h.out h.net h.halts
theorem OriginWork.homeWork (h : OriginWork r s u) : HomeWork r s u := ⟨by rw [h.out], h.net, h.halt⟩
theorem SeqWork.homeWork (h : SeqWork s u) : HomeWork r s u := by
  obtain ⟨l, hl⟩ := h.net
  exact .of_halts (by rw [h.out]) (by rw [hl]; exact List.prefix_append _ _) h.halts
theorem HomeWork.ite {c : Prop} [Decidable c] (h : HomeWork r s u) (k : HomeWork r s v) : HomeWork r s (if c then u else v) := by
  split
  · exact h
  · exact k
theorem HomeWork.answer (h : HomeWork r s u) (i : Nat) (rq : HReq) (st : Status) (val : Word64) : HomeWork r s (u.answer i rq st val) :=
  h.trans (StationWork.answer 0 [] u i rq st val).homeWork
theorem HomeWork.fault (r : CoreReq) (s : State) (c p d : Nat) : HomeWork r s (s.fault c p d) := .of_halts (by simp) (by simp) (by simp)

/-- A refused request of a queue is freed from its halt's retention (13 R363). -/
theorem refused_homeWork (s : State) (i : Nat) (op : BitVec 6) (r : CoreReq) (seq : BitVec 8) (a : GAddr) (st : Status) :
    HomeWork r s (s.refused i (sentOn op r seq a) st) := by
  have he : s.refused i (sentOn op r seq a) st = (if opRetained op then s.unretain (rPart r) seq else s).answer i (sentOn op r seq a) st 0 := rfl
  rw [he]
  split
  · exact ((OriginWork.refl r s).unretain seq).homeWork.answer _ _ _ _
  · exact (HomeWork.refl r s).answer _ _ _ _

/-- What the halt keeps of its accepted request stands whatever the home station does. -/
theorem Sent.acceptedBy {op : BitVec 6} (h : Sent s u op r) (k : HomeWork r u v) : AcceptedBy s v op r := by
  obtain ⟨-, hacc, htook⟩ := h
  obtain ⟨hout, -, o, hhalt⟩ := k
  refine ⟨hout.subset hacc, ?_⟩
  unfold State.wait
  rw [hhalt]
  exact htook
end

theorem rowsGood_congr {s u : State} (h : u.prots = s.prots) : u.rowsGood = s.rowsGood := by
  unfold State.rowsGood State.prot
  rw [h]

/-- A queue's request is no replay. -/
theorem isReplayDone_sentOn (s : State) (i : Nat) (op : BitVec 6) (r : CoreReq) (seq : BitVec 8) (a : GAddr) :
    s.isReplayDone i (sentOn op r seq a) = false := by simp [State.isReplayDone, sentOn, rWho]

/-- A SIG may be carried out, answered, held or sent on; its halt keeps what it has of it. -/
theorem reach_homeWork {s : State} (hrows : s.rowsGood = true) (i pon : Nat) (r : CoreReq) (seq : BitVec 8) (a : GAddr) (fuel : Nat) :
    HomeWork r s (s.reach i pon (sentOn 0x01 r seq a) fuel) := by
  induction fuel generalizing s i pon with
  | zero => exact (HomeWork.refl r s).answer _ _ _ _
  | succ fuel ih =>
    have hseq : HomeWork r s (s.recordSeq i (sentOn 0x01 r seq a)) := (recordSeq_seqWork _ _ _).homeWork
    have hdo : HomeWork r s ((s.recordSeq i (sentOn 0x01 r seq a)).opDo i pon (sentOn 0x01 r seq a)) :=
      hseq.trans ((StationWork.occur i _ _ _ _ _).trans (opSig_stationWork _ i pon _)).homeWork
    have hmoved : (s.occur (.stn (BitVec.ofNat 2 i)) 0x2A 1).rowsGood = true := by
      rw [rowsGood_congr (State.occur_prots _ _ _ _), hrows]
    have hocc : HomeWork r s (s.occur (.stn (BitVec.ofNat 2 i)) 0x2A 1) := (StationWork.occur 0 [] _ _ _ _).homeWork
    unfold State.reach
    dsimp only
    rw [State.reads_of_rowsGood hrows]
    dsimp only
    rw [isReplayDone_sentOn, if_neg Bool.false_ne_true, if_neg (show ¬(!true) = true from by decide), show (sentOn 0x01 r seq a).replay = false from rfl, if_neg Bool.false_ne_true]
    refine .ite (refused_homeWork _ _ _ _ _ _ _) (.ite (.of_halts List.prefix_rfl List.prefix_rfl rfl) ?_)
    refine .ite ((HomeWork.fault _ _ _ _ _).trans (refused_homeWork _ _ _ _ _ _ _)) ?_
    refine .ite (hseq.answer _ _ _ _) (.ite (hseq.answer _ _ _ _) (.ite (hocc.trans (ih hmoved _ _)) ?_))
    refine .ite (.ite (hseq.answer _ _ _ _) (.of_halts List.prefix_rfl List.prefix_rfl rfl)) (.ite (hseq.answer _ _ _ _) ?_)
    exact .ite (.ite (hseq.answer _ _ _ _) (.ite (hseq.answer _ _ _ _) hdo)) (.ite (hseq.answer _ _ _ _) hdo)

/-- A SIG that comes to a slot of this die meets the slot's own checks. -/
theorem sig_at_slot {r : CoreReq} {x : BitVec 2} {pon : Nat} {s : State} (h : s.takes 0x01 r = true) (hf : s.finds r x pon = true)
    (hs : StationServes s x) : ∃ u seq, Sent s u 0x01 r ∧ StationServes u x ∧ Comes u x pon (sentOn 0x01 r seq (s.addrOf x.toNat pon)) ∧
      s.present 0x01 r = u.reach x.toNat pon (sentOn 0x01 r seq (s.addrOf x.toNat pon)) moveFuel := by
  obtain ⟨u, seq, hu, hp⟩ := takes_arrives h hf (by decide) (by decide) (by decide)
  have haddr : u.addrOf x.toNat pon = s.addrOf x.toNat pon := by
    unfold State.addrOf
    rw [hu.work.su]
  exact ⟨u, seq, hu, hs.haltWork hu.work, ⟨haddr.symm, rfl, fun _ _ _ _ hc => Orig.noConfusion hc, (hu.serves h (by decide)).2⟩, hp⟩

/-- A request that its home answers and does not carry out leaves every slot. -/
theorem AtHome.answers {s v : State} {op : BitVec 6} {r : CoreReq} (h : AtHome s v op r) (x : BitVec 2) (seq : BitVec 8) (a : GAddr) (st : Status) :
    SlotsBut s (v.answer x.toNat (sentOn op r seq a) st 0) x [] ∧ Answered s (v.answer x.toNat (sentOn op r seq a) st 0) op r x st 0 := by
  obtain ⟨l, hl⟩ := h.net
  refine ⟨fun j m _ => ?_, ?_⟩
  · rw [State.slot_congr _ _ (State.answer_stns _ _ _ _ _)]
    exact h.slot j m
  · rw [State.answer, BitVec.ofNat_toNat, BitVec.setWidth_eq]
    exact answered_answerFrom (by rw [hl]; exact List.prefix_append _ _)

/-- A SIG at a slot that is free or retired, frozen, of another kind, or of another pavilion. -/
theorem sig_refused {r : CoreReq} {x : BitVec 2} {pon : Nat} {s : State} (h : s.takes 0x01 r = true) (hf : s.finds r x pon = true)
    (hs : StationServes s x) : AcceptedBy s (s.present 0x01 r) 0x01 r ∧
      (((s.slot x.toNat pon).kind = .free ∨ (s.slot x.toNat pon).kind = .retired) →
        SlotsBut s (s.present 0x01 r) x [] ∧ Answered s (s.present 0x01 r) 0x01 r x .unmapped 0) ∧
      ((s.slot x.toNat pon).kind ∉ [.free, .retired, .moved] → (s.slot x.toNat pon).frozen = true →
        SlotsBut s (s.present 0x01 r) x [] ∧ ∃ rq, rq.who = rWho r ∧ ((s.present 0x01 r).mem x.toNat).freezeQ = (s.mem x.toNat).freezeQ ++ [(pon, rq)]) ∧
      ((s.slot x.toNat pon).kind ∉ [.free, .retired, .moved] → (s.slot x.toNat pon).frozen = false →
        ((s.slot x.toNat pon).kind = .counter → (s.slot x.toNat pon).pav ≠ r.pav) →
        SlotsBut s (s.present 0x01 r) x [] ∧ Answered s (s.present 0x01 r) 0x01 r x .denied 0) := by
  obtain ⟨u, seq, hu, hserves, hcomes, hp⟩ := sig_at_slot h hf hs
  have hat : AtHome s (u.recordSeq x.toNat (sentOn 0x01 r seq (s.addrOf x.toNat pon))) 0x01 r := ⟨u, hu, recordSeq_seqWork _ _ _⟩
  have hans := fun st => hat.answers x seq (s.addrOf x.toNat pon) st
  have hslot := hu.work.slot x.toNat pon
  refine ⟨?_, fun hk => ?_, fun hk hz => ?_, fun hk hz hpav => ?_⟩
  · rw [hp]
    exact hu.acceptedBy (reach_homeWork hserves.rows _ _ _ _ _ _)
  · have hmoved : (u.slot x.toNat pon).kind ≠ .moved := by
      rw [hslot]
      rcases hk with hk | hk <;> rw [hk] <;> decide
    rw [hp, reach_slot hserves hcomes hmoved, hslot, if_pos hk]
    exact hans .unmapped
  · simp only [List.mem_cons, List.not_mem_nil, or_false, not_or] at hk
    obtain ⟨hfree, hretired, hmoved⟩ := hk
    rw [hp, reach_slot hserves hcomes (by rw [hslot]; exact hmoved), hslot, if_neg (by simp [hfree, hretired]), if_pos hz,
      if_neg (show ¬(sentOn 0x01 r seq (s.addrOf x.toNat pon)).req.op = 0x20 from by simp [sentOn, haltReq])]
    refine ⟨fun j m hn => ?_, sentOn 0x01 r seq (s.addrOf x.toNat pon), rfl, ?_⟩
    · have hq : StationWork x.toNat [] u (u.modMem x.toNat (fun m => { m with freezeQ := m.freezeQ ++ [(pon, sentOn 0x01 r seq (s.addrOf x.toNat pon))] })) :=
        (StationWork.refl _ _ _).modMem (fun _ => ⟨rfl, rfl⟩)
      rw [hq.slot j m hn, hu.work.slot]
    · rw [State.mem_modMem, hu.work.mem]
  · simp only [List.mem_cons, List.not_mem_nil, or_false, not_or] at hk
    obtain ⟨hfree, hretired, hmoved⟩ := hk
    rw [hp, reach_slot hserves hcomes (by rw [hslot]; exact hmoved), hslot, if_neg (by simp [hfree, hretired]), if_neg (by simp [hz])]
    by_cases hc : (s.slot x.toNat pon).kind = .counter
    · rw [if_neg (by rw [hc]; exact Bool.false_ne_true), if_neg (by rw [hc]; decide),
        if_pos (show (sentOn 0x01 r seq (s.addrOf x.toNat pon)).req.pav ≠ _ from (hpav hc).symm)]
      exact hans .denied
    · have hkind : kindAccepts (s.slot x.toNat pon).kind (sentOn 0x01 r seq (s.addrOf x.toNat pon)).req.op.toNat = false := by
        change kindAccepts (s.slot x.toNat pon).kind 0x01 = false
        revert hc hfree hretired hmoved
        cases (s.slot x.toNat pon).kind <;> decide
      rw [hkind, if_pos (by decide)]
      exact hans .denied

/-- Settles O20: the three ends at the halt, that of a handle that does not translate, and those at the slot. -/
theorem haltStatusesOfRequests : Obligations.HaltStatusesOfRequests := by
  refine ⟨fun r s hh hq hv => sig_flushed hh hq hv, fun r s hh hq hv => sig_held hh hq hv, fun r s hh hq hv => sig_noRoom hh hq hv,
    fun r st s h ht => sig_untranslated h ht, fun r x pon s h hf hfailed hwith hpkg hdie hstn => ?_⟩
  have hrows : s.rowsGood = true := State.rowsGood_of_hears (takes_queue h).1
  obtain ⟨hacc, hunmapped, hfrozen, hdenied⟩ := sig_refused (s := s.quiet) h hf ⟨hrows, hfailed, hwith, hpkg, hdie, hstn⟩
  refine ⟨_, rfl, hacc.keep, fun hk => ?_, fun hk hz => ?_, fun hk hz => ?_, fun hk hz hp => ?_⟩
  · obtain ⟨hs, ha⟩ := hunmapped hk
    exact ⟨hs.keep, ha.keep⟩
  · obtain ⟨hs, rq, hw, hq⟩ := hfrozen hk hz
    exact ⟨hs.keep, rq, hw, by rw [State.mem_congr _ _ (State.keep_stns _ _), hq]; rfl⟩
  · have hk' : (s.slot x.toNat pon).kind ∉ ([.free, .retired, .moved] : List Kind) := fun hm => hk (by
      simp only [List.mem_cons, List.not_mem_nil, or_false] at hm ⊢
      tauto)
    obtain ⟨hs, ha⟩ := hdenied hk' hz (fun hc => absurd (show (s.slot x.toNat pon).kind = .counter from hc) (fun hc => hk (by simp [hc])))
    exact ⟨hs.keep, ha.keep⟩
  · obtain ⟨hs, ha⟩ := hdenied (by rw [show (s.quiet.slot x.toNat pon).kind = .counter from hk]; decide) hz (fun _ => hp)
    exact ⟨hs.keep, ha.keep⟩

end Sys2Proof.Machine

/-! Proofs for 03: watches: registrations, cancels, notifications, refusals and retries (R82 to R85). -/

namespace Sys2Proof.Machine

/-! ### The message that a row takes -/

theorem pop_eq (s : State) (a b : Part) : ∃ n c f, s.pop a b = { s with net := n, crd := c, freed := f } := by
  unfold State.pop
  dsimp only
  split
  · exact ⟨_, _, _, rfl⟩
  · exact ⟨_, _, _, rfl⟩

/-- A row that is not its default is in the table. -/
theorem mem_of_tget_ne {α : Type} {d : α} {t : Tbl α} {n : Nat} (h : tget d t n ≠ d) : (n, tget d t n) ∈ t := by
  induction t with
  | nil => exact absurd rfl h
  | cons e t ih =>
    unfold tget at h ⊢
    split at h
    · rename_i he
      rw [if_pos he, ← he]
      exact List.mem_cons_self
    · rename_i he
      rw [if_neg he]
      exact List.mem_cons_of_mem _ (ih h)

/-! ### A registration at its object (03 R84, R85) -/

section
variable (x : Nat) (ps : List Nat) (s : State) (pon : Nat) (sub : BitVec 5) (e : Word64)

/-- A registration changes no slot and no halt. -/
theorem register_stationWork : StationWork x ps s (s.register x pon sub e) := by
  have hput : ∀ (u : State) (f : Fld) (v i : Nat), StationWork x ps s u → StationWork x ps s (u.put f v i) := fun u f v i h =>
    h.trans (.of_stns rfl rfl rfl List.prefix_rfl List.prefix_rfl rfl)
  unfold State.register
  dsimp only
  split
  · refine StationWork.trans (StationWork.trans ?_ (.occur _ _ _ _ _ _)) (.emit _ _ _ _ _ _)
    exact (StationWork.refl _ _ _).modMem (fun _ => ⟨rfl, rfl⟩)
  · split
    · exact (StationWork.refl _ _ _).modMem (fun _ => ⟨rfl, rfl⟩)
    · split
      · exact hput _ _ _ _ ((StationWork.refl _ _ _).modMem (fun _ => ⟨rfl, rfl⟩))
      · exact (hput _ _ _ _ (.refl _ _ _)).trans ((StationWork.occur _ _ _ _ _ _).trans (.emit _ _ _ _ _ _))

/-- The watch entries of a station without that of subscriber `sub` on slot `pon`. -/
def State.unwatched (s : State) (x pon : Nat) (sub : BitVec 5) : State :=
  s.modMem x (fun m => { m with watches := m.watches.filter (fun w => !(w.pon = pon && w.sub = sub)) })

theorem unwatched_watches : ((s.unwatched x pon sub).mem x).watches = (s.mem x).watches.filter (fun w => !(w.pon = pon && w.sub = sub)) := by
  rw [State.unwatched, State.mem_modMem]
theorem unwatched_stationWork : StationWork x ps s (s.unwatched x pon sub) := (StationWork.refl _ _ _).modMem (fun _ => ⟨rfl, rfl⟩)

/-- A small counter's notification has the status DONE and no word of its own. -/
theorem reachedStatus_of_plain {s : State} {x pon : Nat} (hk : (s.slot x pon).kind ≠ .foldCounter) (n : Nat) : s.reachedStatus x pon n = .done :=
  if_neg (fun hc => hk hc.1)
theorem foldWord_of_plain {s : State} {x pon : Nat} (hk : (s.slot x pon).kind ≠ .foldCounter) : s.foldWord x pon = none := if_neg (fun hc => hk hc.1)

/-- The value already reached is notified at once, and no entry is kept. -/
theorem register_reached (h : e.toNat ≤ (s.slot x pon).val.toNat) (hk : (s.slot x pon).kind ≠ .foldCounter) :
    s.register x pon sub e = ((s.unwatched x pon sub).occur (.stn (BitVec.ofNat 2 x)) 0x23 1).emit (.stn (BitVec.ofNat 2 x)) (Orig.part (.sub sub))
      (.notify (s.addrOf x pon) (s.slot x pon).val .done none) := by
  have hk' : ((s.unwatched x pon sub).slot x pon).kind ≠ .foldCounter := by
    rw [(unwatched_stationWork x [] s pon sub).slot x pon (fun hc => List.not_mem_nil hc.2)]
    exact hk
  unfold State.register
  dsimp only
  rw [if_pos h]
  change ((s.unwatched x pon sub).occur _ _ _).emit _ _ (.notify _ _ ((s.unwatched x pon sub).reachedStatus x pon e.toNat) ((s.unwatched x pon sub).foldWord x pon)) = _
  rw [reachedStatus_of_plain hk', foldWord_of_plain hk']
  rfl

/-- Else an entry of the subscriber holds the value, if it is admitted or there was one. -/
theorem register_watched (h : (s.slot x pon).val.toNat < e.toNat) (ha : (s.admitRow x (s.slot x pon).pav).isSome = true) :
    ∃ w ∈ ((s.register x pon sub e).mem x).watches, w.pon = pon ∧ w.sub = sub ∧ w.exp = e := by
  unfold State.register
  dsimp only
  rw [if_neg (by omega)]
  by_cases hany : (s.mem x).watches.any (fun w => w.pon = pon && w.sub = sub) = true
  · rw [if_pos hany]
    obtain ⟨w, hw, hp⟩ := List.any_eq_true.mp hany
    rw [State.mem_modMem]
    refine ⟨_, List.mem_map_of_mem hw, ?_⟩
    rw [if_pos hp]
    simp only [Bool.and_eq_true, decide_eq_true_eq] at hp
    exact ⟨hp.1, hp.2, rfl⟩
  · rw [if_neg hany]
    obtain ⟨row, hrow⟩ := Option.isSome_iff_exists.mp ha
    rw [hrow]
    dsimp only
    rw [State.watchHigh, State.mem_congr _ _ (State.put_stns _ _ _ _ _), State.mem_modMem]
    exact ⟨_, List.mem_append_right _ (List.mem_singleton_self _), rfl, rfl, rfl⟩
end

/-- Whether a row is admitted turns on the station and the pavilion's share. -/
theorem admitRow_congr {s u : State} (hs : u.stns = s.stns) (x : Nat) (p : BitVec 6) (hg : u.watchShare p = s.watchShare p) :
    u.admitRow x p = s.admitRow x p := by
  unfold State.admitRow State.rowsOf State.freeRow State.rowsRetired
  rw [hg, State.mem_congr _ _ hs, State.stn_congr _ _ hs]

/-! ### The row of a registration -/

/-- A registration of halt `h` as a station meets it. -/
def regOf (s : State) (h : BitVec 4) (a : GAddr) (e : Word64) (p : BitVec 6) : HReq :=
  ⟨⟨0x02, p, s.gen p, 0, 0, 0, false, true, false, 0, e⟩, a, .sub (BitVec.ofNat 5 h.toNat), false, none, false, none⟩

/-- A halt as a subscriber of watches. -/
theorem sub_part (h : BitVec 4) : Orig.part (.sub (BitVec.ofNat 5 h.toNat)) = .halt h := by
  revert h
  decide

theorem opDo_register {s : State} {x pon : Nat} {h : BitVec 4} {a : GAddr} {e : Word64} {p : BitVec 6} (ho : (s.slot x pon).orphan = false) (u : State) :
    s.opDo x pon (regOf u h a e p) = (s.occur (.stn (BitVec.ofNat 2 x)) 0x20 1).register x pon (BitVec.ofNat 5 h.toNat) e := by
  have hslot : (s.occur (.stn (BitVec.ofNat 2 x)) 0x20 1).slot x pon = s.slot x pon := State.slot_congr _ _ (State.occur_stns _ _ _ _) _ _
  change (s.occur (.stn (BitVec.ofNat 2 x)) 0x20 1).opWaitGe x pon (regOf u h a e p) = _
  unfold State.opWaitGe
  dsimp only [regOf]
  rw [hslot, ho]
  simp only [Bool.false_eq_true, if_false, ite_self]

/-- A request that its slot takes, of no semaphore and no lock, comes to its operation (02 R45). -/
theorem reach_taken {s : State} {x : BitVec 2} {pon : Nat} {op p : BitVec 6} {who : Option Orig} {rq : HReq} (hadm : s.admits op p x pon who = true)
    (hc : Comes s x pon rq) (hop : rq.req.op = op) (hp : rq.req.pav = p) (hk : (s.slot x.toNat pon).kind ≠ .sem ∧ (s.slot x.toNat pon).kind ≠ .glock) :
    s.reach x.toNat pon rq moveFuel = (s.recordSeq x.toNat rq).opDo x.toNat pon rq := by
  obtain ⟨hserves, hfrozen, hkind, hpav⟩ := admits_iff hadm
  obtain ⟨hsem, hglock⟩ := hk
  have hplain : (s.slot x.toNat pon).kind ≠ .free ∧ (s.slot x.toNat pon).kind ≠ .retired ∧ (s.slot x.toNat pon).kind ≠ .moved := by
    refine ⟨?_, ?_, ?_⟩ <;> (intro hk; rw [hk] at hkind; exact Bool.false_ne_true hkind)
  obtain ⟨hfree, hretired, hmoved⟩ := hplain
  rw [reach_slot hserves hc hmoved, if_neg (by simp [hfree, hretired]), if_neg (by simp [hfrozen]), hop, if_neg (by rw [hkind]; decide),
    if_neg (by simp [hsem, hglock]), hp, if_neg (not_not_intro (hpav (by simp [hsem, hglock])))]

/-- A registration by address is registered at its object's slot. -/
theorem arrive_register {s : State} {h : BitVec 4} {x : BitVec 2} {pon : Nat} {e : Word64} {p : BitVec 6} (hpon : pon < 16384)
    (hadm : s.admits 0x02 (s.slot x.toNat pon).pav x pon = true) (hp : p = (s.slot x.toNat pon).pav) (ho : (s.slot x.toNat pon).orphan = false) :
    s.arrive (regOf s h (s.addrOf x.toNat pon) e p) =
      (s.occur (.stn x) 0x20 1).register x.toNat pon (BitVec.ofNat 5 h.toNat) e := by
  obtain ⟨-, -, hkind, -⟩ := admits_iff hadm
  have hplain : (s.slot x.toNat pon).kind ≠ .sem ∧ (s.slot x.toNat pon).kind ≠ .glock := by
    refine ⟨?_, ?_⟩ <;> (intro hk; rw [hk] at hkind; exact Bool.false_ne_true hkind)
  have hcomes : Comes s x pon (regOf s h (s.addrOf x.toNat pon) e p) := ⟨rfl, rfl, fun _ _ _ _ hc => Orig.noConfusion hc, rfl⟩
  have hseq : s.recordSeq x.toNat (regOf s h (s.addrOf x.toNat pon) e p) = s := rfl
  have hx : BitVec.ofNat 2 x.toNat = x := by rw [BitVec.ofNat_toNat, BitVec.setWidth_eq]
  unfold State.arrive
  rw [show (regOf s h (s.addrOf x.toNat pon) e p).addr = s.addrOf x.toNat pon from rfl, aStn_addrOf, hx, aPon_addrOf _ _ hpon,
    reach_taken hadm hcomes rfl hp hplain, hseq, opDo_register ho, hx]

theorem exec_registration {h : BitVec 4} {x : BitVec 2} {a : GAddr} {e : Word64} {p : BitVec 6} {s : State}
    (hh : s.head? (.halt h) (.stn x) = some (.reg a e p)) :
    exec (.watchRegistration (.halt h) (.stn x)) s =
      .next (s.keep ((s.quiet.pop (.halt h) (.stn x)).arrive (regOf (s.quiet.pop (.halt h) (.stn x)) h a e p))) :=
  congrArg (fun t => Host.Outcome.next (s.keep t)) (onHead_stn (s := s.quiet) hh rfl)

/-- What a registration of halt `h` shows: a notification, or an entry (03 R84). -/
theorem registration_shows {h : BitVec 4} {x : BitVec 2} {pon : Nat} {e : Word64} {p : BitVec 6} {s : State}
    (hh : s.head? (.halt h) (.stn x) = some (.reg (s.addrOf x.toNat pon) e p)) (hpon : pon < 16384)
    (hadm : s.admits 0x02 (s.slot x.toNat pon).pav x pon = true) (hp : p = (s.slot x.toNat pon).pav) (ho : (s.slot x.toNat pon).orphan = false) :
    ∃ t, exec (.watchRegistration (.halt h) (.stn x)) s = .next t ∧ SlotsBut s t x [] ∧ t.halts = s.halts ∧
      (e.toNat ≤ (s.slot x.toNat pon).val.toNat → (s.slot x.toNat pon).kind ≠ .foldCounter →
        (⟨.stn x, .halt h, .notify (s.addrOf x.toNat pon) (s.slot x.toNat pon).val .done none⟩ : InFlight) ∈ t.net ∧
        ∀ w ∈ (t.mem x.toNat).watches, ¬(w.pon = pon ∧ w.sub = BitVec.ofNat 5 h.toNat)) ∧
      ((s.slot x.toNat pon).val.toNat < e.toNat → (s.admitRow x.toNat p).isSome = true →
        ∃ w ∈ (t.mem x.toNat).watches, w.pon = pon ∧ w.sub = BitVec.ofNat 5 h.toNat ∧ w.exp = e) := by
  have hx : BitVec.ofNat 2 x.toNat = x := by rw [BitVec.ofNat_toNat, BitVec.setWidth_eq]
  obtain ⟨n, c, f, hpop⟩ := pop_eq s.quiet (.halt h) (.stn x)
  have harrive : (s.quiet.pop (.halt h) (.stn x)).arrive (regOf (s.quiet.pop (.halt h) (.stn x)) h (s.addrOf x.toNat pon) e p) =
      ((s.quiet.pop (.halt h) (.stn x)).occur (.stn x) 0x20 1).register x.toNat pon (BitVec.ofNat 5 h.toNat) e := by
    rw [hpop]
    exact arrive_register hpon hadm hp ho
  have hexec := exec_registration hh
  rw [harrive] at hexec
  have hstns : ((s.quiet.pop (.halt h) (.stn x)).occur (.stn x) 0x20 1).stns = s.stns := by
    rw [State.occur_stns, hpop]
    rfl
  have hhalts : ((s.quiet.pop (.halt h) (.stn x)).occur (.stn x) 0x20 1).halts = s.halts := by
    rw [State.occur_halts, hpop]
    rfl
  have haddr : ((s.quiet.pop (.halt h) (.stn x)).occur (.stn x) 0x20 1).addrOf x.toNat pon = s.addrOf x.toNat pon := by
    rw [State.addrOf, State.occur_su, hpop]
    rfl
  have hshare : ((s.quiet.pop (.halt h) (.stn x)).occur (.stn x) 0x20 1).watchShare p = s.watchShare p := by
    have hr := State.occur_regsBut (s.quiet.pop (.halt h) (.stn x)) (.stn x) 0x20 1 F.SH_WATCH_SHARE 0 (p.toNat + 64)
      (key_not_counterKeys _ _ _ (by decide) (by decide) (by omega))
    rw [State.watchShare, hr, hpop]
    rfl
  generalize (s.quiet.pop (.halt h) (.stn x)).occur (.stn x) 0x20 1 = v at hexec hstns hhalts haddr hshare
  have hslot : ∀ j m, v.slot j m = s.slot j m := State.slot_congr _ _ hstns
  have hwork := register_stationWork x.toNat [] v pon (BitVec.ofNat 5 h.toNat) e
  have hkeep : ∀ t, (s.keep t).stns = t.stns := State.keep_stns s
  refine ⟨_, hexec, fun j m hn => ?_, ?_, fun hle hk => ⟨?_, ?_⟩, fun hlt ha => ?_⟩
  · rw [State.slot_congr _ _ (hkeep _), hwork.slot j m hn, hslot]
  · rw [State.keep_halts, hwork.halts, hhalts]
  · rw [State.keep_net, register_reached _ _ _ _ _ (by rw [hslot]; exact hle) (by rw [hslot]; exact hk), hx, sub_part, haddr, hslot]
    exact List.mem_append_right _ (List.mem_singleton_self _)
  · rw [State.mem_congr _ _ (hkeep _), register_reached _ _ _ _ _ (by rw [hslot]; exact hle) (by rw [hslot]; exact hk),
      State.mem_congr _ _ (State.emit_stns _ _ _ _), State.mem_congr _ _ (State.occur_stns _ _ _ _), unwatched_watches]
    intro w hw hc
    have hf := (List.mem_filter.mp hw).2
    rw [hc.1, hc.2] at hf
    simp at hf
  · rw [State.mem_congr _ _ (hkeep _)]
    exact register_watched _ _ _ _ _ (by rw [hslot]; exact hlt) (by rw [hslot, ← hp, admitRow_congr hstns _ _ hshare]; exact ha)

/-! ### The row of a cancel -/

theorem resolve_of_unmoved {s : State} {a : GAddr} (h : (s.slot (aStn a).toNat (aPon a)).kind ≠ .moved) : s.resolve a moveFuel = a := by
  unfold moveFuel State.resolve
  exact if_neg h

/-- A cancel of halt `h` frees its entry (03 R84). -/
theorem cancel_shows {h : BitVec 4} {x : BitVec 2} {pon : Nat} {s : State} (hh : s.head? (.halt h) (.stn x) = some (.cancel (s.addrOf x.toNat pon) none))
    (hpon : pon < 16384) (hk : (s.slot x.toNat pon).kind ≠ .moved) :
    ∃ t, exec (.watchCancel (.halt h) (.stn x)) s = .next t ∧ SlotsBut s t x [] ∧ t.halts = s.halts ∧
      (t.mem x.toNat).watches = (s.mem x.toNat).watches.filter (fun w => !(w.pon = pon && w.sub = BitVec.ofNat 5 h.toNat)) := by
  have hx : aStn (s.addrOf x.toNat pon) = x := by rw [aStn_addrOf, BitVec.ofNat_toNat, BitVec.setWidth_eq]
  have hp : aPon (s.addrOf x.toNat pon) = pon := aPon_addrOf _ _ hpon
  obtain ⟨n, c, f, hpop⟩ := pop_eq s.quiet (.halt h) (.stn x)
  have hres : (s.quiet.pop (.halt h) (.stn x)).resolve (s.addrOf x.toNat pon) moveFuel = s.addrOf x.toNat pon :=
    resolve_of_unmoved (by rw [hpop, hx, hp]; exact hk)
  have hexec : exec (.watchCancel (.halt h) (.stn x)) s =
      .next (s.keep ((s.quiet.pop (.halt h) (.stn x)).unwatched x.toNat pon (BitVec.ofNat 5 h.toNat))) := by
    refine congrArg (fun t => Host.Outcome.next (s.keep t)) (onHead_stn (s := s.quiet) hh ?_)
    dsimp only
    rw [hres, hx, hp]
    rfl
  have hwork := unwatched_stationWork x.toNat [] (s.quiet.pop (.halt h) (.stn x)) pon (BitVec.ofNat 5 h.toNat)
  refine ⟨_, hexec, fun j m hn => ?_, ?_, ?_⟩
  · rw [State.slot_congr _ _ (State.keep_stns _ _), hwork.slot j m hn, hpop]
    rfl
  · rw [State.keep_halts, hwork.halts, hpop]
    rfl
  · rw [State.mem_congr _ _ (State.keep_stns _ _), unwatched_watches, hpop]
    rfl

/-! ### Waits that a notification ends (03 R83) -/

/-- The waits of the registers `rs` of a halt end. -/
def State.endWaits (s : State) (h : Nat) (rs : List Nat) (st : Status) (val : Word64) : State := rs.foldl (fun s i => s.endWait h i st val) s

section
variable (h : Nat) (st : Status) (val : Word64)

theorem endWaits_haltWork (rs : List Nat) (s : State) : HaltWork s (s.endWaits h rs st val) := by
  induction rs generalizing s with
  | nil => exact .refl s
  | cons j rs ih => exact (State.endWait_haltWork s h j st val).trans (ih _)
theorem endWaits_out (rs : List Nat) (s : State) : s.out <+: (s.endWaits h rs st val).out := by
  induction rs generalizing s with
  | nil => exact List.prefix_rfl
  | cons j rs ih => exact (State.endWait_out_prefix s h j st val).trans (ih _)
theorem endWaits_wait_other {rs : List Nat} {i : Nat} (hi : i ∉ rs) (s : State) : (s.endWaits h rs st val).wait h i = s.wait h i := by
  induction rs generalizing s with
  | nil => rfl
  | cons j rs ih =>
    rw [List.mem_cons, not_or] at hi
    exact (ih hi.2 _).trans ((State.endWait_wait s h j st val i).trans (if_neg hi.1))
theorem endWaits_free {rs : List Nat} {i : Nat} (hi : i ∈ rs) (s : State) : ((s.endWaits h rs st val).wait h i).v = false := by
  induction rs generalizing s with
  | nil => exact absurd hi List.not_mem_nil
  | cons j rs ih =>
    by_cases hr : i ∈ rs
    · exact ih hr _
    · obtain rfl : i = j := (List.mem_cons.mp hi).resolve_right hr
      have hother : (s.endWaits h (i :: rs) st val).wait h i = _ := endWaits_wait_other h st val hr (s.endWait h i st val)
      rw [hother, State.endWait_wait, if_pos rfl]
      rfl

/-- Each of them that is no siding's ends with its queue's release. -/
theorem endWaits_releases {rs : List Nat} {i : Nat} {s : State} (hi : i ∈ rs) (ht : s.su.wInstr.underTest = false) (hs : (s.wait h i).sided = false) :
    .release (qCore h i) (qTag i) st (if (s.wait h i).ret ∨ (s.wait h i).op = 0x04 then val else 0) ∈ (s.endWaits h rs st val).out := by
  induction rs generalizing s with
  | nil => exact absurd hi List.not_mem_nil
  | cons j rs ih =>
    by_cases hj : i = j
    · subst hj
      refine (endWaits_out h st val rs (s.endWait h i st val)).subset ?_
      rw [State.endWait_out s h i st val ht hs]
      exact List.mem_append_right _ (List.mem_singleton_self _)
    · have hw : (s.endWait h j st val).wait h i = s.wait h i := (State.endWait_wait s h j st val i).trans (if_neg hj)
      have hrest := ih (s := s.endWait h j st val) ((List.mem_cons.mp hi).resolve_left hj) (by rw [(State.endWait_haltWork s h j st val).su]; exact ht)
        (by rw [hw]; exact hs)
      rw [hw] at hrest
      exact hrest
end

/-- What follows the ends of a halt's waits: the script wakes, and the lowest value left is registered. -/
def State.notified (s : State) (h : Nat) (a : GAddr) (st : Status) (val : Word64) (sc : Bool) : State :=
  if sc then
    let s := s.scriptWake h a st val
    if (s.halt h).waits.any (fun e => waitsOn a e.2) then s.haltReg h a false else s
  else s.haltReg h a false

section
variable (s : State) (h : Nat) (a : GAddr) (st : Status) (val : Word64)

theorem haltReg_out (c : Bool) : (s.haltReg h a c).out = s.out := by
  unfold State.haltReg
  dsimp only
  split
  · rfl
  · split <;> rfl

theorem scriptWake_waits : ((s.scriptWake h a st val).halt h).waits = (s.halt h).waits := by
  unfold State.scriptWake
  dsimp only
  rw [State.halt_congr _ _ (State.emit_halts _ _ _ _), State.halt_modHalt]

/-- The script and the watch are beside the wait registers, the stations and the outputs. -/
theorem notified_shows (sc : Bool) (i : Nat) : (s.notified h a st val sc).wait h i = s.wait h i ∧ (s.notified h a st val sc).stns = s.stns ∧
    (s.notified h a st val sc).out = s.out := by
  have hw : ∀ u : State, (u.halt h).waits = (s.halt h).waits → u.wait h i = s.wait h i := fun u hu => by
    unfold State.wait
    rw [hu]
  unfold State.notified
  dsimp only
  split
  · split
    · exact ⟨hw _ (by rw [State.halt_congr _ _ (haltReg_halts _ _ _ _), scriptWake_waits s h a st val]), haltReg_stns _ _ _ _, haltReg_out _ _ _ _⟩
    · exact ⟨hw _ (scriptWake_waits s h a st val), rfl, rfl⟩
  · exact ⟨hw _ (by rw [State.halt_congr _ _ (haltReg_halts _ _ _ _)]), haltReg_stns _ _ _ _, haltReg_out _ _ _ _⟩
end

/-- The registers whose wait on `a` a notification of value `v` ends. -/
def State.reachedWaits (s : State) (h : Nat) (a : GAddr) (v : Word64) : List Nat :=
  ((s.halt h).waits.filter (fun e => waitsOn a e.2 && decide (e.2.exp.toNat ≤ v.toNat))).map (·.1)

/-- A DONE notification ends the waits that its value reaches. -/
theorem haltNotify_done (s : State) (h : Nat) (a : GAddr) (v : Word64) (word : Option Word64) :
    ∃ sc, s.haltNotify h a v .done word = (s.endWaits h (s.reachedWaits h a v) .done (word.getD v)).notified h a .done (word.getD v) sc :=
  ⟨(scriptWaits (s.halt h) a).any (fun x => decide (x.toNat ≤ v.toNat)), rfl⟩

/-- A wait on an object is in the halt's table. -/
theorem wait_mem {s : State} {h i : Nat} {a : GAddr} (hw : waitsOn a (s.wait h i) = true) : (i, s.wait h i) ∈ (s.halt h).waits :=
  mem_of_tget_ne (d := WaitReg.init) (fun he => by
    have hw' : waitsOn a (tget WaitReg.init (s.halt h).waits i) = true := hw
    rw [he] at hw'
    exact Bool.false_ne_true hw')

theorem mem_reachedWaits {s : State} {h i : Nat} {a : GAddr} {v : Word64} (hw : waitsOn a (s.wait h i) = true) (hv : (s.wait h i).exp.toNat ≤ v.toNat) :
    i ∈ s.reachedWaits h a v := by
  refine List.mem_map.mpr ⟨_, List.mem_filter.mpr ⟨wait_mem hw, ?_⟩, rfl⟩
  rw [Bool.and_eq_true]
  exact ⟨hw, decide_eq_true hv⟩

/-- A notification at halt `h` is taken where no row is in error. -/
theorem exec_notification {src : Part} {h : BitVec 4} {a : GAddr} {v : Word64} {word : Option Word64} {s : State}
    (hh : s.head? src (.halt h) = some (.notify a v .done word)) (hg : s.rowsGood = true) :
    ∃ (u : State) (sc : Bool), exec (.notification src (.halt h)) s =
        .next (s.keep ((u.endWaits h.toNat (s.reachedWaits h.toNat a v) .done (word.getD v)).notified h.toNat a .done (word.getD v) sc)) ∧
      u.halts = s.halts ∧ u.stns = s.stns ∧ u.su = s.su := by
  obtain ⟨n, c, f, hpop⟩ := pop_eq s.quiet src (.halt h)
  obtain ⟨sc, hn⟩ := haltNotify_done ((s.quiet.pop src (.halt h)).occur (.halt h) 0x14 1) h.toNat a v word
  have hhalts : ((s.quiet.pop src (.halt h)).occur (.halt h) 0x14 1).halts = s.halts := by
    rw [State.occur_halts, hpop]
    rfl
  refine ⟨(s.quiet.pop src (.halt h)).occur (.halt h) 0x14 1, sc, ?_, hhalts, by rw [State.occur_stns, hpop]; rfl, by rw [State.occur_su, hpop]; rfl⟩
  refine congrArg (fun t => Host.Outcome.next (s.keep t)) (onHead_of_rowsGood (s := s.quiet) hg hh (congrArg some (hn.trans ?_)))
  unfold State.reachedWaits
  rw [State.halt_congr _ _ hhalts]

/-- A wait that the notified value reaches ends with its release (03 R83, R89). -/
theorem notification_ends {src : Part} {h : BitVec 4} {i : Nat} {a : GAddr} {v : Word64} {word : Option Word64} {s : State}
    (hh : s.head? src (.halt h) = some (.notify a v .done word)) (hg : s.rowsGood = true) (hw : waitsOn a (s.wait h.toNat i) = true)
    (hv : (s.wait h.toNat i).exp.toNat ≤ v.toNat) : ∃ t, exec (.notification src (.halt h)) s = .next t ∧ (t.wait h.toNat i).v = false ∧
      t.stns = s.stns ∧ (s.su.wInstr.underTest = false → (s.wait h.toNat i).sided = false →
        .release (qCore h.toNat i) (qTag i) .done (if (s.wait h.toNat i).ret then word.getD v else 0) ∈ t.out) := by
  obtain ⟨u, sc, hexec, hhalts, hstns, hsu⟩ := exec_notification hh hg
  have hi := mem_reachedWaits hw hv
  have hwait : u.wait h.toNat i = s.wait h.toNat i := State.wait_congr hhalts _ _
  obtain ⟨hnw, hns, hno⟩ := notified_shows (u.endWaits h.toNat (s.reachedWaits h.toNat a v) .done (word.getD v)) h.toNat a .done (word.getD v) sc i
  refine ⟨_, hexec, ?_, ?_, fun ht hs => ?_⟩
  · rw [State.wait_congr (State.keep_halts _ _), hnw, endWaits_free _ _ _ hi]
  · rw [State.keep_stns, hns, (endWaits_haltWork _ _ _ _ _).stns, hstns]
  · have hop : (s.wait h.toNat i).op ≠ 0x04 := fun ho => by
      unfold waitsOn at hw
      rw [ho] at hw
      simp at hw
    have hrel := endWaits_releases h.toNat .done (word.getD v) hi (s := u) (by rw [hsu]; exact ht) (by rw [hwait]; exact hs)
    rw [hwait] at hrel
    simp only [hop, or_false] at hrel
    rw [State.keep_out, hno]
    exact hrel

/-- A wait that it does not reach stands. -/
theorem notification_leaves {src : Part} {h : BitVec 4} {i : Nat} {a : GAddr} {v : Word64} {word : Option Word64} {s : State}
    (hh : s.head? src (.halt h) = some (.notify a v .done word)) (hg : s.rowsGood = true)
    (hw : ∀ e ∈ (s.halt h.toNat).waits, e.1 = i → ¬(waitsOn a e.2 = true ∧ e.2.exp.toNat ≤ v.toNat)) :
    ∃ t, exec (.notification src (.halt h)) s = .next t ∧ t.wait h.toNat i = s.wait h.toNat i := by
  obtain ⟨u, sc, hexec, hhalts, -, -⟩ := exec_notification hh hg
  have hi : i ∉ s.reachedWaits h.toNat a v := fun hm => by
    obtain ⟨e, he, hei⟩ := List.mem_map.mp hm
    obtain ⟨hmem, hhit⟩ := List.mem_filter.mp he
    rw [Bool.and_eq_true, decide_eq_true_eq] at hhit
    exact hw e hmem hei hhit
  obtain ⟨hnw, -, -⟩ := notified_shows (u.endWaits h.toNat (s.reachedWaits h.toNat a v) .done (word.getD v)) h.toNat a .done (word.getD v) sc i
  refine ⟨_, hexec, ?_⟩
  rw [State.wait_congr (State.keep_halts _ _), hnw, endWaits_wait_other _ _ _ hi, State.wait_congr hhalts]

/-! ### A refused registration and its retry (03 R85) -/

/-- The wait registers of a halt, with the mark of a refused registration set or cleared in those that wait on `a`. -/
def markRefused (a : GAddr) (b : Bool) (t : Tbl WaitReg) : Tbl WaitReg := t.map (fun e => if waitsOn a e.2 then (e.1, { e.2 with refused := b }) else e)

theorem markRefused_eq (a : GAddr) (b : Bool) (t : Tbl WaitReg) :
    markRefused a b t = t.map (fun e => (e.1, if waitsOn a e.2 then { e.2 with refused := b } else e.2)) := by
  refine List.map_congr_left (fun e _ => ?_)
  split <;> rfl
theorem tget_markRefused {a : GAddr} {t : Tbl WaitReg} {i : Nat} (b : Bool) (h : waitsOn a (tget WaitReg.init t i) = true) :
    tget WaitReg.init (markRefused a b t) i = { tget WaitReg.init t i with refused := b } := by
  rw [markRefused_eq, tget_map (f := fun w => if waitsOn a w then { w with refused := b } else w) rfl]
  exact if_pos h

/-- The marks are beside what the waits are for. -/
theorem waitsOn_markRefused (a : GAddr) (b : Bool) (t : Tbl WaitReg) :
    ((markRefused a b t).filter (fun e => waitsOn a e.2)).map (·.2.exp) = (t.filter (fun e => waitsOn a e.2)).map (·.2.exp) := by
  induction t with
  | nil => rfl
  | cons e t ih =>
    unfold markRefused at ih ⊢
    rw [List.map_cons]
    by_cases h : waitsOn a e.2 = true
    · have h' : waitsOn a { e.2 with refused := b } = true := h
      simp only [List.filter_cons, h', h, if_true, List.map_cons, ih]
    · simp only [List.filter_cons, if_neg h, ih]

/-- The marks of refused registrations on `a` at a halt, its script's with them. -/
def Halt.refusalMarked (a : GAddr) (ht : Halt) : Halt :=
  { ht with waits := markRefused a true ht.waits, scriptRefused := ht.scriptRefused || (scriptWaits ht a).isSome }
def Halt.refusalCleared (a : GAddr) (ht : Halt) : Halt :=
  { ht with waits := markRefused a false ht.waits, scriptRefused := ht.scriptRefused && (scriptWaits ht a).isNone }

theorem exec_refusal {src : Part} {h : BitVec 4} {a : GAddr} {e : Word64} {s : State} (hh : s.head? src (.halt h) = some (.refusal a e))
    (hg : s.rowsGood = true) :
    exec (.registrationRefusal src (.halt h)) s = .next (s.keep ((s.quiet.pop src (.halt h)).modHalt h.toNat (Halt.refusalMarked a))) :=
  congrArg (fun t => Host.Outcome.next (s.keep t)) (onHead_of_rowsGood (s := s.quiet) hg hh rfl)

theorem refusal_shows {src : Part} {h : BitVec 4} {a : GAddr} {e : Word64} {s : State} (hh : s.head? src (.halt h) = some (.refusal a e))
    (hg : s.rowsGood = true) : ∃ t, exec (.registrationRefusal src (.halt h)) s = .next t ∧
      t.halt h.toNat = (s.halt h.toNat).refusalMarked a ∧ t.stns = s.stns ∧ t.regs = s.regs := by
  obtain ⟨n, c, f, hpop⟩ := pop_eq s.quiet src (.halt h)
  refine ⟨_, exec_refusal hh hg, ?_, ?_, ?_⟩
  · rw [State.halt_congr _ _ (State.keep_halts _ _), State.halt_modHalt, hpop]
    rfl
  · rw [State.keep_stns, State.modHalt_stns, hpop]
    rfl
  · rw [State.keep_regs, State.modHalt_regs, hpop]
    rfl

theorem foldl_isSome {α β : Type} {f : Option α → β → Option α} (hf : ∀ m x, (f m x).isSome = true) {l : List β} (hl : l ≠ []) (m : Option α) :
    (l.foldl f m).isSome = true := by
  obtain ⟨xs, x, rfl⟩ := (List.eq_nil_or_concat' l).resolve_left hl
  rw [List.foldl_append]
  exact hf _ x

/-- A halt that waits on the object has a lowest value for it. -/
theorem haltLowest_isSome {s : State} {h : Nat} {a : GAddr} (hw : (∃ i, waitsOn a (s.wait h i) = true) ∨ (scriptWaits (s.halt h) a).isSome = true) :
    (s.haltLowest h a).isSome = true := by
  refine foldl_isSome (fun m x => by cases m <;> rfl) ?_ _
  rcases hw with ⟨i, hi⟩ | hs
  · exact List.append_ne_nil_of_left_ne_nil
      (List.ne_nil_of_mem (List.mem_map_of_mem (List.mem_filter.mpr ⟨wait_mem hi, hi⟩))) _
  · obtain ⟨v, hv⟩ := Option.isSome_iff_exists.mp hs
    rw [hv]
    exact List.append_ne_nil_of_right_ne_nil _ (List.cons_ne_nil _ _)

/-- The pavilion under which a halt registers for an object. -/
def State.regPav (s : State) (h : Nat) (a : GAddr) : BitVec 6 := (((s.halt h).waits.find? (fun e => waitsOn a e.2)).map (·.2.pav)).getD (s.scriptPav h)

theorem haltReg_lowest {s : State} {h : BitVec 4} {a : GAddr} {e : Word64} (hl : s.haltLowest h.toNat a = some e) (c : Bool) :
    s.haltReg h.toNat a c = s.emit (.halt h) (s.homePart a) (.reg a e (s.regPav h.toNat a)) := by
  unfold State.haltReg
  dsimp only
  rw [hl, BitVec.ofNat_toNat, BitVec.setWidth_eq]
  rfl

/-- A retry clears the marks and registers the lowest value again. -/
theorem retry_shows {h : BitVec 4} {a : GAddr} {s : State}
    (hm : (∃ i, waitsOn a (s.wait h.toNat i) = true ∧ (s.wait h.toNat i).refused = true) ∨
      ((s.halt h.toNat).scriptRefused = true ∧ (scriptWaits (s.halt h.toNat) a).isSome = true)) :
    ∃ t e p, exec (.watchRegistrationRetry h a) s = .next t ∧ t.halt h.toNat = (s.halt h.toNat).refusalCleared a ∧
      t.net = s.net ++ [⟨.halt h, s.homePart a, .reg a e p⟩] ∧ s.haltLowest h.toNat a = some e ∧ t.stns = s.stns ∧
      ((s.halt h.toNat).waits = [] → p = s.scriptPav h.toNat) := by
  have hcond : (s.halt h.toNat).waits.any (fun e => waitsOn a e.2 && e.2.refused) = true ∨
      ((s.halt h.toNat).scriptRefused = true ∧ (scriptWaits (s.halt h.toNat) a).isSome = true) := by
    refine hm.imp_left (fun ⟨i, hi, hr⟩ => List.any_eq_true.mpr ⟨_, wait_mem hi, ?_⟩)
    rw [Bool.and_eq_true]
    exact ⟨hi, hr⟩
  obtain ⟨e, he⟩ := Option.isSome_iff_exists.mp (haltLowest_isSome (hm.imp (fun ⟨i, hi, _⟩ => ⟨i, hi⟩) And.right))
  have hhalt : (s.quiet.modHalt h.toNat (Halt.refusalCleared a)).halt h.toNat = (s.halt h.toNat).refusalCleared a := State.halt_modHalt _ _ _
  have hlow : (s.quiet.modHalt h.toNat (Halt.refusalCleared a)).haltLowest h.toNat a = some e := by
    rw [← he]
    unfold State.haltLowest
    rw [hhalt]
    unfold Halt.refusalCleared
    dsimp only
    rw [waitsOn_markRefused]
    rfl
  have hexec : exec (.watchRegistrationRetry h a) s = .next (s.keep ((s.quiet.modHalt h.toNat (Halt.refusalCleared a)).haltReg h.toNat a false)) := by
    refine congrArg (fun t => Host.Outcome.next (s.keep t)) ?_
    exact if_pos hcond
  rw [haltReg_lowest hlow] at hexec
  refine ⟨_, e, (s.quiet.modHalt h.toNat (Halt.refusalCleared a)).regPav h.toNat a, hexec, ?_, ?_, he, ?_, fun hw => ?_⟩
  · rw [State.halt_congr _ _ (State.keep_halts _ _), State.halt_congr _ _ (State.emit_halts _ _ _ _), hhalt]
  · rw [State.keep_net]
    rfl
  · rw [State.keep_stns]
    rfl
  · unfold State.regPav State.scriptPav
    rw [hhalt, Halt.refusalCleared, hw]
    rfl

/-- Settles O34: registrations, cancels, notifications, refusals and retries, each by what its row shows. -/
theorem watchMessages : Obligations.WatchMessages := by
  refine ⟨fun h x pon e p s hh hpon hadm hp ho => registration_shows hh hpon hadm hp ho, fun h x pon s hh hpon hk => cancel_shows hh hpon hk,
    fun src h i a v word s hh hg hw hv => notification_ends hh hg hw hv, fun src h i a v word s hh hg hw => notification_leaves hh hg hw,
    fun src h i a e s hh hg hw => ?_, fun h i a s hw hr => ?_, fun src h a e s hh hg hs => ?_, fun h a s hr hs => ?_⟩
  · obtain ⟨t, ht, hhalt, hstns, hregs⟩ := refusal_shows hh hg
    refine ⟨t, ht, ?_, hstns, hregs⟩
    unfold State.wait at hw ⊢
    rw [hhalt]
    exact tget_markRefused true hw
  · obtain ⟨t, e, p, ht, hhalt, hnet, he, hstns, -⟩ := retry_shows (.inl ⟨i, hw, hr⟩)
    refine ⟨t, e, p, ht, ?_, hnet, he, hstns⟩
    unfold State.wait at hw ⊢
    rw [hhalt]
    exact tget_markRefused false hw
  · obtain ⟨t, ht, hhalt, hstns, -⟩ := refusal_shows hh hg
    refine ⟨t, ht, ?_, hstns⟩
    rw [hhalt, Halt.refusalMarked, hs, Bool.or_true]
  · obtain ⟨t, e, p, ht, hhalt, hnet, he, -, hp⟩ := retry_shows (.inr ⟨hr, hs⟩)
    refine ⟨t, e, p, ht, ?_, hnet, he, hp⟩
    rw [hhalt, Halt.refusalCleared, Option.isNone_eq_false_iff.mpr hs, Bool.and_false]

end Sys2Proof.Machine

/-! Proofs for 03: acknowledgements and completions at the halt of their queue (R75, R89; 13 R370). -/

namespace Sys2Proof.Machine

/-! ### An acknowledgement at its halt (03 R75, R76) -/

/-- A fence either waits on, or takes its failures and ends. -/
theorem fenceDone_cases (s : State) (h i : Nat) :
    s.fenceDone h i = s ∨ ∃ st, s.fenceDone h i = (s.modHalt h (Halt.failuresTaken i)).endWait h i st 0 := by
  unfold State.fenceDone
  dsimp only
  split
  · exact .inr ⟨_, rfl⟩
  · exact .inl rfl
theorem fenceDone_haltWork (s : State) (h i : Nat) : HaltWork s (s.fenceDone h i) := by
  rcases fenceDone_cases s h i with he | ⟨st, he⟩
  · rw [he]
    exact .refl s
  · rw [he]
    exact ((HaltWork.refl s).modHalt _ _).trans (State.endWait_haltWork _ _ _ _ _)
theorem fenceDone_unacked (s : State) (h i : Nat) : ((s.fenceDone h i).halt h).unacked = (s.halt h).unacked := by
  rcases fenceDone_cases s h i with he | ⟨st, he⟩
  · rw [he]
  · rw [he, State.endWait_halt, State.halt_modHalt]
    rfl

/-- One posted request of the queue at register `i` fewer is outstanding. -/
def State.ackTaken (s : State) (h i : Nat) (pav : BitVec 6) : State :=
  s.modHalt h (fun ht => { ht with unacked := tmod 0 ht.unacked i (· - 1), unackedPav := tmod 0 ht.unackedPav pav.toNat (· - 1) })

theorem haltAck_eq {s : State} {h : Nat} {c : BitVec 8} {q : BitVec 5} {p : BitVec 6} {g : BitVec 8} (st : Status) (hq : q.toNat < 24)
    (hu : tget 0 (s.halt h).unacked (waitIdx c q) ≠ 0) (hg : g = s.gen p) : s.haltAck h c q p g st =
      (if st = .done then s.ackTaken h (waitIdx c q) p else (s.ackTaken h (waitIdx c q) p).postedFail h c q st).fenceDone h (waitIdx c q) := by
  unfold State.haltAck
  dsimp only
  rw [if_neg (by omega), if_neg hu]
  exact congrArg (State.fenceDone · h (waitIdx c q)) (if_neg (not_not_intro hg))

/-- What an acknowledgement leaves of the halt: its queue's count, and the failure it tells. -/
theorem haltAck_shows {s : State} {h : Nat} {c : BitVec 8} {q : BitVec 5} {p : BitVec 6} {g : BitVec 8} (st : Status) (hh : h < 16) (hq : q.toNat < 24)
    (hu : tget 0 (s.halt h).unacked (waitIdx c q) ≠ 0) (hg : g = s.gen p) :
    tget 0 ((s.haltAck h c q p g st).halt h).unacked (waitIdx c q) = tget 0 (s.halt h).unacked (waitIdx c q) - 1 ∧ (s.haltAck h c q p g st).stns = s.stns ∧
      (st ≠ .done → (s.haltAck h c q p g st).get F.HALT_PERR_LAST h = st.code ∧
        (s.haltAck h c q p g st).get F.HALT_PERR_COUNT h = min (s.get F.HALT_PERR_COUNT h + 1) 65535) := by
  have htaken : ((s.ackTaken h (waitIdx c q) p).halt h).unacked = tmod 0 (s.halt h).unacked (waitIdx c q) (· - 1) := by
    rw [State.ackTaken, State.halt_modHalt]
  have hwork := fun u => fenceDone_haltWork u h (waitIdx c q)
  rw [haltAck_eq st hq hu hg]
  by_cases hst : st = .done
  · rw [if_pos hst, fenceDone_unacked, htaken, tget_tmod_same, (hwork _).stns]
    exact ⟨rfl, rfl, fun hne => absurd hst hne⟩
  · rw [if_neg hst, fenceDone_unacked, postedFail_halt _ _ _ _ hq, htaken, tget_tmod_same, (hwork _).stns,
      (hwork _).get _ _ _ (by simp only [F.HALT_PERR_LAST]; omega) (by decide) (by omega),
      (hwork _).get _ _ _ (by simp only [F.HALT_PERR_COUNT]; omega) (by decide) (by omega)]
    obtain ⟨-, hstns, -⟩ := (s.ackTaken h (waitIdx c q) p).endAtHalt_parts c q st h true
    have hregs : ((s.ackTaken h (waitIdx c q) p).postedFail h c q st).regs = ((s.ackTaken h (waitIdx c q) p).postedCount h c q st).regs :=
      State.endAtHalt_posted_regs _ _ _ _ _
    refine ⟨rfl, hstns, fun _ => ⟨?_, ?_⟩⟩
    · rw [State.get_congr _ _ hregs, State.postedCount_last]
    · rw [State.get_congr _ _ hregs, State.postedCount_count]
      rfl

theorem exec_postedAck {src : Part} {h : BitVec 4} {c : BitVec 8} {q : BitVec 5} {rq : HReq} {st : Status} {s : State}
    (hh : s.head? src (.halt h) = some (.ack rq st)) (hw : rq.who = .queue h c q) (hg : s.rowsGood = true) :
    exec (.postedAck src (.halt h)) s = .next (s.keep ((s.quiet.pop src (.halt h)).haltAck h.toNat c q rq.req.pav rq.req.gen st)) := by
  refine congrArg (fun t => Host.Outcome.next (s.keep t)) (onHead_of_rowsGood (s := s.quiet) hg hh ?_)
  dsimp only
  rw [hw]

theorem ack_shows {src : Part} {h : BitVec 4} {c : BitVec 8} {q : BitVec 5} {rq : HReq} {st : Status} {s : State}
    (hh : s.head? src (.halt h) = some (.ack rq st)) (hw : rq.who = .queue h c q) (hg : s.rowsGood = true) (hq : q.toNat < 24)
    (hu : tget 0 (s.halt h.toNat).unacked (waitIdx c q) ≠ 0) (hgen : rq.req.gen = s.gen rq.req.pav) :
    ∃ t, exec (.postedAck src (.halt h)) s = .next t ∧
      tget 0 (t.halt h.toNat).unacked (waitIdx c q) = tget 0 (s.halt h.toNat).unacked (waitIdx c q) - 1 ∧ t.stns = s.stns ∧
      (st ≠ .done → t.get F.HALT_PERR_LAST h.toNat = st.code ∧ t.get F.HALT_PERR_COUNT h.toNat = min (s.get F.HALT_PERR_COUNT h.toNat + 1) 65535) := by
  have hexec := exec_postedAck hh hw hg
  obtain ⟨n, cr, f, hpop⟩ := pop_eq s.quiet src (.halt h)
  rw [hpop] at hexec
  obtain ⟨hcount, hstns, hfail⟩ := haltAck_shows (s := { s.quiet with net := n, crd := cr, freed := f }) (c := c) st h.isLt hq hu hgen
  refine ⟨_, hexec, ?_, ?_, fun hne => ?_⟩
  · rw [State.halt_congr _ _ (State.keep_halts _ _), hcount]
    rfl
  · rw [State.keep_stns, hstns]
    rfl
  · obtain ⟨hlast, hc⟩ := hfail hne
    rw [State.keep_get, State.keep_get, hlast, hc]
    exact ⟨rfl, rfl⟩

/-! ### A completion at its halt (13 R370) -/

/-- A wait register is that of the request that an answer names. -/
def State.answers (s : State) (rq : HReq) (w : WaitReg) : Bool :=
  w.v && !w.stale && w.op = rq.req.op && (!w.addrV || s.sameObj w.addr rq.addr)

theorem sameObj_of_eq {s : State} {a b : GAddr} (h : a = b) : s.sameObj a b = true := by simp [State.sameObj, h]

/-- A completion as the halt takes it: the reply to a batch of one member frees its record. -/
def State.complTaken (s : State) (h : Nat) (c : BitVec 8) (q : BitVec 5) (rq : HReq) : State := if rq.req.op = 0x14 then s.singleReply h c q else s

theorem complTaken_shows (s : State) (h : Nat) (c : BitVec 8) (q : BitVec 5) (rq : HReq) :
    HaltWork s (s.complTaken h c q rq) ∧ (s.complTaken h c q rq).out = s.out ∧ ∀ i, (s.complTaken h c q rq).wait h i = s.wait h i := by
  unfold State.complTaken
  split
  · unfold State.singleReply
    split
    · refine ⟨(HaltWork.refl s).modHalt _ _, rfl, fun i => ?_⟩
      unfold State.wait
      rw [State.halt_modHalt]
    · exact ⟨.refl s, rfl, fun _ => rfl⟩
  · exact ⟨.refl s, rfl, fun _ => rfl⟩

theorem haltCompl_eq {s : State} {h : Nat} {c : BitVec 8} {q : BitVec 5} {rq : HReq} (st : Status) (val aux : Word64) (m : BitVec 9) (ho : rq.req.op ≠ 0x15) :
    s.haltCompl h c q rq st val aux m =
      match (s.complTaken h c q rq).answerReg h c q ((s.complTaken h c q rq).answers rq) with
      | some i =>
        if rq.req.op = 0x02 then ((s.complTaken h c q rq).endWait h i st val).haltReg h ((s.complTaken h c q rq).wait h i).addr false
        else (s.complTaken h c q rq).endWait h i st val
      | none => (s.complTaken h c q rq).lateAnswer h c q rq st := by
  unfold State.haltCompl
  rw [if_neg ho]
  rfl

/-- The answer to the request that the queue's own register waits for ends the wait. -/
theorem haltCompl_ends {s : State} {h : Nat} {c : BitVec 8} {q : BitVec 5} {rq : HReq} (st : Status) (val aux : Word64) (m : BitVec 9) (ho : rq.req.op ≠ 0x15)
    (hq : q.toNat < 24) (hv : (s.wait h (waitIdx c q)).v = true) (hstale : (s.wait h (waitIdx c q)).stale = false)
    (hop : (s.wait h (waitIdx c q)).op = rq.req.op) (hsided : (s.wait h (waitIdx c q)).sided = false)
    (haddr : (s.wait h (waitIdx c q)).addrV = true → (s.wait h (waitIdx c q)).addr = rq.addr) :
    ((s.haltCompl h c q rq st val aux m).wait h (waitIdx c q)).v = false ∧ (s.haltCompl h c q rq st val aux m).stns = s.stns ∧
      (s.su.wInstr.underTest = false → (s.haltCompl h c q rq st val aux m).out =
        s.out ++ [.release (qCore h (waitIdx c q)) q st (if (s.wait h (waitIdx c q)).ret = true ∨ rq.req.op = 0x04 then val else 0)]) := by
  obtain ⟨hwork, hout, hwait⟩ := complTaken_shows s h c q rq
  rw [haltCompl_eq st val aux m ho]
  generalize s.complTaken h c q rq = u at hwork hout hwait ⊢
  have hmine : u.answers rq (s.wait h (waitIdx c q)) = true := by
    simp only [State.answers, hv, hstale, hop, Bool.and_eq_true, Bool.or_eq_true, Bool.not_eq_true', decide_true, Bool.not_false, and_self, true_and]
    cases hav : (s.wait h (waitIdx c q)).addrV with
    | false => exact .inl rfl
    | true => exact .inr (sameObj_of_eq (haddr hav))
  have hreg : u.answerReg h c q (u.answers rq) = some (waitIdx c q) := by
    unfold State.answerReg
    dsimp only
    rw [hwait, hsided]
    exact if_pos ⟨hmine, rfl⟩
  have hfree : ((u.endWait h (waitIdx c q) st val).wait h (waitIdx c q)).v = false := by
    rw [State.endWait_wait, if_pos rfl]
    rfl
  have hrel : s.su.wInstr.underTest = false → (u.endWait h (waitIdx c q) st val).out =
      s.out ++ [.release (qCore h (waitIdx c q)) q st (if (s.wait h (waitIdx c q)).ret = true ∨ rq.req.op = 0x04 then val else 0)] := fun ht => by
    rw [State.endWait_out _ _ _ _ _ (by rw [hwork.su]; exact ht) (by rw [hwait]; exact hsided), hwait, hop, hout, qTag_waitIdx hq]
  have hstns : (u.endWait h (waitIdx c q) st val).stns = s.stns := by rw [(State.endWait_haltWork _ _ _ _ _).stns, hwork.stns]
  rw [hreg]
  dsimp only
  split
  · refine ⟨?_, by rw [haltReg_stns, hstns], fun ht => by rw [haltReg_out, hrel ht]⟩
    rw [State.wait_congr (haltReg_halts _ _ _ _), hfree]
  · exact ⟨hfree, hstns, hrel⟩

theorem exec_completion {src : Part} {h : BitVec 4} {c : BitVec 8} {q : BitVec 5} {rq : HReq} {st : Status} {v aux : Word64} {m : BitVec 9} {s : State}
    (hh : s.head? src (.halt h) = some (.compl rq st v aux m)) (hw : rq.who = .queue h c q) (hg : s.rowsGood = true) :
    exec (.completion src (.halt h)) s = .next (s.keep ((s.quiet.pop src (.halt h)).haltCompl h.toNat c q rq st v aux m)) := by
  refine congrArg (fun t => Host.Outcome.next (s.keep t)) (onHead_of_rowsGood (s := s.quiet) hg hh ?_)
  dsimp only
  rw [hw]

theorem completion_ends {src : Part} {h : BitVec 4} {c : BitVec 8} {q : BitVec 5} {rq : HReq} {st : Status} {v aux : Word64} {m : BitVec 9} {s : State}
    (hh : s.head? src (.halt h) = some (.compl rq st v aux m)) (hw : rq.who = .queue h c q) (hg : s.rowsGood = true) (ho : rq.req.op ≠ 0x15)
    (hq : q.toNat < 24) (hv : (s.wait h.toNat (waitIdx c q)).v = true) (hstale : (s.wait h.toNat (waitIdx c q)).stale = false)
    (hop : (s.wait h.toNat (waitIdx c q)).op = rq.req.op) (hsided : (s.wait h.toNat (waitIdx c q)).sided = false)
    (haddr : (s.wait h.toNat (waitIdx c q)).addrV = true → (s.wait h.toNat (waitIdx c q)).addr = rq.addr) :
    ∃ t, exec (.completion src (.halt h)) s = .next t ∧ (t.wait h.toNat (waitIdx c q)).v = false ∧ t.stns = s.stns ∧
      (s.su.wInstr.underTest = false → t.out = [.release (qCore h.toNat (waitIdx c q)) q st
        (if (s.wait h.toNat (waitIdx c q)).ret = true ∨ rq.req.op = 0x04 then v else 0)]) := by
  have hexec := exec_completion hh hw hg
  obtain ⟨n, cr, f, hpop⟩ := pop_eq s.quiet src (.halt h)
  rw [hpop] at hexec
  obtain ⟨hfree, hstns, hrel⟩ := haltCompl_ends (s := { s.quiet with net := n, crd := cr, freed := f }) st v aux m ho hq hv hstale hop hsided haddr
  refine ⟨_, hexec, ?_, ?_, fun ht => ?_⟩
  · rw [State.wait_congr (State.keep_halts _ _), hfree]
  · rw [State.keep_stns, hstns]
    rfl
  · rw [State.keep_out, hrel ht]
    rfl

/-! ### An answer that no register waits for (11 R319, R320) -/

/-- An answer that is late is counted, and at most a mark of STALE goes. -/
theorem lateAnswer_shows {s : State} {h : Nat} {c : BitVec 8} {q : BitVec 5} {rq : HReq} (st : Status) (ho : rq.req.op ≠ 0x14) :
    (s.lateAnswer h c q rq st).out = s.out ∧ (s.lateAnswer h c q rq st).stns = s.stns ∧
      (s.lateAnswer h c q rq st).regs = (s.bump F.PAV_LATE_COUNT 0 rq.req.pav.toNat).regs ∧
      ((s.wait h (waitIdx c q)).stale = true → (s.wait h (waitIdx c q)).op = rq.req.op →
        ((s.wait h (waitIdx c q)).addrV = true → (s.wait h (waitIdx c q)).addr = rq.addr) →
        ((s.lateAnswer h c q rq st).wait h (waitIdx c q)).stale = false) := by
  unfold State.lateAnswer
  dsimp only
  rw [if_neg (fun hc => ho hc.1)]
  generalize hu : s.bump F.PAV_LATE_COUNT 0 rq.req.pav.toNat = u
  have hwait : u.wait h (waitIdx c q) = s.wait h (waitIdx c q) := by
    rw [← hu]
    rfl
  have hparts : u.out = s.out ∧ u.stns = s.stns := by
    rw [← hu]
    exact ⟨rfl, rfl⟩
  have hmine : (s.wait h (waitIdx c q)).stale = true → (s.wait h (waitIdx c q)).op = rq.req.op →
      ((s.wait h (waitIdx c q)).addrV = true → (s.wait h (waitIdx c q)).addr = rq.addr) →
      ((u.wait h (waitIdx c q)).stale && (u.wait h (waitIdx c q)).op = rq.req.op &&
        (!(u.wait h (waitIdx c q)).addrV || u.sameObj (u.wait h (waitIdx c q)).addr rq.addr)) = true := fun hs hop haddr => by
    rw [hwait]
    simp only [hs, hop, Bool.and_eq_true, Bool.or_eq_true, Bool.not_eq_true', decide_true, and_self, true_and]
    cases hav : (s.wait h (waitIdx c q)).addrV with
    | false => exact .inl rfl
    | true => exact .inr (sameObj_of_eq (haddr hav))
  split
  · rename_i j hj
    refine ⟨hparts.1, hparts.2, rfl, fun hs hop haddr => ?_⟩
    rw [List.find?_cons_of_pos (by rw [hmine hs hop haddr]; simp)] at hj
    rw [← Option.some.inj hj, State.wait_modWait]
  · rename_i hnone
    refine ⟨hparts.1, hparts.2, rfl, fun hs hop haddr => ?_⟩
    rw [List.find?_cons_of_pos (by rw [hmine hs hop haddr]; simp)] at hnone
    cases hnone

theorem wait_free_of_table {s : State} {h : Nat} (hf : ∀ e ∈ (s.halt h).waits, e.2.v = false) (i : Nat) : (s.wait h i).v = false := by
  by_cases he : s.wait h i = WaitReg.init
  · rw [he]
    rfl
  · exact hf _ (mem_of_tget_ne he)

theorem completion_late {src : Part} {h : BitVec 4} {c : BitVec 8} {q : BitVec 5} {rq : HReq} {st : Status} {v aux : Word64} {m : BitVec 9} {s : State}
    (hh : s.head? src (.halt h) = some (.compl rq st v aux m)) (hw : rq.who = .queue h c q) (hg : s.rowsGood = true) (ho : rq.req.op ≠ 0x15)
    (ho' : rq.req.op ≠ 0x14) (hf : ∀ e ∈ (s.halt h.toNat).waits, e.2.v = false) : ∃ t, exec (.completion src (.halt h)) s = .next t ∧ t.out = [] ∧ t.stns = s.stns ∧
      t.get F.PAV_LATE_COUNT 0 rq.req.pav.toNat = min (s.get F.PAV_LATE_COUNT 0 rq.req.pav.toNat + 1) (2 ^ F.PAV_LATE_COUNT.len - 1) ∧
      ((s.wait h.toNat (waitIdx c q)).stale = true → (s.wait h.toNat (waitIdx c q)).op = rq.req.op →
        ((s.wait h.toNat (waitIdx c q)).addrV = true → (s.wait h.toNat (waitIdx c q)).addr = rq.addr) → (t.wait h.toNat (waitIdx c q)).stale = false) := by
  have hexec := exec_completion hh hw hg
  obtain ⟨n, cr, f, hpop⟩ := pop_eq s.quiet src (.halt h)
  rw [hpop] at hexec
  have hlate : ({ s.quiet with net := n, crd := cr, freed := f } : State).haltCompl h.toNat c q rq st v aux m =
      ({ s.quiet with net := n, crd := cr, freed := f } : State).lateAnswer h.toNat c q rq st := by
    have hnone : ∀ i, ({ s.quiet with net := n, crd := cr, freed := f } : State).answers rq (s.wait h.toNat i) = false := fun i => by
      simp [State.answers, wait_free_of_table hf i]
    have hreg : ({ s.quiet with net := n, crd := cr, freed := f } : State).answerReg h.toNat c q (({ s.quiet with net := n, crd := cr, freed := f } : State).answers rq) = none := by
      unfold State.answerReg
      dsimp only
      rw [if_neg (fun hc => Bool.false_ne_true ((hnone _).symm.trans hc.1))]
      refine List.find?_eq_none.mpr (fun j _ => ?_)
      rw [show ({ s.quiet with net := n, crd := cr, freed := f } : State).wait h.toNat j = s.wait h.toNat j from rfl, hnone, Bool.and_false]
      exact Bool.false_ne_true
    rw [haltCompl_eq st v aux m ho, State.complTaken, if_neg ho', hreg]
  rw [hlate] at hexec
  obtain ⟨hout, hstns, hregs, hstale⟩ := lateAnswer_shows (s := { s.quiet with net := n, crd := cr, freed := f }) (h := h.toNat) (c := c) (q := q) st ho'
  refine ⟨_, hexec, ?_, ?_, ?_, fun hs hop haddr => ?_⟩
  · rw [State.keep_out, hout]
    rfl
  · rw [State.keep_stns, hstns]
    rfl
  · rw [State.keep_get, State.get_congr _ _ hregs, State.get_bump]
    rfl
  · rw [State.wait_congr (State.keep_halts _ _), hstale hs hop haddr]

/-! ### The reply to a ticket batch (07 R201) -/

/-- One member of a batch has its tickets, from `t` on past those of the members before it, or its answer is late. -/
def State.memberReply (h : Nat) (rq : HReq) (st : Status) (t : Word64) (mods : BitVec 9) (acc : State × Nat) (m : BitVec 8 × BitVec 5 × Word32) : State × Nat :=
  let s := acc.1
  let j := waitIdx m.1 m.2.1
  let w := s.wait h j
  let s := if w.v ∧ !w.stale ∧ w.op = 0x14 then
      s.endWait h j st (if st = .done then tickOffset (mods.toNat % 32) (mods.toNat / 32) (t.toNat + acc.2) else 0)
    else
      let s := (s.bump F.PAV_LATE_COUNT 0 rq.req.pav.toNat).bump F.HALT_TICK_LOST h
      if w.stale then s.modWait h j (fun w => { w with stale := false }) else s
  (s, acc.2 + m.2.2.toNat)

/-- The record `n` of a batch is free. -/
def State.recordFreed (s : State) (h n : Nat) : State := s.modHalt h (fun ht => { ht with batches := tset Batch.init ht.batches n Batch.init })

theorem batchReply_eq {s : State} {h n : Nat} {rq : HReq} (st : Status) (t : Word64) (mods : BitVec 9) (hb : s.batchOf h rq.req.core rq.req.qtag false = some n) :
    s.batchReply h rq st t mods =
      ((tget Batch.init (s.halt h).batches n).members.foldl (State.memberReply h rq st t mods) (s.recordFreed h n, 0)).1 := by
  unfold State.batchReply
  rw [hb]
  rfl

/-- A wait register as a batch's reply may leave it: as it was, ended, or without its mark of STALE. -/
def WaitReg.RepliedTo (w w' : WaitReg) : Prop := w' = w ∨ w' = w.ended ∨ w' = { w with stale := false }

theorem WaitReg.RepliedTo.keeps {w w' : WaitReg} (h : w.RepliedTo w') (hs : w.stale = false) (ho : w.op = 0x14) :
    w'.stale = false ∧ w'.op = 0x14 ∧ (w.v = false → w'.v = false) := by
  rcases h with rfl | rfl | rfl
  · exact ⟨hs, ho, id⟩
  · exact ⟨hs, ho, fun _ => rfl⟩
  · exact ⟨rfl, ho, id⟩

section
variable (h : Nat) (rq : HReq) (st : Status) (t : Word64) (mods : BitVec 9)

/-- A member's reply is at its own wait register, and in registers that count. -/
theorem memberReply_shows (acc : State × Nat) (m : BitVec 8 × BitVec 5 × Word32) :
    (State.memberReply h rq st t mods acc m).1.stns = acc.1.stns ∧
      ((State.memberReply h rq st t mods acc m).1.halt h).batches = (acc.1.halt h).batches ∧
      (∀ i, (acc.1.wait h i).RepliedTo ((State.memberReply h rq st t mods acc m).1.wait h i)) ∧
      ((acc.1.wait h (waitIdx m.1 m.2.1)).stale = false → (acc.1.wait h (waitIdx m.1 m.2.1)).op = 0x14 →
        ((State.memberReply h rq st t mods acc m).1.wait h (waitIdx m.1 m.2.1)).v = false) := by
  unfold State.memberReply
  dsimp only
  split
  case isTrue =>
    refine ⟨(State.endWait_haltWork _ _ _ _ _).stns, by rw [State.endWait_halt], fun i => ?_, fun _ _ => ?_⟩
    · rw [State.endWait_wait]
      split
      · rename_i hi
        exact .inr (.inl (by rw [hi]))
      · exact .inl rfl
    · rw [State.endWait_wait, if_pos rfl]
      rfl
  case isFalse hlive =>
    have hfree : (acc.1.wait h (waitIdx m.1 m.2.1)).stale = false → (acc.1.wait h (waitIdx m.1 m.2.1)).op = 0x14 →
        (acc.1.wait h (waitIdx m.1 m.2.1)).v = false := fun hs ho => by
      rw [hs, ho] at hlive
      simpa using hlive
    generalize hu : (acc.1.bump F.PAV_LATE_COUNT 0 rq.req.pav.toNat).bump F.HALT_TICK_LOST h = u
    have hstns : u.stns = acc.1.stns := by
      rw [← hu]
      rfl
    have hhalts : u.halts = acc.1.halts := by
      rw [← hu]
      rfl
    split
    · rename_i hs
      refine ⟨hstns, by rw [State.modWait, State.halt_modHalt, State.halt_congr _ _ hhalts], fun i => ?_, fun hs' _ => absurd (hs'.symm.trans hs) Bool.false_ne_true⟩
      rw [State.wait_modWait_eq, State.wait_congr hhalts, State.wait_congr hhalts]
      split
      · rename_i hi
        exact .inr (.inr (by rw [hi]))
      · exact .inl rfl
    · refine ⟨hstns, by rw [State.halt_congr _ _ hhalts], fun i => .inl (State.wait_congr hhalts _ _), fun hs ho => ?_⟩
      rw [State.wait_congr hhalts]
      exact hfree hs ho

/-- After the replies of `ms` no live wait of theirs is left. -/
theorem memberReplies_shows (ms : List (BitVec 8 × BitVec 5 × Word32)) (acc : State × Nat) :
    (ms.foldl (State.memberReply h rq st t mods) acc).1.stns = acc.1.stns ∧
      ((ms.foldl (State.memberReply h rq st t mods) acc).1.halt h).batches = (acc.1.halt h).batches ∧
      ∀ i, (acc.1.wait h i).stale = false → (acc.1.wait h i).op = 0x14 → ((acc.1.wait h i).v = false ∨ ∃ b ∈ ms, waitIdx b.1 b.2.1 = i) →
        ((ms.foldl (State.memberReply h rq st t mods) acc).1.wait h i).v = false := by
  induction ms generalizing acc with
  | nil => exact ⟨rfl, rfl, fun i _ _ hv => hv.resolve_right (fun ⟨b, hb, _⟩ => List.not_mem_nil hb)⟩
  | cons m ms ih =>
    obtain ⟨hstns, hbatches, hwait, hends⟩ := memberReply_shows h rq st t mods acc m
    obtain ⟨ihstns, ihbatches, ihwait⟩ := ih (State.memberReply h rq st t mods acc m)
    refine ⟨ihstns.trans hstns, ihbatches.trans hbatches, fun i hs ho hv => ?_⟩
    obtain ⟨hs', ho', hv'⟩ := (hwait i).keeps hs ho
    refine ihwait i hs' ho' ?_
    rcases hv with hv | ⟨b, hb, hi⟩
    · exact .inl (hv' hv)
    · rcases List.mem_cons.mp hb with rfl | hb
      · exact .inl (by rw [← hi] at hs ho ⊢; exact hends hs ho)
      · exact .inr ⟨b, hb, hi⟩
end

theorem completion_batch {src : Part} {h : BitVec 4} {c : BitVec 8} {q : BitVec 5} {rq : HReq} {st : Status} {v aux : Word64} {m : BitVec 9} {n : Nat} {s : State}
    (hh : s.head? src (.halt h) = some (.compl rq st v aux m)) (hw : rq.who = .queue h c q) (hc : rq.req.core = c) (hq : rq.req.qtag = q)
    (hg : s.rowsGood = true) (ho : rq.req.op = 0x15) (hb : s.batchOf h.toNat c q false = some n) :
    ∃ t, exec (.completion src (.halt h)) s = .next t ∧ t.stns = s.stns ∧ tget Batch.init (t.halt h.toNat).batches n = Batch.init ∧
      ∀ b ∈ (tget Batch.init (s.halt h.toNat).batches n).members, (s.wait h.toNat (waitIdx b.1 b.2.1)).stale = false →
        (s.wait h.toNat (waitIdx b.1 b.2.1)).op = 0x14 → (t.wait h.toNat (waitIdx b.1 b.2.1)).v = false := by
  have hexec := exec_completion hh hw hg
  obtain ⟨k, cr, f, hpop⟩ := pop_eq s.quiet src (.halt h)
  rw [hpop, State.haltCompl, if_pos ho, batchReply_eq st aux m (by rw [hc, hq]; exact hb)] at hexec
  have hhalt : (({ s.quiet with net := k, crd := cr, freed := f } : State).recordFreed h.toNat n).halt h.toNat =
      { s.halt h.toNat with batches := tset Batch.init (s.halt h.toNat).batches n Batch.init } := State.halt_modHalt _ _ _
  have hwait : ∀ i, (({ s.quiet with net := k, crd := cr, freed := f } : State).recordFreed h.toNat n).wait h.toNat i = s.wait h.toNat i := fun i => by
    unfold State.wait
    rw [hhalt]
  have hstns : (({ s.quiet with net := k, crd := cr, freed := f } : State).recordFreed h.toNat n).stns = s.stns := rfl
  generalize ({ s.quiet with net := k, crd := cr, freed := f } : State).recordFreed h.toNat n = u at hexec hhalt hwait hstns
  obtain ⟨hfs, hfb, hfw⟩ := memberReplies_shows h.toNat rq st aux m
    (tget Batch.init (({ s.quiet with net := k, crd := cr, freed := f } : State).halt h.toNat).batches n).members (u, 0)
  refine ⟨_, hexec, ?_, ?_, fun b hmem hs hop => ?_⟩
  · rw [State.keep_stns, hfs, hstns]
  · rw [State.halt_congr _ _ (State.keep_halts _ _), hfb, hhalt]
    exact tget_tset_same Batch.init _ _ _
  · rw [State.wait_congr (State.keep_halts _ _)]
    exact hfw _ (by rw [hwait]; exact hs) (by rw [hwait]; exact hop) (.inr ⟨b, hmem, rfl⟩)

/-- Settles O35: the acknowledgement, the completion that a register waits for, the late one, and the reply to a batch. -/
theorem answersAtTheHalt : Obligations.AnswersAtTheHalt :=
  ⟨fun _ _ _ _ _ _ _ hh hw hg hq hu hgen => ack_shows hh hw hg hq hu hgen,
    fun _ _ _ _ _ _ _ _ _ _ hh hw hg ho hq hv hs hop hsided ha => completion_ends hh hw hg ho hq hv hs hop hsided ha,
    fun _ _ _ _ _ _ _ _ _ _ hh hw hg ho ho' hf => completion_late hh hw hg ho ho' hf,
    fun _ _ _ _ _ _ _ _ _ _ _ hh hw hc hq hg ho hb => completion_batch hh hw hc hq hg ho hb⟩

end Sys2Proof.Machine

/-! Proofs for 03: sidings, ages, time-outs and marks of STALE (R90, R92; 13 R378). -/

namespace Sys2Proof.Machine

/-! ### Sidings and ages (03 R90, R92) -/

/-- A wait under LUISK moves to the first siding of its core (03 R90). -/
theorem siding_shows {h : BitVec 4} {reg : BitVec 9} {s : State} (hv : (s.wait h.toNat reg.toNat).v = true) (hr : reg.toNat < 384) (hc : reg.toNat % 24 < 16)
    (hl : (s.wait h.toNat reg.toNat).luisk = true) (ho : (s.wait h.toNat reg.toNat).op ∈ [0x02, 0x09, 0x10])
    (hfree : (s.wait h.toNat (24 * (reg.toNat / 24) + 22)).v = false) (hstale : (s.wait h.toNat (24 * (reg.toNat / 24) + 22)).stale = false) :
    ∃ t, exec (.waitSiding h reg) s = .next t ∧ t.wait h.toNat reg.toNat = WaitReg.init ∧
      t.wait h.toNat (24 * (reg.toNat / 24) + 22) = { s.wait h.toNat reg.toNat with sided := true, homeQ := qTag reg.toNat } ∧ t.regs = s.regs ∧ t.stns = s.stns ∧ t.net = s.net ∧
      (s.su.wInstr.underTest = false → t.out = [.note .siding (qCore h.toNat reg.toNat) (qTag reg.toNat) (BitVec.ofNat 96 0)]) := by
  have hcond : (s.wait h.toNat reg.toNat).v = true ∧ reg.toNat < 384 ∧ reg.toNat % 24 < 16 ∧ (s.wait h.toNat reg.toNat).luisk = true ∧
      ((s.wait h.toNat reg.toNat).op = 0x02 ∨ (s.wait h.toNat reg.toNat).op = 0x09 ∨ (s.wait h.toNat reg.toNat).op = 0x10) :=
    ⟨hv, hr, hc, hl, by simpa only [List.mem_cons, List.not_mem_nil, or_false] using ho⟩
  have hfind : [24 * (reg.toNat / 24) + 22, 24 * (reg.toNat / 24) + 23].find? (fun j => !(s.quiet.wait h.toNat j).v && !(s.quiet.wait h.toNat j).stale) =
      some (24 * (reg.toNat / 24) + 22) := by
    refine List.find?_cons_of_pos ?_
    rw [show s.quiet.wait h.toNat (24 * (reg.toNat / 24) + 22) = s.wait h.toNat (24 * (reg.toNat / 24) + 22) from rfl, hfree, hstale]
    rfl
  have hne : 24 * (reg.toNat / 24) + 22 ≠ reg.toNat := by omega
  have hexec : exec (.waitSiding h reg) s = .next (s.keep (((s.quiet.modWait h.toNat (24 * (reg.toNat / 24) + 22)
      (fun _ => { s.wait h.toNat reg.toNat with sided := true, homeQ := qTag reg.toNat })).modWait h.toNat reg.toNat (fun _ => WaitReg.init)).drive
        (.note .siding (qCore h.toNat reg.toNat) (qTag reg.toNat) (BitVec.ofNat 96 ((24 * (reg.toNat / 24) + 22) % 2))))) := by
    refine congrArg (fun t => Host.Outcome.next (s.keep t)) ?_
    dsimp only
    rw [hfind]
    exact if_pos hcond
  refine ⟨_, hexec, ?_, ?_, ?_, ?_, ?_, fun ht => ?_⟩
  · rw [State.wait_congr (State.keep_halts _ _), State.wait_congr (State.drive_halts _ _), State.wait_modWait]
  · rw [State.wait_congr (State.keep_halts _ _), State.wait_congr (State.drive_halts _ _), State.wait_modWait_ne _ _ _ hne, State.wait_modWait]
  · rw [State.keep_regs, State.drive_regs]
    rfl
  · rw [State.keep_stns, State.drive_stns]
    rfl
  · rw [State.keep_net, State.drive_net]
    rfl
  · rw [State.keep_out, show (24 * (reg.toNat / 24) + 22) % 2 = 0 from by omega]
    exact State.drive_out _ _ ht

/-- A wait register after an age tick of its halt. -/
def WaitReg.aged (w : WaitReg) : WaitReg := if w.v ∧ agedByHalt w.op then { w with age := ageUp w.age } else w

/-- An age tick raises the age of every wait that the halt times (03 R92). -/
theorem haltAgeTick_shows (h : BitVec 4) (i : Nat) (s : State) : ∃ t, exec (.haltAgeTick h) s = .next t ∧ t.regs = s.regs ∧ t.stns = s.stns ∧ t.net = s.net ∧
    t.wait h.toNat i = (s.wait h.toNat i).aged := by
  refine ⟨_, rfl, ?_, ?_, ?_, ?_⟩
  · rw [State.keep_regs]
    rfl
  · rw [State.keep_stns]
    rfl
  · rw [State.keep_net]
    rfl
  · rw [State.wait_congr (State.keep_halts _ _)]
    unfold State.wait
    rw [State.halt_modHalt]
    dsimp only
    have hmap : (s.halt h.toNat).waits.map (fun e => if e.2.v ∧ agedByHalt e.2.op then (e.1, { e.2 with age := ageUp e.2.age }) else e) =
        (s.halt h.toNat).waits.map (fun e => (e.1, e.2.aged)) := by
      refine List.map_congr_left (fun e _ => ?_)
      unfold WaitReg.aged
      split <;> rfl
    exact (congrArg (tget WaitReg.init · i) hmap).trans (tget_map rfl _ _)

/-! ### Marks of STALE (11 R320, 13 R378) -/

theorem haltStaleExpiry_shows {h : BitVec 4} {reg : BitVec 9} {s : State} (hs : (s.wait h.toNat reg.toNat).stale = true) :
    ∃ t, exec (.haltStaleExpiry h reg) s = .next t ∧ t.wait h.toNat reg.toNat = { s.wait h.toNat reg.toNat with stale := false } ∧
      RegsBut s t [F.PAV_LATE_COUNT.key 0 (s.wait h.toNat reg.toNat).pav.toNat] ∧ t.get F.PAV_LATE_COUNT 0 (s.wait h.toNat reg.toNat).pav.toNat =
        min (s.get F.PAV_LATE_COUNT 0 (s.wait h.toNat reg.toNat).pav.toNat + 1) (2 ^ F.PAV_LATE_COUNT.len - 1) := by
  have hexec : exec (.haltStaleExpiry h reg) s = .next (s.keep ((s.quiet.modWait h.toNat reg.toNat (fun w => { w with stale := false })).bump
      F.PAV_LATE_COUNT 0 (s.wait h.toNat reg.toNat).pav.toNat)) :=
    congrArg (fun t => Host.Outcome.next (s.keep t)) (if_pos hs)
  refine ⟨_, hexec, ?_, ?_, ?_⟩
  · rw [State.wait_congr (State.keep_halts _ _)]
    exact State.wait_modWait s.quiet h.toNat reg.toNat (fun w => { w with stale := false })
  · refine RegsBut.congr ?_ (State.keep_regs _ _)
    refine RegsBut.bump ?_ _ _ _ _ (List.mem_singleton_self _)
    exact .of_regs rfl _
  · rw [State.keep_get, State.get_bump]
    rfl

theorem junctionStaleExpiry_shows {c : BitVec 8} {q : BitVec 5} {s : State} (ha : s.jct.remoteStale.any (fun e => e.1 = c.toNat * 32 + q.toNat) = true)
    (hn : s.jct.remoteHeld = []) : ∃ t, exec (.junctionStaleExpiry c q) s = .next t ∧
      t.jct = { s.jct with remoteStale := s.jct.remoteStale.filter (fun e => e.1 ≠ c.toNat * 32 + q.toNat) } ∧
      t.regs = s.regs ∧ t.stns = s.stns ∧ t.halts = s.halts := by
  have hexec : exec (.junctionStaleExpiry c q) s = .next (s.keep (s.quiet.modJct (fun j => { j with
      remoteStale := j.remoteStale.filter (fun e => e.1 ≠ c.toNat * 32 + q.toNat), remoteHeld := [] }))) := by
    refine congrArg (fun t => Host.Outcome.next (s.keep t)) ((if_pos ha).trans ?_)
    dsimp only
    rw [show (s.quiet.modJct (fun j => { j with remoteStale := j.remoteStale.filter (fun e => e.1 ≠ c.toNat * 32 + q.toNat) })).jct.remoteHeld = [] from hn]
    rfl
  refine ⟨_, hexec, ?_, ?_, ?_, ?_⟩
  · rw [State.keep_jct]
    exact congrArg (fun l => { s.jct with remoteStale := s.jct.remoteStale.filter (fun e => e.1 ≠ c.toNat * 32 + q.toNat), remoteHeld := l }) hn.symm
  · rw [State.keep_regs]
    rfl
  · rw [State.keep_stns]
    rfl
  · rw [State.keep_halts]
    rfl

/-! ### Census records (13 R382) -/

section
variable (s : State) (ring : Nat) (st : Status) (src : Nat) (rq : Req) (id : Nat) (a : GAddr) (age : Nat) (e : Word64) (val : Option Word64)

/-- A census record changes registers and a port's queue. -/
theorem census_eq : ∃ rs ps, s.census ring st src rq id a age e val = { s with regs := rs, ports := ps } := by
  unfold State.census
  dsimp only
  split
  · exact ⟨_, _, rfl⟩
  · exact ⟨_, _, rfl⟩

/-- With no ring the record is counted as lost. -/
theorem census_lost (h : s.get F.SC_SIZE_N 0 ring = 0) : s.census ring st src rq id a age e val = (s.bump F.SC_LOST_COUNT 0 ring).evt 0x29 6 :=
  if_pos (.inl h)
end

/-! ### A wait at its pavilion's limit (03 R92) -/

theorem haltReg_eq (s : State) (h : Nat) (a : GAddr) (c : Bool) : ∃ n, s.haltReg h a c = { s with net := n } := by
  unfold State.haltReg
  dsimp only
  split
  · exact ⟨_, rfl⟩
  · split
    · exact ⟨_, rfl⟩
    · exact ⟨_, rfl⟩

/-- A wait that is dropped ends as any wait does; a message may withdraw its watch. -/
theorem dropWait_eq (s : State) (h i : Nat) (st : Status) : ∃ n, s.dropWait h i st = { s.endWait h i st 0 with net := n } := by
  unfold State.dropWait
  dsimp only
  split
  · exact haltReg_eq _ _ _ _
  · exact ⟨_, rfl⟩

theorem HaltWork.ports {s u : State} (h : HaltWork s u) : u.ports = s.ports := by rw [h.1]

theorem exec_waitTimeout {h : BitVec 4} {reg : BitVec 9} {s : State} (hr : reg.toNat < 384) (hv : (s.wait h.toNat reg.toNat).v = true)
    (ha : agedByHalt (s.wait h.toNat reg.toNat).op = true) (hl : s.waitLimit (s.wait h.toNat reg.toNat).pav ≠ 0)
    (hle : s.waitLimit (s.wait h.toNat reg.toNat).pav ≤ (s.wait h.toNat reg.toNat).age.toNat) :
    exec (.waitTimeout h reg) s = .next (s.keep ((s.quiet.censusWait h.toNat reg.toNat .timeout).dropWait h.toNat reg.toNat .timeout)) := by
  have hcond : reg.toNat < 384 ∧ (s.wait h.toNat reg.toNat).v = true ∧ agedByHalt (s.wait h.toNat reg.toNat).op = true ∧
      s.waitLimit (s.wait h.toNat reg.toNat).pav ≠ 0 ∧ s.waitLimit (s.wait h.toNat reg.toNat).pav ≤ (s.wait h.toNat reg.toNat).age.toNat :=
    ⟨hr, hv, ha, hl, hle⟩
  exact congrArg (fun t => Host.Outcome.next (s.keep t)) ((if_neg (by omega)).trans (if_pos hcond))

theorem waitTimeout_shows {h : BitVec 4} {reg : BitVec 9} {s : State} (hr : reg.toNat < 384) (hv : (s.wait h.toNat reg.toNat).v = true)
    (ha : agedByHalt (s.wait h.toNat reg.toNat).op = true) (hl : s.waitLimit (s.wait h.toNat reg.toNat).pav ≠ 0)
    (hle : s.waitLimit (s.wait h.toNat reg.toNat).pav ≤ (s.wait h.toNat reg.toNat).age.toNat) :
    ∃ t, exec (.waitTimeout h reg) s = .next t ∧ (t.wait h.toNat reg.toNat).v = false ∧ t.stns = s.stns ∧
      (s.su.wInstr.underTest = false → (s.wait h.toNat reg.toNat).sided = false → .release (qCore h.toNat reg.toNat) (qTag reg.toNat) .timeout 0 ∈ t.out) ∧
      (s.get F.SC_SIZE_N 0 (h.toNat / 4) = 0 → t.ports = s.ports ∧ (t.get F.EVT_STAT_EVT 0x29).testBit 6 = true) := by
  have hexec := exec_waitTimeout hr hv ha hl hle
  obtain ⟨rs, ps, hc⟩ : ∃ rs ps, s.quiet.censusWait h.toNat reg.toNat .timeout = { s.quiet with regs := rs, ports := ps } := census_eq _ _ _ _ _ _ _ _ _ _
  have hlost : s.get F.SC_SIZE_N 0 (h.toNat / 4) = 0 →
      s.quiet.censusWait h.toNat reg.toNat .timeout = (s.quiet.bump F.SC_LOST_COUNT 0 (h.toNat / 4)).evt 0x29 6 := fun hz => census_lost s.quiet _ _ _ _ _ _ _ _ _ hz
  have hsu : (s.quiet.censusWait h.toNat reg.toNat .timeout).su = s.su := by rw [hc]; rfl
  have hstns : (s.quiet.censusWait h.toNat reg.toNat .timeout).stns = s.stns := by rw [hc]; rfl
  have hwait : (s.quiet.censusWait h.toNat reg.toNat .timeout).wait h.toNat reg.toNat = s.wait h.toNat reg.toNat := by rw [hc]; rfl
  generalize s.quiet.censusWait h.toNat reg.toNat .timeout = u at hexec hlost hsu hstns hwait
  obtain ⟨n, hn⟩ := dropWait_eq u h.toNat reg.toNat .timeout
  have hwork := State.endWait_haltWork u h.toNat reg.toNat .timeout 0
  rw [hn] at hexec
  refine ⟨_, hexec, ?_, ?_, fun ht hs => ?_, fun hz => ⟨?_, ?_⟩⟩
  · rw [State.wait_congr (State.keep_halts _ _)]
    change ((u.endWait h.toNat reg.toNat .timeout 0).wait h.toNat reg.toNat).v = false
    rw [State.endWait_wait, if_pos rfl]
    rfl
  · rw [State.keep_stns]
    exact hwork.stns.trans hstns
  · rw [State.keep_out]
    change _ ∈ (u.endWait h.toNat reg.toNat .timeout 0).out
    rw [State.endWait_out _ _ _ _ _ (by rw [hsu]; exact ht) (by rw [hwait]; exact hs), ite_self]
    exact List.mem_append_right _ (List.mem_singleton_self _)
  · rw [State.keep_ports]
    refine hwork.ports.trans ?_
    rw [hlost hz]
    rfl
  · rw [State.keep_get]
    change ((u.endWait h.toNat reg.toNat .timeout 0).get F.EVT_STAT_EVT 0x29).testBit 6 = true
    rw [hwork.get _ _ _ (by decide) (by decide) (by omega), hlost hz]
    exact State.evt_bit _ _ _ (by decide)

/-! ### A waiter record at its limit (05 R144) -/

/-- `u` is `s` as far as object slots and the waiter records of station `x` go. -/
def WaitersAs (x : Nat) (s u : State) : Prop := (∀ j m, u.slot j m = s.slot j m) ∧ (u.mem x).waiters = (s.mem x).waiters

section
variable {x : Nat} {s u v : State}

theorem WaitersAs.refl (x : Nat) (s : State) : WaitersAs x s s := ⟨fun _ _ => rfl, rfl⟩
theorem WaitersAs.trans (h : WaitersAs x s u) (k : WaitersAs x u v) : WaitersAs x s v := ⟨fun j m => (k.1 j m).trans (h.1 j m), k.2.trans h.2⟩
theorem WaitersAs.of_stns (x : Nat) (h : u.stns = s.stns) : WaitersAs x s u := ⟨State.slot_congr _ _ h, by rw [State.mem_congr _ _ h]⟩
theorem WaitersAs.modMem (s : State) {f : StnMem → StnMem} (hf : ∀ m, (f m).slots = m.slots ∧ (f m).waiters = m.waiters) : WaitersAs x s (s.modMem x f) :=
  ⟨fun j m => (SlotWrites.modMem s x [] (fun m => (hf m).1)).2 j m (fun hc => List.not_mem_nil hc.2), by rw [State.mem_modMem, (hf _).2]⟩
end

section
variable (x : Nat) (s : State) (pon : Nat)

theorem setEnt_waitersAs (e : SemEnt) : WaitersAs x s (s.setEnt x pon e) := by
  unfold State.setEnt
  dsimp only
  split
  · exact .modMem s (fun _ => ⟨rfl, rfl⟩)
  · exact .modMem s (fun _ => ⟨rfl, rfl⟩)
theorem revert_waitersAs : WaitersAs x s (s.revert x pon) := by
  unfold State.revert
  dsimp only
  split
  · exact .refl x s
  · refine WaitersAs.trans (.of_stns x ?_) (setEnt_waitersAs x _ pon _)
    split <;> simp
/-- Inheritance is beside slots and waiter records (05 R151, R155). -/
theorem reboost_waitersAs : WaitersAs x s (s.reboost x pon) := by
  have hset := fun e => setEnt_waitersAs x s pon e
  unfold State.reboost
  dsimp only
  split
  · split
    · exact (hset _).trans (.of_stns x (noteCount_stns _ _))
    · exact ((hset _).trans (.of_stns x (sendNote_stns _ _ _ _ _ _))).trans (setEnt_waitersAs x _ pon _)
  · split
    · exact (hset _).trans (revert_waitersAs x _ pon)
    · exact hset _
theorem dropLockWaiter_waitersAs (row : Nat) : WaitersAs x (s.dropWaiter x row) (s.dropLockWaiter x pon row) := by
  have hboost := reboost_waitersAs x (s.dropWaiter x row) pon
  unfold State.dropLockWaiter State.lockAccess
  dsimp only
  split
  · exact hboost
  · exact hboost.trans (.of_stns x (mlockWrite_stns _ _ _))
end

/-- The state with the record of `w` out of its queue. -/
def State.waiterOut (s : State) (x : Nat) (w : Waiter) : State :=
  if (s.slot x w.pon).kind = .glock ∨ (s.slot x w.pon).kind = .mlock then s.dropLockWaiter x w.pon w.row else s.dropWaiter x w.row

/-- The word that its request is answered with: for a lock the grant word, with the grants after the record has gone. -/
def State.timeoutWord (s : State) (x : Nat) (w : Waiter) : Word64 :=
  if (s.slot x w.pon).kind = .glock ∨ (s.slot x w.pon).kind = .mlock then
    grantWord .timeout false false false none (BitVec.ofNat 2 w.rq.req.operand.toNat) ((s.waiterOut x w).ent x w.pon).grants
  else 0

theorem waiterOut_waitersAs (s : State) (x : Nat) (w : Waiter) : WaitersAs x (s.dropWaiter x w.row) (s.waiterOut x w) := by
  unfold State.waiterOut
  split
  · exact dropLockWaiter_waitersAs x s w.pon w.row
  · exact .refl x _
theorem dropWaiter_slot (s : State) (x row j m : Nat) : (s.dropWaiter x row).slot j m = s.slot j m :=
  (SlotWrites.modMem s x [] (f := fun m => { m with waiters := m.waiters.filter (fun w => w.row ≠ row) }) (fun _ => rfl)).2 j m (fun hc => List.not_mem_nil hc.2)

/-- Only a semaphore, a dispenser or a ring may have a grant to make after a waiter has gone. -/
theorem waiterGone_of_plain {s : State} {x pon : Nat} (hk : (s.slot x pon).kind ∉ ([.sem, .ticket, .ring] : List Kind)) : s.waiterGone x pon = s := by
  unfold State.waiterGone
  split
  · exact absurd (by simp [*]) hk
  · exact absurd (by simp [*]) hk
  · exact absurd (by simp [*]) hk
  · rfl

/-- A waiter record at its limit goes, and its request is answered with TIMEOUT. -/
theorem waiterTimeout_shows {x : BitVec 2} {row : BitVec 13} {w : Waiter} {s : State} (hf : (s.mem x.toNat).waiters.find? (fun w => w.row = row.toNat) = some w)
    (hl : s.recordLimit w ≠ 0) (hle : s.recordLimit w ≤ w.age.toNat) (hk : (s.slot x.toNat w.pon).kind ∉ [.sem, .ticket, .ring]) (hload : w.rq.load = none)
    (hp : w.rq.posted = false) (hw : ∃ h c q, w.rq.who = .queue h c q) : ∃ t v aux m, exec (.waiterTimeout x row) s = .next t ∧
      (∀ w' ∈ (t.mem x.toNat).waiters, w'.row ≠ row.toNat) ∧ SlotsBut s t x [] ∧ (⟨.stn x, w.rq.who.part, .compl w.rq .timeout v aux m⟩ : InFlight) ∈ t.net := by
  have hrow : w.row = row.toNat := by simpa using List.find?_some hf
  obtain ⟨rs, ps, hc⟩ : ∃ rs ps, s.quiet.censusWaiter x.toNat w .timeout = { s.quiet with regs := rs, ports := ps } := census_eq _ _ _ _ _ _ _ _ _ _
  have hout := waiterOut_waitersAs (s.quiet.censusWaiter x.toNat w .timeout) x.toNat w
  have hslot : ∀ j m, ((s.quiet.censusWaiter x.toNat w .timeout).waiterOut x.toNat w).slot j m = s.slot j m := fun j m => by
    rw [hout.1, dropWaiter_slot, hc]
    rfl
  have hwaiters : (((s.quiet.censusWaiter x.toNat w .timeout).waiterOut x.toNat w).mem x.toNat).waiters = (s.mem x.toNat).waiters.filter (fun w' => w'.row ≠ w.row) := by
    rw [hout.2, State.dropWaiter, State.mem_modMem, hc]
    rfl
  have hexec : exec (.waiterTimeout x row) s = .next (s.keep ((((s.quiet.censusWaiter x.toNat w .timeout).waiterOut x.toNat w).answer x.toNat w.rq .timeout
      ((s.quiet.censusWaiter x.toNat w .timeout).timeoutWord x.toNat w)).waiterGone x.toNat w.pon)) := by
    refine congrArg (fun t => Host.Outcome.next (s.keep t)) ?_
    dsimp only
    rw [show (s.quiet.mem x.toNat).waiters.find? (fun w => w.row = row.toNat) = some w from hf]
    dsimp only
    rw [if_neg (by
      rintro (h0 | hlt)
      · exact hl h0
      · exact absurd (show w.age.toNat < s.recordLimit w from hlt) (by omega))]
    rfl
  generalize (s.quiet.censusWaiter x.toNat w .timeout).timeoutWord x.toNat w = v at hexec
  generalize (s.quiet.censusWaiter x.toNat w .timeout).waiterOut x.toNat w = u at hexec hslot hwaiters
  rw [State.answer_queue u x.toNat w.rq .timeout v hload hp hw, BitVec.ofNat_toNat, BitVec.setWidth_eq,
    waiterGone_of_plain (by rw [State.slot_congr _ _ (State.emit_stns _ _ _ _), hslot]; exact hk)] at hexec
  refine ⟨_, v, 0, 0, hexec, fun w' hmem => ?_, fun j m _ => ?_, ?_⟩
  · rw [State.mem_congr _ _ (State.keep_stns _ _), State.mem_congr _ _ (State.emit_stns _ _ _ _), hwaiters] at hmem
    rw [← hrow]
    exact of_decide_eq_true (List.mem_filter.mp hmem).2
  · rw [State.slot_congr _ _ (State.keep_stns _ _), State.slot_congr _ _ (State.emit_stns _ _ _ _), hslot]
  · rw [State.keep_net]
    exact List.mem_append_right _ (List.mem_singleton_self _)

/-- A station's age tick raises the age of every waiter record. -/
theorem stationAgeTick_shows (x : BitVec 2) (s : State) : ∃ t, exec (.stationAgeTick x) s = .next t ∧ SlotsBut s t x [] ∧ t.regs = s.regs ∧ t.halts = s.halts ∧
    (t.mem x.toNat).waiters = (s.mem x.toNat).waiters.map (fun w => { w with age := ageUp w.age }) := by
  have hwork : StationWork x.toNat [] s.quiet (s.quiet.modMem x.toNat (fun m => { m with waiters := m.waiters.map (fun w => { w with age := ageUp w.age }) })) :=
    (StationWork.refl _ _ _).modMem (fun _ => ⟨rfl, rfl⟩)
  refine ⟨_, rfl, fun j m hn => ?_, ?_, ?_, ?_⟩
  · rw [State.slot_congr _ _ (State.keep_stns _ _)]
    exact hwork.slot j m hn
  · rw [State.keep_regs]
    rfl
  · rw [State.keep_halts]
    rfl
  · rw [State.mem_congr _ _ (State.keep_stns _ _), State.mem_modMem]
    rfl

/-- Settles O36: sidings, the two age ticks, the two time-outs, and the two expiries of marks. -/
theorem haltAndWaiterTimers : Obligations.HaltAndWaiterTimers := by
  refine ⟨fun h reg s hv hr hc hl ho hf hs => siding_shows hv hr hc hl ho hf hs, fun h i s => ?_,
    fun h reg s hr hv ha hl hle => waitTimeout_shows hr hv ha hl hle, fun h reg s hs => haltStaleExpiry_shows hs,
    fun c q s ha hn => junctionStaleExpiry_shows ha hn, fun x s => stationAgeTick_shows x s,
    fun x row w s hf hl hle hk hload hp hw => waiterTimeout_shows hf hl hle hk hload hp hw⟩
  obtain ⟨t, ht, hregs, hstns, hnet, hwait⟩ := haltAgeTick_shows h i s
  refine ⟨t, ht, hregs, hstns, hnet, fun hv ha => ?_, fun hn => ?_⟩
  · rw [hwait]
    exact if_pos ⟨hv, ha⟩
  · rw [hwait]
    refine if_neg (fun hc => ?_)
    rcases hn with hn | hn
    · exact Bool.false_ne_true (hn.symm.trans hc.1)
    · exact Bool.false_ne_true (hn.symm.trans hc.2)

end Sys2Proof.Machine

/-! Proofs for 03: a WAIT_GE at a halt whose table holds its register twice (R82). -/

namespace Sys2Proof.Machine

/-! ### A wait in a shadowed row -/

/-- Queue 0 of core 0 waits for 5 at handle 0 of pavilion 0. -/
def waitForFive : CoreReq := ⟨0, 0, 0, 0, 0, false, true, 5⟩

/-- A wait on slot 0 of station 0 for the value 5. -/
def pendingFive : WaitReg := { WaitReg.init with exp := 5, addr := State.reset.addrOf 0 0, addrV := true, op := 0x02, v := true, ret := true }

/-- The block is ready and pavilion 0 has its run open, with handle 0 for slot 0 of station 0, which is FREE. The table of halt 0 holds
register 0 twice: the row that is read is free, and the one behind it holds a wait on the slot. -/
def shadowedWait : State :=
  let s := ((State.reset.put F.RUN_STAT_OPEN 1).put F.HM_WIN_SIZE_G 1).put F.HM_PW_PW 1
  let s := (s.modMem 0 (fun m => { m with hmap := [(0, 0x2000000)] })).modHalt 0 (fun ht => { ht with waits := [(0, WaitReg.init), (0, pendingFive)] })
  { s with su := { s.su with ready := true } }

/-- `shadowedWait` after the WAIT_GE. -/
def shadowedWaitAsked : State := shadowedWait.keep (shadowedWait.quiet.present 0x02 waitForFive)

/-- The halt takes the request, its handle names the slot, and 5 is the lowest value that a row of the halt waits for. -/
theorem shadowedWait_asks : shadowedWait.takes 0x02 waitForFive = true ∧ shadowedWait.finds waitForFive 0 0 = true ∧
    shadowedWait.haltLowest (rHalt waitForFive) (shadowedWait.addrOf (0 : BitVec 2).toNat 0) = some 5 := by decide +kernel

/-- The acceptance writes register 0, which takes both rows out of the table: no wait on the slot is left, and the request goes to
its home, which answers. -/
theorem shadowedWaitAsked_net : shadowedWait.net.length = 0 ∧ shadowedWaitAsked.net.length = 1 := by decide +kernel

/-- Refutes O21: its fifth clause says that a WAIT_GE whose E is no lower than one that its halt waits for on the object sends nothing.
The clause reads the halt's lowest value before the request is accepted, and it is stated for every table of wait registers. In a
table that holds the queue's own register twice (no run makes one: the model's writes keep one row for a register) the lowest value may
be that of the row behind the one that is read; acceptance removes both, and the request goes to its home as a first wait does. -/
theorem not_countersAndWaits : ¬ Obligations.CountersAndWaits := by
  unfold Obligations.CountersAndWaits
  rintro ⟨-, -, -, -, hpending, -⟩
  obtain ⟨htakes, hfinds, hlow⟩ := shadowedWait_asks
  obtain ⟨t, ht, -, -, -, -, -, hsilent, -⟩ := hpending waitForFive 0 0 5 shadowedWait htakes hfinds hlow
  obtain rfl : shadowedWaitAsked = t := Host.Outcome.next.inj ht
  obtain ⟨hbefore, hafter⟩ := shadowedWaitAsked_net
  have hsame : shadowedWaitAsked.net = shadowedWait.net := hsilent (by decide)
  rw [hsame, hbefore] at hafter
  exact absurd hafter (by decide)

end Sys2Proof.Machine

/-! Proofs for 03: signal space and context bases (R94 to R96; 16 R427, R431). -/

namespace Sys2Proof.Machine

/-! ### Context bases (16 R427, R431; 13 R376) -/

/-- A halt with the base of register `i` loaded, and asked for no longer. -/
def Halt.baseLoaded (i : Nat) (w : Word32) (ht : Halt) : Halt := { ht with bases := tset 0 ht.bases i w, asking := ht.asking.filter (· ≠ i) }

theorem not_mem_baseLoaded (i : Nat) (w : Word32) (ht : Halt) : i ∉ (ht.baseLoaded i w).asking := fun h =>
  of_decide_eq_true (List.mem_filter.mp h).2 rfl

theorem exec_contextBaseLoad {c : BitVec 8} {q : BitVec 5} (w : Word32) (s : State) (hq : q.toNat < 24) :
    exec (.contextBaseLoad c q w) s = .next (s.keep (s.quiet.modHalt (c.toNat / 16) (Halt.baseLoaded (waitIdx c q) w))) :=
  congrArg (fun t => Host.Outcome.next (s.keep t)) (if_pos hq)
theorem exec_contextBaseAnswer {c : BitVec 8} {q : BitVec 5} (w : Word32) {s : State} (hq : q.toNat < 24) (ha : waitIdx c q ∈ (s.halt (c.toNat / 16)).asking) :
    exec (.contextBaseAnswer c q w) s = .next (s.keep (s.quiet.modHalt (c.toNat / 16) (Halt.baseLoaded (waitIdx c q) w))) :=
  congrArg (fun t => Host.Outcome.next (s.keep t)) (if_pos ⟨hq, List.contains_iff_mem.mpr ha⟩)

/-- What a loaded base shows, and what it leaves. -/
theorem baseLoaded_shows (s : State) (h i : Nat) (w : Word32) :
    (s.keep (s.quiet.modHalt h (Halt.baseLoaded i w))).halt h = (s.halt h).baseLoaded i w ∧
      (∀ j, j ≠ h → (s.keep (s.quiet.modHalt h (Halt.baseLoaded i w))).halt j = s.halt j) ∧
      (s.keep (s.quiet.modHalt h (Halt.baseLoaded i w))).regs = s.regs ∧ (s.keep (s.quiet.modHalt h (Halt.baseLoaded i w))).stns = s.stns ∧
      (s.keep (s.quiet.modHalt h (Halt.baseLoaded i w))).net = s.net := by
  refine ⟨?_, fun j hj => ?_, ?_, ?_, ?_⟩
  · rw [State.halt_congr _ _ (State.keep_halts _ _), State.halt_modHalt]
    rfl
  · rw [State.halt_congr _ _ (State.keep_halts _ _), State.halt_modHalt_ne _ _ _ _ hj]
    rfl
  · rw [State.keep_regs]
    rfl
  · rw [State.keep_stns]
    rfl
  · rw [State.keep_net]
    rfl

theorem contextBaseRead_shows {c : BitVec 8} {q : BitVec 5} {s : State} (hq : q.toNat < 24) (ht : s.su.wInstr.underTest = false) :
    ∃ t, exec (.contextBaseRead c q) s = .next t ∧ t.out = [.cbData c q (tget 0 (s.halt (c.toNat / 16)).bases (waitIdx c q))] ∧ OnlyRegs s t [] := by
  have hexec : exec (.contextBaseRead c q) s =
      .next (s.keep (s.quiet.drive (.cbData c q (tget 0 (s.halt (c.toNat / 16)).bases (waitIdx c q))))) :=
    congrArg (fun t => Host.Outcome.next (s.keep t)) (if_pos hq)
  refine ⟨_, hexec, ?_, ?_, ?_⟩
  · rw [State.keep_out]
    exact State.drive_out _ _ ht
  · exact .of_regs (by simp) _
  · unfold PartsKept
    simp

theorem contextBaseAnswer_ignored {c : BitVec 8} {q : BitVec 5} (w : Word32) {s : State} (ha : waitIdx c q ∉ (s.halt (c.toNat / 16)).asking) :
    ∃ t, exec (.contextBaseAnswer c q w) s = .next t ∧ OnlyRegs s t [] := by
  have hexec : exec (.contextBaseAnswer c q w) s = .next (s.keep s.quiet) :=
    congrArg (fun t => Host.Outcome.next (s.keep t)) (if_neg (fun hc => ha (List.contains_iff_mem.mp hc.2)))
  exact ⟨_, hexec, (onlyRegs_keep_quiet s).2⟩

/-! ### An access at its halt (03 R94 to R96) -/

theorem haltStalled_false {s : State} {h : Nat} (hs : s.haltStalled h = false) : s.su.wInstr.underTest = false := by
  simp only [State.haltStalled, Bool.or_eq_false_iff, Bool.not_eq_false', State.serving, Bool.and_eq_true, Bool.not_eq_true'] at hs
  obtain ⟨⟨⟨⟨⟨-, ht⟩, -⟩, -⟩, -⟩, -⟩ := hs
  exact ht

/-- The map row of an access is read where no row is in error. -/
theorem ssRead_of_rowsGood {s : State} (h : s.rowsGood = true) (a : SsAccess) : s.ssRead a = (true, s) := by
  simp [State.ssRead, State.readMap, h]

/-- The question for the kind of an object of this die that has not moved. -/
theorem ssAsk_here {s : State} {a : SsAccess} {x : BitVec 2} {pon : Nat} (store : Bool) (hsrc : s.srcOf (.halt a.halt) = s.dieSrc)
    (htr : s.translate (a.halt.toNat / 4) (ssPav a) (ssHandle a) ((ssHandle a).toNat / 2 ^ 16 = 0xF) true 0 = .ok (s.addrOf x.toNat pon))
    (hpon : pon < 16384) (hk : (s.slot x.toNat pon).kind ≠ .moved) :
    s.ssAsk a store = (s.occur (.halt a.halt) 0x10 1).emit (.stn (BitVec.ofNat 2 (a.halt.toNat / 4))) (.halt a.halt)
      (.kind a store .done (s.addrOf x.toNat pon) (s.slot x.toNat pon).kind) := by
  have hw : HaltWork s (s.occur (.halt a.halt) 0x10 1) := (HaltWork.refl s).occur _ _ _
  have hx : aStn (s.addrOf x.toNat pon) = x := by rw [aStn_addrOf, BitVec.ofNat_toNat, BitVec.setWidth_eq]
  have hp : aPon (s.addrOf x.toNat pon) = pon := aPon_addrOf _ _ hpon
  have hfrom : (s.occur (.halt a.halt) 0x10 1).srcOf (.halt a.halt) = s.dieSrc := by
    rw [← hsrc]
    unfold State.srcOf State.stnId
    rw [hw.su]
  have hkind : (s.occur (.halt a.halt) 0x10 1).ssKindOf a (s.addrOf x.toNat pon) = ((s.slot x.toNat pon).kind, s.occur (.halt a.halt) 0x10 1) := by
    unfold State.ssKindOf
    rw [if_pos ((aSrc_addrOf _ _ _).trans hfrom.symm)]
    dsimp only
    rw [resolve_of_unmoved (by rw [hx, hp, hw.slot]; exact hk), hx, hp, hw.slot]
  unfold State.ssAsk
  dsimp only
  rw [hw.translate, htr]
  dsimp only
  rw [hkind]

/-- A load whose kind is asked for. -/
theorem load_asks {a : SsAccess} {x : BitVec 2} {pon : Nat} {s : State} (hst : s.haltStalled a.halt.toNat = false) (hg : s.rowsGood = true)
    (hsrc : s.srcOf (.halt a.halt) = s.dieSrc) (hr : s.ssRefusal a false = none)
    (htr : s.translate (a.halt.toNat / 4) (ssPav a) (ssHandle a) ((ssHandle a).toNat / 2 ^ 16 = 0xF) true 0 = .ok (s.addrOf x.toNat pon))
    (hpon : pon < 16384) (hk : (s.slot x.toNat pon).kind ≠ .moved) : ∃ t, exec (.signalSpaceLoad a) s = .next t ∧ t.out = [] ∧ t.stns = s.stns ∧ t.halts = s.halts ∧
      tget 0 t.freed (3 * a.halt.toNat + 1) = tget 0 s.freed (3 * a.halt.toNat + 1) + 1 ∧
      t.net = s.net ++ [⟨.stn (BitVec.ofNat 2 (a.halt.toNat / 4)), .halt a.halt, .kind a false .done (s.addrOf x.toNat pon) (s.slot x.toNat pon).kind⟩] := by
  have hexec : exec (.signalSpaceLoad a) s = .next (s.keep ((s.quiet.free1 a.halt.toNat 1).ssAsk a false)) := by
    refine congrArg (fun t => Host.Outcome.next (s.keep t)) ?_
    dsimp only
    rw [if_neg (show ¬s.quiet.haltStalled a.halt.toNat = true from by rw [show s.quiet.haltStalled a.halt.toNat = false from hst]; decide),
      show s.quiet.ssRefusal a false = none from hr, ssRead_of_rowsGood (show s.quiet.rowsGood = true from hg)]
    rfl
  rw [ssAsk_here (s := s.quiet.free1 a.halt.toNat 1) (x := x) false hsrc htr hpon hk] at hexec
  refine ⟨_, hexec, ?_, ?_, ?_, ?_, ?_⟩
  · rw [State.keep_out, State.emit_out, State.occur_out]
    rfl
  · rw [State.keep_stns, State.emit_stns, State.occur_stns]
    rfl
  · rw [State.keep_halts, State.emit_halts, State.occur_halts]
    rfl
  · rw [State.keep_freed, State.emit_freed, State.occur_freed]
    exact tget_tmod_same 0 _ _ _
  · rw [State.keep_net, State.emit, State.occur_net]
    rfl

/-- The halt has taken a store: it keeps an entry, gives the credit of its port, and has answered. -/
def State.storeTaken (s : State) (a : SsAccess) : State :=
  { s.retain (.halt a.halt) ⟨0, false, 0, s.ssReq a 0 a.data true 0, none, false⟩ with
    freed := tmod 0 s.freed (3 * a.halt.toNat + 1) (· + 1), out := s.out ++ [.wrsp (.halt a.halt) a.rtn a.txid] }

theorem storeTaken_retains (s : State) (a : SsAccess) :
    ((s.storeTaken a).halt a.halt.toNat).orig.ret.length = (s.halt a.halt.toNat).orig.ret.length + 1 := by
  have hh : (s.storeTaken a).halt a.halt.toNat = (s.retain (.halt a.halt) ⟨0, false, 0, s.ssReq a 0 a.data true 0, none, false⟩).halt a.halt.toNat := rfl
  rw [hh, State.retain, State.modOrigin, State.halt_modHalt]
  exact List.length_append

/-- A store is answered at acceptance, and takes an entry. -/
theorem store_asks {a : SsAccess} {x : BitVec 2} {pon : Nat} {s : State} (hst : s.haltStalled a.halt.toNat = false) (hg : s.rowsGood = true)
    (hsrc : s.srcOf (.halt a.halt) = s.dieSrc) (hr : s.ssRefusal a true = none) (hroom : (s.halt a.halt.toNat).orig.ret.length < 64)
    (htr : s.translate (a.halt.toNat / 4) (ssPav a) (ssHandle a) ((ssHandle a).toNat / 2 ^ 16 = 0xF) true 0 = .ok (s.addrOf x.toNat pon))
    (hpon : pon < 16384) (hk : (s.slot x.toNat pon).kind ≠ .moved) :
    ∃ t, exec (.signalSpaceStore a) s = .next t ∧ t.out = [.wrsp (.halt a.halt) a.rtn a.txid] ∧ t.stns = s.stns ∧
      (t.halt a.halt.toNat).orig.ret.length = (s.halt a.halt.toNat).orig.ret.length + 1 ∧
      t.net = s.net ++ [⟨.stn (BitVec.ofNat 2 (a.halt.toNat / 4)), .halt a.halt, .kind a true .done (s.addrOf x.toNat pon) (s.slot x.toNat pon).kind⟩] := by
  have ht : s.su.wInstr.underTest = false := haltStalled_false hst
  have hfull : ¬(retCapacity (.halt a.halt) ≤ (s.quiet.origin (.halt a.halt)).ret.length ∨ (!true) = true) := by
    rintro (hc | hc)
    · exact absurd (show 64 ≤ (s.halt a.halt.toNat).orig.ret.length from hc) (by omega)
    · exact Bool.false_ne_true hc
  have hexec : exec (.signalSpaceStore a) s = .next (s.keep ((s.quiet.storeTaken a).ssAsk a true)) := by
    refine congrArg (fun t => Host.Outcome.next (s.keep t)) ?_
    dsimp only
    rw [if_neg (show ¬s.quiet.haltStalled a.halt.toNat = true from by rw [show s.quiet.haltStalled a.halt.toNat = false from hst]; decide),
      show s.quiet.ssRefusal a true = none from hr, ssRead_of_rowsGood (show s.quiet.rowsGood = true from hg)]
    dsimp only
    rw [if_neg hfull]
    exact congrArg (State.ssAsk · a true) (if_neg (fun hc => Bool.false_ne_true (ht.symm.trans hc)))
  rw [ssAsk_here (s := s.quiet.storeTaken a) (x := x) true hsrc htr hpon hk] at hexec
  refine ⟨_, hexec, ?_, ?_, ?_, ?_⟩
  · rw [State.keep_out, State.emit_out, State.occur_out]
    rfl
  · rw [State.keep_stns, State.emit_stns, State.occur_stns]
    rfl
  · rw [State.halt_congr _ _ (State.keep_halts _ _), State.halt_congr _ _ (State.emit_halts _ _ _ _), State.halt_congr _ _ (State.occur_halts _ _ _ _),
      storeTaken_retains]
    rfl
  · rw [State.keep_net, State.emit, State.occur_net]
    rfl

/-- An access of wrong size or select is answered with DENIED and counted. -/
theorem ssRefuse_shows {s : State} {a : SsAccess} (ht : s.su.wInstr.underTest = false) (hv : ssValid a = false) :
    ((s.quiet.free1 a.halt.toNat 1).ssRefuse a .denied).out = [.err (.halt a.halt) a.rtn a.txid .denied] ∧
      ((s.quiet.free1 a.halt.toNat 1).ssRefuse a .denied).net = s.net ∧ ((s.quiet.free1 a.halt.toNat 1).ssRefuse a .denied).stns = s.stns ∧
      ((s.quiet.free1 a.halt.toNat 1).ssRefuse a .denied).get F.HALT_REJ_RSVD_OP a.halt.toNat = min (s.get F.HALT_REJ_RSVD_OP a.halt.toNat + 1) 255 := by
  have he : (s.quiet.free1 a.halt.toNat 1).ssRefuse a .denied =
      (((s.quiet.free1 a.halt.toNat 1).bump F.HALT_REJ_RSVD_OP a.halt.toNat).occur (.halt a.halt) 0x10 1).drive (.err (.halt a.halt) a.rtn a.txid .denied) := by
    unfold State.ssRefuse
    dsimp only
    rw [if_neg (by rw [hv]; decide)]
  have hwork := (HaltWork.refl ((s.quiet.free1 a.halt.toNat 1).bump F.HALT_REJ_RSVD_OP a.halt.toNat)).occur (.halt a.halt) 0x10 1
  rw [he]
  refine ⟨?_, ?_, ?_, ?_⟩
  · rw [State.drive_out _ _ (by rw [hwork.su]; exact ht), State.occur_out]
    rfl
  · rw [State.drive_net, hwork.net]
    rfl
  · rw [State.drive_stns, hwork.stns]
    rfl
  · rw [(hwork.drive _).get _ _ _ (by have := a.halt.isLt; simp only [F.HALT_REJ_RSVD_OP]; omega) (by decide) (by omega), State.get_bump]
    rfl

/-- Both accesses are refused so. -/
theorem access_denied {a : SsAccess} {s : State} (hst : s.haltStalled a.halt.toNat = false) (hv : ssValid a = false) (c : Instr)
    (hc : c = .signalSpaceLoad a ∨ c = .signalSpaceStore a) : ∃ t, exec c s = .next t ∧ t.out = [.err (.halt a.halt) a.rtn a.txid .denied] ∧
      t.net = s.net ∧ t.stns = s.stns ∧ t.get F.HALT_REJ_RSVD_OP a.halt.toNat = min (s.get F.HALT_REJ_RSVD_OP a.halt.toNat + 1) 255 := by
  have hrefusal : ∀ store, s.quiet.ssRefusal a store = some .denied := fun store => if_pos (.inl (by rw [hv]; rfl))
  have hstall : ¬s.quiet.haltStalled a.halt.toNat = true := by
    rw [show s.quiet.haltStalled a.halt.toNat = false from hst]
    decide
  have hexec : exec c s = .next (s.keep ((s.quiet.free1 a.halt.toNat 1).ssRefuse a .denied)) := by
    rcases hc with rfl | rfl
    · refine congrArg (fun t => Host.Outcome.next (s.keep t)) ?_
      dsimp only
      rw [if_neg hstall, hrefusal]
    · refine congrArg (fun t => Host.Outcome.next (s.keep t)) ?_
      dsimp only
      rw [if_neg hstall, hrefusal]
  obtain ⟨hout, hnet, hstns, hcount⟩ := ssRefuse_shows (haltStalled_false hst) hv
  exact ⟨_, hexec, by rw [State.keep_out, hout], by rw [State.keep_net, hnet], by rw [State.keep_stns, hstns], by rw [State.keep_get, hcount]⟩

/-! ### The kind of the object is known (03 R95, R96) -/

/-- A halt that holds no load back has nothing to drain. -/
theorem ssDrainPart_of_none {s : State} {h : BitVec 4} (hs : (s.halt h.toNat).ssHeld = []) : s.ssDrainPart (.halt h) = s := by
  unfold State.ssDrainPart
  dsimp only
  rw [hs]
  rfl

theorem exec_signalSpaceKind {y : BitVec 2} {a : SsAccess} {store : Bool} {st : Status} {g : GAddr} {k : Kind} {s : State}
    (hh : s.head? (.stn y) (.halt a.halt) = some (.kind a store st g k)) : exec (.signalSpaceKind (.stn y) (.halt a.halt)) s =
      .next (s.keep (((s.quiet.pop (.stn y) (.halt a.halt)).ssKnown a store st g k).ssDrainPart (.halt a.halt))) := by
  have hh' : s.quiet.head? (.stn y) (.halt a.halt) = some (.kind a store st g k) := hh
  refine congrArg (fun t => Host.Outcome.next (s.keep t)) ?_
  unfold State.onHead
  rw [hh']
  rfl

/-- The queue that stands for the accesses of a core, and of an agent that is no core. -/
def ssWho (a : SsAccess) : Orig := .queue a.halt (if a.isCore then a.core else 0) (if a.isCore then 24 else 25)

theorem ssOp_store_none (a : SsAccess) {k : Kind} (hk : k ∉ ([.counter, .sem, .glock, .mlock] : List Kind)) : ssOp a true k = none := by
  simp only [List.mem_cons, List.not_mem_nil, or_false, not_or] at hk
  obtain ⟨hcounter, hsem, hglock, hmlock⟩ := hk
  unfold ssOp
  rw [if_pos rfl]
  split
  · exact absurd rfl hcounter
  · exact absurd rfl hsem
  · exact absurd rfl hglock
  · exact absurd rfl hmlock
  · rfl

theorem postedCount_halt (s : State) (h : Nat) (core : BitVec 8) (q : BitVec 5) (st : Status) (i : Nat) : (s.postedCount h core q st).halt i = s.halt i := rfl
theorem modOrigin_ssHeld (s : State) (h : BitVec 4) (f : Origin → Origin) : ((s.modOrigin (.halt h) f).halt h.toNat).ssHeld = (s.halt h.toNat).ssHeld := by
  rw [State.modOrigin, State.halt_modHalt]

/-- A store to an object whose kind has none fails as a posted request (R75, R96). -/
theorem store_refused {y : BitVec 2} {a : SsAccess} {g : GAddr} {k : Kind} {s : State} (hh : s.head? (.stn y) (.halt a.halt) = some (.kind a true .done g k))
    (hd : (s.halt a.halt.toNat).ssHeld = []) (hk : k ∉ [.counter, .sem, .glock, .mlock]) :
    ∃ t, exec (.signalSpaceKind (.stn y) (.halt a.halt)) s = .next t ∧ t.stns = s.stns ∧ t.get F.HALT_PERR_LAST a.halt.toNat = Status.denied.code ∧
      t.get F.HALT_PERR_COUNT a.halt.toNat = min (s.get F.HALT_PERR_COUNT a.halt.toNat + 1) 65535 := by
  obtain ⟨n, cr, f, hpop⟩ := pop_eq s.quiet (.stn y) (.halt a.halt)
  have hexec := exec_signalSpaceKind hh
  rw [hpop] at hexec
  have hq : 24 ≤ (if a.isCore then 24 else 25 : BitVec 5).toNat := by split <;> decide
  have hknown : ({ s.quiet with net := n, crd := cr, freed := f } : State).ssKnown a true .done g k =
      (({ s.quiet with net := n, crd := cr, freed := f } : State).modOrigin (.halt a.halt) (fun o => { o with ret := dropUnstamped o.ret })).postedCount
        a.halt.toNat (if a.isCore then a.core else 0) (if a.isCore then 24 else 25) .denied := by
    unfold State.ssKnown
    dsimp only
    rw [if_pos rfl, if_neg (by decide), ssOp_store_none a hk]
    exact if_pos hq
  rw [hknown, ssDrainPart_of_none (by rw [postedCount_halt, modOrigin_ssHeld]; exact hd)] at hexec
  refine ⟨_, hexec, ?_, ?_, ?_⟩
  · rw [State.keep_stns]
    rfl
  · rw [State.keep_get, State.postedCount_last]
  · rw [State.keep_get, State.postedCount_count]
    rfl

/-! ### A load and a store of a COUNTER (03 R94) -/

theorem ssOp_load_counter (a : SsAccess) : ssOp a false .counter = some (0x04, 0) := by
  unfold ssOp
  rw [if_neg Bool.false_ne_true]
  exact ite_self _

/-- A load's request at its object is answered with the data. -/
theorem answer_load {s : State} {a : SsAccess} {x : BitVec 2} {rq : HReq} {val : Word64} (hl : rq.load = some (a.rtn ++ a.txid)) :
    s.answer x.toNat rq .done val = s.drive (.rdata (.stn x) a.rtn a.txid val) := by
  have hrtn : (a.rtn ++ a.txid).extractLsb' 12 16 = a.rtn := BitVec.extractLsb'_append_eq_left
  have htx : (a.rtn ++ a.txid).extractLsb' 0 12 = a.txid := BitVec.extractLsb'_append_eq_right
  unfold State.answer State.answerFrom
  rw [hl]
  change s.drive (.rdata (.stn (BitVec.ofNat 2 x.toNat)) ((a.rtn ++ a.txid).extractLsb' 12 16) ((a.rtn ++ a.txid).extractLsb' 0 12) val) = _
  rw [hrtn, htx, BitVec.ofNat_toNat, BitVec.setWidth_eq]

/-- A load of a COUNTER returns its value, and changes nothing. -/
theorem ssKnown_load {s : State} {a : SsAccess} {x : BitVec 2} {pon : Nat} (hsrc : s.srcOf (.halt a.halt) = s.dieSrc) (hpon : pon < 16384)
    (hadm : s.admits 0x04 (ssPav a) x pon = true) (hk : (s.slot x.toNat pon).kind = .counter) :
    s.ssKnown a false .done (s.addrOf x.toNat pon) .counter =
      (s.occur (.stn x) 0x20 1).drive (.rdata (.stn x) a.rtn a.txid (s.slot x.toNat pon).val) := by
  have hcomes : Comes s x pon (s.ssReq a 0x04 0 false (s.addrOf x.toNat pon)) := ⟨rfl, rfl, fun _ _ _ _ hc => Orig.noConfusion hc, rfl⟩
  have hslot : (s.occur (.stn x) 0x20 1).slot x.toNat pon = s.slot x.toNat pon := State.slot_congr _ _ (State.occur_stns _ _ _ _) _ _
  have hword : (s.occur (.stn x) 0x20 1).readWord x.toNat pon = (s.slot x.toNat pon).val := by
    unfold State.readWord
    rw [hslot, hk]
  have hsend : s.ssKnown a false .done (s.addrOf x.toNat pon) .counter = s.route (s.ssReq a 0x04 0 false (s.addrOf x.toNat pon)) := by
    unfold State.ssKnown
    dsimp only
    rw [if_neg Bool.false_ne_true, if_neg (by decide), ssOp_load_counter]
    rfl
  have hdo : (s.recordSeq x.toNat (s.ssReq a 0x04 0 false (s.addrOf x.toNat pon))).opDo x.toNat pon (s.ssReq a 0x04 0 false (s.addrOf x.toNat pon)) =
      (s.occur (.stn (BitVec.ofNat 2 x.toNat)) 0x20 1).answer x.toNat (s.ssReq a 0x04 0 false (s.addrOf x.toNat pon)) .done
        ((s.occur (.stn (BitVec.ofNat 2 x.toNat)) 0x20 1).readWord x.toNat pon) := rfl
  rw [hsend, route_local rfl hsrc rfl hpon, reach_taken hadm hcomes rfl rfl (by rw [hk]; decide), hdo, BitVec.ofNat_toNat, BitVec.setWidth_eq, hword,
    answer_load rfl]

theorem load_reads {y : BitVec 2} {a : SsAccess} {x : BitVec 2} {pon : Nat} {s : State}
    (hh : s.head? (.stn y) (.halt a.halt) = some (.kind a false .done (s.addrOf x.toNat pon) .counter)) (ht : s.su.wInstr.underTest = false)
    (hsrc : s.srcOf (.halt a.halt) = s.dieSrc) (hd : (s.halt a.halt.toNat).ssHeld = []) (hpon : pon < 16384)
    (hadm : s.admits 0x04 (ssPav a) x pon = true) (hk : (s.slot x.toNat pon).kind = .counter) :
    ∃ t, exec (.signalSpaceKind (.stn y) (.halt a.halt)) s = .next t ∧ t.out = [.rdata (.stn x) a.rtn a.txid (s.slot x.toNat pon).val] ∧ t.stns = s.stns := by
  obtain ⟨n, cr, f, hpop⟩ := pop_eq s.quiet (.stn y) (.halt a.halt)
  have hexec := exec_signalSpaceKind hh
  have hload : ({ s.quiet with net := n, crd := cr, freed := f } : State).ssKnown a false .done (s.addrOf x.toNat pon) .counter =
      (({ s.quiet with net := n, crd := cr, freed := f } : State).occur (.stn x) 0x20 1).drive (.rdata (.stn x) a.rtn a.txid (s.slot x.toNat pon).val) :=
    ssKnown_load (s := { s.quiet with net := n, crd := cr, freed := f }) hsrc hpon hadm hk
  have hwork := ((HaltWork.refl ({ s.quiet with net := n, crd := cr, freed := f } : State)).occur (.stn x) 0x20 1)
  rw [hpop, hload, ssDrainPart_of_none (by
    rw [State.halt_congr _ _ (State.drive_halts _ _), State.halt_congr _ _ (State.occur_halts _ _ _ _)]
    exact hd)] at hexec
  refine ⟨_, hexec, ?_, ?_⟩
  · rw [State.keep_out, State.drive_out _ _ (by rw [hwork.su]; exact ht), State.occur_out]
    rfl
  · rw [State.keep_stns, State.drive_stns, hwork.stns]
    rfl

/-- A request under its SEQ. -/
def HReq.withSeq (rq : HReq) (q : BitVec 8) : HReq := { rq with req := { rq.req with seq := q } }

/-- A posted request of signal space goes to its object with its SEQ; its halt holds back what it held. -/
theorem ssSend_routes {s : State} {a : SsAccess} {rq : HReq} (hret : opRetained rq.req.op = true) (hp : rq.posted = true) :
    ∃ w q, HaltWork s w ∧ (w.halt a.halt.toNat).ssHeld = (s.halt a.halt.toNat).ssHeld ∧ s.ssSend a rq = w.route (rq.withSeq q) := by
  have hmod : ∀ {u : State} (f : Origin → Origin), HaltWork s u → HaltWork s (u.modOrigin (.halt a.halt) f) := fun f h => h.modHalt _ _
  unfold State.ssSend
  dsimp only
  rw [if_pos hret, if_pos hp]
  refine ⟨_, _, hmod _ ((hmod _ (.refl s)).modHalt _ _), ?_, rfl⟩
  rw [modOrigin_ssHeld, State.halt_modHalt, modOrigin_ssHeld]

/-- A SIG that its counter takes, at its home, from the state in which it arrives. -/
theorem sig_adds {s : State} {x : BitVec 2} {pon : Nat} {p : BitVec 6} {who : Option Orig} {rq : HReq} (hadm : s.admits 0x01 p x pon who = true)
    (hc : Comes s x pon rq) (hop : rq.req.op = 0x01) (hp : rq.req.pav = p) (hk : (s.slot x.toNat pon).kind = .counter) (h0 : rq.req.operand ≠ 0)
    (hfit : (s.slot x.toNat pon).val.toNat + rq.req.operand.toNat < 2 ^ 64) (hb : ∀ e ∈ (s.mem x.toNat).boundList, e.1 ≠ pon) :
    (s.reach x.toNat pon rq moveFuel).halts = s.halts ∧
      ((s.reach x.toNat pon rq moveFuel).slot x.toNat pon).val = (s.slot x.toNat pon).val + rq.req.operand ∧
      ((s.reach x.toNat pon rq moveFuel).slot x.toNat pon).lastSrc = lastSrcOf rq.who := by
  have hv := (recordSeq_seqWork s x.toNat rq).occur (.stn (BitVec.ofNat 2 x.toNat)) 0x20 1
  have hdo : (s.recordSeq x.toNat rq).opDo x.toNat pon rq =
      ((s.recordSeq x.toNat rq).occur (.stn (BitVec.ofNat 2 x.toNat)) 0x20 1).opSig x.toNat pon rq := by
    unfold State.opDo
    dsimp only
    rw [hop]
    rfl
  rw [reach_taken hadm hc hop hp (by rw [hk]; decide), hdo]
  generalize (s.recordSeq x.toNat rq).occur (.stn (BitVec.ofNat 2 x.toNat)) 0x20 1 = v at hv ⊢
  obtain ⟨hval, hlast⟩ := opSig_adds (s := v) (x := x.toNat) (pon := pon) (rq := rq) h0 (by rw [hv.slot]; exact hfit) (by rw [hv.boundList]; exact hb)
  exact ⟨by rw [(opSig_stationWork v x.toNat pon rq).halts, hv.halts], by rw [hval, hv.slot], hlast⟩

theorem HaltWork.admits {s u : State} (h : HaltWork s u) {op p : BitVec 6} {x : BitVec 2} {pon : Nat} (hk : (s.slot x.toNat pon).kind ≠ .sem ∧ (s.slot x.toNat pon).kind ≠ .glock)
    (hadm : s.admits op p x pon = true) : u.admits op p x pon = true := by
  obtain ⟨hserves, hfrozen, hkind, hpav⟩ := admits_iff hadm
  obtain ⟨hrows, hfailed, hopen, hpkg, hdie, hstn⟩ := hserves.haltWork h
  have hp := hpav (by simp [hk.1, hk.2])
  unfold State.admits
  dsimp only
  rw [hrows, hfailed, hopen, h.slot, hfrozen, hkind, if_neg (by simp [hk.1, hk.2]), decide_eq_true hpkg, decide_eq_true hdie, decide_eq_true hstn, decide_eq_true hp]
  rfl

/-- A store to a COUNTER adds its data. -/
theorem ssKnown_store {s : State} {a : SsAccess} {x : BitVec 2} {pon : Nat} (hsrc : s.srcOf (.halt a.halt) = s.dieSrc) (hpon : pon < 16384)
    (hadm : s.admits 0x01 (ssPav a) x pon = true) (hk : (s.slot x.toNat pon).kind = .counter) (h0 : a.data ≠ 0)
    (hfit : (s.slot x.toNat pon).val.toNat + a.data.toNat < 2 ^ 64) (hb : ∀ e ∈ (s.mem x.toNat).boundList, e.1 ≠ pon) :
    ((s.ssKnown a true .done (s.addrOf x.toNat pon) .counter).halt a.halt.toNat).ssHeld = (s.halt a.halt.toNat).ssHeld ∧
      ((s.ssKnown a true .done (s.addrOf x.toNat pon) .counter).slot x.toNat pon).val = (s.slot x.toNat pon).val + a.data ∧
      ((s.ssKnown a true .done (s.addrOf x.toNat pon) .counter).slot x.toNat pon).lastSrc = lastSrcOf (ssWho a) := by
  have htaken : HaltWork s (s.modOrigin (.halt a.halt) (fun o => { o with ret := dropUnstamped o.ret })) := (HaltWork.refl s).modHalt _ _
  have hheld := modOrigin_ssHeld s a.halt (fun o => { o with ret := dropUnstamped o.ret })
  have hsend : s.ssKnown a true .done (s.addrOf x.toNat pon) .counter =
      (s.modOrigin (.halt a.halt) (fun o => { o with ret := dropUnstamped o.ret })).ssSend a
        ((s.modOrigin (.halt a.halt) (fun o => { o with ret := dropUnstamped o.ret })).ssReq a 0x01 a.data true (s.addrOf x.toNat pon)) := by
    unfold State.ssKnown
    dsimp only
    rw [if_pos rfl, if_neg (by decide)]
    rfl
  rw [hsend]
  generalize s.modOrigin (.halt a.halt) (fun o => { o with ret := dropUnstamped o.ret }) = u at htaken hheld
  obtain ⟨w, q, hw, hwheld, hroute⟩ := ssSend_routes (s := u) (a := a) (rq := u.ssReq a 0x01 a.data true (s.addrOf x.toNat pon)) rfl rfl
  have hsw := htaken.trans hw
  have hcomes : Comes w x pon ((u.ssReq a 0x01 a.data true (s.addrOf x.toNat pon)).withSeq q) := by
    refine ⟨?_, rfl, fun _ _ _ _ hc => Orig.noConfusion hc, (hw.gen _).symm⟩
    unfold State.addrOf
    rw [hsw.su]
    rfl
  obtain ⟨hhalts, hval, hlast⟩ := sig_adds (hsw.admits (by rw [hk]; decide) hadm) hcomes rfl rfl (by rw [hsw.slot, hk]) h0 (by rw [hsw.slot]; exact hfit)
    (by rw [hsw.mem]; exact hb)
  rw [hroute, route_local (rq := (u.ssReq a 0x01 a.data true (s.addrOf x.toNat pon)).withSeq q) hsw.su hsrc rfl hpon]
  refine ⟨?_, ?_, hlast⟩
  · rw [State.halt_congr _ _ hhalts, hwheld, hheld]
  · rw [hval, hsw.slot]
    rfl

theorem store_adds {y : BitVec 2} {a : SsAccess} {x : BitVec 2} {pon : Nat} {s : State}
    (hh : s.head? (.stn y) (.halt a.halt) = some (.kind a true .done (s.addrOf x.toNat pon) .counter)) (hpon : pon < 16384)
    (hsrc : s.srcOf (.halt a.halt) = s.dieSrc) (hd : (s.halt a.halt.toNat).ssHeld = []) (hadm : s.admits 0x01 (ssPav a) x pon = true)
    (hk : (s.slot x.toNat pon).kind = .counter) (h0 : a.data ≠ 0) (hfit : (s.slot x.toNat pon).val.toNat + a.data.toNat < 2 ^ 64)
    (hb : ∀ e ∈ (s.mem x.toNat).boundList, e.1 ≠ pon) : ∃ t, exec (.signalSpaceKind (.stn y) (.halt a.halt)) s = .next t ∧
      (t.slot x.toNat pon).val = (s.slot x.toNat pon).val + a.data ∧ (t.slot x.toNat pon).lastSrc = lastSrcOf (ssWho a) := by
  obtain ⟨n, cr, f, hpop⟩ := pop_eq s.quiet (.stn y) (.halt a.halt)
  have hexec := exec_signalSpaceKind hh
  obtain ⟨hheld, hval, hlast⟩ := ssKnown_store (s := { s.quiet with net := n, crd := cr, freed := f }) (a := a) (x := x) hsrc hpon hadm hk h0 hfit hb
  rw [hpop] at hexec
  change exec _ s = .next (s.keep ((State.ssKnown _ a true .done (({ s.quiet with net := n, crd := cr, freed := f } : State).addrOf x.toNat pon) .counter).ssDrainPart _)) at hexec
  rw [ssDrainPart_of_none (hheld.trans hd)] at hexec
  refine ⟨_, hexec, ?_, ?_⟩
  · rw [State.slot_congr _ _ (State.keep_stns _ _), hval]
    rfl
  · rw [State.slot_congr _ _ (State.keep_stns _ _), hlast]

/-- Settles O32: the two accesses, the ones refused, what a load and a store become, and the three context-base instructions. -/
theorem signalSpaceAndContextBases : Obligations.SignalSpaceAndContextBases := by
  refine ⟨fun a x pon s hst hg hsrc hr htr hpon hk => load_asks hst hg hsrc hr htr hpon hk,
    fun a x pon s hst hg hsrc hr hroom htr hpon hk => store_asks hst hg hsrc hr hroom htr hpon hk,
    fun a s hst hv => ⟨access_denied hst hv _ (.inl rfl), access_denied hst hv _ (.inr rfl)⟩,
    fun y a x pon s hh ht hsrc hd hpon hadm hk => load_reads hh ht hsrc hd hpon hadm hk,
    fun y a x pon s hh hpon hsrc hd hadm hk h0 hfit hb => store_adds hh hpon hsrc hd hadm hk h0 hfit hb,
    fun y a g k s hh hd hk => store_refused hh hd hk, fun c q w s hq => ?_, fun c q s hq ht => contextBaseRead_shows hq ht, fun c q w s hq ha => ?_,
    fun c q w s ha => contextBaseAnswer_ignored w ha⟩
  · obtain ⟨hhalt, hother, hregs, hstns, hnet⟩ := baseLoaded_shows s (c.toNat / 16) (waitIdx c q) w
    refine ⟨_, exec_contextBaseLoad w s hq, ?_, fun i hi => ?_, ?_, hother, hregs, hstns, hnet⟩
    · rw [hhalt]
      exact tget_tset_same 0 _ _ _
    · rw [hhalt]
      exact tget_tset_ne 0 0 _ _ _ _ hi
    · rw [hhalt]
      exact not_mem_baseLoaded _ _ _
  · obtain ⟨hhalt, -, hregs, hstns, -⟩ := baseLoaded_shows s (c.toNat / 16) (waitIdx c q) w
    refine ⟨_, exec_contextBaseAnswer w hq ha, ?_, ?_, hregs, hstns⟩
    · rw [hhalt]
      exact tget_tset_same 0 _ _ _
    · rw [hhalt]
      exact not_mem_baseLoaded _ _ _

end Sys2Proof.Machine

/-! Proofs for 04 and 10: the calibration of the gang branches and the measurement of the swap line (04 R121; 10 R293). -/

namespace Sys2Proof.Machine

/-! ### The round trips of a branch (04 R121) -/

section
variable {l : List Nat} {r : Nat}

/-- A round trip that calibration takes is odd and from 3 to 9: the branch is 1 to 4 fclk long. -/
theorem odd_of_badRt (h : badRt r = false) : r % 2 = 1 ∧ 3 ≤ r ∧ r ≤ 9 := by
  simp only [badRt, Bool.or_eq_false_iff, decide_eq_false_iff_not] at h
  omega

theorem disagree_iff : disagree l = true ↔ ∃ x ∈ l, x ≠ l.headD 0 := by simp [disagree]

/-- Equal round trips, the last of them a good one, measure the branch. -/
theorem branch_of_equal (heq : ∀ x ∈ l, x = r) (hr : badRt r = false) :
    (l ++ [r]).any badRt = false ∧ disagree (l ++ [r]) = false ∧ branchD (l ++ [r]) = (r - 1) / 2 := by
  have hall : ∀ x ∈ l ++ [r], x = r := fun x hx => (List.mem_append.mp hx).elim (heq x) List.mem_singleton.mp
  have hhead : (l ++ [r]).headD 0 = r := by
    cases l with
    | nil => rfl
    | cons x l => exact heq x List.mem_cons_self
  refine ⟨List.any_eq_false.mpr fun x hx => by simp [hall x hx, hr], ?_, by rw [branchD, hhead]⟩
  refine Bool.eq_false_iff.mpr fun hd => ?_
  obtain ⟨x, hx, hne⟩ := disagree_iff.mp hd
  exact hne (by rw [hhead, hall x hx])

/-- A round trip that is bad, or not equal to the last, fails the branch. -/
theorem branch_fails (h : badRt r = true ∨ ∃ x ∈ l, badRt x = true ∨ x ≠ r) : (l ++ [r]).any badRt = true ∨ disagree (l ++ [r]) = true := by
  have hlast : r ∈ l ++ [r] := List.mem_append_right _ (List.mem_singleton_self r)
  rcases h with hbad | ⟨x, hx, hbad | hne⟩
  · exact .inl (List.any_eq_true.mpr ⟨r, hlast, hbad⟩)
  · exact .inl (List.any_eq_true.mpr ⟨x, List.mem_append_left _ hx, hbad⟩)
  · refine .inr (disagree_iff.mpr ?_)
    by_cases hh : r = (l ++ [r]).headD 0
    · exact ⟨x, List.mem_append_left _ hx, fun hc => hne (hc.trans hh.symm)⟩
    · exact ⟨r, hlast, hh⟩

/-- What a branch of d latches: d, and the 4 - d that equalises it, both in three bits. -/
theorem latched_toNat (hr : badRt r = false) :
    (BitVec.ofNat 3 ((r - 1) / 2)).toNat = (r - 1) / 2 ∧ (BitVec.ofNat 3 (4 - (r - 1) / 2)).toNat = 4 - (r - 1) / 2 := by
  obtain ⟨-, -, h9⟩ := odd_of_badRt hr
  rw [BitVec.toNat_ofNat, BitVec.toNat_ofNat]
  omega
end

/-! ### The 16th echo of a halt (04 R121) -/

/-- A halt latches its branch, -/
def HaltId.latched (d : Nat) (i : HaltId) : HaltId := { i with d := BitVec.ofNat 3 d, eq := BitVec.ofNat 3 (4 - d), calOk := true }
/-- and its slot ends. -/
def State.calLatched (s : State) (h : BitVec 4) (d : Nat) : State :=
  s.modSu (fun u => { u with calPings := 0, calRts := [], haltIds := tmod HaltId.init u.haltIds h.toNat (HaltId.latched d) })
/-- The next halt is calibrated, or calibration is done. -/
def State.calNext (s : State) (h : BitVec 4) : State :=
  if h = 15 then (s.modSu (fun u => { u with calState := 2, step := 4 })).tryGo else s.modSu (fun u => { u with calHalt := h + 1 })

/-- A GO that was latched takes start-up on, and leaves what calibration found (14 R397). -/
theorem tryGo_keeps {s : State} (h : s.su.step = 4) : s.tryGo.su.haltIds = s.su.haltIds ∧ s.tryGo.su.calState = s.su.calState ∧ s.tryGo.su.step ≠ 3 := by
  have hready : ∀ t : State, t.enterLink.su.haltIds = t.su.haltIds ∧ t.enterLink.su.calState = t.su.calState ∧ t.enterLink.su.step ≠ 3 := fun t => by
    unfold State.enterLink
    dsimp only
    split
    · exact ⟨rfl, rfl, show (7 : BitVec 4) ≠ 3 by decide⟩
    · exact ⟨rfl, rfl, show (6 : BitVec 4) ≠ 3 by decide⟩
  unfold State.tryGo
  split
  · split
    · exact ⟨rfl, rfl, show (5 : BitVec 4) ≠ 3 by decide⟩
    · exact hready s
  · exact ⟨rfl, rfl, by rw [h]; decide⟩

theorem calNext_shows (s : State) (h : BitVec 4) : (s.calNext h).su.haltIds = s.su.haltIds ∧
    (h ≠ 15 → (s.calNext h).su.calHalt = h + 1 ∧ (s.calNext h).su.step = s.su.step) ∧ (h = 15 → (s.calNext h).su.calState = 2 ∧ (s.calNext h).su.step ≠ 3) := by
  unfold State.calNext
  split
  · obtain ⟨hids, hstate, hstep⟩ := tryGo_keeps (s := s.modSu (fun u => { u with calState := 2, step := 4 })) rfl
    exact ⟨hids, fun hne => absurd ‹h = 15› hne, fun _ => ⟨hstate, hstep⟩⟩
  · exact ⟨rfl, fun _ => ⟨rfl, rfl⟩, fun he => absurd he ‹_›⟩

section
variable {s : State} {h : BitVec 4} {rtt : BitVec 5} (hc : s.calibrating h = true)
include hc

theorem step_of_calibrating : s.su.step = 3 := by
  simp only [State.calibrating, Bool.and_eq_true, decide_eq_true_eq] at hc
  obtain ⟨-, hstep⟩ := hc
  exact hstep

theorem exec_gangCalPing (hp : s.su.calPings = s.su.calRts.length) :
    exec (.gangCalPing h) s = .next (s.keepQ (s.quiet.modSu (fun u => { u with calPings := u.calPings + 1 }))) :=
  congrArg (fun t => Host.Outcome.next (s.keepQ t)) (if_pos ⟨hc, hp⟩)

theorem exec_gangCalEchoMissing (hp : s.su.calPings = s.su.calRts.length + 1) :
    exec (.gangCalEchoMissing h) s = .next (s.keepQ (s.quiet.calFailed true (disagree s.su.calRts))) :=
  congrArg (fun t => Host.Outcome.next (s.keepQ t)) (if_pos ⟨hc, hp⟩)

/-- An echo of the slot under way is recorded, or, as the 16th, judged with the others (assumption log 64). -/
theorem exec_gangCalEcho (hp : s.su.calPings = s.su.calRts.length + 1) : exec (.gangCalEcho h rtt) s = .next (s.keepQ (
    if (s.su.calRts ++ [rtt.toNat]).length < 16 then s.quiet.modSu (fun u => { u with calRts := s.su.calRts ++ [rtt.toNat] })
    else if (s.su.calRts ++ [rtt.toNat]).any badRt ∨ disagree (s.su.calRts ++ [rtt.toNat]) then
      s.quiet.calFailed ((s.su.calRts ++ [rtt.toNat]).any badRt) (disagree (s.su.calRts ++ [rtt.toNat]))
    else (s.quiet.calLatched h (branchD (s.su.calRts ++ [rtt.toNat]))).calNext h)) :=
  congrArg (fun t => Host.Outcome.next (s.keepQ t)) (if_pos ⟨hc, hp⟩)

theorem gangCalEcho_early (hp : s.su.calPings = s.su.calRts.length + 1) (hl : s.su.calRts.length < 15) :
    ∃ t, exec (.gangCalEcho h rtt) s = .next t ∧ t.su = { s.su with calRts := s.su.calRts ++ [rtt.toNat] } := by
  refine ⟨_, exec_gangCalEcho hc hp, ?_⟩
  rw [State.keepQ_su, if_pos (show _ < 16 by rw [List.length_append, List.length_singleton]; omega)]
  rfl

theorem gangCalEcho_latches (hp : s.su.calPings = s.su.calRts.length + 1) (hl : s.su.calRts.length = 15)
    (heq : ∀ r ∈ s.su.calRts, r = rtt.toNat) (hr : badRt rtt.toNat = false) : ∃ t, exec (.gangCalEcho h rtt) s = .next t ∧
      (tget HaltId.init t.su.haltIds h.toNat).calOk = true ∧ (tget HaltId.init t.su.haltIds h.toNat).d.toNat = (rtt.toNat - 1) / 2 ∧
      (tget HaltId.init t.su.haltIds h.toNat).eq.toNat = 4 - (rtt.toNat - 1) / 2 ∧
      (h ≠ 15 → t.su.calHalt = h + 1 ∧ t.su.step = 3) ∧ (h = 15 → t.su.calState = 2 ∧ t.su.step ≠ 3) := by
  obtain ⟨hgood, hagree, hd⟩ := branch_of_equal heq hr
  obtain ⟨hdn, heqn⟩ := latched_toNat hr
  refine ⟨_, exec_gangCalEcho hc hp, ?_⟩
  rw [State.keepQ_su, if_neg (by simp [hl]), if_neg (by simp [hgood, hagree]), hd]
  obtain ⟨hids, hnext, hdone⟩ := calNext_shows (s.quiet.calLatched h ((rtt.toNat - 1) / 2)) h
  have hid : tget HaltId.init ((s.quiet.calLatched h ((rtt.toNat - 1) / 2)).calNext h).su.haltIds h.toNat =
      (tget HaltId.init s.su.haltIds h.toNat).latched ((rtt.toNat - 1) / 2) := by
    rw [hids]
    exact tget_tmod_same HaltId.init _ _ _
  rw [hid]
  exact ⟨rfl, hdn, heqn, fun hne => (hnext hne).imp_right (fun hst => hst.trans (step_of_calibrating hc)), hdone⟩

theorem gangCalEcho_fails (hp : s.su.calPings = s.su.calRts.length + 1) (hl : s.su.calRts.length = 15)
    (hbad : badRt rtt.toNat = true ∨ ∃ r ∈ s.su.calRts, badRt r = true ∨ r ≠ rtt.toNat) : ∃ t, exec (.gangCalEcho h rtt) s = .next t ∧
      t.su.calState = 3 ∧ t.su.haltIds = s.su.haltIds ∧ t.su.step = 15 ∧ t.su.code = 3 := by
  refine ⟨_, exec_gangCalEcho hc hp, ?_⟩
  rw [State.keepQ_su, if_neg (by simp [hl]), if_pos (branch_fails hbad)]
  exact ⟨rfl, rfl, rfl, rfl⟩
end

/-! ### The echoes of the swap line (10 R293) -/

/-- A station latches EQ_S, -/
def StnId.latched (d : Nat) (i : StnId) : StnId := { i with eq := BitVec.ofNat 3 (4 - d) }
/-- and its round trips are kept. -/
def State.lineLatched (s : State) (x : BitVec 2) (l : List Nat) : State :=
  s.modSu (fun u => { u with
    lineRts := tset [] u.lineRts x.toNat l
    lineD := tset 0 u.lineD x.toNat (branchD l)
    stnIds := tmod StnId.init u.stnIds x.toNat (StnId.latched (branchD l)) })
/-- The next station is measured, or the measurement is done. -/
def State.lineNext (s : State) (x : BitVec 2) : State :=
  if x = 3 then s.modSu (fun u => { u with lineState := 2 }) else s.modSu (fun u => { u with lineStn := x + 1 })

theorem lineNext_shows (s : State) (x : BitVec 2) : (s.lineNext x).su.lineD = s.su.lineD ∧ (s.lineNext x).su.stnIds = s.su.stnIds ∧
    (x ≠ 3 → (s.lineNext x).su.lineStn = x + 1 ∧ (s.lineNext x).su.lineState = s.su.lineState) ∧ (x = 3 → (s.lineNext x).su.lineState = 2) := by
  unfold State.lineNext
  split
  · exact ⟨rfl, rfl, fun hne => absurd ‹x = 3› hne, fun _ => rfl⟩
  · exact ⟨rfl, rfl, fun _ => ⟨rfl, rfl⟩, fun he => absurd he ‹_›⟩

section
variable {s : State} {x : BitVec 2} {rtt : BitVec 5} (hs : s.su.lineState = 1) (hx : s.su.lineStn = x)
include hs hx

theorem exec_swapLinePing (hp : tget 0 s.su.linePings x.toNat = (tget [] s.su.lineRts x.toNat).length) :
    exec (.swapLinePing x) s = .next (s.keepQ (s.quiet.modSu (fun u => { u with linePings := tmod 0 u.linePings x.toNat (· + 1) }))) :=
  congrArg (fun t => Host.Outcome.next (s.keepQ t)) (if_pos ⟨hs, hx, hp⟩)

theorem exec_swapLineEchoMissing (hp : tget 0 s.su.linePings x.toNat = (tget [] s.su.lineRts x.toNat).length + 1) :
    exec (.swapLineEchoMissing x) s = .next (s.keepQ (s.quiet.lineFailed true (disagree (tget [] s.su.lineRts x.toNat)))) :=
  congrArg (fun t => Host.Outcome.next (s.keepQ t)) (if_pos ⟨hs, hx, hp⟩)

/-- An echo of the station under way is recorded, or, as the 16th, judged with the others (assumption log 64). -/
theorem exec_swapLineEcho {l : List Nat} (hl : tget [] s.su.lineRts x.toNat = l) (hp : tget 0 s.su.linePings x.toNat = l.length + 1) :
    exec (.swapLineEcho x rtt) s = .next (s.keepQ (
      if (l ++ [rtt.toNat]).length < 16 then s.quiet.modSu (fun u => { u with lineRts := tset [] u.lineRts x.toNat (l ++ [rtt.toNat]) })
      else if (l ++ [rtt.toNat]).any badRt ∨ disagree (l ++ [rtt.toNat]) then s.quiet.lineFailed ((l ++ [rtt.toNat]).any badRt) (disagree (l ++ [rtt.toNat]))
      else (s.quiet.lineLatched x (l ++ [rtt.toNat])).lineNext x)) := by
  subst hl
  exact congrArg (fun t => Host.Outcome.next (s.keepQ t)) (if_pos ⟨hs, hx, hp⟩)

theorem swapLineEcho_early (hl : (tget [] s.su.lineRts x.toNat).length < 15)
    (hp : tget 0 s.su.linePings x.toNat = (tget [] s.su.lineRts x.toNat).length + 1) : ∃ t, exec (.swapLineEcho x rtt) s = .next t ∧
      tget [] t.su.lineRts x.toNat = tget [] s.su.lineRts x.toNat ++ [rtt.toNat] ∧ t.su.lineState = 1 ∧ t.su.stnIds = s.su.stnIds := by
  refine ⟨_, exec_swapLineEcho hs hx rfl hp, ?_⟩
  rw [State.keepQ_su, if_pos (show _ < 16 by rw [List.length_append, List.length_singleton]; omega)]
  exact ⟨tget_tset_same [] _ _ _, hs, rfl⟩

theorem swapLineEcho_latches (hl : (tget [] s.su.lineRts x.toNat).length = 15) (hp : tget 0 s.su.linePings x.toNat = 16)
    (heq : ∀ r ∈ tget [] s.su.lineRts x.toNat, r = rtt.toNat) (hr : badRt rtt.toNat = false) : ∃ t, exec (.swapLineEcho x rtt) s = .next t ∧
      tget 0 t.su.lineD x.toNat = (rtt.toNat - 1) / 2 ∧ (t.stnId x.toNat).eq.toNat = 4 - (rtt.toNat - 1) / 2 ∧
      (x ≠ 3 → t.su.lineStn = x + 1 ∧ t.su.lineState = 1) ∧ (x = 3 → t.su.lineState = 2) := by
  obtain ⟨hgood, hagree, hd⟩ := branch_of_equal heq hr
  obtain ⟨-, heqn⟩ := latched_toNat hr
  refine ⟨_, exec_swapLineEcho hs hx rfl (by rw [hp, hl]), ?_⟩
  unfold State.stnId
  rw [State.keepQ_su, if_neg (by simp [hl]), if_neg (by simp [hgood, hagree])]
  obtain ⟨hline, hids, hnext, hdone⟩ := lineNext_shows (s.quiet.lineLatched x (tget [] s.su.lineRts x.toNat ++ [rtt.toNat])) x
  refine ⟨?_, ?_, fun hne => (hnext hne).imp_right (fun hst => hst.trans hs), hdone⟩
  · rw [hline, ← hd]
    exact tget_tset_same 0 _ _ _
  · rw [hids, ← heqn, ← hd]
    exact congrArg (fun i : StnId => i.eq.toNat) (tget_tmod_same StnId.init s.su.stnIds x.toNat (StnId.latched _))

theorem swapLineEcho_fails (hl : (tget [] s.su.lineRts x.toNat).length = 15) (hp : tget 0 s.su.linePings x.toNat = 16)
    (hbad : badRt rtt.toNat = true ∨ ∃ r ∈ tget [] s.su.lineRts x.toNat, badRt r = true ∨ r ≠ rtt.toNat) :
    ∃ t, exec (.swapLineEcho x rtt) s = .next t ∧ t.su.lineState = 3 ∧ t.su.stnIds = s.su.stnIds ∧ t.su.step = 15 ∧ t.su.code = 2 := by
  refine ⟨_, exec_swapLineEcho hs hx rfl (by rw [hp, hl]), ?_⟩
  rw [State.keepQ_su, if_neg (by simp [hl]), if_pos (branch_fails hbad)]
  exact ⟨rfl, rfl, rfl, rfl⟩
end

/-- Settles O11: a ping, an early echo, the 16th and a missing one, of a halt and of a station. -/
theorem calibrationMeasuresEveryBranch : Obligations.CalibrationMeasuresEveryBranch := by
  refine ⟨fun h s hc hp => ⟨_, exec_gangCalPing hc hp, State.keepQ_su _ _⟩, fun h rtt s hc hp hl heq hr => gangCalEcho_latches hc hp hl heq hr,
    fun h s hc hp => ⟨_, exec_gangCalEchoMissing hc hp, ?_⟩, fun x s hs hx hp => ⟨_, exec_swapLinePing hs hx hp, ?_⟩,
    fun x rtt s hs hx hl hp heq hr => swapLineEcho_latches hs hx hl hp heq hr, fun x s hs hx hp => ⟨_, exec_swapLineEchoMissing hs hx hp, ?_⟩,
    fun h rtt s hc hp hl => gangCalEcho_early hc hp hl, fun h rtt s hc hp hl hbad => gangCalEcho_fails hc hp hl hbad,
    fun x rtt s hs hx hl hp => swapLineEcho_early hs hx hl hp, fun x rtt s hs hx hl hp hbad => swapLineEcho_fails hs hx hl hp hbad⟩
  · rw [State.keepQ_su]
    exact ⟨rfl, rfl, rfl, rfl⟩
  · rw [State.keepQ_su]
    exact tget_tmod_same 0 _ _ _
  · rw [State.keepQ_su]
    exact ⟨rfl, rfl, rfl, rfl⟩

end Sys2Proof.Machine

/-! Proofs for 04: the wires of a gang whose number is past 31 (R117, R125). -/

namespace Sys2Proof.Machine

/-! ### A gang number whose registers are those of the scrub -/

/-- The number, past 31, under which GANG_CFG.X0 would have the key of SP_STEAL.COUNT of station 0 (12 R355). -/
def scrubNumbered : Nat := F.SP_STEAL_COUNT.key 0 0 - F.GANG_CFG_X0.key 0 0

/-- The state after reset with the scrub floor of station 0 engaged and one cycle of hold on the wires of that number. -/
def scrubNumberedHeld : State := (State.reset.putB F.SP_LAP_FLOOR true).modJct (fun j => { j with wires := [(scrubNumbered, 1)] })

/-- The rectangle read under that number is core 0. In fclk 0 the scrub takes its cycle (12 R345), which writes SP_STEAL before the wires
are driven, and the hold goes to another core. -/
theorem scrubNumberedHeld_tick : 0 ∈ scrubNumberedHeld.gangCores scrubNumbered ∧ Out.hold 0 1 ∉ scrubNumberedHeld.tick.out := by decide +kernel

/-- Refutes O33: its eleventh clause says that when an fclk passes, a hold on the wires of `g` reaches every core that the registers of
`g` name before it. The clause is stated for every natural number `g`, not for the 32 gangs alone (R117), and past 65535 the keys of the
model's registers run into those of other registers, one of which the scrub writes in that fclk before the wires are driven. No run
puts such a number on the wires: a slip is of one of the gangs 0 to 31. -/
theorem not_gangsEnableReleaseHoldDerail : ¬ Obligations.GangsEnableReleaseHoldDerail := by
  unfold Obligations.GangsEnableReleaseHoldDerail
  rintro ⟨-, -, -, -, -, -, -, -, -, -, hwires, -⟩
  obtain ⟨hcore, hout⟩ := scrubNumberedHeld_tick
  obtain ⟨t, ht, -, hdriven⟩ := hwires scrubNumbered 1 scrubNumberedHeld rfl rfl (by decide +kernel) (by decide +kernel) (by decide) (by decide)
  obtain rfl : scrubNumberedHeld.tick = t := Host.Outcome.next.inj ht
  exact hout (hdriven 0 hcore)

end Sys2Proof.Machine

/-! Proofs for 04: an arrival at its home station (R107 to R112). -/

namespace Sys2Proof.Machine

/-! ### What an operation keeps of the turnstile records -/

/-- The turnstile records and drift pairs of station `x` are as they were. -/
def RecordsKept (x : Nat) (s u : State) : Prop := (u.mem x).turns = (s.mem x).turns ∧ (u.mem x).drift = (s.mem x).drift

section
variable {x : Nat} {s u v : State}

theorem RecordsKept.trans (h : RecordsKept x s u) (k : RecordsKept x u v) : RecordsKept x s v := ⟨k.1.trans h.1, k.2.trans h.2⟩
theorem RecordsKept.of_stns (h : u.stns = s.stns) : RecordsKept x s u := by
  unfold RecordsKept
  rw [State.mem_congr _ _ h]
  exact ⟨rfl, rfl⟩
theorem RecordsKept.modMem (s : State) {f : StnMem → StnMem} (hf : ∀ m, (f m).turns = m.turns ∧ (f m).drift = m.drift) : RecordsKept x s (s.modMem x f) := by
  unfold RecordsKept
  rw [State.mem_modMem]
  exact hf _

/-- A turnstile's record is found by its slot's LINK. -/
theorem RecordsKept.turn (h : RecordsKept x s u) {n : Nat} (hl : (u.slot x n).link = (s.slot x n).link) : u.turn x n = s.turn x n := by
  unfold State.turn
  rw [h.1, hl]
end

/-! ### Notifications (03 R84) -/

/-- A run of messages sent changes the messages alone. -/
theorem foldl_emit {α : Type} {f : State → α → State} (hf : ∀ s a, ∃ p q m, f s a = s.emit p q m) (l : List α) (s : State) :
    ∃ n, l.foldl f s = { s with net := n } := by
  induction l generalizing s with
  | nil => exact ⟨s.net, rfl⟩
  | cons a l ih =>
    obtain ⟨p, q, m, he⟩ := hf s a
    obtain ⟨n, hn⟩ := ih (f s a)
    exact ⟨n, by rw [List.foldl_cons, hn, he]; rfl⟩

/-- The watches of `pon` that its value has not reached stand, and those of other slots. -/
def watchStands (s : State) (x pon : Nat) (w : Watch) : Bool := !(w.pon = pon && decide (w.exp.toNat ≤ (s.slot x pon).val.toNat))

/-- The watches have been compared with the slot's value: `a` comparisons and `b` hits are counted. -/
def State.compared (s : State) (x pon a b : Nat) : State :=
  ((s.occur (.stn (BitVec.ofNat 2 x)) 0x22 a).occur (.stn (BitVec.ofNat 2 x)) 0x23 b).modMem x
    (fun m => { m with watches := m.watches.filter (watchStands s x pon) })

theorem notifyWatches_eq (x pon : Nat) (s : State) : ∃ a b n, s.notifyWatches x pon = { s.compared x pon a b with net := n } := by
  unfold State.notifyWatches State.notifyIf
  dsimp only
  obtain ⟨n, hn⟩ := foldl_emit (fun _ _ => ⟨_, _, _, rfl⟩) _ _
  exact ⟨_, _, n, hn⟩

theorem notifyWatches_recordsKept (x pon : Nat) (s : State) : RecordsKept x s (s.notifyWatches x pon) := by
  obtain ⟨a, b, n, h⟩ := notifyWatches_eq x pon s
  have hocc : RecordsKept x s ((s.occur (.stn (BitVec.ofNat 2 x)) 0x22 a).occur (.stn (BitVec.ofNat 2 x)) 0x23 b) := .of_stns (by simp)
  have hcompared : RecordsKept x s (s.compared x pon a b) := hocc.trans (.modMem _ (fun _ => ⟨rfl, rfl⟩))
  rw [h]
  exact hcompared.trans (.of_stns rfl)

theorem notifyWatches_regsBut (x pon : Nat) (s : State) : RegsBut s (s.notifyWatches x pon) counterKeys := by
  obtain ⟨a, b, n, h⟩ := notifyWatches_eq x pon s
  rw [h]
  exact ((s.occur_regsBut _ _ _).trans (State.occur_regsBut _ _ _ _)).congr rfl

/-- What is left of the watches of `pon` waits for a greater value than the slot's. -/
theorem notifyWatches_watches (x pon : Nat) (s : State) {w : Watch} (hw : w ∈ ((s.notifyWatches x pon).mem x).watches) (hp : w.pon = pon) :
    (s.slot x pon).val.toNat < w.exp.toNat := by
  obtain ⟨a, b, n, h⟩ := notifyWatches_eq x pon s
  have hmem : (s.notifyWatches x pon).mem x = (s.compared x pon a b).mem x := by
    rw [h]
    rfl
  rw [hmem, State.compared, State.mem_modMem] at hw
  obtain ⟨-, hstands⟩ := List.mem_filter.mp hw
  simpa [watchStands, hp] using hstands

/-! ### A registration (03 R84) -/

theorem register_recordsKept (x pon : Nat) (sub : BitVec 5) (e : Word64) (s : State) : RecordsKept x s (s.register x pon sub e) := by
  unfold State.register
  dsimp only
  split
  · refine RecordsKept.trans ?_ (.of_stns ((State.emit_stns _ _ _ _).trans (State.occur_stns _ _ _ _)))
    exact .modMem s (fun _ => ⟨rfl, rfl⟩)
  split
  · exact .modMem s (fun _ => ⟨rfl, rfl⟩)
  split
  · refine RecordsKept.trans ?_ (.of_stns (State.put_stns _ _ _ _ _))
    exact .modMem s (fun _ => ⟨rfl, rfl⟩)
  · refine .of_stns ((State.emit_stns _ _ _ _).trans ?_)
    exact State.occur_stns (s.bump F.WATCH_FULL_COUNT x) _ _ _

/-- A target that the value has reached makes no watch entry. -/
theorem register_watches_subset {x pon : Nat} {sub : BitVec 5} {e : Word64} {s : State} (h : e.toNat ≤ (s.slot x pon).val.toNat) :
    ((s.register x pon sub e).mem x).watches ⊆ (s.mem x).watches := by
  unfold State.register
  dsimp only
  rw [if_pos h, State.mem_congr _ _ (State.emit_stns _ _ _ _), State.mem_congr _ _ (State.occur_stns _ _ _ _), State.mem_modMem]
  exact List.filter_subset_self _

/-! ### The record of an arrival (04 R107 to R109) -/

/-- The participant of bit `b` is counted: in CUR, or, if it has arrived, in NXT. -/
def TurnRec.counted (t : TurnRec) (b : Nat) : TurnRec :=
  if t.cur.getLsbD b then { t with nxt := t.nxt ||| 1#384 <<< b } else { t with cur := t.cur ||| 1#384 <<< b }

/-- The station has counted the arrival of `who`, and not yet looked at the phase. -/
def State.arrived (s : State) (x pon : Nat) (who : Orig) (b : Nat) : State :=
  (s.setTurn x pon ((s.turn x pon).counted b)).setSrc x pon (lastSrcOf who)

/-- Station `x` has counted an arrival at its turnstile `pon`: the record is `t`, the value `val`. -/
structure Counts (x pon : Nat) (s u : State) (t : TurnRec) (val : Word64) : Prop where
  work : StationWork x [pon] s u
  turn : u.turn x pon = t
  val : (u.slot x pon).val = val

theorem setTurn_stationWork (x pon : Nat) (s : State) (t : TurnRec) : StationWork x [pon] s (s.setTurn x pon t) :=
  (StationWork.refl _ _ _).modMem (fun _ => ⟨rfl, rfl⟩)

/-- A write of a slot beside its LINK keeps the turnstile's record. -/
theorem turn_modSlot (x pon : Nat) (s : State) {f : Slot → Slot} (hf : ∀ sl, (f sl).link = sl.link) : (s.modSlot x pon f).turn x pon = s.turn x pon := by
  have hkept : RecordsKept x s (s.modSlot x pon f) := .modMem s (fun _ => ⟨rfl, rfl⟩)
  exact hkept.turn (by rw [State.slot_modSlot, hf])

theorem arrived_counts (x pon : Nat) (s : State) (who : Orig) (b : Nat) :
    Counts x pon s (s.arrived x pon who b) ((s.turn x pon).counted b) (s.slot x pon).val := by
  refine ⟨(setTurn_stationWork x pon s _).trans (.modSlot _ _ List.mem_cons_self), ?_, ?_⟩
  · refine Eq.trans (turn_modSlot x pon _ ?_) (State.turn_setTurn _ _ _ _)
    exact fun _ => rfl
  · unfold State.arrived State.setSrc
    rw [State.slot_modSlot, State.setTurn_slot]

theorem setTurn_drift (x pon : Nat) (s : State) (t : TurnRec) : ((s.setTurn x pon t).mem x).drift = (s.mem x).drift := by
  unfold State.setTurn
  rw [State.mem_modMem]
theorem arrived_drift (x pon : Nat) (s : State) (who : Orig) (b : Nat) : ((s.arrived x pon who b).mem x).drift = (s.mem x).drift := by
  unfold State.arrived State.setSrc State.modSlot
  rw [State.mem_modMem]
  exact setTurn_drift x pon s _

/-! ### The end of a phase (04 R109) -/

/-- The participants that count are a matter of the masks, and of the die. -/
theorem turnMask_congr {s u : State} {t t' : TurnRec} (hsu : u.su = s.su) (hc : t'.cmask = t.cmask) (hr : t'.rmask = t.rmask) (hb : t'.pkgBase = t.pkgBase) :
    u.turnMask t' = s.turnMask t := by
  unfold State.turnMask State.dieSrc
  rw [hsu, hc, hr, hb]

theorem phaseComplete_idle {x pon : Nat} {s : State} (h : (s.turn x pon).cur ≠ s.turnMask (s.turn x pon)) (n : Nat) : s.phaseComplete x pon n = s := by
  cases n with
  | zero => rfl
  | succ n =>
    unfold State.phaseComplete
    exact if_neg (fun hc => h hc.1)

/-- A station without drift pairs re-aligns nothing. -/
theorem realign_of_no_drift {x : Nat} {s : State} (h : (s.mem x).drift = []) (pon : Nat) : s.realign x pon = s := by
  unfold State.realign
  rw [h]
  rfl

/-- The record as the next phase begins: the early arrivals count. -/
def TurnRec.nextPhase (t : TurnRec) : TurnRec := { t with cur := t.nxt, nxt := 0 }

/-- The record and the value of a complete phase. -/
def State.phaseWritten (s : State) (x pon : Nat) : State :=
  (s.setTurn x pon (s.turn x pon).nextPhase).setVal x pon ((s.slot x pon).val + 1)

/-- The gang that a turnstile is bound to, if any, is told of the phase (04 R109). -/
def State.gangTold (s : State) (x g : Nat) : State :=
  if 32 ≤ g then s.emit (.stn (BitVec.ofNat 2 x)) (s.gangRoot (g % 32)) (.gangFire (BitVec.ofNat 5 g)) else s

/-- The phase is complete: it is written, the watches are compared, and the gang is told. -/
def State.phaseDone (s : State) (x pon : Nat) : State := ((s.phaseWritten x pon).notifyWatches x pon).gangTold x (s.turn x pon).gang.toNat

section
variable (x pon : Nat) (s : State)

theorem gangTold_stns (g : Nat) : (s.gangTold x g).stns = s.stns := by
  unfold State.gangTold
  split <;> rfl
theorem gangTold_stationWork (g : Nat) : StationWork x [pon] s (s.gangTold x g) := by
  unfold State.gangTold
  split
  · exact .emit _ _ _ _ _ _
  · exact .refl _ _ _

theorem phaseWritten_counts : Counts x pon s (s.phaseWritten x pon) (s.turn x pon).nextPhase ((s.slot x pon).val + 1) := by
  refine ⟨(setTurn_stationWork x pon s _).trans (.modSlot _ _ List.mem_cons_self), ?_, ?_⟩
  · refine Eq.trans (turn_modSlot x pon _ ?_) (State.turn_setTurn _ _ _ _)
    exact fun _ => rfl
  · unfold State.phaseWritten State.setVal
    rw [State.slot_modSlot]
theorem phaseWritten_regs : (s.phaseWritten x pon).regs = s.regs := (State.setVal_regs _ _ _ _).trans (State.modMem_regs _ _ _)
theorem phaseWritten_drift : ((s.phaseWritten x pon).mem x).drift = (s.mem x).drift := by
  unfold State.phaseWritten State.setVal State.modSlot
  rw [State.mem_modMem]
  exact setTurn_drift x pon s _

/-- What notifies the watches keeps the record and the value. -/
theorem Counts.notifyWatches {u : State} {t : TurnRec} {val : Word64} (h : Counts x pon s u t val) : Counts x pon s (u.notifyWatches x pon) t val := by
  have hslot : (u.notifyWatches x pon).slot x pon = u.slot x pon := (notifyWatches_stationWork x [] u pon).slot x pon (by simp)
  exact ⟨h.work.trans (notifyWatches_stationWork _ _ _ _), ((notifyWatches_recordsKept x pon u).turn (by rw [hslot])).trans h.turn, by rw [hslot, h.val]⟩
theorem Counts.of_stns {u v : State} {t : TurnRec} {val : Word64} (h : Counts x pon s u t val) (hw : StationWork x [pon] u v) (hs : v.stns = u.stns) :
    Counts x pon s v t val :=
  ⟨h.work.trans hw, (State.turn_congr hs _ _).trans h.turn, by rw [State.slot_congr _ _ hs, h.val]⟩

theorem phaseDone_counts : Counts x pon s (s.phaseDone x pon) (s.turn x pon).nextPhase ((s.slot x pon).val + 1) :=
  .of_stns _ _ _ (.notifyWatches _ _ _ (phaseWritten_counts x pon s)) (gangTold_stationWork _ _ _ _) (gangTold_stns _ _ _)
theorem phaseDone_drift : ((s.phaseDone x pon).mem x).drift = (s.mem x).drift := by
  obtain ⟨-, hdrift⟩ := notifyWatches_recordsKept x pon (s.phaseWritten x pon)
  unfold State.phaseDone
  rw [State.mem_congr _ _ (gangTold_stns _ _ _), hdrift, phaseWritten_drift]
end

/-- With no drift pair, the last arrival of a phase completes it once, unless the early arrivals complete the next. -/
theorem phaseComplete_once {x pon : Nat} {s : State} (hcur : (s.turn x pon).cur = s.turnMask (s.turn x pon)) (h0 : (s.turn x pon).cur ≠ 0)
    (hval : (s.slot x pon).val.toNat < 2 ^ 64 - 1) (hnxt : (s.turn x pon).nxt ≠ s.turnMask (s.turn x pon)) (hdrift : (s.mem x).drift = []) :
    s.phaseComplete x pon 2 = s.phaseDone x pon := by
  obtain ⟨hwork, hturn, -⟩ := phaseDone_counts x pon s
  have hmask : (s.phaseDone x pon).turnMask (s.turn x pon).nextPhase = s.turnMask (s.turn x pon) := turnMask_congr hwork.su rfl rfl rfl
  have hidle : ((s.phaseDone x pon).turn x pon).cur ≠ (s.phaseDone x pon).turnMask ((s.phaseDone x pon).turn x pon) := by
    rw [hturn, hmask]
    exact hnxt
  calc s.phaseComplete x pon 2 = ((s.phaseDone x pon).realign x pon).phaseComplete x pon 1 := by
        rw [State.phaseComplete]
        exact if_pos ⟨hcur, h0, hval⟩
    _ = (s.phaseDone x pon).phaseComplete x pon 1 := by rw [realign_of_no_drift (by rw [phaseDone_drift, hdrift])]
    _ = s.phaseDone x pon := phaseComplete_idle hidle 1

/-- What is left of the turnstile's watches waits for a later phase. -/
theorem phaseDone_watches {x pon : Nat} {s : State} (hval : (s.slot x pon).val.toNat < 2 ^ 64 - 1) {w : Watch}
    (hw : w ∈ ((s.phaseDone x pon).mem x).watches) (hp : w.pon = pon) : (s.slot x pon).val.toNat + 1 < w.exp.toNat := by
  obtain ⟨-, -, hwritten⟩ := phaseWritten_counts x pon s
  rw [State.phaseDone, State.mem_congr _ _ (gangTold_stns _ _ _)] at hw
  have hlt := notifyWatches_watches x pon _ hw hp
  rw [hwritten] at hlt
  bv_omega

/-- A gang's root is a matter of registers that no count of events writes. -/
theorem gangRoot_congr {s u : State} (h : RegsBut s u counterKeys) {g : Nat} (hg : g < 65536) : u.gangRoot g = s.gangRoot g := by
  unfold State.gangRoot
  rw [h _ _ _ (key_not_counterKeys F.GANG_CFG_WL 0 g (by decide) (by decide) hg), h _ _ _ (key_not_counterKeys F.GANG_CFG_HL 0 g (by decide) (by decide) hg),
    h _ _ _ (key_not_counterKeys F.GANG_CFG_X0 0 g (by decide) (by decide) hg), h _ _ _ (key_not_counterKeys F.GANG_CFG_Y0 0 g (by decide) (by decide) hg)]

/-- Station `x` has sent on the way from `s` to `u` what tells gang `g`, if there is one, of a phase. -/
def Fires (x g : Nat) (s u : State) : Prop :=
  ∃ l, u.net = s.net ++ l ∧ (32 ≤ g → ⟨.stn (BitVec.ofNat 2 x), s.gangRoot (g % 32), .gangFire (BitVec.ofNat 5 g)⟩ ∈ l)

theorem gangTold_fires {x g : Nat} {s u : State} (hn : s.net <+: u.net) (hr : RegsBut s u counterKeys) : Fires x g s (u.gangTold x g) := by
  obtain ⟨l, hl⟩ := hn
  unfold State.gangTold
  split
  · refine ⟨l ++ [⟨.stn (BitVec.ofNat 2 x), u.gangRoot (g % 32), .gangFire (BitVec.ofNat 5 g)⟩], ?_, fun _ => ?_⟩
    · rw [State.emit, ← List.append_assoc, hl]
    · rw [gangRoot_congr hr (by omega)]
      exact List.mem_append_right _ (List.mem_singleton_self _)
  · exact ⟨l, hl.symm, fun h => absurd h ‹_›⟩

theorem phaseDone_fires (x pon : Nat) (s : State) : Fires x (s.turn x pon).gang.toNat s (s.phaseDone x pon) := by
  obtain ⟨hwork, -, -⟩ := (phaseWritten_counts x pon s).notifyWatches
  exact gangTold_fires hwork.net ((RegsBut.of_regs (phaseWritten_regs x pon s) _).trans (notifyWatches_regsBut x pon _))

/-- Messages sent before and after leave it so. -/
theorem Fires.extend {x g : Nat} {s u v t : State} (h : Fires x g u v) (hr : RegsBut s u counterKeys) (hs : s.net <+: u.net) (ht : v.net <+: t.net) :
    Fires x g s t := by
  obtain ⟨l, hl, hmem⟩ := h
  obtain ⟨a, ha⟩ := hs
  obtain ⟨b, hb⟩ := ht
  refine ⟨a ++ l ++ b, by rw [← hb, hl, ← ha]; simp, fun hg => ?_⟩
  rw [← gangRoot_congr hr (by omega)]
  exact List.mem_append_left _ (List.mem_append_right _ (hmem hg))

/-! ### What an arrival comes to (04 R107 to R111) -/

theorem arrivalBit_rWho {r : CoreReq} (hq : r.q.toNat < 22) (t : TurnRec) : State.arrivalBit t (rWho r) = some r.core.toNat := if_pos hq

/-- The phase that an arrival counts to. -/
def State.turnTarget (s : State) (x pon b : Nat) : Nat :=
  if (s.turn x pon).cur.getLsbD b then (s.slot x pon).val.toNat + 2 else (s.slot x pon).val.toNat + 1

section
variable {x pon : Nat} {s : State} {rq : HReq} {b : Nat} (hb : State.arrivalBit (s.turn x pon) rq.who = some b)
include hb

theorem opTurn_stranger (hm : (s.turnMask (s.turn x pon)).getLsbD b = false) : s.opTurn x pon rq = s.answer x rq .denied 0 := by
  unfold State.opTurn
  dsimp only
  rw [hb]
  exact if_pos (by rw [hm]; rfl)

section
variable (hm : (s.turnMask (s.turn x pon)).getLsbD b = true)
include hm

theorem opTurn_third (hcur : (s.turn x pon).cur.getLsbD b = true) (hnxt : (s.turn x pon).nxt.getLsbD b = true) :
    s.opTurn x pon rq = s.answer x rq .overflow 0 := by
  unfold State.opTurn
  dsimp only
  rw [hb]
  dsimp only
  rw [if_neg (by rw [hm]; decide), if_pos ⟨hcur, hnxt⟩]

theorem opTurn_counted (hroom : (s.turn x pon).cur.getLsbD b = true → (s.turn x pon).nxt.getLsbD b = false)
    (hmax : (s.turn x pon).cur.getLsbD b = false → ((s.turn x pon).cur ||| 1#384 <<< b) = s.turnMask (s.turn x pon) → (s.slot x pon).val.toNat ≠ 2 ^ 64 - 1) :
    s.opTurn x pon rq =
      if rq.req.op = 0x11 then ((s.arrived x pon rq.who b).phaseComplete x pon 2).answer x rq .done (s.slot x pon).val
      else ((s.arrived x pon rq.who b).phaseComplete x pon 2).turnWait x pon rq (s.turnTarget x pon b) (gangWaitOf (s.turn x pon) rq) := by
  have hthird : ¬((s.turn x pon).cur.getLsbD b = true ∧ (s.turn x pon).nxt.getLsbD b = true) := fun ⟨hc, hn⟩ => by simp [hroom hc] at hn
  unfold State.opTurn State.arrived State.turnTarget TurnRec.counted
  dsimp only
  rw [hb]
  dsimp only
  rw [if_neg (by rw [hm]; decide), if_neg hthird]
  by_cases hcur : (s.turn x pon).cur.getLsbD b = true
  · rw [if_neg (by simp [hcur])]
    simp only [hcur, Bool.not_true, if_true, Bool.false_eq_true, if_false]
  · rw [Bool.not_eq_true] at hcur
    rw [if_neg (fun ⟨_, hfull, hp⟩ => hmax hcur hfull hp)]
    simp only [hcur, Bool.not_false, if_true, Bool.false_eq_true, if_false]
end
end

/-! ### A blocking arrival waits for its target (04 R110) -/

/-- The wait register is that of a blocking arrival at address `a`, which its queue still holds. -/
structure Awaits (w : WaitReg) (a : GAddr) : Prop where
  v : w.v = true
  fresh : w.stale = false
  op : w.op = 0x10
  named : w.addrV = true
  addr : w.addr = a
  own : w.sided = false

/-- The register holds its target, if a value can reach it. -/
def WaitReg.targeted (w : WaitReg) (tgt : Nat) (gang : Option (BitVec 5)) (a : GAddr) : WaitReg :=
  if tgt < 2 ^ 64 then { w with exp := BitVec.ofNat 64 tgt, noTarget := false, gang := gang, addr := a } else { w with gang := gang, addr := a }

/-- What the station does for a wait of subscriber `sub` for phase `tgt`: a gang wait is answered when its gang is derailed, another is
registered. -/
def State.turnAsked (s : State) (x pon : Nat) (rq : HReq) (sub : BitVec 5) (tgt : Nat) (gang : Option (BitVec 5)) : State :=
  match gang with
  | some g => if s.get F.GANG_STAT_STATE 0 g.toNat = 3 then s.answer x rq .derailed 0 else s
  | none =>
    if 2 ^ 64 ≤ tgt then s else
    let low := (s.mem x).watches.foldl (fun (e : Nat) w => if w.pon = pon ∧ w.sub = sub then min e w.exp.toNat else e) tgt
    if tgt ≤ (s.slot x pon).val.toNat then s.register x pon sub (BitVec.ofNat 64 tgt) else s.register x pon sub (BitVec.ofNat 64 low)

theorem turnWait_awaits {x pon : Nat} {s : State} {r : CoreReq} {seq : BitVec 8} {a : GAddr} (ha : Awaits (s.wait (rHalt r) (rReg r)) a) (tgt : Nat)
    (gang : Option (BitVec 5)) :
    s.turnWait x pon (sentOn 0x10 r seq a) tgt gang =
      (s.modWait (rHalt r) (rReg r) (fun w => w.targeted tgt gang (s.addrOf x pon))).turnAsked x pon (sentOn 0x10 r seq a) (BitVec.ofNat 5 (rHalt r)) tgt gang := by
  obtain ⟨hv, hfresh, hop, hnamed, haddr, hown⟩ := ha
  have hreg : s.answerReg (rHalt r) r.core r.q (fun w => w.v && !w.stale && w.op = 0x10 && w.addrV && (w.addr = a || w.addr = s.addrOf x pon)) = some (rReg r) := by
    unfold State.answerReg
    unfold rReg at hv hfresh hop hnamed haddr hown ⊢
    exact if_pos (by simp [hv, hfresh, hop, hnamed, haddr, hown])
  unfold State.turnWait
  dsimp only [sentOn, rWho]
  rw [ofNat_rHalt]
  split
  next hnone => exact absurd (hnone.symm.trans hreg) (by simp)
  next i hsome =>
    obtain rfl := Option.some.inj (hsome.symm.trans hreg)
    rfl

section
variable (x pon : Nat) (s : State) (rq : HReq) (sub : BitVec 5) (tgt : Nat) (gang : Option (BitVec 5))

theorem turnAsked_stationWork : StationWork x [] s (s.turnAsked x pon rq sub tgt gang) := by
  unfold State.turnAsked
  dsimp only
  split
  · split
    · exact .answer _ _ _ _ _ _ _
    · exact .refl _ _ _
  split
  · exact .refl _ _ _
  split
  · exact register_stationWork _ _ _ _ _ _
  · exact register_stationWork _ _ _ _ _ _

theorem turnAsked_recordsKept : RecordsKept x s (s.turnAsked x pon rq sub tgt gang) := by
  unfold State.turnAsked
  dsimp only
  split
  · split
    · exact .of_stns (State.answer_stns _ _ _ _ _)
    · exact .of_stns rfl
  split
  · exact .of_stns rfl
  split
  · exact register_recordsKept _ _ _ _ _
  · exact register_recordsKept _ _ _ _ _

/-- A wait for a phase that has come makes no watch entry. -/
theorem turnAsked_watches (ht : tgt ≤ (s.slot x pon).val.toNat) : ((s.turnAsked x pon rq sub tgt gang).mem x).watches ⊆ (s.mem x).watches := by
  have hlt := (s.slot x pon).val.isLt
  unfold State.turnAsked
  dsimp only
  split
  · split
    · rw [State.mem_congr _ _ (State.answer_stns _ _ _ _ _)]
      exact List.Subset.refl _
    · exact List.Subset.refl _
  · rw [if_neg (by omega), if_pos ht]
    exact register_watches_subset (by rw [BitVec.toNat_ofNat, Nat.mod_eq_of_lt (by omega)]; exact ht)
end

/-! ### An arrival at its home (03 R70, R78) -/

section
variable {s v : State} {op : BitVec 6} {r : CoreReq} (h : AtHome s v op r)
include h

theorem AtHome.regsBut : RegsBut s v counterKeys := by
  obtain ⟨u, hu, hv⟩ := h
  obtain ⟨-, hregs⟩ := hu.work
  exact hregs.trans hv.regs
theorem AtHome.recordsKept (i : Nat) : RecordsKept i s v := by
  obtain ⟨u, hu, hv⟩ := h
  obtain ⟨os, ss, he⟩ := hv.stn i
  have hseq : RecordsKept i u v := by
    unfold RecordsKept State.mem
    rw [he]
    exact ⟨rfl, rfl⟩
  exact RecordsKept.trans (.of_stns hu.work.stns) hseq
theorem AtHome.turn (i n : Nat) : v.turn i n = s.turn i n := (h.recordsKept i).turn (by rw [h.slot])
theorem AtHome.turnMask (t : TurnRec) : v.turnMask t = s.turnMask t := turnMask_congr h.su rfl rfl rfl
theorem AtHome.turnTarget (i n b : Nat) : v.turnTarget i n b = s.turnTarget i n b := by
  unfold State.turnTarget
  rw [h.turn, h.slot]
end

theorem wait_modOrigin (s : State) (r : CoreReq) (f : Origin → Origin) (i : Nat) : (s.modOrigin (rPart r) f).wait (rHalt r) i = s.wait (rHalt r) i := by
  unfold State.wait State.modOrigin rPart
  dsimp only
  rw [ofNat_rHalt, State.halt_modHalt]

/-- The request goes to its serving station with its SEQ, as its halt has counted it. -/
theorem present_serves_retained {s : State} {op : BitVec 6} {r : CoreReq} (h : s.takes op r = true) (h0 : op ≠ 0) (h14 : op ≠ 0x14) (hr : opRetained op = true) :
    ∃ f seq, s.present op r = (((s.acc r.core r.q).counted op r).modOrigin (rPart r) f).serve (rHalt r / 4) (sentOn op r seq 0) false
      (tget 0 (s.halt (rHalt r)).bases (rReg r)) := by
  rw [State.present_of_takes h, accepted_launch r h0 h14, counted_bases]
  unfold State.launch
  dsimp only
  rw [if_pos (show opRetained (asked op r).req.op = true from hr)]
  exact ⟨_, _, rfl⟩

/-- The wait register of a blocking arrival, as its halt has taken the request and named the object. -/
theorem named_awaits (s : State) (f : Origin → Origin) (a : GAddr) {r : CoreReq} (hq : r.q.toNat < 22) :
    Awaits (((((s.acc r.core r.q).counted 0x10 r).modOrigin (rPart r) f).named 0x10 r a).wait (rHalt r) (rReg r)) a := by
  have hblocking : opPosted 0x10 r.ret = false := by cases r.ret <;> decide
  have hcounted : (s.acc r.core r.q).counted 0x10 r = (s.acc r.core r.q).modWait (rHalt r) (rReg r)
      (fun _ => waitOf (haltReq 0x10 r) ((s.acc r.core r.q).flag F.WAIT_CFG_LUISK 0 r.pav.toNat)) := if_neg (by rw [hblocking]; decide)
  unfold State.named
  rw [if_neg (by rw [hblocking]; simp; omega), State.wait_modWait_eq, if_pos rfl, wait_modOrigin, hcounted, State.wait_modWait_eq, if_pos rfl]
  exact ⟨rfl, rfl, rfl, rfl, rfl, rfl⟩

/-- An arrival that its turnstile takes comes to its home; the halt of a blocking one awaits the target. -/
theorem present_turn {s : State} {op : BitVec 6} {r : CoreReq} {x : BitVec 2} {pon : Nat} (hop : op = 0x10 ∨ op = 0x11) (hm : s.meets op r x pon = true) :
    ∃ v seq, AtHome s v op r ∧ s.present op r = v.opTurn x.toNat pon (sentOn op r seq (s.addrOf x.toNat pon)) ∧
      (op = 0x10 → Awaits (v.wait (rHalt r) (rReg r)) (s.addrOf x.toNat pon)) := by
  have hkind : op ≠ 0 ∧ op ≠ 0x02 ∧ op ≠ 0x14 ∧ opRetained op = true := by rcases hop with rfl | rfl <;> decide
  obtain ⟨h0, h2, h14, hretained⟩ := hkind
  obtain ⟨htakes, hfinds, hadmits⟩ := meets_iff hm
  obtain ⟨hpon, hsrc, htr⟩ := finds_translate hfinds
  obtain ⟨htest, hgen, -⟩ := takes_serving htakes
  obtain ⟨f, seq, hp⟩ := present_serves_retained htakes h0 h14 hretained
  have hserved : Sent s (((s.acc r.core r.q).counted op r).modOrigin (rPart r) f) op r := (sent_counted htest).modOrigin f
  obtain ⟨hfailed, hgen'⟩ := hserved.serves htakes h0
  have hsent := (hserved.named (s.addrOf x.toNat pon)).retainReq (sentOn op r seq (s.addrOf x.toNat pon))
  have hseq := fun u : State => (recordSeq_seqWork u x.toNat (sentOn op r seq (s.addrOf x.toNat pon))).occur (.stn (BitVec.ofNat 2 x.toNat)) 0x20 1
  refine ⟨_, seq, ⟨_, hsent, hseq _⟩, ?_, ?_⟩
  · rw [hp, serve_found h2 hfailed hgen' (by rw [hserved.work.translate]; exact htr), if_pos hretained, route_here hsent.work hsrc hpon,
      reach_admitted hsent.work hadmits hgen]
    rcases hop with rfl | rfl
    · rfl
    · rfl
  · rintro rfl
    rw [State.wait_congr (hseq _).halts, State.retainReq, State.retain, wait_modOrigin]
    exact named_awaits s f _ (takes_queue htakes).2

/-! ### Refused arrivals -/

/-- Station `x` has answered the arrival, and counted nothing. -/
structure TurnRefused (s t : State) (op : BitVec 6) (r : CoreReq) (x : BitVec 2) (pon : Nat) (st : Status) : Prop where
  accepted : AcceptedBy s t op r
  slots : SlotsBut s t x []
  turn : t.turn x.toNat pon = s.turn x.toNat pon
  answered : Answered s t op r x st 0

theorem TurnRefused.keep {s t : State} {op : BitVec 6} {r : CoreReq} {x : BitVec 2} {pon : Nat} {st : Status} (h : TurnRefused s.quiet t op r x pon st) :
    TurnRefused s (s.keep t) op r x pon st :=
  ⟨h.accepted.keep, h.slots.keep, (State.turn_congr (State.keep_stns _ _) _ _).trans h.turn, h.answered.keep⟩

theorem AtHome.turnRefused {s v : State} {op : BitVec 6} {r : CoreReq} (h : AtHome s v op r) (x : BitVec 2) (pon : Nat) (seq : BitVec 8) (a : GAddr) (st : Status) :
    TurnRefused s (v.answer x.toNat (sentOn op r seq a) st 0) op r x pon st := by
  have hwork := StationWork.answer x.toNat [] v x.toNat (sentOn op r seq a) st 0
  obtain ⟨hslots, hanswered⟩ := h.answers x seq a st
  refine ⟨h.acceptedBy hwork.halts ?_, hslots, (State.turn_congr (State.answer_stns _ _ _ _ _) _ _).trans (h.turn _ _), hanswered⟩
  obtain ⟨o, ho⟩ := hwork.out
  exact ⟨o, ho.symm⟩

section
variable {s : State} {op : BitVec 6} {r : CoreReq} {x : BitVec 2} {pon : Nat} (hop : op = 0x10 ∨ op = 0x11) (hm : s.meets op r x pon = true)
include hop hm

/-- An arrival of no participant (04 R112). -/
theorem turn_stranger (hbit : (s.turnMask (s.turn x.toNat pon)).getLsbD r.core.toNat = false) : TurnRefused s (s.present op r) op r x pon .denied := by
  obtain ⟨v, seq, hat, hp, -⟩ := present_turn hop hm
  have hq := (takes_queue (meets_iff hm).1).2
  rw [hp, opTurn_stranger (arrivalBit_rWho hq _) (by rw [hat.turn, hat.turnMask]; exact hbit)]
  exact hat.turnRefused x pon seq _ _

/-- A third arrival (04 R112). -/
theorem turn_third (hbit : (s.turnMask (s.turn x.toNat pon)).getLsbD r.core.toNat = true) (hcur : (s.turn x.toNat pon).cur.getLsbD r.core.toNat = true)
    (hnxt : (s.turn x.toNat pon).nxt.getLsbD r.core.toNat = true) : TurnRefused s (s.present op r) op r x pon .overflow := by
  obtain ⟨v, seq, hat, hp, -⟩ := present_turn hop hm
  have hq := (takes_queue (meets_iff hm).1).2
  rw [hp, opTurn_third (arrivalBit_rWho hq _) (by rw [hat.turn, hat.turnMask]; exact hbit) (by rw [hat.turn]; exact hcur) (by rw [hat.turn]; exact hnxt)]
  exact hat.turnRefused x pon seq _ _
end

/-! ### Counted arrivals -/

/-- The arrival is counted by `w`, for phase `tgt`, with the value `val` before; what follows to `t` tells its queue, or lets it wait. -/
structure TurnTold (s w t : State) (op : BitVec 6) (r : CoreReq) (x : BitVec 2) (pon tgt : Nat) (val : Word64) : Prop where
  accepted : AcceptedBy s t op r
  slot : ∀ j m, t.slot j m = w.slot j m
  turn : t.turn x.toNat pon = w.turn x.toNat pon
  net : w.net <+: t.net
  watches : tgt ≤ (w.slot x.toNat pon).val.toNat → (t.mem x.toNat).watches ⊆ (w.mem x.toNat).watches
  told : op = 0x11 → Answered s t op r x .done val
  waits : op = 0x10 → tgt < 2 ^ 64 → (t.wait (rHalt r) (rReg r)).exp = BitVec.ofNat 64 tgt

section
variable {s v w : State} {r : CoreReq} {x : BitVec 2} {pon : Nat}

theorem AtHome.turnTold_nw (h : AtHome s v 0x11 r) (hw : StationWork x.toNat [pon] v w) (seq : BitVec 8) (a : GAddr) (tgt : Nat) (val : Word64) :
    TurnTold s w (w.answer x.toNat (sentOn 0x11 r seq a) .done val) 0x11 r x pon tgt val := by
  have hans := StationWork.answer x.toNat [pon] w x.toNat (sentOn 0x11 r seq a) .done val
  have hstns := State.answer_stns w x.toNat (sentOn 0x11 r seq a) .done val
  obtain ⟨hsu, hhalts, hprots, hout, hnet, hbounds, hslot⟩ := hw.trans hans
  obtain ⟨l, hl⟩ := h.net
  refine ⟨h.acceptedBy hhalts ?_, State.slot_congr _ _ hstns, State.turn_congr hstns _ _, hans.net, ?_, fun _ => ?_, fun hc => absurd hc (by decide)⟩
  · obtain ⟨o, ho⟩ := hout
    exact ⟨o, ho.symm⟩
  · rw [State.mem_congr _ _ hstns]
    exact fun _ => List.Subset.refl _
  · rw [State.answer, BitVec.ofNat_toNat, BitVec.setWidth_eq]
    exact answered_answerFrom ((List.prefix_append _ _).trans (hl ▸ hw.net))

theorem targeted_keeps (w : WaitReg) (tgt : Nat) (gang : Option (BitVec 5)) (a : GAddr) : (w.targeted tgt gang a).v = w.v ∧ (w.targeted tgt gang a).op = w.op := by
  unfold WaitReg.targeted
  split
  · exact ⟨rfl, rfl⟩
  · exact ⟨rfl, rfl⟩
theorem targeted_exp (w : WaitReg) {tgt : Nat} (h : tgt < 2 ^ 64) (gang : Option (BitVec 5)) (a : GAddr) : (w.targeted tgt gang a).exp = BitVec.ofNat 64 tgt := by
  rw [WaitReg.targeted, if_pos h]

/-- The halt still holds its request when the wait register has its target. -/
theorem AtHome.acceptedBy_targeted {t : State} (h : AtHome s v 0x10 r) {tgt : Nat} {gang : Option (BitVec 5)} {a : GAddr} (hout : v.out <+: t.out)
    (hhalts : t.halts = (v.modWait (rHalt r) (rReg r) (fun w => w.targeted tgt gang a)).halts) : AcceptedBy s t 0x10 r := by
  obtain ⟨u, ⟨-, hacc, htook⟩, hv⟩ := h
  have hhalt : t.halt (rHalt r) = { u.halt (rHalt r) with waits := tmod WaitReg.init (u.halt (rHalt r)).waits (rReg r) (fun w => w.targeted tgt gang a) } := by
    rw [State.halt_congr _ _ hhalts, State.modWait, State.halt_modHalt, State.halt_congr _ _ hv.halts]
  refine ⟨hout.subset (hv.out ▸ hacc), ?_⟩
  unfold State.wait
  rw [hhalt]
  refine htook.congr rfl rfl ?_
  rw [tget_tmod_same WaitReg.init]
  exact targeted_keeps _ _ _ _

theorem AtHome.turnTold_wait (h : AtHome s v 0x10 r) (hw : StationWork x.toNat [pon] v w) {seq : BitVec 8} {a : GAddr}
    (ha : Awaits (v.wait (rHalt r) (rReg r)) a) (tgt : Nat) (gang : Option (BitVec 5)) (val : Word64) :
    TurnTold s w (w.turnWait x.toNat pon (sentOn 0x10 r seq a) tgt gang) 0x10 r x pon tgt val := by
  obtain ⟨hsu, hhalts, hprots, hout, hnet, hbounds, hslot⟩ := hw
  rw [turnWait_awaits (by rw [State.wait_congr hhalts]; exact ha)]
  generalize hu : w.modWait (rHalt r) (rReg r) (fun q => q.targeted tgt gang (w.addrOf x.toNat pon)) = u
  have hstns : u.stns = w.stns := by rw [← hu]; rfl
  have hask := turnAsked_stationWork x.toNat pon u (sentOn 0x10 r seq a) (BitVec.ofNat 5 (rHalt r)) tgt gang
  have hkept := turnAsked_recordsKept x.toNat pon u (sentOn 0x10 r seq a) (BitVec.ofNat 5 (rHalt r)) tgt gang
  have hslot' : ∀ j m, (u.turnAsked x.toNat pon (sentOn 0x10 r seq a) (BitVec.ofNat 5 (rHalt r)) tgt gang).slot j m = w.slot j m := fun j m => by
    rw [hask.slot j m (by simp), State.slot_congr _ _ hstns]
  refine ⟨h.acceptedBy_targeted (tgt := tgt) (gang := gang) (a := w.addrOf x.toNat pon) ?_ ?_, hslot', ?_, ?_, fun hle => ?_, fun hc => absurd hc (by decide), fun _ htgt => ?_⟩
  · exact (hout.trans (by rw [← hu]; exact List.prefix_rfl)).trans hask.out
  · rw [hask.halts, ← hu]
    unfold State.modWait State.modHalt
    dsimp only
    rw [hhalts]
  · rw [hkept.turn (by rw [hask.slot _ _ (by simp)]), State.turn_congr hstns]
  · exact List.IsPrefix.trans (by rw [← hu]; exact List.prefix_rfl) hask.net
  · rw [← State.mem_congr _ _ hstns]
    exact turnAsked_watches _ _ _ _ _ _ _ (by rw [State.slot_congr _ _ hstns]; exact hle)
  · rw [State.wait_congr hask.halts, ← hu, State.wait_modWait_eq, if_pos rfl, targeted_exp _ htgt]
end

/-- The arrival is counted: the record is `rec` and the value `val`, and its queue is told, or waits for phase `tgt`. -/
structure TurnCounted (s t : State) (op : BitVec 6) (r : CoreReq) (x : BitVec 2) (pon tgt : Nat) (rec : TurnRec) (val : Word64) : Prop where
  accepted : AcceptedBy s t op r
  slots : SlotsBut s t x [pon]
  val : (t.slot x.toNat pon).val = val
  turn : t.turn x.toNat pon = rec
  told : op = 0x11 → Answered s t op r x .done (s.slot x.toNat pon).val
  waits : op = 0x10 → tgt < 2 ^ 64 → (t.wait (rHalt r) (rReg r)).exp = BitVec.ofNat 64 tgt

/-- The arrival completes the phase for gang `g`, if there is one, and phase `tgt` comes. -/
structure TurnCompletes (s t : State) (x : BitVec 2) (pon g tgt : Nat) : Prop where
  fires : Fires x.toNat g s t
  watches : ∀ w ∈ (t.mem x.toNat).watches, w.pon = pon → tgt < w.exp.toNat

section
variable {s t v w : State} {op : BitVec 6} {r : CoreReq} {x : BitVec 2} {pon tgt g : Nat} {rec : TurnRec} {val : Word64}

theorem TurnCounted.keep (h : TurnCounted s.quiet t op r x pon tgt rec val) : TurnCounted s (s.keep t) op r x pon tgt rec val :=
  ⟨h.accepted.keep, h.slots.keep, by rw [State.slot_congr _ _ (State.keep_stns _ _), h.val], (State.turn_congr (State.keep_stns _ _) _ _).trans h.turn,
    fun hop => (h.told hop).keep, fun hop htgt => by rw [State.wait_congr (State.keep_halts _ _), h.waits hop htgt]⟩
theorem TurnCompletes.keep (h : TurnCompletes s.quiet t x pon g tgt) : TurnCompletes s (s.keep t) x pon g tgt := by
  obtain ⟨⟨l, hl, hmem⟩, hwatches⟩ := h
  exact ⟨⟨l, by rw [State.keep_net, hl]; rfl, hmem⟩, by rw [State.mem_congr _ _ (State.keep_stns _ _)]; exact hwatches⟩

theorem TurnTold.counted (h : TurnTold s w t op r x pon tgt (s.slot x.toNat pon).val) (hat : AtHome s v op r) (hw : Counts x.toNat pon v w rec val) :
    TurnCounted s t op r x pon tgt rec val := by
  obtain ⟨hwork, hturn, hval⟩ := hw
  refine ⟨h.accepted, fun j m hn => ?_, by rw [h.slot, hval], h.turn.trans hturn, h.told, h.waits⟩
  rw [h.slot, hwork.slot j m hn, hat.slot]
end

/-- The counted record of a first arrival, and of an early one. -/
theorem counted_first {t : TurnRec} {b : Nat} (h : t.cur.getLsbD b = false) : t.counted b = { t with cur := t.cur ||| 1#384 <<< b } := if_neg (by simp [h])
theorem counted_early {t : TurnRec} {b : Nat} (h : t.cur.getLsbD b = true) : t.counted b = { t with nxt := t.nxt ||| 1#384 <<< b } := if_pos h

section
variable {s : State} {op : BitVec 6} {r : CoreReq} {x : BitVec 2} {pon : Nat} (hop : op = 0x10 ∨ op = 0x11) (hm : s.meets op r x pon = true)
  (hbit : (s.turnMask (s.turn x.toNat pon)).getLsbD r.core.toNat = true)
include hop hm hbit

/-- An arrival of a participant that may arrive is counted at its home, and told of when the phase has been looked at. -/
theorem turn_told (hroom : (s.turn x.toNat pon).cur.getLsbD r.core.toNat = true → (s.turn x.toNat pon).nxt.getLsbD r.core.toNat = false)
    (hmax : (s.turn x.toNat pon).cur.getLsbD r.core.toNat = false →
      ((s.turn x.toNat pon).cur ||| 1#384 <<< r.core.toNat) = s.turnMask (s.turn x.toNat pon) → (s.slot x.toNat pon).val.toNat ≠ 2 ^ 64 - 1) :
    ∃ v, AtHome s v op r ∧ ∀ w, (v.arrived x.toNat pon (rWho r) r.core.toNat).phaseComplete x.toNat pon 2 = w → StationWork x.toNat [pon] v w →
      TurnTold s w (s.present op r) op r x pon (s.turnTarget x.toNat pon r.core.toNat) (s.slot x.toNat pon).val := by
  obtain ⟨v, seq, hat, hp, hawaits⟩ := present_turn hop hm
  have hq := (takes_queue (meets_iff hm).1).2
  refine ⟨v, hat, ?_⟩
  rintro w rfl hw
  rw [hp, opTurn_counted (arrivalBit_rWho hq _) (by rw [hat.turn, hat.turnMask]; exact hbit) (by rw [hat.turn]; exact hroom)
    (by rw [hat.turn, hat.turnMask, hat.slot]; exact hmax), hat.slot, hat.turnTarget]
  rcases hop with rfl | rfl
  · rw [if_neg (show ¬(sentOn 0x10 r seq (s.addrOf x.toNat pon)).req.op = 0x11 from show ¬(0x10 : BitVec 6) = 0x11 from by decide)]
    exact hat.turnTold_wait hw (hawaits rfl) _ _ _
  · rw [if_pos (show (sentOn 0x11 r seq (s.addrOf x.toNat pon)).req.op = 0x11 from rfl)]
    exact hat.turnTold_nw hw seq _ _ _

/-- An arrival that leaves others missing. -/
theorem turn_incomplete (hroom : (s.turn x.toNat pon).cur.getLsbD r.core.toNat = true → (s.turn x.toNat pon).nxt.getLsbD r.core.toNat = false)
    (hmissing : ((s.turn x.toNat pon).counted r.core.toNat).cur ≠ s.turnMask (s.turn x.toNat pon)) :
    TurnCounted s (s.present op r) op r x pon (s.turnTarget x.toNat pon r.core.toNat) ((s.turn x.toNat pon).counted r.core.toNat) (s.slot x.toNat pon).val := by
  obtain ⟨v, hat, htold⟩ := turn_told hop hm hbit hroom (fun hcur hfull => absurd (by rw [counted_first hcur]; exact hfull) hmissing)
  have hcounts := arrived_counts x.toNat pon v (rWho r) r.core.toNat
  rw [hat.turn, hat.slot] at hcounts
  have hmask : (v.arrived x.toNat pon (rWho r) r.core.toNat).turnMask ((s.turn x.toNat pon).counted r.core.toNat) = s.turnMask (s.turn x.toNat pon) := by
    unfold TurnRec.counted
    split
    · exact turnMask_congr (hcounts.work.su.trans hat.su) rfl rfl rfl
    · exact turnMask_congr (hcounts.work.su.trans hat.su) rfl rfl rfl
  have hidle := phaseComplete_idle (x := x.toNat) (pon := pon) (s := v.arrived x.toNat pon (rWho r) r.core.toNat) (by rw [hcounts.turn, hmask]; exact hmissing) 2
  exact (htold _ hidle hcounts.work).counted hat hcounts

theorem turn_first (hcur : (s.turn x.toNat pon).cur.getLsbD r.core.toNat = false)
    (hmissing : ((s.turn x.toNat pon).cur ||| 1#384 <<< r.core.toNat) ≠ s.turnMask (s.turn x.toNat pon)) :
    TurnCounted s (s.present op r) op r x pon ((s.slot x.toNat pon).val.toNat + 1)
      { s.turn x.toNat pon with cur := (s.turn x.toNat pon).cur ||| 1#384 <<< r.core.toNat } (s.slot x.toNat pon).val := by
  have h := turn_incomplete hop hm hbit (fun hc => by simp [hcur] at hc) (by rw [counted_first hcur]; exact hmissing)
  rwa [counted_first hcur, State.turnTarget, if_neg (by simp [hcur])] at h
theorem turn_early (hcur : (s.turn x.toNat pon).cur.getLsbD r.core.toNat = true) (hnxt : (s.turn x.toNat pon).nxt.getLsbD r.core.toNat = false)
    (hmissing : (s.turn x.toNat pon).cur ≠ s.turnMask (s.turn x.toNat pon)) :
    TurnCounted s (s.present op r) op r x pon ((s.slot x.toNat pon).val.toNat + 2)
      { s.turn x.toNat pon with nxt := (s.turn x.toNat pon).nxt ||| 1#384 <<< r.core.toNat } (s.slot x.toNat pon).val := by
  have h := turn_incomplete hop hm hbit (fun _ => hnxt) (by rw [counted_early hcur]; exact hmissing)
  rwa [counted_early hcur, State.turnTarget, if_pos hcur] at h

/-- The last arrival of a phase. -/
theorem turn_last (hcur : (s.turn x.toNat pon).cur.getLsbD r.core.toNat = false)
    (hfull : ((s.turn x.toNat pon).cur ||| 1#384 <<< r.core.toNat) = s.turnMask (s.turn x.toNat pon))
    (hnxt : (s.turn x.toNat pon).nxt ≠ s.turnMask (s.turn x.toNat pon)) (hval : (s.slot x.toNat pon).val.toNat < 2 ^ 64 - 1)
    (hdrift : (s.mem x.toNat).drift = []) :
    TurnCounted s (s.present op r) op r x pon ((s.slot x.toNat pon).val.toNat + 1) (s.turn x.toNat pon).nextPhase ((s.slot x.toNat pon).val + 1) ∧
      TurnCompletes s (s.present op r) x pon (s.turn x.toNat pon).gang.toNat ((s.slot x.toNat pon).val.toNat + 1) := by
  obtain ⟨v, hat, htold⟩ := turn_told hop hm hbit (fun hc => by simp [hcur] at hc) (fun _ _ => by omega)
  generalize ha : v.arrived x.toNat pon (rWho r) r.core.toNat = a at htold
  have hcounts := arrived_counts x.toNat pon v (rWho r) r.core.toNat
  rw [hat.turn, hat.slot, counted_first hcur, ha] at hcounts
  obtain ⟨hwork, hturn, hvalue⟩ := hcounts
  have hmask : a.turnMask (a.turn x.toNat pon) = s.turnMask (s.turn x.toNat pon) := by
    rw [hturn]
    exact turnMask_congr (hwork.su.trans hat.su) rfl rfl rfl
  have hne : (a.turn x.toNat pon).cur ≠ 0 := fun h0 => by
    have hempty : s.turnMask (s.turn x.toNat pon) = 0 := by rw [← hmask, ← h0, hmask, hturn, hfull]
    rw [hempty] at hbit
    simp at hbit
  have hdone := phaseComplete_once (x := x.toNat) (pon := pon) (s := a) (by rw [hmask, hturn]; exact hfull) hne (by rw [hvalue]; exact hval)
    (by rw [hmask, hturn]; exact hnxt) (by rw [← ha, arrived_drift, (hat.recordsKept _).2]; exact hdrift)
  have hphase := phaseDone_counts x.toNat pon a
  obtain ⟨hwork', hturn', hvalue'⟩ := hphase
  have hall : Counts x.toNat pon v (a.phaseDone x.toNat pon) (s.turn x.toNat pon).nextPhase ((s.slot x.toNat pon).val + 1) :=
    ⟨hwork.trans hwork', by rw [hturn', hturn]; rfl, by rw [hvalue', hvalue]⟩
  have htarget : s.turnTarget x.toNat pon r.core.toNat = (s.slot x.toNat pon).val.toNat + 1 := if_neg (by simp [hcur])
  have hend := htold _ hdone hall.work
  rw [htarget] at hend
  refine ⟨hend.counted hat hall, ?_, fun w hw hpon => ?_⟩
  · have hfires := phaseDone_fires x.toNat pon a
    rw [hturn] at hfires
    obtain ⟨l, hl⟩ := hat.net
    have hregs : RegsBut s a counterKeys := hat.regsBut.congr (by rw [← ha]; rfl)
    exact hfires.extend hregs ((List.prefix_append _ _).trans (hl ▸ hwork.net)) hend.net
  · have hreached : (s.slot x.toNat pon).val.toNat + 1 ≤ ((a.phaseDone x.toNat pon).slot x.toNat pon).val.toNat := by
      rw [hall.val]
      bv_omega
    have hlt := phaseDone_watches (by rw [hvalue]; exact hval) (hend.watches hreached hw) hpon
    rwa [hvalue] at hlt
end

/-! ### The command -/

theorem exec_turnArrive (r : CoreReq) (s : State) : exec (.turnArrive r) s = .next (s.keep (s.quiet.present 0x10 r)) := rfl
theorem exec_turnArriveNw (r : CoreReq) (s : State) : exec (.turnArriveNw r) s = .next (s.keep (s.quiet.present 0x11 r)) := rfl

/-- The register's target, as a word. -/
theorem ofNat_succ (v : Word64) : BitVec.ofNat 64 (v.toNat + 1) = v + 1 := by bv_omega

/-- Settles O25: an arrival comes to its home, where it is refused, leaves others missing, or is the last of its phase. -/
theorem turnstileArrivals : Obligations.TurnstileArrivals := by
  refine ⟨fun r x pon s hm hbit hcur hne => ?_, fun r x pon s hm hbit hcur hfull hnxt hval hdrift => ?_, fun r x pon s hm hbit hcur hnxt hne => ?_,
    fun r x pon s hm hbit hcur hnxt => ?_, fun r x pon s hm hbit => ?_, fun r x pon s hm hbit hcur hne => ?_,
    fun r x pon s hm hbit hcur hfull hnxt hval hdrift => ?_, fun r x pon s hm hbit hcur hnxt hne => ?_, fun r x pon s hm hbit hcur hnxt => ?_,
    fun r x pon s hm hbit => ?_⟩
  · obtain ⟨hacc, hslots, hval, hturn, -, hwaits⟩ := (turn_first (s := s.quiet) (.inl rfl) hm hbit hcur hne).keep
    exact ⟨_, exec_turnArrive r s, hacc, hslots, hval, hturn, fun hlt => (hwaits rfl (by change (s.slot x.toNat pon).val.toNat + 1 < _; omega)).trans (ofNat_succ _)⟩
  · obtain ⟨hcounted, hcompletes⟩ := turn_last (s := s.quiet) (.inl rfl) hm hbit hcur hfull hnxt hval hdrift
    obtain ⟨hacc, hslots, hval', hturn, -, hwaits⟩ := hcounted.keep
    obtain ⟨⟨l, hnet, hfires⟩, hwatches⟩ := hcompletes.keep
    rw [BitVec.ofNat_toNat, BitVec.setWidth_eq] at hfires
    exact ⟨_, l, exec_turnArrive r s, hacc, hslots, hval', hturn, hnet, hwatches,
      (hwaits rfl (by change (s.slot x.toNat pon).val.toNat + 1 < _; omega)).trans (ofNat_succ _), hfires⟩
  · obtain ⟨hacc, hslots, hval, hturn, -, -⟩ := (turn_early (s := s.quiet) (.inl rfl) hm hbit hcur hnxt hne).keep
    exact ⟨_, exec_turnArrive r s, hacc, hslots, hval, hturn⟩
  · obtain ⟨hacc, hslots, hturn, hans⟩ := (turn_third (s := s.quiet) (.inl rfl) hm hbit hcur hnxt).keep
    exact ⟨_, exec_turnArrive r s, hacc, hslots, hturn, hans⟩
  · obtain ⟨hacc, hslots, hturn, hans⟩ := (turn_stranger (s := s.quiet) (.inl rfl) hm hbit).keep
    exact ⟨_, exec_turnArrive r s, hacc, hslots, hturn, hans⟩
  · obtain ⟨hacc, hslots, hval, hturn, htold, -⟩ := (turn_first (s := s.quiet) (.inr rfl) hm hbit hcur hne).keep
    exact ⟨_, exec_turnArriveNw r s, hacc, hslots, hval, hturn, htold rfl⟩
  · obtain ⟨hcounted, hcompletes⟩ := turn_last (s := s.quiet) (.inr rfl) hm hbit hcur hfull hnxt hval hdrift
    obtain ⟨hacc, hslots, hval', hturn, htold, -⟩ := hcounted.keep
    obtain ⟨⟨l, hnet, hfires⟩, hwatches⟩ := hcompletes.keep
    rw [BitVec.ofNat_toNat, BitVec.setWidth_eq] at hfires
    exact ⟨_, l, exec_turnArriveNw r s, hacc, hslots, hval', hturn, hnet, hwatches, htold rfl, hfires⟩
  · obtain ⟨hacc, hslots, hval, hturn, -, -⟩ := (turn_early (s := s.quiet) (.inr rfl) hm hbit hcur hnxt hne).keep
    exact ⟨_, exec_turnArriveNw r s, hacc, hslots, hval, hturn⟩
  · obtain ⟨hacc, hslots, hturn, hans⟩ := (turn_third (s := s.quiet) (.inr rfl) hm hbit hcur hnxt).keep
    exact ⟨_, exec_turnArriveNw r s, hacc, hslots, hturn, hans⟩
  · obtain ⟨hacc, hslots, hturn, hans⟩ := (turn_stranger (s := s.quiet) (.inr rfl) hm hbit).keep
    exact ⟨_, exec_turnArriveNw r s, hacc, hslots, hturn, hans⟩

end Sys2Proof.Machine

/-! Proofs for 05: what a request does at its home: its answer, its slot, entries and waiter records (R135, R144). -/

namespace Sys2Proof.Machine

/-! ### A request at its home (03 R70, R78) -/

/-- A request that its slot takes is carried out at its home by its operation `f`. -/
theorem present_op {s : State} {op : BitVec 6} {r : CoreReq} {x : BitVec 2} {pon : Nat} (f : State → HReq → State) (hm : s.meets op r x pon = true)
    (hop : op ≠ 0 ∧ op ≠ 0x02 ∧ op ≠ 0x14) (hf : ∀ u seq, State.opDo u x.toNat pon (sentOn op r seq (s.addrOf x.toNat pon)) =
      f (u.occur (.stn (BitVec.ofNat 2 x.toNat)) 0x20 1) (sentOn op r seq (s.addrOf x.toNat pon))) :
    ∃ v seq, AtHome s v op r ∧ s.present op r = f v (sentOn op r seq (s.addrOf x.toNat pon)) := by
  obtain ⟨h0, h2, h14⟩ := hop
  obtain ⟨htakes, -, hadmits⟩ := meets_iff hm
  obtain ⟨-, hgen, -⟩ := takes_serving htakes
  obtain ⟨u, seq, hp, hsent⟩ := present_arrives hm h0 h2 h14
  rw [hp, reach_admitted hsent.work hadmits hgen, hf]
  exact ⟨_, seq, ⟨u, hsent, (recordSeq_seqWork _ _ _).occur _ _ _⟩, rfl⟩

section
variable {s v : State} {op : BitVec 6} {r : CoreReq} (h : AtHome s v op r)
include h

/-- A station that has taken a request differs by its record of SEQs alone. -/
theorem AtHome.stn (i : Nat) : ∃ os ss, v.stn i = (s.stn i).withSeqs os ss := by
  obtain ⟨u, hu, hv⟩ := h
  obtain ⟨os, ss, he⟩ := hv.stn i
  exact ⟨os, ss, by rw [he, State.stn_congr _ _ hu.work.stns]⟩
theorem AtHome.waiters (i : Nat) : (v.mem i).waiters = (s.mem i).waiters := by
  obtain ⟨os, ss, he⟩ := h.stn i
  unfold State.mem
  rw [he]
  rfl
theorem AtHome.waitersOf (i n : Nat) : v.waitersOf i n = s.waitersOf i n := by rw [State.waitersOf, h.waiters, State.waitersOf]
theorem AtHome.ent (i n : Nat) : v.ent i n = s.ent i n := by
  obtain ⟨u, hu, hv⟩ := h
  rw [hv.ent, hu.work.ent]
theorem AtHome.identOf (w : Orig) : v.identOf w = s.identOf w := by
  unfold State.identOf
  rw [h.su]
/-- Whether a waiter record is admitted is as it was. -/
theorem AtHome.admitRow (i : Nat) (p : BitVec 6) : v.admitRow i p = s.admitRow i p := by
  obtain ⟨os, ss, he⟩ := h.stn i
  have hp := p.isLt
  have hshare : v.watchShare p = s.watchShare p :=
    h.regsBut _ _ _ (key_not_counterKeys F.SH_WATCH_SHARE 0 (p.toNat + 64) (by decide) (by decide) (by omega))
  unfold State.admitRow State.rowsOf State.freeRow State.rowsRetired State.mem
  rw [hshare, he]
  rfl
end

/-- The request of `r` is accepted, and its station has written no slot but `ps`. -/
structure Carried (s t : State) (op : BitVec 6) (r : CoreReq) (x : BitVec 2) (ps : List Nat) : Prop where
  accepted : AcceptedBy s t op r
  slots : SlotsBut s t x ps

section
variable {s u v t : State} {op : BitVec 6} {r : CoreReq} {x : BitVec 2} {ps : List Nat} {st : Status} {val : Word64}

theorem Carried.keep (h : Carried s.quiet t op r x ps) : Carried s (s.keep t) op r x ps := ⟨h.accepted.keep, h.slots.keep⟩

theorem AtHome.carried (h : AtHome s v op r) (hw : StationWork x.toNat ps v t) : Carried s t op r x ps := by
  obtain ⟨o, ho⟩ := hw.out
  exact ⟨h.acceptedBy hw.halts ⟨o, ho.symm⟩, fun j m hn => (hw.slot j m hn).trans (h.slot j m)⟩

/-- What a station does beside its answer keeps what has been carried out. -/
theorem Carried.extend (h : Carried s u op r x ps) (hw : StationWork x.toNat ps u t) : Carried s t op r x ps := by
  obtain ⟨⟨hacc, htook⟩, hslots⟩ := h
  refine ⟨⟨hw.out.subset hacc, ?_⟩, fun j m hn => (hw.slot j m hn).trans (hslots j m hn)⟩
  rw [State.halt_congr _ _ hw.halts, State.wait_congr hw.halts]
  exact htook
theorem Carried.mono {qs : List Nat} (h : Carried s t op r x ps) (hp : ps ⊆ qs) : Carried s t op r x qs :=
  ⟨h.accepted, fun j m hn => h.slots j m (fun hc => hn ⟨hc.1, hp hc.2⟩)⟩

/-- A home answers its request, whatever it has sent before. -/
theorem AtHome.answered (h : AtHome s v op r) (hn : v.net <+: u.net) (seq : BitVec 8) (a : GAddr) (st : Status) (val : Word64) :
    Answered s (u.answer x.toNat (sentOn op r seq a) st val) op r x st val := by
  obtain ⟨l, hl⟩ := h.net
  rw [State.answer, BitVec.ofNat_toNat, BitVec.setWidth_eq]
  exact answered_answerFrom ((List.prefix_append _ _).trans (hl ▸ hn))
/-- Messages sent after an answer leave it. -/
theorem Answered.extend (h : Answered s u op r x st val) (hn : u.net <+: t.net) : Answered s t op r x st val := by
  obtain ⟨l, rq, m, hl, hwho, hop, hmem, hack, hcompl⟩ := h
  obtain ⟨k, hk⟩ := hn
  exact ⟨l ++ k, rq, m, by rw [← hk, hl, List.append_assoc], hwho, hop, List.mem_append_left _ hmem, hack, hcompl⟩

theorem keep_ent (s t : State) (i n : Nat) : (s.keep t).ent i n = t.ent i n := State.ent_congr (State.keep_stns _ _) i n
theorem keep_mem (s t : State) (i : Nat) : (s.keep t).mem i = t.mem i := State.mem_congr _ _ (State.keep_stns _ _) i
theorem keep_waitersOf (s t : State) (i n : Nat) : (s.keep t).waitersOf i n = t.waitersOf i n := State.waitersOf_congr (State.keep_stns _ _) i n
end

/-! ### Entries and waiter records (05 R135, R144) -/

theorem StationWork.mono {x : Nat} {ps qs : List Nat} {s u : State} (h : StationWork x ps s u) (hp : ps ⊆ qs) : StationWork x qs s u :=
  ⟨h.su, h.halts, h.prots, h.out, h.net, h.bounds, fun j m hn => h.slot j m (fun hc => hn ⟨hc.1, hp hc.2⟩)⟩
theorem StationWork.drive (x : Nat) (ps : List Nat) (s : State) (o : Out) : StationWork x ps s (s.drive o) := by
  unfold State.drive
  split
  · exact .refl _ _ _
  · exact .of_stns rfl rfl rfl (List.prefix_append _ _) List.prefix_rfl rfl

section
variable (x : Nat) (ps : List Nat) (s : State) (pon : Nat)

theorem setEnt_stationWork (e : SemEnt) : StationWork x ps s (s.setEnt x pon e) := by
  unfold State.setEnt
  dsimp only
  split
  · exact (StationWork.refl _ _ _).modMem (fun _ => ⟨rfl, rfl⟩)
  · exact (StationWork.refl _ _ _).modMem (fun _ => ⟨rfl, rfl⟩)
theorem dropWaiter_stationWork (row : Nat) : StationWork x ps s (s.dropWaiter x row) := (StationWork.refl _ _ _).modMem (fun _ => ⟨rfl, rfl⟩)
theorem dropWaiter_gone (row : Nat) : ∀ w ∈ ((s.dropWaiter x row).mem x).waiters, w.row ≠ row := fun w hw => by
  rw [mem_dropWaiter] at hw
  exact of_decide_eq_true (List.mem_filter.mp hw).2

theorem setSrc_stationWork (o : BitVec 16) (h : pon ∈ ps) : StationWork x ps s (s.setSrc x pon o) := .modSlot s _ h
theorem setSrc_ent (o : BitVec 16) : (s.setSrc x pon o).ent x pon = s.ent x pon := State.ent_modSlot _ _ _ (fun _ => ⟨rfl, rfl⟩)
theorem setSrc_waiters (o : BitVec 16) : ((s.setSrc x pon o).mem x).waiters = (s.mem x).waiters := by
  rw [State.setSrc, State.modSlot, State.mem_modMem]
end

/-- `u` is `s` with waiter record `w` of a request in place `i` of the queue of station `x`. -/
structure Queued (x pon : Nat) (s u : State) (w : Waiter) (i : Nat) : Prop where
  work : StationWork x [pon] s u
  ent : u.ent x pon = s.ent x pon
  waiters : (u.mem x).waiters = (s.mem x).waiters.take i ++ [w] ++ (s.mem x).waiters.drop i

/-- A request whose pavilion has a row to spare gets a waiter record there. -/
theorem queueWaiter_queued {s : State} {x : Nat} {rq : HReq} (h : (s.admitRow x rq.req.pav).isSome = true) (pon : Nat) (pos : List Waiter → Nat) :
    ∃ u row, s.queueWaiter x pon rq pos = some u ∧ Queued x pon s u ⟨row, pon, 0, rq⟩ (pos (s.mem x).waiters) := by
  obtain ⟨row, hrow⟩ := Option.isSome_iff_exists.mp h
  unfold State.queueWaiter
  rw [hrow]
  refine ⟨_, row, rfl, ?_, ?_, ?_⟩
  · refine ((StationWork.refl _ _ _).modMem ?_).trans (.of_stns rfl rfl rfl List.prefix_rfl List.prefix_rfl (State.put_stns _ _ _ _ _))
    exact fun _ => ⟨rfl, rfl⟩
  · rw [State.watchHigh, State.ent_congr (State.put_stns _ _ _ _ _)]
    have hslot := (SlotWrites.modMem s x [] (f := fun m => { m with waiters := m.waiters.take (pos m.waiters) ++ [⟨row, pon, 0, rq⟩] ++ m.waiters.drop (pos m.waiters) })
      (fun _ => rfl)).2 x pon (by simp)
    unfold State.ent
    rw [hslot, State.mem_modMem]
  · rw [State.watchHigh, State.mem_congr _ _ (State.put_stns _ _ _ _ _), State.mem_modMem]

section
variable {x pon i : Nat} {s u : State} {w : Waiter}

/-- The record at the end of the queue is the last of its object's. -/
theorem Queued.last (h : Queued x pon s u w (s.mem x).waiters.length) (hw : w.pon = pon) : u.waitersOf x pon = s.waitersOf x pon ++ [w] := by
  unfold State.waitersOf
  rw [h.waiters, List.take_length, List.drop_length, List.append_nil, List.filter_append]
  simp [hw]
/-- The object has the record beside those that it had. -/
theorem Queued.perm (h : Queued x pon s u w i) (hw : w.pon = pon) : (u.waitersOf x pon).Perm (w :: s.waitersOf x pon) := by
  have hall : (u.mem x).waiters.Perm (w :: (s.mem x).waiters) := by
    rw [h.waiters, List.append_assoc, List.singleton_append]
    refine List.perm_middle.trans ?_
    rw [List.take_append_drop]
  refine (hall.filter _).trans ?_
  simp [State.waitersOf, hw]
theorem Queued.setSrc (h : Queued x pon s u w i) (o : BitVec 16) : Queued x pon s (u.setSrc x pon o) w i :=
  ⟨h.work.trans (setSrc_stationWork _ _ _ _ _ List.mem_cons_self), (setSrc_ent _ _ _ _).trans h.ent, (setSrc_waiters _ _ _ _).trans h.waiters⟩
end

end Sys2Proof.Machine

/-! Proofs for 05: semaphores (R139 to R142). -/

namespace Sys2Proof.Machine

/-! ### The count -/

/-- The n of a semaphore operation (R139). -/
def HReq.amount (rq : HReq) : Word32 := rq.req.operand.extractLsb' 0 32

theorem amount_mod (rq : HReq) : rq.req.operand.toNat % 2 ^ 32 = rq.amount.toNat := by simp [HReq.amount, BitVec.extractLsb'_toNat]
theorem amount_eq_zero_iff (rq : HReq) : rq.amount.toNat = 0 ↔ rq.amount = 0 := by bv_omega
theorem ofNat_add_toNat (c n : Word32) : BitVec.ofNat 32 (c.toNat + n.toNat) = c + n := by bv_omega
theorem ofNat_sub_toNat {c n : Word32} (h : n.toNat ≤ c.toNat) : BitVec.ofNat 32 (c.toNat - n.toNat) = c - n := by bv_omega

/-- The count is `c`, as `who` has changed it. -/
def State.recounted (s : State) (x pon : Nat) (who : Orig) (c : Word32) : State :=
  (s.setEnt x pon { s.ent x pon with count := c }).setSrc x pon (lastSrcOf who)

section
variable (x pon : Nat) (s : State) (who : Orig) (c : Word32)

theorem recounted_stationWork : StationWork x [pon] s (s.recounted x pon who c) :=
  (setEnt_stationWork _ _ _ _ _).trans (setSrc_stationWork _ _ _ _ _ List.mem_cons_self)
theorem recounted_ent : (s.recounted x pon who c).ent x pon = { s.ent x pon with count := c } := (setSrc_ent _ _ _ _).trans (State.ent_setEnt _ _ _ _)
theorem recounted_waiters : ((s.recounted x pon who c).mem x).waiters = (s.mem x).waiters :=
  (setSrc_waiters _ _ _ _).trans (setEnt_waitersAs x s pon _).2
theorem recounted_slot : (s.recounted x pon who c).slot x pon = { s.slot x pon with lastSrc := lastSrcOf who } := by
  rw [State.recounted, State.setSrc, State.slot_modSlot, State.setEnt_slot]
end

/-! ### SEM_DEC (R141) -/

/-- SEM_DEC has taken its amount, which may be none. -/
def State.semDecd (s : State) (x pon : Nat) (rq : HReq) : State :=
  if rq.amount = 0 then s else s.recounted x pon rq.who ((s.ent x pon).count - rq.amount)

section
variable (x pon : Nat) (s : State) (rq : HReq)

theorem semDecd_stationWork : StationWork x [pon] s (s.semDecd x pon rq) := by
  unfold State.semDecd
  split
  · exact .refl _ _ _
  · exact recounted_stationWork _ _ _ _ _
theorem semDecd_count : ((s.semDecd x pon rq).ent x pon).count = (s.ent x pon).count - rq.amount := by
  unfold State.semDecd
  split
  · simp [*]
  · rw [recounted_ent]
theorem semDecd_waiters : ((s.semDecd x pon rq).mem x).waiters = (s.mem x).waiters := by
  unfold State.semDecd
  split
  · rfl
  · exact recounted_waiters _ _ _ _ _
theorem semDecd_val : ((s.semDecd x pon rq).slot x pon).val = (s.slot x pon).val := by
  unfold State.semDecd
  split
  · rfl
  · rw [recounted_slot]
end

section
variable {x pon : Nat} {s : State} {rq : HReq}

theorem opSemDec_takes (h : rq.amount.toNat ≤ (s.ent x pon).count.toNat) :
    s.opSemDec x pon rq = (s.semDecd x pon rq).answer x rq .done (((s.ent x pon).count - rq.amount).setWidth 64) := by
  unfold State.opSemDec State.semDecd
  dsimp only
  rw [amount_mod, if_pos h, ofNat_sub_toNat h, BitVec.ofNat_toNat]
  simp only [amount_eq_zero_iff]
  rfl
theorem opSemDec_short (h : ¬ rq.amount.toNat ≤ (s.ent x pon).count.toNat) : s.opSemDec x pon rq = s.answer x rq .underflow 0 := by
  unfold State.opSemDec
  dsimp only
  rw [amount_mod, if_neg h]
end

/-! ### Grants to the queue (R140) -/

/-- The state in which waiter `w` has been granted. -/
def State.semGranted (s : State) (x pon : Nat) (w : Waiter) : State :=
  ((s.dropWaiter x w.row).setEnt x pon { s.ent x pon with count := (s.ent x pon).count - w.rq.amount }).answer x w.rq .done
    (((s.ent x pon).count - w.rq.amount).setWidth 64)

section
variable {x pon : Nat} {s : State}

theorem semGrant_cons {w : Waiter} {ws : List Waiter} (hw : s.waitersOf x pon = w :: ws) (fuel : Nat) :
    s.semGrant x pon (fuel + 1) = if w.rq.amount.toNat ≤ (s.ent x pon).count.toNat then (s.semGranted x pon w).semGrant x pon fuel else s := by
  rw [State.semGrant, hw]
  dsimp only
  rw [amount_mod]
  refine ite_congr rfl (fun h => ?_) (fun _ => rfl)
  rw [ofNat_sub_toNat h, BitVec.ofNat_toNat]
  rfl
theorem semGrant_nil (hw : s.waitersOf x pon = []) (fuel : Nat) : s.semGrant x pon fuel = s := by
  cases fuel with
  | zero => rfl
  | succ fuel => rw [State.semGrant, hw]

theorem semGranted_stationWork (w : Waiter) : StationWork x [] s (s.semGranted x pon w) :=
  ((dropWaiter_stationWork _ _ _ _).trans (setEnt_stationWork _ _ _ _ _)).trans (.answer _ _ _ _ _ _ _)
theorem semGranted_waiters (w : Waiter) : ((s.semGranted x pon w).mem x).waiters = ((s.dropWaiter x w.row).mem x).waiters := by
  rw [State.semGranted, State.mem_congr _ _ (State.answer_stns _ _ _ _ _), (setEnt_waitersAs _ _ _ _).2]
end

section
variable (x pon : Nat) (s : State)

/-- Grants change the entry and remove waiter records; no slot and no halt is changed. -/
theorem semGrant_grants (fuel : Nat) : StationWork x [] s (s.semGrant x pon fuel) ∧ ((s.semGrant x pon fuel).mem x).waiters ⊆ (s.mem x).waiters := by
  induction fuel generalizing s with
  | zero => exact ⟨.refl _ _ _, List.Subset.refl _⟩
  | succ fuel ih =>
    cases hw : s.waitersOf x pon with
    | nil =>
      rw [semGrant_nil hw]
      exact ⟨.refl _ _ _, List.Subset.refl _⟩
    | cons w ws =>
      rw [semGrant_cons hw]
      split
      · obtain ⟨hwork, hsub⟩ := ih (s.semGranted x pon w)
        refine ⟨(semGranted_stationWork w).trans hwork, List.Subset.trans hsub ?_⟩
        rw [semGranted_waiters, mem_dropWaiter]
        exact List.filter_subset_self _
      · exact ⟨.refl _ _ _, List.Subset.refl _⟩
theorem semGrants_stationWork : StationWork x [] s (s.semGrants x pon) := (semGrant_grants x pon s _).1
end

/-- A head waiter whose n fits is granted: its record goes. -/
theorem semGrants_head {x pon : Nat} {s : State} {w : Waiter} {ws : List Waiter} (hw : s.waitersOf x pon = w :: ws)
    (hfit : w.rq.amount.toNat ≤ (s.ent x pon).count.toNat) : ∀ w' ∈ ((s.semGrants x pon).mem x).waiters, w'.row ≠ w.row := by
  unfold State.semGrants
  rw [hw, List.length_cons, semGrant_cons hw, if_pos hfit]
  intro w' hmem
  have hleft := (semGrant_grants x pon (s.semGranted x pon w) ws.length).2 hmem
  rw [semGranted_waiters] at hleft
  exact dropWaiter_gone _ _ _ _ hleft

/-! ### SEM_POST (R139, R142) -/

section
variable {x pon : Nat} {s : State} {rq : HReq} (h0 : rq.amount ≠ 0)
include h0

theorem opSemPost_adds (hfit : (s.ent x pon).count.toNat + rq.amount.toNat < 2 ^ 31) :
    s.opSemPost x pon rq = ((s.recounted x pon rq.who ((s.ent x pon).count + rq.amount)).answer x rq .done
      (((s.ent x pon).count + rq.amount).setWidth 64)).semGrants x pon := by
  unfold State.opSemPost
  dsimp only
  rw [amount_mod, if_neg (by rw [amount_eq_zero_iff]; exact h0), if_pos (by omega), ofNat_add_toNat, BitVec.ofNat_toNat]
  rfl
theorem opSemPost_overflows (hover : 2 ^ 31 ≤ (s.ent x pon).count.toNat + rq.amount.toNat) :
    s.opSemPost x pon rq = (s.evt (0x08 + x) 1).answer x rq .overflow 0 := by
  unfold State.opSemPost
  dsimp only
  rw [amount_mod, if_neg (by rw [amount_eq_zero_iff]; exact h0), if_neg (by omega)]

/-! ### SEM_TAKE (R140, R142) -/

theorem opSemTake_takes (hmax : rq.amount.toNat < 2 ^ 31) (hw : s.waitersOf x pon = []) (hfit : rq.amount.toNat ≤ (s.ent x pon).count.toNat) :
    s.opSemTake x pon rq = (s.recounted x pon rq.who ((s.ent x pon).count - rq.amount)).answer x rq .done (((s.ent x pon).count - rq.amount).setWidth 64) := by
  unfold State.opSemTake
  dsimp only
  rw [amount_mod, if_neg (by rw [amount_eq_zero_iff]; exact h0), if_neg (by omega), if_pos ⟨by rw [hw]; rfl, hfit⟩, ofNat_sub_toNat hfit, BitVec.ofNat_toNat]
  rfl
theorem opSemTake_queues (hmax : rq.amount.toNat < 2 ^ 31) (hwait : s.waitersOf x pon ≠ [] ∨ (s.ent x pon).count.toNat < rq.amount.toNat)
    (hrow : (s.admitRow x rq.req.pav).isSome = true) : ∃ row, Queued x pon s (s.opSemTake x pon rq) ⟨row, pon, 0, rq⟩ (s.mem x).waiters.length := by
  have hno : ¬((s.waitersOf x pon).isEmpty = true ∧ rq.amount.toNat ≤ (s.ent x pon).count.toNat) := by
    rintro ⟨hempty, hfit⟩
    rcases hwait with hne | hlt
    · exact hne (List.isEmpty_iff.mp hempty)
    · omega
  obtain ⟨u, row, hq, hqueued⟩ := queueWaiter_queued hrow pon (·.length)
  refine ⟨row, ?_⟩
  unfold State.opSemTake
  dsimp only
  rw [amount_mod, if_neg (by rw [amount_eq_zero_iff]; exact h0), if_neg (by omega), if_neg hno, hq]
  exact hqueued.setSrc _
end

theorem opSemTake_denied {x pon : Nat} {s : State} {rq : HReq} (hmax : 2 ^ 31 ≤ rq.amount.toNat) : s.opSemTake x pon rq = s.answer x rq .denied 0 := by
  unfold State.opSemTake
  dsimp only
  rw [amount_mod, if_neg (by omega), if_pos (by omega)]

end Sys2Proof.Machine

/-! Proofs for 05: the semaphore commands, each at its semaphore (R139 to R142). -/

namespace Sys2Proof.Machine

section
variable {s : State} {r : CoreReq} {x : BitVec 2} {pon : Nat}

theorem present_semPost (hm : s.meets 0x08 r x pon = true) :
    ∃ v seq, AtHome s v 0x08 r ∧ s.present 0x08 r = v.opSemPost x.toNat pon (sentOn 0x08 r seq (s.addrOf x.toNat pon)) :=
  present_op (fun v rq => v.opSemPost x.toNat pon rq) hm (by decide) (fun _ _ => rfl)
theorem present_semTake (hm : s.meets 0x09 r x pon = true) :
    ∃ v seq, AtHome s v 0x09 r ∧ s.present 0x09 r = v.opSemTake x.toNat pon (sentOn 0x09 r seq (s.addrOf x.toNat pon)) :=
  present_op (fun v rq => v.opSemTake x.toNat pon rq) hm (by decide) (fun _ _ => rfl)
theorem present_semDec (hm : s.meets 0x0A r x pon = true) :
    ∃ v seq, AtHome s v 0x0A r ∧ s.present 0x0A r = v.opSemDec x.toNat pon (sentOn 0x0A r seq (s.addrOf x.toNat pon)) :=
  present_op (fun v rq => v.opSemDec x.toNat pon rq) hm (by decide) (fun _ _ => rfl)
end

theorem exec_semPost (r : CoreReq) (s : State) : exec (.semPost r) s = .next (s.keep (s.quiet.present 0x08 r)) := rfl
theorem exec_semTake (r : CoreReq) (s : State) : exec (.semTake r) s = .next (s.keep (s.quiet.present 0x09 r)) := rfl
theorem exec_semDec (r : CoreReq) (s : State) : exec (.semDec r) s = .next (s.keep (s.quiet.present 0x0A r)) := rfl

/-! ### A request that its home answers at once -/

/-- The request of `r` is carried out, and its slot links to entry `e`; waiter records stand. -/
structure EntryShown (s t : State) (op : BitVec 6) (r : CoreReq) (x : BitVec 2) (pon : Nat) (ps : List Nat) (e : SemEnt) : Prop where
  carried : Carried s t op r x ps
  ent : t.ent x.toNat pon = e
  waiters : (t.mem x.toNat).waiters = (s.mem x.toNat).waiters

section
variable {s u v t : State} {op : BitVec 6} {r : CoreReq} {x : BitVec 2} {pon : Nat} {ps : List Nat} {e : SemEnt}

theorem EntryShown.keep (h : EntryShown s.quiet t op r x pon ps e) : EntryShown s (s.keep t) op r x pon ps e :=
  ⟨h.carried.keep, (keep_ent _ _ _ _).trans h.ent, (congrArg StnMem.waiters (keep_mem _ _ _)).trans h.waiters⟩

/-- What a home has written of an entry stands in its answer. -/
theorem AtHome.entryShown (h : AtHome s v op r) (hw : StationWork x.toNat ps v u) (he : u.ent x.toNat pon = e)
    (hq : (u.mem x.toNat).waiters = (v.mem x.toNat).waiters) (rq : HReq) (st : Status) (val : Word64) :
    EntryShown s (u.answer x.toNat rq st val) op r x pon ps e :=
  ⟨h.carried (hw.trans (.answer _ _ _ _ _ _ _)), (State.ent_congr (State.answer_stns _ _ _ _ _) _ _).trans he,
    (congrArg StnMem.waiters (State.mem_congr _ _ (State.answer_stns _ _ _ _ _) _)).trans (hq.trans (h.waiters _))⟩

/-- A request that its home answers and does not carry out leaves its object. -/
theorem AtHome.refusedShown (h : AtHome s v op r) (pon : Nat) (seq : BitVec 8) (a : GAddr) (st : Status) (val : Word64) :
    EntryShown s (v.answer x.toNat (sentOn op r seq a) st val) op r x pon [] (s.ent x.toNat pon) ∧
      Answered s (v.answer x.toNat (sentOn op r seq a) st val) op r x st val :=
  ⟨h.entryShown (.refl _ _ _) (h.ent _ _) rfl _ _ _, h.answered List.prefix_rfl _ _ _ _⟩
end

/-! ### SEM_DEC (R141) -/

section
variable {s : State} {r : CoreReq} {x : BitVec 2} {pon : Nat} (hm : s.meets 0x0A r x pon = true)
include hm

/-- A SEM_DEC whose n the count holds takes it. -/
theorem semDec_takes (hn : (r.operand.extractLsb' 0 32).toNat ≤ (s.ent x.toNat pon).count.toNat) :
    ∃ e, e.count = (s.ent x.toNat pon).count - r.operand.extractLsb' 0 32 ∧ EntryShown s (s.present 0x0A r) 0x0A r x pon [pon] e ∧
      ((s.present 0x0A r).slot x.toNat pon).val = (s.slot x.toNat pon).val ∧
      Answered s (s.present 0x0A r) 0x0A r x .done (((s.ent x.toNat pon).count - r.operand.extractLsb' 0 32).setWidth 64) := by
  obtain ⟨v, seq, hat, hp⟩ := present_semDec hm
  rw [hp, opSemDec_takes (by rw [hat.ent]; exact hn), hat.ent]
  have hwork := semDecd_stationWork x.toNat pon v (sentOn 0x0A r seq (s.addrOf x.toNat pon))
  refine ⟨_, ?_, hat.entryShown hwork rfl (semDecd_waiters _ _ _ _) _ _ _, ?_, hat.answered hwork.net _ _ _ _⟩
  · rw [semDecd_count, hat.ent]
    rfl
  · rw [State.slot_congr _ _ (State.answer_stns _ _ _ _ _), semDecd_val, hat.slot]

/-- Another leaves the count, and underflows. -/
theorem semDec_underflows (hn : ¬ (r.operand.extractLsb' 0 32).toNat ≤ (s.ent x.toNat pon).count.toNat) :
    EntryShown s (s.present 0x0A r) 0x0A r x pon [] (s.ent x.toNat pon) ∧ Answered s (s.present 0x0A r) 0x0A r x .underflow 0 := by
  obtain ⟨v, seq, hat, hp⟩ := present_semDec hm
  rw [hp, opSemDec_short (by rw [hat.ent]; exact hn)]
  exact hat.refusedShown pon seq _ _ _
end

/-- Settles O22: the count holds n, or it does not; neither queues. -/
theorem semDecNeverWaits : Obligations.SemDecNeverWaits := by
  intro r x pon s hm
  refine ⟨_, exec_semDec r s, ?_⟩
  by_cases hn : (r.operand.extractLsb' 0 32).toNat ≤ (s.ent x.toNat pon).count.toNat
  · obtain ⟨e, hcount, hshown, hval, hans⟩ := semDec_takes (s := s.quiet) hm hn
    obtain ⟨⟨hacc, hslots⟩, hent, hwaiters⟩ := hshown.keep
    rw [if_pos hn]
    exact ⟨hacc, hwaiters, hslots, (congrArg Slot.val (State.slot_congr _ _ (State.keep_stns _ _) _ _)).trans hval, by rw [hent, hcount]; rfl, hans.keep⟩
  · obtain ⟨hshown, hans⟩ := semDec_underflows (s := s.quiet) hm hn
    obtain ⟨hcarried, hent, hwaiters⟩ := hshown.keep
    rw [if_neg hn]
    exact ⟨hcarried.accepted, hwaiters, (hcarried.mono (List.nil_subset _)).slots, congrArg Slot.val (hcarried.slots _ _ (by simp)), hent, hans.keep⟩

/-! ### SEM_POST (R139, R142) -/

/-- A SEM_POST has raised the count to `c`, granted what it could from the head of the queue, and told its originator. -/
structure SemPosted (s t : State) (r : CoreReq) (x : BitVec 2) (pon : Nat) (c : Word32) : Prop where
  carried : Carried s t 0x08 r x [pon]
  lastSrc : (t.slot x.toNat pon).lastSrc = lastSrcOf (rWho r)
  answered : Answered s t 0x08 r x .done (c.setWidth 64)
  alone : s.waitersOf x.toNat pon = [] → t.ent x.toNat pon = { s.ent x.toNat pon with count := c }
  head : ∀ w ws, s.waitersOf x.toNat pon = w :: ws → (w.rq.req.operand.extractLsb' 0 32).toNat ≤ c.toNat → ∀ w' ∈ (t.mem x.toNat).waiters, w'.row ≠ w.row

theorem SemPosted.keep {s t : State} {r : CoreReq} {x : BitVec 2} {pon : Nat} {c : Word32} (h : SemPosted s.quiet t r x pon c) :
    SemPosted s (s.keep t) r x pon c :=
  ⟨h.carried.keep, (congrArg Slot.lastSrc (State.slot_congr _ _ (State.keep_stns _ _) _ _)).trans h.lastSrc, h.answered.keep,
    fun hw => (keep_ent _ _ _ _).trans (h.alone hw), fun w ws hw hfit => by rw [keep_mem]; exact h.head w ws hw hfit⟩

section
variable {s : State} {r : CoreReq} {x : BitVec 2} {pon : Nat} (hm : s.meets 0x08 r x pon = true) (h0 : r.operand.extractLsb' 0 32 ≠ 0)
include hm h0

theorem semPost_posts (hfit : (s.ent x.toNat pon).count.toNat + (r.operand.extractLsb' 0 32).toNat < 2 ^ 31) :
    SemPosted s (s.present 0x08 r) r x pon ((s.ent x.toNat pon).count + r.operand.extractLsb' 0 32) := by
  obtain ⟨v, seq, hat, hp⟩ := present_semPost hm
  rw [hp, opSemPost_adds (rq := sentOn 0x08 r seq _) h0 (by rw [hat.ent]; exact hfit), hat.ent]
  change SemPosted s (((v.recounted x.toNat pon (rWho r) ((s.ent x.toNat pon).count + r.operand.extractLsb' 0 32)).answer x.toNat
    (sentOn 0x08 r seq (s.addrOf x.toNat pon)) .done (((s.ent x.toNat pon).count + r.operand.extractLsb' 0 32).setWidth 64)).semGrants x.toNat pon) r x pon _
  generalize (s.ent x.toNat pon).count + r.operand.extractLsb' 0 32 = c
  have hset := recounted_stationWork x.toNat pon v (rWho r) c
  have hans := hat.answered (x := x) hset.net seq (s.addrOf x.toNat pon) .done (c.setWidth 64)
  have hshown := hat.entryShown hset ((recounted_ent _ _ _ _ _).trans (by rw [hat.ent])) (recounted_waiters _ _ _ _ _)
    (sentOn 0x08 r seq (s.addrOf x.toNat pon)) .done (c.setWidth 64)
  have hslot := State.slot_congr _ _ (State.answer_stns (v.recounted x.toNat pon (rWho r) c) x.toNat (sentOn 0x08 r seq (s.addrOf x.toNat pon)) .done
    (c.setWidth 64)) x.toNat pon
  rw [recounted_slot] at hslot
  generalize (v.recounted x.toNat pon (rWho r) c).answer x.toNat (sentOn 0x08 r seq (s.addrOf x.toNat pon)) .done (c.setWidth 64) = u at *
  obtain ⟨hcarried, hent, hwaiters⟩ := hshown
  have hqueue : u.waitersOf x.toNat pon = s.waitersOf x.toNat pon := by rw [State.waitersOf, hwaiters, State.waitersOf]
  have hgrants := semGrants_stationWork x.toNat pon u
  refine ⟨hcarried.extend (hgrants.mono (List.nil_subset _)), ?_, hans.extend hgrants.net, fun hw => ?_, fun w ws hw hn => ?_⟩
  · rw [hgrants.slot _ _ (by simp), hslot]
  · rw [State.semGrants, semGrant_nil (hqueue.trans hw), hent]
  · exact semGrants_head (hqueue.trans hw) (by rw [hent]; exact hn)

/-- A post past the largest count. -/
theorem semPost_overflows (hover : 2 ^ 31 ≤ (s.ent x.toNat pon).count.toNat + (r.operand.extractLsb' 0 32).toNat) :
    EntryShown s (s.present 0x08 r) 0x08 r x pon [] (s.ent x.toNat pon) ∧ Answered s (s.present 0x08 r) 0x08 r x .overflow 0 ∧
      ((s.present 0x08 r).get F.EVT_STAT_EVT (0x08 + x.toNat)).testBit 1 = true := by
  obtain ⟨v, seq, hat, hp⟩ := present_semPost hm
  rw [hp, opSemPost_overflows (rq := sentOn 0x08 r seq _) h0 (by rw [hat.ent]; exact hover)]
  have hevt := StationWork.evt x.toNat [] v (0x08 + x.toNat) 1
  refine ⟨hat.entryShown hevt ?_ rfl _ _ _, hat.answered hevt.net _ _ _ _, ?_⟩
  · exact hat.ent _ _
  · rw [State.get_congr _ _ (State.answer_regs _ _ _ _ _), State.evt_bit _ _ _ (by decide)]
end

/-! ### SEM_TAKE (R140, R142) -/

section
variable {s : State} {r : CoreReq} {x : BitVec 2} {pon : Nat} (hm : s.meets 0x09 r x pon = true)
include hm

section
variable (h0 : r.operand.extractLsb' 0 32 ≠ 0) (hmax : (r.operand.extractLsb' 0 32).toNat < 2 ^ 31)
include h0 hmax

/-- A SEM_TAKE with nobody queued and enough count. -/
theorem semTake_takes (hw : s.waitersOf x.toNat pon = []) (hfit : (r.operand.extractLsb' 0 32).toNat ≤ (s.ent x.toNat pon).count.toNat) :
    EntryShown s (s.present 0x09 r) 0x09 r x pon [pon]
        { s.ent x.toNat pon with count := (s.ent x.toNat pon).count - r.operand.extractLsb' 0 32 } ∧
      Answered s (s.present 0x09 r) 0x09 r x .done (((s.ent x.toNat pon).count - r.operand.extractLsb' 0 32).setWidth 64) := by
  obtain ⟨v, seq, hat, hp⟩ := present_semTake hm
  rw [hp, opSemTake_takes (rq := sentOn 0x09 r seq _) h0 hmax (by rw [hat.waitersOf]; exact hw) (by rw [hat.ent]; exact hfit), hat.ent]
  have hset := fun c => recounted_stationWork x.toNat pon v (rWho r) c
  refine ⟨hat.entryShown (hset _) ?_ (recounted_waiters _ _ _ _ _) _ _ _, hat.answered (hset _).net _ _ _ _⟩
  exact (recounted_ent _ _ _ _ _).trans (by rw [hat.ent]; rfl)

/-- Another waits at the tail of the queue. -/
theorem semTake_queues (hwait : s.waitersOf x.toNat pon ≠ [] ∨ (s.ent x.toNat pon).count.toNat < (r.operand.extractLsb' 0 32).toNat)
    (hrow : (s.admitRow x.toNat r.pav).isSome = true) :
    Carried s (s.present 0x09 r) 0x09 r x [pon] ∧ (s.present 0x09 r).ent x.toNat pon = s.ent x.toNat pon ∧
      ∃ w, (s.present 0x09 r).waitersOf x.toNat pon = s.waitersOf x.toNat pon ++ [w] ∧ w.rq.who = rWho r ∧ w.rq.req.operand = r.operand ∧ w.age = 0 := by
  obtain ⟨v, seq, hat, hp⟩ := present_semTake hm
  obtain ⟨row, hqueued⟩ := opSemTake_queues (s := v) (x := x.toNat) (pon := pon) (rq := sentOn 0x09 r seq (s.addrOf x.toNat pon)) h0 hmax
    (by rw [hat.waitersOf, hat.ent]; exact hwait) (by rw [hat.admitRow]; exact hrow)
  rw [hp]
  refine ⟨hat.carried hqueued.work, hqueued.ent.trans (hat.ent _ _), ⟨row, pon, 0, sentOn 0x09 r seq (s.addrOf x.toNat pon)⟩, ?_, rfl, rfl, rfl⟩
  rw [← hat.waitersOf]
  exact hqueued.last rfl
end

/-- A SEM_TAKE of more than a count can hold. -/
theorem semTake_denied (hmax : 2 ^ 31 ≤ (r.operand.extractLsb' 0 32).toNat) :
    EntryShown s (s.present 0x09 r) 0x09 r x pon [] (s.ent x.toNat pon) ∧ Answered s (s.present 0x09 r) 0x09 r x .denied 0 := by
  obtain ⟨v, seq, hat, hp⟩ := present_semTake hm
  rw [hp, opSemTake_denied (rq := sentOn 0x09 r seq _) hmax]
  exact hat.refusedShown pon seq _ _ _
end

/-- Settles O23: a post that fits and one that overflows; a take that is granted, one that is queued and one that is denied. -/
theorem semaphorePostAndTake : Obligations.SemaphorePostAndTake := by
  refine ⟨fun r x pon s hm h0 hfit => ?_, fun r x pon s hm hover h0 => ?_, fun r x pon s hm h0 hmax hw hfit => ?_,
    fun r x pon s hm h0 hmax hwait hrow => ?_, fun r x pon s hm hmax => ?_⟩
  · obtain ⟨⟨hacc, hslots⟩, hsrc, hans, halone, hhead⟩ := (semPost_posts (s := s.quiet) hm h0 hfit).keep
    refine ⟨_, exec_semPost r s, hacc, hslots, hsrc, hans, halone, fun w ws hw hn => hhead w ws hw ?_⟩
    change _ ≤ ((s.ent x.toNat pon).count + r.operand.extractLsb' 0 32).toNat
    bv_omega
  · obtain ⟨hshown, hans, hevt⟩ := semPost_overflows (s := s.quiet) hm h0 hover
    obtain ⟨⟨hacc, hslots⟩, hent, -⟩ := hshown.keep
    exact ⟨_, exec_semPost r s, hacc, hslots, hent, hans.keep, by rw [State.get_congr _ _ (State.keep_regs _ _)]; exact hevt⟩
  · obtain ⟨hshown, hans⟩ := semTake_takes (s := s.quiet) hm h0 hmax hw hfit
    obtain ⟨⟨hacc, hslots⟩, hent, -⟩ := hshown.keep
    exact ⟨_, exec_semTake r s, hacc, hslots, hent, hans.keep⟩
  · obtain ⟨hcarried, hent, w, hw, hfields⟩ := semTake_queues (s := s.quiet) hm h0 hmax hwait hrow
    obtain ⟨hacc, hslots⟩ := hcarried.keep
    exact ⟨_, exec_semTake r s, hacc, hslots, (keep_ent _ _ _ _).trans hent, w, (keep_waitersOf _ _ _ _).trans hw, hfields⟩
  · obtain ⟨hshown, hans⟩ := semTake_denied (s := s.quiet) hm hmax
    obtain ⟨⟨hacc, hslots⟩, hent, -⟩ := hshown.keep
    exact ⟨_, exec_semTake r s, hacc, hslots, hent, hans.keep⟩

end Sys2Proof.Machine

/-! Proofs for 05: what inheritance, a release and a grant leave of a lock (R150 to R153). -/

namespace Sys2Proof.Machine

/-! ### The memory word of a lock (R148) -/

/-- The state with other requests at the memory ports. -/
def State.withPorts (s : State) (p : Tbl Port) : State := { s with ports := p }

theorem withPorts_stationWork (x : Nat) (ps : List Nat) (s : State) (p : Tbl Port) : StationWork x ps s (s.withPorts p) :=
  .of_stns rfl rfl rfl List.prefix_rfl List.prefix_rfl rfl
theorem withPorts_ent (s : State) (p : Tbl Port) (i n : Nat) : (s.withPorts p).ent i n = s.ent i n := rfl
theorem withPorts_mem (s : State) (p : Tbl Port) (i : Nat) : (s.withPorts p).mem i = s.mem i := rfl

theorem mlockWrite_eq (s : State) (x pon : Nat) : ∃ p, s.mlockWrite x pon = s.withPorts p := by
  unfold State.mlockWrite
  dsimp only
  split
  · exact ⟨_, rfl⟩
  · exact ⟨_, rfl⟩
/-- An access to a lock may write its memory word, and is else what it does. -/
theorem lockAccess_eq {s u : State} {f : State → State} (h : f s = u) (x pon : Nat) : ∃ p, s.lockAccess x pon f = u.withPorts p := by
  unfold State.lockAccess
  dsimp only
  rw [h]
  split
  · exact ⟨_, rfl⟩
  · exact mlockWrite_eq _ _ _

/-! ### Inheritance (R151) -/

/-- `u` is `s` but for BOOST and BOOSTED of entry `pon` of station `x`, and what tells the holder. -/
structure Inherits (x pon : Nat) (s u : State) : Prop where
  work : StationWork x [] s u
  waiters : (u.mem x).waiters = (s.mem x).waiters
  ent : ∃ b d, u.ent x pon = { s.ent x pon with boost := b, boosted := d }

section
variable {x pon : Nat} {s u v : State}

theorem Inherits.refl (x pon : Nat) (s : State) : Inherits x pon s s := ⟨.refl _ _ _, rfl, _, _, rfl⟩
theorem Inherits.trans (h : Inherits x pon s u) (k : Inherits x pon u v) : Inherits x pon s v := by
  obtain ⟨b, d, he⟩ := h.ent
  obtain ⟨b', d', ke⟩ := k.ent
  exact ⟨h.work.trans k.work, k.waiters.trans h.waiters, b', d', by rw [ke, he]⟩
theorem Inherits.of_stns (hw : StationWork x [] s u) (hs : u.stns = s.stns) : Inherits x pon s u :=
  ⟨hw, by rw [State.mem_congr _ _ hs], _, _, State.ent_congr hs _ _⟩
/-- BOOST and BOOSTED are written. -/
theorem Inherits.setEnt (h : Inherits x pon s u) (b : BitVec 2) (d : Bool) :
    Inherits x pon s (u.setEnt x pon { s.ent x pon with boost := b, boosted := d }) :=
  ⟨h.work.trans (setEnt_stationWork _ _ _ _ _), (setEnt_waitersAs _ _ _ _).2.trans h.waiters, b, d, State.ent_setEnt _ _ _ _⟩
end

section
variable (x pon : Nat) (s : State)

theorem noteCount_inherits : Inherits x pon s (s.noteCount x) := .of_stns (.occur _ _ _ _ _ _) (noteCount_stns _ _)
theorem sendNote_inherits (e : SemEnt) (b : Bool) (prio : BitVec 2) : Inherits x pon s (s.sendNote x pon e b prio) := by
  refine .of_stns ?_ (sendNote_stns _ _ _ _ _ _)
  unfold State.sendNote
  dsimp only
  split
  · exact .drive _ _ _ _
  · exact .of_stns rfl rfl rfl List.prefix_rfl List.prefix_rfl rfl
theorem revert_inherits : Inherits x pon s (s.revert x pon) := by
  unfold State.revert
  dsimp only
  split
  · exact .refl _ _ _
  · refine Inherits.setEnt ?_ _ _
    split
    · exact noteCount_inherits _ _ _
    · exact sendNote_inherits _ _ _ _ _ _
theorem reboost_inherits : Inherits x pon s (s.reboost x pon) := by
  have hset := fun b => (Inherits.refl x pon s).setEnt b (s.ent x pon).boosted
  unfold State.reboost
  dsimp only
  split
  · split
    · exact (hset _).trans (noteCount_inherits _ _ _)
    · exact Inherits.setEnt ((hset _).trans (sendNote_inherits _ _ _ _ _ _)) _ _
  · split
    · exact (hset _).trans (revert_inherits _ _ _)
    · exact hset _
end

/-! ### A lock given up (R152, R153) -/

/-- `u` is `s` with lock `pon` of station `x` free, its ORPHAN `o`. -/
structure Unheld (x pon : Nat) (o : Bool) (s u : State) : Prop where
  work : StationWork x [pon] s u
  waiters : (u.mem x).waiters = (s.mem x).waiters
  held : (u.ent x pon).held = false
  holder : (u.ent x pon).holder = 0
  grants : (u.ent x pon).grants = (s.ent x pon).grants
  orphan : (u.ent x pon).orphan = o

section
variable (x pon : Nat) (s : State)

theorem unhold_unheld : Unheld x pon (s.ent x pon).orphan s (s.unhold x pon) := by
  obtain ⟨hwork, hwaiters, b, d, hent⟩ := revert_inherits x pon s
  unfold State.unhold
  dsimp only
  have hset := fun e => setEnt_stationWork x [pon] (s.revert x pon) pon e
  refine ⟨(hwork.mono (List.nil_subset _)).trans (hset _), (setEnt_waitersAs _ _ _ _).2.trans hwaiters, ?_, ?_, ?_, ?_⟩ <;> rw [State.ent_setEnt]
  · rw [hent]
  · rw [hent]

/-- The holder's release, before the lock passes on. -/
theorem released_unheld (o : BitVec 16) : Unheld x pon (s.ent x pon).orphan s ((s.unhold x pon).setSrc x pon o) := by
  obtain ⟨hwork, hwaiters, hheld, hholder, hgrants, horphan⟩ := unhold_unheld x pon s
  exact ⟨hwork.trans (setSrc_stationWork _ _ _ _ _ List.mem_cons_self), (setSrc_waiters _ _ _ _).trans hwaiters, by rw [setSrc_ent, hheld],
    by rw [setSrc_ent, hholder], by rw [setSrc_ent, hgrants], by rw [setSrc_ent, horphan]⟩
/-- A forced lock is no orphan (R153). -/
theorem forced_unheld (o : BitVec 16) : Unheld x pon false s (((s.unhold x pon).setSrc x pon o).setEnt x pon
    { ((s.unhold x pon).setSrc x pon o).ent x pon with orphan := false }) := by
  obtain ⟨hwork, hwaiters, hheld, hholder, hgrants, -⟩ := released_unheld x pon s o
  exact ⟨hwork.trans (setEnt_stationWork _ _ _ _ _), (setEnt_waitersAs _ _ _ _).2.trans hwaiters, by rw [State.ent_setEnt, hheld],
    by rw [State.ent_setEnt, hholder], by rw [State.ent_setEnt, hgrants], by rw [State.ent_setEnt]⟩
end

/-! ### A lock passed on (R150, R152) -/

/-- `u` is `s` with lock `pon` of station `x` granted to waiter `w`, whose record is gone. -/
structure GrantedTo (x pon : Nat) (w : Waiter) (s u : State) : Prop where
  work : StationWork x [] s u
  held : (u.ent x pon).held = true
  holder : (u.ent x pon).holder = s.identOf w.rq.who
  grants : (u.ent x pon).grants = (s.ent x pon).grants + 1
  orphan : (u.ent x pon).orphan = (s.ent x pon).orphan
  gone : ∀ w' ∈ (u.mem x).waiters, w'.row ≠ w.row

/-- The entry of a lock that waiter `w` has got, as `who` is known. -/
def SemEnt.grantedTo (e : SemEnt) (w : Waiter) (ident : BitVec 24) : SemEnt :=
  { e with held := true, holder := ident, hpav := w.rq.req.pav, hprio := BitVec.ofNat 2 w.rq.req.operand.toNat, grants := e.grants + 1 }

theorem grantHead_nil {x pon : Nat} {s : State} (h : s.waitersOf x pon = []) (o f : Bool) (prev : BitVec 24) : s.grantHead x pon o f prev = (s, none) := by
  unfold State.grantHead
  rw [h]
theorem grantHead_cons {x pon : Nat} {s : State} {w : Waiter} {ws : List Waiter} (h : s.waitersOf x pon = w :: ws) (o f : Bool) (prev : BitVec 24) :
    GrantedTo x pon w s (s.grantHead x pon o f prev).1 := by
  unfold State.grantHead
  rw [h]
  dsimp only
  generalize grantWord _ true o f _ _ _ = gw
  have hanswer := StationWork.answer x [] ((s.dropWaiter x w.row).setEnt x pon ((s.ent x pon).grantedTo w (s.identOf w.rq.who))) x w.rq
    (if o then .orphan else .done) gw
  have hstns := State.answer_stns ((s.dropWaiter x w.row).setEnt x pon ((s.ent x pon).grantedTo w (s.identOf w.rq.who))) x w.rq
    (if o then .orphan else .done) gw
  have hwork := ((dropWaiter_stationWork x [] s w.row).trans (setEnt_stationWork _ _ _ pon _)).trans hanswer
  have hent := (State.ent_congr hstns x pon).trans (State.ent_setEnt _ _ _ _)
  have hwaiters := (congrArg StnMem.waiters (State.mem_congr _ _ hstns x)).trans (setEnt_waitersAs _ _ _ _).2
  change GrantedTo x pon w s ((((s.dropWaiter x w.row).setEnt x pon ((s.ent x pon).grantedTo w (s.identOf w.rq.who))).answer x w.rq _ gw).reboost x pon)
  generalize ((s.dropWaiter x w.row).setEnt x pon ((s.ent x pon).grantedTo w (s.identOf w.rq.who))).answer x w.rq _ gw = u at *
  obtain ⟨kwork, kwaiters, b, d, kent⟩ := reboost_inherits x pon u
  rw [hent] at kent
  refine ⟨hwork.trans kwork, by rw [kent]; rfl, by rw [kent]; rfl, by rw [kent]; rfl, by rw [kent]; rfl, fun w' hw' => ?_⟩
  rw [kwaiters, hwaiters] at hw'
  exact dropWaiter_gone _ _ _ _ hw'

/-- Lock `pon` of station `x`, given up by its holder in `s`, is free in `u` if nobody waited, and else the head waiter's; its ORPHAN is
`o`. -/
structure Passed (x pon : Nat) (o : Bool) (s u : State) : Prop where
  orphan : (u.ent x pon).orphan = o
  free : s.waitersOf x pon = [] → (u.ent x pon).held = false ∧ (u.ent x pon).holder = 0
  head : ∀ w ws, s.waitersOf x pon = w :: ws → (u.ent x pon).held = true ∧ (u.ent x pon).holder = s.identOf w.rq.who ∧
    (u.ent x pon).grants = (s.ent x pon).grants + 1 ∧ ∀ w' ∈ (u.mem x).waiters, w'.row ≠ w.row

theorem Passed.of_stns {x pon : Nat} {o : Bool} {s u v : State} (h : Passed x pon o s u) (hs : v.stns = u.stns) : Passed x pon o s v := by
  obtain ⟨horphan, hfree, hhead⟩ := h
  constructor
  · rw [State.ent_congr hs, horphan]
  · rw [State.ent_congr hs]
    exact hfree
  · rw [State.ent_congr hs, State.mem_congr _ _ hs]
    exact hhead

theorem identOf_congr {s u : State} (h : u.su = s.su) (w : Orig) : u.identOf w = s.identOf w := by
  unfold State.identOf
  rw [h]

theorem Unheld.passes {x pon : Nat} {o : Bool} {s u : State} (h : Unheld x pon o s u) (g f : Bool) (prev : BitVec 24) :
    StationWork x [pon] s (u.grantHead x pon g f prev).1 ∧ Passed x pon o s (u.grantHead x pon g f prev).1 := by
  obtain ⟨hwork, hwaiters, hheld, hholder, hgrants, horphan⟩ := h
  have hqueue : u.waitersOf x pon = s.waitersOf x pon := by rw [State.waitersOf, hwaiters, State.waitersOf]
  cases hw : s.waitersOf x pon with
  | nil =>
    rw [grantHead_nil (hqueue.trans hw)]
    exact ⟨hwork, horphan, fun _ => ⟨hheld, hholder⟩, fun w ws hc => by simp [hw] at hc⟩
  | cons w ws =>
    obtain ⟨kwork, kheld, kholder, kgrants, korphan, kgone⟩ := grantHead_cons (hqueue.trans hw) g f prev
    refine ⟨hwork.trans (kwork.mono (List.nil_subset _)), korphan.trans horphan, fun hc => by simp [hw] at hc, fun w' ws' hc => ?_⟩
    obtain ⟨rfl, rfl⟩ := List.cons.inj (hw.symm.trans hc)
    exact ⟨kheld, kholder.trans (identOf_congr hwork.su _), by rw [kgrants, hgrants], kgone⟩

end Sys2Proof.Machine

/-! Proofs for 05: the lock operations at their lock (R150 to R153). -/

namespace Sys2Proof.Machine

/-! ### LOCK_ACQ (R150) -/

/-- The priority that a lock operation asks for (R145). -/
def HReq.prio (rq : HReq) : BitVec 2 := rq.req.operand.extractLsb' 0 2

theorem ofNat_prio (rq : HReq) : BitVec.ofNat 2 rq.req.operand.toNat = rq.prio := by simp [HReq.prio, BitVec.setWidth_eq_extractLsb']

/-- The entry of a free lock that `ident` has got, with its pavilion and priority. -/
def SemEnt.acquired (e : SemEnt) (ident : BitVec 24) (p : BitVec 6) (prio : BitVec 2) : SemEnt :=
  { e with held := true, holder := ident, hpav := p, hprio := prio, grants := e.grants + 1, orphan := false }
/-- The status of the grant of a free lock (R155). -/
def SemEnt.grantStatus (e : SemEnt) : Status := if e.orphan then .orphan else .done

/-- The free lock is the originator's. -/
def State.acquired (s : State) (x pon : Nat) (rq : HReq) : State :=
  (s.setEnt x pon ((s.ent x pon).acquired (s.identOf rq.who) rq.req.pav rq.prio)).setSrc x pon (lastSrcOf rq.who)

section
variable (x pon : Nat) (s : State) (rq : HReq)

theorem acquired_stationWork : StationWork x [pon] s (s.acquired x pon rq) :=
  (setEnt_stationWork _ _ _ _ _).trans (setSrc_stationWork _ _ _ _ _ List.mem_cons_self)
theorem acquired_ent : (s.acquired x pon rq).ent x pon = (s.ent x pon).acquired (s.identOf rq.who) rq.req.pav rq.prio :=
  (setSrc_ent _ _ _ _).trans (State.ent_setEnt _ _ _ _)
theorem acquired_waiters : ((s.acquired x pon rq).mem x).waiters = (s.mem x).waiters := (setSrc_waiters _ _ _ _).trans (setEnt_waitersAs _ _ _ _).2
end

/-- The place of a waiter of priority `prio`: before the first of a lower one. -/
def lockPlace (pon : Nat) (prio : BitVec 2) (ws : List Waiter) : Nat :=
  (ws.findIdx? (fun w => w.pon = pon && decide (w.rq.req.operand.toNat % 4 < prio.toNat))).getD ws.length

section
variable {x pon : Nat} {s : State} {rq : HReq}

theorem opLockAcq_free (h : (s.ent x pon).held = false) : ∃ p, s.opLockAcq x pon rq = ((s.acquired x pon rq).answer x rq (s.ent x pon).grantStatus
    (grantWord (s.ent x pon).grantStatus true (s.ent x pon).orphan false none rq.prio ((s.ent x pon).grants + 1))).withPorts p := by
  refine lockAccess_eq ?_ x pon
  dsimp only
  rw [h, if_pos (by decide), ofNat_prio]
  rfl
theorem opLockAcq_own (h : (s.ent x pon).held = true) (hown : (s.ent x pon).holder = s.identOf rq.who) : ∃ p, s.opLockAcq x pon rq =
    (s.answer x rq .denied (grantWord .denied false false false none rq.prio (s.ent x pon).grants)).withPorts p := by
  refine lockAccess_eq ?_ x pon
  dsimp only
  rw [h, if_neg (by decide), if_pos hown, ofNat_prio]
theorem opLockAcq_queues (h : (s.ent x pon).held = true) (hother : (s.ent x pon).holder ≠ s.identOf rq.who)
    (hrow : (s.admitRow x rq.req.pav).isSome = true) :
    ∃ u row i, Queued x pon s u ⟨row, pon, 0, rq⟩ i ∧ ∃ p, s.opLockAcq x pon rq = (u.reboost x pon).withPorts p := by
  obtain ⟨u, row, hq, hqueued⟩ := queueWaiter_queued hrow pon (lockPlace pon rq.prio)
  refine ⟨_, row, _, hqueued.setSrc (lastSrcOf rq.who), lockAccess_eq ?_ x pon⟩
  unfold lockPlace at hq
  dsimp only
  rw [h, if_neg (by decide), if_neg hother, ofNat_prio, hq]

/-! ### LOCK_TRY (R152) -/

theorem opLockTry_free (h : (s.ent x pon).held = false) : s.opLockTry x pon rq = s.opLockAcq x pon rq := by
  unfold State.opLockTry
  dsimp only
  rw [h]
  exact if_pos rfl
theorem opLockTry_held (h : (s.ent x pon).held = true) : ∃ v, s.opLockTry x pon rq =
    s.answer x rq (if (s.ent x pon).holder = s.identOf rq.who then .denied else .retry) v := by
  unfold State.opLockTry
  dsimp only
  rw [h]
  exact ⟨_, if_neg (by decide)⟩

/-! ### LOCK_REL and LOCK_FORCE (R152, R153): answered with the grant word of the head waiter, or of a lock that stays free -/

theorem opLockRel_holder (h : (s.ent x pon).held = true) (hown : (s.ent x pon).holder = s.identOf rq.who) :
    ∃ u v, StationWork x [pon] s u ∧ Passed x pon (s.ent x pon).orphan s u ∧ ∃ p, s.opLockRel x pon rq = (u.answer x rq .done v).withPorts p := by
  obtain ⟨hwork, hpassed⟩ := (released_unheld x pon s (lastSrcOf rq.who)).passes false false (s.ent x pon).holder
  generalize hg : ((s.unhold x pon).setSrc x pon (lastSrcOf rq.who)).grantHead x pon false false (s.ent x pon).holder = g at hwork hpassed
  refine ⟨g.1, g.2.getD (grantWord .done false false false (some (s.ent x pon).holder) 0 (s.ent x pon).grants), hwork, hpassed, lockAccess_eq ?_ x pon⟩
  dsimp only
  rw [if_pos ⟨h, hown⟩, hg]
  obtain ⟨t, gw⟩ := g
  cases gw with
  | none => rfl
  | some gw => rfl
theorem opLockRel_other (h : (s.ent x pon).held = false ∨ (s.ent x pon).holder ≠ s.identOf rq.who) :
    ∃ v p, s.opLockRel x pon rq = (s.answer x rq .denied v).withPorts p := by
  have hno : ¬((s.ent x pon).held = true ∧ (s.ent x pon).holder = s.identOf rq.who) := by
    rintro ⟨hheld, hown⟩
    rcases h with hfree | hother
    · simp [hheld] at hfree
    · exact hother hown
  refine ⟨grantWord .denied false false false none 0 (s.ent x pon).grants, lockAccess_eq ?_ x pon⟩
  dsimp only
  rw [if_neg hno]
theorem opLockForce_held (h : (s.ent x pon).held = true) :
    ∃ u v, StationWork x [pon] s u ∧ Passed x pon false s u ∧ ∃ p, s.opLockForce x pon rq = (u.answer x rq .done v).withPorts p := by
  obtain ⟨hwork, hpassed⟩ := (forced_unheld x pon s (lastSrcOf rq.who)).passes false true (s.ent x pon).holder
  generalize hg : State.grantHead _ x pon false true (s.ent x pon).holder = g at hwork hpassed
  refine ⟨g.1, g.2.getD (grantWord .done false false true (some (s.ent x pon).holder) 0 (s.ent x pon).grants), hwork, hpassed, lockAccess_eq ?_ x pon⟩
  dsimp only
  rw [if_pos h, hg]
  obtain ⟨t, gw⟩ := g
  cases gw with
  | none => rfl
  | some gw => rfl
end

end Sys2Proof.Machine

/-! Proofs for 05: the lock commands, each at its lock (R150 to R153). -/

namespace Sys2Proof.Machine

section
variable {s : State} {r : CoreReq} {x : BitVec 2} {pon : Nat}

theorem present_lockAcq (hm : s.meets 0x0C r x pon = true) :
    ∃ v seq, AtHome s v 0x0C r ∧ s.present 0x0C r = v.opLockAcq x.toNat pon (sentOn 0x0C r seq (s.addrOf x.toNat pon)) :=
  present_op (fun v rq => v.opLockAcq x.toNat pon rq) hm (by decide) (fun _ _ => rfl)
theorem present_lockRel (hm : s.meets 0x0D r x pon = true) :
    ∃ v seq, AtHome s v 0x0D r ∧ s.present 0x0D r = v.opLockRel x.toNat pon (sentOn 0x0D r seq (s.addrOf x.toNat pon)) :=
  present_op (fun v rq => v.opLockRel x.toNat pon rq) hm (by decide) (fun _ _ => rfl)
theorem present_lockTry (hm : s.meets 0x0E r x pon = true) :
    ∃ v seq, AtHome s v 0x0E r ∧ s.present 0x0E r = v.opLockTry x.toNat pon (sentOn 0x0E r seq (s.addrOf x.toNat pon)) :=
  present_op (fun v rq => v.opLockTry x.toNat pon rq) hm (by decide) (fun _ _ => rfl)
theorem present_lockForce (hm : s.meets 0x0F r x pon = true) :
    ∃ v seq, AtHome s v 0x0F r ∧ s.present 0x0F r = v.opLockForce x.toNat pon (sentOn 0x0F r seq (s.addrOf x.toNat pon)) :=
  present_op (fun v rq => v.opLockForce x.toNat pon rq) hm (by decide) (fun _ _ => rfl)
end

theorem exec_lockAcq (r : CoreReq) (s : State) : exec (.lockAcq r) s = .next (s.keep (s.quiet.present 0x0C r)) := rfl
theorem exec_lockRel (r : CoreReq) (s : State) : exec (.lockRel r) s = .next (s.keep (s.quiet.present 0x0D r)) := rfl
theorem exec_lockTry (r : CoreReq) (s : State) : exec (.lockTry r) s = .next (s.keep (s.quiet.present 0x0E r)) := rfl
theorem exec_lockForce (r : CoreReq) (s : State) : exec (.lockForce r) s = .next (s.keep (s.quiet.present 0x0F r)) := rfl

/-- The write of a lock's memory word is beside what is shown. -/
theorem EntryShown.withPorts {s t : State} {op : BitVec 6} {r : CoreReq} {x : BitVec 2} {pon : Nat} {ps : List Nat} {e : SemEnt}
    (h : EntryShown s t op r x pon ps e) (p : Tbl Port) : EntryShown s (t.withPorts p) op r x pon ps e :=
  ⟨h.carried.extend (withPorts_stationWork _ _ _ _), h.ent, h.waiters⟩
theorem Answered.withPorts {s t : State} {op : BitVec 6} {r : CoreReq} {x : BitVec 2} {st : Status} {val : Word64} (h : Answered s t op r x st val)
    (p : Tbl Port) : Answered s (t.withPorts p) op r x st val := h

/-! ### A free lock (R150, R155) -/

/-- The originator of `r` has got the free lock, and its grant word. -/
structure LockGot (s t : State) (op : BitVec 6) (r : CoreReq) (x : BitVec 2) (pon : Nat) : Prop where
  shown : EntryShown s t op r x pon [pon] ((s.ent x.toNat pon).acquired (s.identOf (rWho r)) r.pav (r.operand.extractLsb' 0 2))
  answered : Answered s t op r x (s.ent x.toNat pon).grantStatus (grantWord (s.ent x.toNat pon).grantStatus true (s.ent x.toNat pon).orphan false none
    (r.operand.extractLsb' 0 2) ((s.ent x.toNat pon).grants + 1))

theorem LockGot.keep {s t : State} {op : BitVec 6} {r : CoreReq} {x : BitVec 2} {pon : Nat} (h : LockGot s.quiet t op r x pon) :
    LockGot s (s.keep t) op r x pon := ⟨h.shown.keep, h.answered.keep⟩

section
variable {s v : State} {op : BitVec 6} {r : CoreReq} {x : BitVec 2} {pon : Nat} (hfree : (s.ent x.toNat pon).held = false)
include hfree

theorem AtHome.lockGot (h : AtHome s v op r) (seq : BitVec 8) (a : GAddr) : LockGot s (v.opLockAcq x.toNat pon (sentOn op r seq a)) op r x pon := by
  obtain ⟨p, hp⟩ := opLockAcq_free (x := x.toNat) (pon := pon) (s := v) (rq := sentOn op r seq a) (by rw [h.ent]; exact hfree)
  rw [hp, h.ent]
  have hwork := acquired_stationWork x.toNat pon v (sentOn op r seq a)
  have hent : (v.acquired x.toNat pon (sentOn op r seq a)).ent x.toNat pon = (s.ent x.toNat pon).acquired (s.identOf (rWho r)) r.pav (r.operand.extractLsb' 0 2) := by
    rw [acquired_ent, h.ent, h.identOf]
    rfl
  exact ⟨(h.entryShown hwork hent (acquired_waiters _ _ _ _) _ _ _).withPorts p, (h.answered hwork.net _ _ _ _).withPorts p⟩

theorem lockAcq_free (hm : s.meets 0x0C r x pon = true) : LockGot s (s.present 0x0C r) 0x0C r x pon := by
  obtain ⟨v, seq, hat, hp⟩ := present_lockAcq hm
  rw [hp]
  exact hat.lockGot hfree seq _
theorem lockTry_free (hm : s.meets 0x0E r x pon = true) : LockGot s (s.present 0x0E r) 0x0E r x pon := by
  obtain ⟨v, seq, hat, hp⟩ := present_lockTry hm
  rw [hp, opLockTry_free (by rw [hat.ent]; exact hfree)]
  exact hat.lockGot hfree seq _
end

/-! ### A held lock (R150, R152) -/

section
variable {s : State} {r : CoreReq} {x : BitVec 2} {pon : Nat} (hheld : (s.ent x.toNat pon).held = true)
include hheld

/-- LOCK_ACQ of a lock that another holds joins its queue. -/
theorem lockAcq_queues (hm : s.meets 0x0C r x pon = true) (hother : (s.ent x.toNat pon).holder ≠ s.identOf (rWho r))
    (hrow : (s.admitRow x.toNat r.pav).isSome = true) :
    Carried s (s.present 0x0C r) 0x0C r x [pon] ∧ ((s.present 0x0C r).ent x.toNat pon).held = true ∧
      ((s.present 0x0C r).ent x.toNat pon).holder = (s.ent x.toNat pon).holder ∧
      ∃ w, ((s.present 0x0C r).waitersOf x.toNat pon).Perm (w :: s.waitersOf x.toNat pon) ∧ w.rq.who = rWho r ∧ w.rq.req.op = 0x0C ∧ w.age = 0 := by
  obtain ⟨v, seq, hat, hp⟩ := present_lockAcq hm
  obtain ⟨u, row, i, hqueued, p, ho⟩ := opLockAcq_queues (x := x.toNat) (pon := pon) (s := v) (rq := sentOn 0x0C r seq (s.addrOf x.toNat pon))
    (by rw [hat.ent]; exact hheld) (by rw [hat.ent, hat.identOf]; exact hother) (by rw [hat.admitRow]; exact hrow)
  rw [hp, ho]
  obtain ⟨hwork, hwaiters, b, d, hent⟩ := reboost_inherits x.toNat pon u
  rw [hqueued.ent, hat.ent] at hent
  refine ⟨(hat.carried (hqueued.work.trans (hwork.mono (List.nil_subset _)))).extend (withPorts_stationWork _ _ _ _), ?_, ?_,
    ⟨row, pon, 0, sentOn 0x0C r seq (s.addrOf x.toNat pon)⟩, ?_, rfl, rfl, rfl⟩
  · rw [withPorts_ent, hent, hheld]
  · rw [withPorts_ent, hent]
  · rw [State.waitersOf, withPorts_mem, hwaiters, ← hat.waitersOf]
    exact hqueued.perm rfl

/-- LOCK_ACQ of a lock that the originator holds. -/
theorem lockAcq_own (hm : s.meets 0x0C r x pon = true) (hown : (s.ent x.toNat pon).holder = s.identOf (rWho r)) :
    EntryShown s (s.present 0x0C r) 0x0C r x pon [] (s.ent x.toNat pon) ∧ Answered s (s.present 0x0C r) 0x0C r x .denied
      (grantWord .denied false false false none (r.operand.extractLsb' 0 2) (s.ent x.toNat pon).grants) := by
  obtain ⟨v, seq, hat, hp⟩ := present_lockAcq hm
  obtain ⟨p, ho⟩ := opLockAcq_own (x := x.toNat) (pon := pon) (s := v) (rq := sentOn 0x0C r seq (s.addrOf x.toNat pon)) (by rw [hat.ent]; exact hheld)
    (by rw [hat.ent, hat.identOf]; exact hown)
  obtain ⟨hshown, hans⟩ := hat.refusedShown (x := x) pon seq (s.addrOf x.toNat pon) .denied
    (grantWord .denied false false false none (r.operand.extractLsb' 0 2) (s.ent x.toNat pon).grants)
  rw [hp, ho, hat.ent]
  exact ⟨hshown.withPorts p, hans.withPorts p⟩

/-- LOCK_TRY of a held lock never waits. -/
theorem lockTry_held (hm : s.meets 0x0E r x pon = true) : EntryShown s (s.present 0x0E r) 0x0E r x pon [] (s.ent x.toNat pon) ∧
    ∃ val, Answered s (s.present 0x0E r) 0x0E r x (if (s.ent x.toNat pon).holder = s.identOf (rWho r) then .denied else .retry) val := by
  obtain ⟨v, seq, hat, hp⟩ := present_lockTry hm
  obtain ⟨val, ho⟩ := opLockTry_held (x := x.toNat) (pon := pon) (s := v) (rq := sentOn 0x0E r seq (s.addrOf x.toNat pon)) (by rw [hat.ent]; exact hheld)
  rw [hat.ent, hat.identOf] at ho
  obtain ⟨hshown, hans⟩ := hat.refusedShown (x := x) pon seq (s.addrOf x.toNat pon)
    (if (s.ent x.toNat pon).holder = s.identOf (rWho r) then .denied else .retry) val
  rw [hp, ho]
  exact ⟨hshown, val, hans⟩
end

/-! ### A lock passed on (R152, R153) -/

/-- The command of `r` has taken the lock from its holder, and passed it on. -/
structure LockPassed (s t : State) (op : BitVec 6) (r : CoreReq) (x : BitVec 2) (pon : Nat) (o : Bool) (val : Word64) : Prop where
  carried : Carried s t op r x [pon]
  answered : Answered s t op r x .done val
  passed : Passed x.toNat pon o s t

theorem LockPassed.keep {s t : State} {op : BitVec 6} {r : CoreReq} {x : BitVec 2} {pon : Nat} {o : Bool} {val : Word64}
    (h : LockPassed s.quiet t op r x pon o val) : LockPassed s (s.keep t) op r x pon o val := by
  obtain ⟨horphan, hfree, hhead⟩ := h.passed.of_stns (State.keep_stns s t)
  exact ⟨h.carried.keep, h.answered.keep, horphan, hfree, hhead⟩

/-- What a home has passed on stands in its answer. -/
theorem AtHome.lockPassed {s v u : State} {op : BitVec 6} {r : CoreReq} {x : BitVec 2} {pon : Nat} {o : Bool} (h : AtHome s v op r)
    (hw : StationWork x.toNat [pon] v u) (hu : Passed x.toNat pon o v u) (seq : BitVec 8) (a : GAddr) (val : Word64) (p : Tbl Port) :
    LockPassed s ((u.answer x.toNat (sentOn op r seq a) .done val).withPorts p) op r x pon o val := by
  have hanswer := StationWork.answer x.toNat [pon] u x.toNat (sentOn op r seq a) .done val
  obtain ⟨horphan, hfree, hhead⟩ := hu.of_stns (show ((u.answer x.toNat (sentOn op r seq a) .done val).withPorts p).stns = u.stns from
    State.answer_stns u x.toNat (sentOn op r seq a) .done val)
  rw [h.waitersOf] at hfree hhead
  simp only [h.identOf, h.ent] at hhead
  exact ⟨h.carried ((hw.trans hanswer).trans (withPorts_stationWork _ _ _ _)), (h.answered hw.net _ _ _ _).withPorts p, horphan, hfree, hhead⟩

section
variable {s : State} {r : CoreReq} {x : BitVec 2} {pon : Nat}

theorem lockRel_passes (hm : s.meets 0x0D r x pon = true) (hheld : (s.ent x.toNat pon).held = true)
    (hown : (s.ent x.toNat pon).holder = s.identOf (rWho r)) :
    ∃ val, LockPassed s (s.present 0x0D r) 0x0D r x pon (s.ent x.toNat pon).orphan val := by
  obtain ⟨v, seq, hat, hp⟩ := present_lockRel hm
  obtain ⟨u, val, hwork, hpassed, p, ho⟩ := opLockRel_holder (x := x.toNat) (pon := pon) (s := v) (rq := sentOn 0x0D r seq (s.addrOf x.toNat pon))
    (by rw [hat.ent]; exact hheld) (by rw [hat.ent, hat.identOf]; exact hown)
  rw [hat.ent] at hpassed
  rw [hp, ho]
  exact ⟨val, hat.lockPassed hwork hpassed seq _ _ _⟩
/-- LOCK_REL from another than the holder. -/
theorem lockRel_denied (hm : s.meets 0x0D r x pon = true) (hother : (s.ent x.toNat pon).held = false ∨ (s.ent x.toNat pon).holder ≠ s.identOf (rWho r)) :
    EntryShown s (s.present 0x0D r) 0x0D r x pon [] (s.ent x.toNat pon) ∧ ∃ val, Answered s (s.present 0x0D r) 0x0D r x .denied val := by
  obtain ⟨v, seq, hat, hp⟩ := present_lockRel hm
  obtain ⟨val, p, ho⟩ := opLockRel_other (x := x.toNat) (pon := pon) (s := v) (rq := sentOn 0x0D r seq (s.addrOf x.toNat pon))
    (by rw [hat.ent, hat.identOf]; exact hother)
  obtain ⟨hshown, hans⟩ := hat.refusedShown (x := x) pon seq (s.addrOf x.toNat pon) .denied val
  rw [hp, ho]
  exact ⟨hshown.withPorts p, val, hans.withPorts p⟩
theorem lockForce_passes (hm : s.meets 0x0F r x pon = true) (hheld : (s.ent x.toNat pon).held = true) :
    ∃ val, LockPassed s (s.present 0x0F r) 0x0F r x pon false val := by
  obtain ⟨v, seq, hat, hp⟩ := present_lockForce hm
  obtain ⟨u, val, hwork, hpassed, p, ho⟩ := opLockForce_held (x := x.toNat) (pon := pon) (s := v) (rq := sentOn 0x0F r seq (s.addrOf x.toNat pon))
    (by rw [hat.ent]; exact hheld)
  rw [hp, ho]
  exact ⟨val, hat.lockPassed hwork hpassed seq _ _ _⟩
end

/-- Settles O24: a free lock got by LOCK_ACQ and by LOCK_TRY; a held one queued for, denied and tried; a release by its holder and by another,
and a force. -/
theorem locksAreHeldQueuedAndReleased : Obligations.LocksAreHeldQueuedAndReleased := by
  refine ⟨fun r x pon s hm hfree => ?_, fun r x pon s hm hfree => ?_, fun r x pon s hm hheld hother hrow => ?_, fun r x pon s hm hheld hown => ?_,
    fun r x pon s hm hheld => ?_, fun r x pon s hm hheld hown => ?_, fun r x pon s hm hother => ?_, fun r x pon s hm hheld => ?_⟩
  · obtain ⟨⟨⟨hacc, hslots⟩, hent, -⟩, hans⟩ := (lockAcq_free (s := s.quiet) hfree hm).keep
    exact ⟨_, exec_lockAcq r s, hacc, hslots, hent, hans⟩
  · obtain ⟨⟨⟨hacc, hslots⟩, hent, -⟩, hans⟩ := (lockTry_free (s := s.quiet) hfree hm).keep
    exact ⟨_, exec_lockTry r s, hacc, hslots, hent, hans⟩
  · obtain ⟨hcarried, hheld', hholder, w, hperm, hfields⟩ := lockAcq_queues (s := s.quiet) hheld hm hother hrow
    obtain ⟨hacc, hslots⟩ := hcarried.keep
    rw [← keep_ent s] at hheld' hholder
    rw [← keep_waitersOf s] at hperm
    exact ⟨_, exec_lockAcq r s, hacc, hslots, hheld', hholder, hperm.length_eq, w, hperm.mem_iff.mpr List.mem_cons_self, hfields⟩
  · obtain ⟨hshown, hans⟩ := lockAcq_own (s := s.quiet) hheld hm hown
    obtain ⟨⟨hacc, hslots⟩, hent, -⟩ := hshown.keep
    exact ⟨_, exec_lockAcq r s, hacc, hslots, hent, hans.keep⟩
  · obtain ⟨hshown, val, hans⟩ := lockTry_held (s := s.quiet) hheld hm
    obtain ⟨⟨hacc, hslots⟩, hent, hwaiters⟩ := hshown.keep
    exact ⟨_, exec_lockTry r s, hacc, hslots, hent, by rw [State.waitersOf, hwaiters, State.waitersOf], val, hans.keep⟩
  · obtain ⟨val, hpassed⟩ := lockRel_passes (s := s.quiet) hm hheld hown
    obtain ⟨⟨hacc, hslots⟩, hans, -, hfree, hhead⟩ := hpassed.keep
    exact ⟨_, val, exec_lockRel r s, hacc, hslots, hans, hfree, hhead⟩
  · obtain ⟨hshown, val, hans⟩ := lockRel_denied (s := s.quiet) hm hother
    obtain ⟨⟨hacc, hslots⟩, hent, -⟩ := hshown.keep
    exact ⟨_, val, exec_lockRel r s, hacc, hslots, hent, hans.keep⟩
  · obtain ⟨val, hpassed⟩ := lockForce_passes (s := s.quiet) hm hheld
    obtain ⟨⟨hacc, hslots⟩, hans, horphan, hfree, hhead⟩ := hpassed.keep
    refine ⟨_, val, exec_lockForce r s, hacc, hslots, hans, horphan, hfree, fun w ws hw => ?_⟩
    obtain ⟨hheld', hholder, -⟩ := hhead w ws hw
    exact ⟨hheld', hholder⟩

end Sys2Proof.Machine
